-- ==== Sys2Proof/Syntax.lean ====
section
/-! DEFINITION. The commands the block takes: one constructor per row of spec/opcode_table.json, with the operands
its sender gives it. A quantity that only the outside world knows (whether a link trains, a cell's error, the cycle a
completion falls in) is an operand of the command it belongs to. -/

namespace Sys2Proof

/-- What a bring-up routine found by its end (17_bringup_and_reset.md R500 to R503). Units are numbered as the routine
numbers them: bridges and ports from 0, memory units with stack s as s and channel b as 12 + b. -/
structure Bringup where
  /-- Units that failed, and units whose saved settings failed. -/
  failed : List Nat := []
  fellBack : List Nat := []
  /-- FUSE_LOAD: the fuses pass their check; the units they fence or spare, as unit words. -/
  fuseOk : Bool := true
  fuses : List Nat := []
  /-- BRIDGE_TRAIN: bridges that cannot meet 6 CCLK cycles at a setting. -/
  missed : List (Nat × Nat) := []
  /-- HBM_TRAIN: stacks with no spare TSV lane left. -/
  degraded : List Nat := []
  /-- BULK_TRAIN: supported modules found: channel, GiB, MT/s, serial number. -/
  modules : List (Nat × Nat × Nat × Nat) := []
  /-- MEM_TEST: failing DRAM rows by unit; units whose rows cannot be covered. -/
  rows : List (Nat × Nat) := []
  spent : List Nat := []
  /-- A flash operation failed. -/
  flashFail : Bool := false
  /-- AVSBus writes in order: failed tries, last Status, voltage read back. -/
  avs : List (Nat × Nat × Nat) := []
deriving DecidableEq, Repr

/-- The commands of the block, one constructor per row of spec/opcode_table.json. -/
inductive Instr where
  /-- A write to a register field that has no step of its own takes effect under its access code, or stays pending until a boundary for RWS and RWL fields. (R10) -/
  | regWrite (offset bytes value fails status readMv : Nat)
  /-- A fall of PWROK or RESET_IN_N begins a power-on reset at once, in any chip state. (R553) -/
  | powerOnReset
  /-- Power-on reset ends; the device senses its fuses, the ROM boots the firmware and the chip enters BRINGUP. (R494) -/
  | powerOnResetEnd (testMode : Bool)
  /-- The release of PERST_N starts training of the host link in FLIT mode. (R391) -/
  | perstDeassert
  /-- The bring-up routine loads the remap, engine-fence, spare-lane and repair fuses. (R500) -/
  | fuseLoad
  /-- The bring-up routine trains and deskews the six bridges at every CCLK setting and locks CCLK at 1.0 GHz. (R500) -/
  | bridgeTrain (fast : Bool)
  /-- The bring-up routine repairs and trains the listed HBM stacks. (R500) -/
  | hbmTrain (stackMask : Nat) (fast : Bool)
  /-- The bring-up routine checks and trains the modules of the listed bulk channels. (R500) -/
  | bulkTrain (channels : Nat) (fast : Bool)
  /-- The bring-up routine checks the laser input of each listed port, locks its rings and enables it. (R500) -/
  | opticsUp (ports : Nat) (fast : Bool)
  /-- The bring-up routine tests every byte of the listed stacks and channels, queues repairs and records PASS, REPAIR or FAIL. (R503) -/
  | memTest (stackMask channels : Nat) (fast : Bool)
  /-- The bring-up routine waits until the chip has coordinates and synchronised time. (R502) -/
  | discover (arg : Nat)
  /-- The routine writes a new saved settings record to flash. (R505) -/
  | saveSettings
  /-- The routine writes a saved settings record that has no entries. (R505) -/
  | clearSettings
  /-- The routine checks the READY conditions and, if they hold, takes the chip and its partitions to READY. (R507) -/
  | ready
  /-- A running bring-up routine ends; its DONE bit, ERROR and FALLBACK are set. (R497) -/
  | routineEnd (found : Bringup)
  /-- DISCOVER ends with ERROR 0x05 once ARG seconds have passed without coordinates and synchronised time. (R502) -/
  | discoverTimeout
  /-- A relay GO with WRITE = 0 reads the register at OFFSET into MGT_RELAY_DATA, with the management controller as requester. (R496) -/
  | relayRead (wide : Bool)
  /-- A relay GO with WRITE = 1 writes MGT_RELAY_DATA to the register at OFFSET, with the management controller as requester. (R496) -/
  | relayWrite (wide : Bool) (fails status readMv : Nat)
  /-- The relayed register access completes, and DONE and ERROR are set. (R496) -/
  | relayAccessDone
  /-- A level-1 request resets one logical core, clearing its state and absorbing its traffic. (R510) -/
  | coreReset (core : Nat)
  /-- A level-2 request resets one logical cluster, clearing its state and absorbing its traffic. (R510) -/
  | clusterReset (cluster : Nat)
  /-- A level-3 request performs a failing boundary if needed, clears the partition's run state and leaves it READY. (R512) -/
  | partitionReset (part : Nat)
  /-- A level-4 request fails every partition, drains traffic, puts memory into self-refresh, turns the ports off and reboots the management controller into BRINGUP. (R513) -/
  | warmChipReset (confirm : Nat) (mgmt : Bool)
  /-- A level-5 request resets the chip as a power-on reset does. (R510) -/
  | coldChipReset (confirm : Nat) (mgmt : Bool)
  /-- A requested reset completes, and CRC_RESET_STATUS records its outcome. (R510) -/
  | resetDone
  /-- A write to CRC_CCLK_SELECT.FREQ is accepted or ignored; an accepted write starts a relock with its AVS step. (R39) -/
  | cclkFreqWrite (freq fails status readMv : Nat)
  /-- All four dies relock at the new CCLK setting; LOCKED is set and PENDING is cleared. (R39) -/
  | cclkRelockDone (fails status readMv : Nat)
  /-- A droop detector trips, and all four dies stretch CCLK from three cycles later. (R490) -/
  | droopTrip (die : Nat)
  /-- Every detector has reported clear for HOLD stretched cycles, and all dies end the stretch. (R490) -/
  | droopStretchEnd (cycles : Nat)
  /-- A write of START in READY with a valid configuration is accepted as the opening boundary; otherwise it is rejected. (R60) -/
  | start (part : Nat)
  /-- A write of RESUME continues a HELD or DETACHED partition with its next leg. (R66) -/
  | resume (part : Nat)
  /-- A write of STOP abandons the run of a HELD or DETACHED partition and returns it to READY. (R67) -/
  | stop (part : Nat)
  /-- A write of HOLD_NEXT requests a hold, with cause 0x08, at the next completion boundary. (R63) -/
  | holdNext (part : Nat)
  /-- W1S bits of SEQ_COURSE_ARM arm shadow slots to swap at the next completion or lap boundary, unless the slot holds no valid course. (R56) -/
  | courseArmWrite (part value : Nat)
  /-- A write to SEQ_COURSE_STORE in READY sets the store and invalidates all 64 slots; in other states it is ignored. (R102) -/
  | courseStoreWrite (part value : Nat)
  /-- A GO to the course loader checks LENGTH, then starts copying the course into the shadow slot. (R103) -/
  | courseLoadGo (part value : Nat)
  /-- The course load ends: the checks mark the slot valid or record the first error, and EV_COURSE_LOADED is raised. (R103) -/
  | courseLoadDone (part : Nat) (errs : List (Nat × Nat))
  /-- Staging of the next leg's course into the hubs completes, which is a completion awaited by the final pace point. (R101) -/
  | courseStagingDone (part : Nat)
  /-- A loader GO with MODE LOAD starts copying words into all four store copies, with digest and encoding checks. (R123) -/
  | strideLoadGo (part value : Nat)
  /-- The LOAD operation ends with its digest comparison and encoding result recorded. (R123) -/
  | strideLoadEnd (part : Nat) (errs : List (Nat × Nat))
  /-- A loader GO with MODE DIGEST starts hashing a range of the CD0 copy. (R124) -/
  | strideDigestGo (part value : Nat)
  /-- The DIGEST operation ends; on a match it sets the pending stride digest and guard. (R124) -/
  | strideDigestEnd (part : Nat)
  /-- A write through the stride store image goes to all four copies unless it is poisoned or guarded. (R36) -/
  | strideImageWrite (addr : Nat) (bytes : List Byte) (poison : Bool)
  /-- The sequencer issues a stride word: its slot actions and engine commands in the first cycle, then REPEAT held cycles, then its pace, loop and end-of-leg controls. (R113) -/
  | strideWordIssue (part err : Nat)
  /-- A HOLD cluster slot leaves every core of the cluster as it is. (R110) -/
  | hold (part cluster : Nat)
  /-- A DISPATCH cluster slot starts a cue with PARAM on every core of a group. (R111) -/
  | dispatch (part cluster cue group param cycle word : Nat)
  /-- A REST cluster slot idles a group of cores and opens a rest run of RUN_LEN cycles. (R112) -/
  | rest (part cluster group len cycle word : Nat)
  /-- The replicas compare stride-word checks 64 cycles after issue, and any mismatch is a class F error. (R37) -/
  | seqLockstep (part word : Nat) (mismatch : Bool)
  /-- The awaited completions of a pace point are all in; the next word issues at max(S, C + 4, E + 1). (R68) -/
  | pacePoint (part cycle cause : Nat)
  /-- Once END_LEG has issued and every token reads zero, the ledger controllers fold the leg's WORK entries into TOTAL entries. (R280) -/
  | ledgerFold (part : Nat) (errs : List (Nat × Nat))
  /-- After the final pace point, static lanes drain, substitutions, RWS fields and ARM_LEG swaps take effect, held completions are released and the next course loads. (R53) -/
  | completionBoundary (part : Nat) (errs : List (Nat × Nat))
  /-- Once no bulk sweep is unfinished, the lap-state block's LANES are rewritten and LANES_FINAL is set. (R435) -/
  | lapStateFinal (part : Nat)
  /-- The lap-scoped steps run in order: record close, seal, digest relay, RWL and ARM_LAP changes, placement moves, lap increment. (R54) -/
  | lapBoundary (part cycles : Nat) (errs : List (Nat × Nat))
  /-- After a class L error, the leg attempt is drained and discarded, substitutions apply, the course reloads and the leg restarts from its journal. (R77) -/
  | repeatBoundary (part cycles : Nat)
  /-- After a class P error, the partition stops issuing, drains and discards as at a repeat boundary, and becomes FAILED. (R467) -/
  | failingBoundary (part : Nat)
  /-- The exchange leg's deadline passes; the owner decides late convoys and absent chips mark themselves in relays. (R73) -/
  | pacedDeadline (part : Nat)
  /-- A strict wait, or a digest relay wait, exceeds STALL_LIMIT_MS; EV_PEER_STALL is raised and the wait goes on. (R486) -/
  | peerStallTimeout (part peer qp seq : Nat)
  /-- A core NOP entry issues on the C unit and does nothing. (R157) -/
  | nop (core cycle err : Nat)
  /-- A matrix issue multiplies A and B tiles and adds the exact sum, rounded once, into an accumulator tile. (R140) -/
  | mma (core cycle err : Nat)
  /-- A matrix issue with block scales adds the scaled products into an accumulator tile. (R143) -/
  | mmaS (core cycle err : Nat)
  /-- A tile is read out, optionally scaled, converted to FMT_D and written to the scratchpad. (R144) -/
  | mmaRd (core cycle err : Nat)
  /-- A tile is loaded from FP32 or INT32 scratchpad data and typed. (R144) -/
  | mmaLd (core cycle err : Nat)
  /-- 64 elements are loaded from the scratchpad into vector lanes, widened exactly. (R148) -/
  | vld (core cycle err : Nat)
  /-- 64 lanes are converted to FMT_D and stored to the scratchpad. (R148) -/
  | vst (core cycle err : Nat)
  /-- Vector FP32 addition with ties-to-even. (R145) -/
  | vadd (core cycle err : Nat)
  /-- Vector FP32 subtraction with ties-to-even. (R145) -/
  | vsub (core cycle err : Nat)
  /-- Vector FP32 multiplication with ties-to-even. (R145) -/
  | vmul (core cycle err : Nat)
  /-- Vector fused multiply-add with one rounding. (R145) -/
  | vfma (core cycle err : Nat)
  /-- Vector maximum, with NaN propagated and -0 below +0. (R145) -/
  | vmax (core cycle err : Nat)
  /-- Vector minimum, with NaN propagated and -0 below +0. (R145) -/
  | vmin (core cycle err : Nat)
  /-- Vector absolute value. (R157) -/
  | vabs (core cycle err : Nat)
  /-- Vector negation. (R157) -/
  | vneg (core cycle err : Nat)
  /-- Correctly rounded vector reciprocal. (R146) -/
  | vrcp (core cycle err : Nat)
  /-- Correctly rounded vector reciprocal square root. (R146) -/
  | vrsqrt (core cycle err : Nat)
  /-- Correctly rounded vector square root. (R146) -/
  | vsqrt (core cycle err : Nat)
  /-- Correctly rounded vector base-2 exponential. (R146) -/
  | vexp2 (core cycle err : Nat)
  /-- Correctly rounded vector base-2 logarithm. (R146) -/
  | vlog2 (core cycle err : Nat)
  /-- Correctly rounded vector hyperbolic tangent. (R146) -/
  | vtanh (core cycle err : Nat)
  /-- Correctly rounded vector division. (R146) -/
  | vdiv (core cycle err : Nat)
  /-- A vector comparison writes a mask register. (R150) -/
  | vcmp (core cycle err : Nat)
  /-- Vector select by a mask register. (R150) -/
  | vsel (core cycle err : Nat)
  /-- A vector INT32 operation chosen by IMM, wrapping. (R150) -/
  | vint (core cycle err : Nat)
  /-- Conversion within a register between INT32 and FP32. (R148) -/
  | vcvti (core cycle err : Nat)
  /-- Each lane is rounded as a VST to FMT_D would round it, and left in the lane as FP32. (R148) -/
  | vrnd (core cycle err : Nat)
  /-- The 64 lanes are reduced in six fixed levels into lane 0. (R147) -/
  | vreduce (core cycle err : Nat)
  /-- Vector lane permutation. (R150) -/
  | vperm (core cycle err : Nat)
  /-- Codebook indices are decoded to FP32 lanes. (R151) -/
  | vcbl (core cycle err : Nat)
  /-- Lanes are quantised with chosen group scales, and the elements and scale codes are written. (R202) -/
  | vqnt (core cycle err : Nat)
  /-- Encoded elements are dequantised with their scales into FP32 lanes. (R203) -/
  | vdqnt (core cycle err : Nat)
  /-- 64 FP32 lanes are added exactly into 64 EXA144 accumulators. (R195) -/
  | vxadd (core cycle err : Nat)
  /-- 64 EXA144 accumulators are read out to FP32 lanes. (R197) -/
  | vxrd (core cycle err : Nat)
  /-- Philox draws are written to the lanes. (R191) -/
  | vrng (core cycle err : Nat)
  /-- The inbox entries present are added into the destination in arrival order; marked V. (R157) -/
  | vaccDyn (core cycle err : Nat)
  /-- A row request is sent to the caravan engine slice, and its token counts it at issue plus 48 cycles. (R571) -/
  | gatherR (core cycle err : Nat)
  /-- A read of consecutive granules at a device address is requested. (R571) -/
  | gatherA (core cycle err : Nat)
  /-- A gradient row is sent toward its owner's ledger. (R571) -/
  | scatterG (core cycle err : Nat)
  /-- A write of consecutive granules at a device address is requested. (R571) -/
  | scatterA (core cycle err : Nat)
  /-- A vector register is sent to another core's dynamic inbox. (R152) -/
  | dsend (core cycle err : Nat)
  /-- 32 bytes are sent on a stream port and land in the destination receive queue after the fixed static latency. (R155) -/
  | send (core cycle err : Nat)
  /-- 32 bytes are taken from a receive queue and written to the scratchpad. (R156) -/
  | recv (core cycle err : Nat)
  /-- Fabric time is read into a vector register; marked V. (R157) -/
  | tstamp (core cycle err : Nat)
  /-- A core live counter is read into a vector register; marked V. (R169) -/
  | cntrd (core cycle err : Nat)
  /-- A gather, scatter or DSEND request completes, and its token is decremented no earlier than issue plus 48. (R152) -/
  | gRequestComplete (id cycle : Nat) (errs : List (Nat × Nat))
  /-- A rest run ends; the registers of its cores are zeroed and any backfill task still running is preempted. (R162) -/
  | restRunEnd (core : Nat)
  /-- A hub dispatches a queued backfill task into a rest run long enough for it. (R164) -/
  | backfillDispatch (cluster cycle : Nat)
  /-- A backfill task finishes, and a completion with its TAG is posted. (R167) -/
  | backfillTaskComplete (cluster ctx tag cycle : Nat)
  /-- A write to CLU_BF_TASK queues a backfill task, or is discarded when the queue is full or the write is invalid. (R168) -/
  | bfTaskWrite (cluster ctx value : Nat)
  /-- A GO to CLU_BF_LOAD_CTRL starts loading backfill bank entries. (R163) -/
  | bfLoadGo (cluster ctx value : Nat)
  /-- The backfill bank load ends with its ERROR. (R163) -/
  | bfLoadEnd (cluster ctx : Nat) (errs : List (Nat × Nat))
  /-- A MEM READ command copies blocks from an HBM stack to scratchpads. (R221) -/
  | memRead (part binding : Nat) (errs : List (Nat × Nat))
  /-- A MEM WRITE command copies blocks from scratchpads to an HBM stack. (R221) -/
  | memWrite (part binding : Nat) (errs : List (Nat × Nat))
  /-- A MEM FILL_ZERO command writes zero blocks to an HBM stack and clears their poison. (R221) -/
  | memFillZero (part binding : Nat) (errs : List (Nat × Nat))
  /-- A BULK READ command copies blocks from a bulk channel to scratchpads. (R221) -/
  | bulkRead (part binding : Nat) (errs : List (Nat × Nat))
  /-- A BULK WRITE command copies blocks from scratchpads to a bulk channel. (R221) -/
  | bulkWrite (part binding : Nat) (errs : List (Nat × Nat))
  /-- A BULK FILL_ZERO command writes zero blocks to a bulk channel. (R221) -/
  | bulkFillZero (part binding : Nat) (errs : List (Nat × Nat))
  /-- A MEM or BULK command completes, and its token is decremented. (R223) -/
  | memCmdComplete (part id : Nat)
  /-- The per-bank refresh interval expires and a bank is refreshed, delaying accesses only. (R219) -/
  | hbmRefresh (stack temp : Nat)
  /-- A bulk module is refreshed as it requires, delaying accesses only. (R224) -/
  | bulkRefresh (channel : Nat)
  /-- Patrol scrub reads the next granule, corrects or poisons it, and queues rows for repair. (R231) -/
  | patrolScrub (unit err row : Nat)
  /-- A write of APPLY in BRINGUP or READY makes the pending page-attribute BASE and ENABLE take effect at once. (R227) -/
  | pageAttrApply (value : Nat)
  /-- A STAGE doorbell presents a far staging slot; the device accepts it as READY or refuses it, and writes a far ring record. (R241) -/
  | stage (part die slot : Nat)
  /-- A RELEASE doorbell is queued for decision at the next lap boundary. (R243) -/
  | release (part die slot lap : Nat)
  /-- A waiting miss or doorbell result is written to the far ring once it has room. (R242) -/
  | farRecordPost (part : Nat)
  /-- The EMB CLOSE command closes every open caravan of its direction and sends the closing messages. (R260) -/
  | close (part binding : Nat) (errs : List (Nat × Nat))
  /-- The EMB REFRESH command checks replicas and sends REFRESH caravans and closings to the owners. (R269) -/
  | refresh (part binding : Nat) (errs : List (Nat × Nat))
  /-- Every convoy of the direction is acknowledged, served or applied, and the CLOSE or REFRESH completes. (R260) -/
  | closeComplete (part dir : Nat)
  /-- A slice resolves an arriving GATHER.R or SCATTER.G entry to a pad, replica, local home, staging slot, ledger or caravan. (R252) -/
  | rowRequestResolve (id : Nat) (errs : List (Nat × Nat))
  /-- A closed caravan is sent once the window and a read tag allow. (R258) -/
  | caravanSend (part slice owner dir tag : Nat)
  /-- An owner journals a REQUEST segment and serves its entries. (R264) -/
  | requestSegment (part qp : Nat) (seg : List Byte) (errs : List (Nat × Nat))
  /-- A requester writes returned granules to the requesting scratchpads, with their poison marks. (R263) -/
  | returnSegment (part qp : Nat) (seg : List Byte)
  /-- An owner journals a reverse caravan segment until its convoy is complete. (R265) -/
  | reverseSegment (part qp : Nat) (seg : List Byte)
  /-- A closing message lets the owner credit counts or apply the whole convoy once all its caravans are in, then acknowledge. (R264) -/
  | closeSegment (part qp : Nat) (seg : List Byte)
  /-- A sender records the acknowledgement of its convoy. (R260) -/
  | closeAckSegment (part qp : Nat) (seg : List Byte)
  /-- An owner reads and returns the data and hash of refreshed rows. (R269) -/
  | refreshSegment (part qp : Nat) (seg : List Byte) (errs : List (Nat × Nat))
  /-- A replica slot is written with the returned data, then HASH, REFRESH_LAP and STATE VALID. (R269) -/
  | refreshRetSegment (part qp : Nat) (seg : List Byte)
  /-- A caravan segment of a reserved kind is discarded and counted. (R261) -/
  | unknownSegment (part qp : Nat) (seg : List Byte)
  /-- A caravan, closing or reverse convoy unanswered within TIMEOUT_MS is sent again, and after RETRIES is a class P error. (R267) -/
  | caravanTimeout (part kind key fresh : Nat)
  /-- The AKC UPDATE command is queued, checked against its commit record, and its chunks or TOTAL entries are dealt. (R293) -/
  | update (part binding : Nat) (errs : List (Nat × Nat))
  /-- The AKC SWEEP command waits for earlier sweeps and captures bulk-resident TOTAL entries for the bulk sweep. (R297) -/
  | sweep (part binding : Nat) (errs : List (Nat × Nat))
  /-- The AKC DRAIN command waits until the stack has no unfinished sweep. (R299) -/
  | drain (part binding : Nat) (errs : List (Nat × Nat))
  /-- An engine finishes a chunk or ledger entry, writes it back and takes the next. (R275) -/
  | akcChunkDone (stack pool engine : Nat) (fail : Bool) (errs : List (Nat × Nat))
  /-- An AKC command completes, and its token is decremented. (R283) -/
  | akcCmdComplete (stack pool : Nat)
  /-- A swept bulk row is written back and SWEPT is set; look-ups waiting on it proceed. (R297) -/
  | sweepRowDone (stack pool engine : Nat) (fail : Bool) (errs : List (Nat × Nat))
  /-- W1S bits of AKCs_ENGINE_FENCE fence Akcel engines without a retry. (R302) -/
  | akcEngineFenceWrite (stack value : Nat)
  /-- An AKCs_HASH_CTRL GO in READY adds or subtracts the hashes of a unit's near digest rows. (R306) -/
  | hashGo (stack value : Nat)
  /-- The hash operation ends with its ERROR. (R306) -/
  | hashEnd (stack part : Nat) (errs : List (Nat × Nat))
  /-- A port sends the next frame: a sequenced frame, a replay, or a NULL frame. (R330) -/
  | frameTransmit (port : Nat)
  /-- A received frame passes FEC and CRC and is accepted, discarded as a duplicate, or discarded as a gap with a NAK. (R331) -/
  | frameReceive (port : Nat) (uncorr : Bool) (syms : List (Nat × Nat)) (spareOk : Bool) (frame : List Byte)
  /-- The oldest unacknowledged frame times out and is retransmitted. (R333) -/
  | ackTimeout (port : Nat)
  /-- At the end of a 65,536-frame window, a lane over LANE_THRESH is marked failing and SPARE_REQ is set. (R335) -/
  | laneWindowEnd (port : Nat)
  /-- A spare that has not verified within 1 ms sends the port to RETRAIN. (R336) -/
  | spareVerifyTimeout (port : Nat)
  /-- Laser input stays below the loss level for 10 µs; LASER_OK clears and both ports go DOWN. (R325) -/
  | laserLoss (engine : Nat)
  /-- Laser input has met its requirements for 100 ms, and the ports leave DOWN and train. (R325) -/
  | laserRestore (engine : Nat)
  /-- Setting ENABLE lets a port leave OFF and lock to the comb; clearing it sends the port to OFF. (R338) -/
  | portEnable (port : Nat) (on : Bool)
  /-- A RETRAIN write retrains a port and clears its conflict hold. (R338) -/
  | retrain (port : Nat)
  /-- A PARK write, or a peer's PARK request, makes an UP port send NULL frames until every frame is acknowledged. (R341) -/
  | park (port : Nat)
  /-- A WAKE write trains a parked port from its saved settings. (R338) -/
  | wake (port : Nat)
  /-- Every frame is acknowledged and the port enters PARKED. (R341) -/
  | portParked (port : Nat)
  /-- The wavelengths lock, and the port goes to TRAIN. (R338) -/
  | portLockDone (port locked : Nat)
  /-- Codeword and frame lock are reached on every lane, and the port sends LINK_INFO. (R338) -/
  | portTrainDone (port : Nat)
  /-- A training stage exceeds its limit; the attempt is counted and the port may go DOWN. (R338) -/
  | portStageTimeout (port : Nat)
  /-- DOWN_RETRY_S seconds pass and a DOWN port retries training. (R338) -/
  | portDownRetry (port : Nat)
  /-- A CREDIT flit grants flits to VC and class pairs. (R343) -/
  | credit (port : Nat) (flit : List Byte)
  /-- A LINK_INFO flit is checked for role; the port goes UP and resumes from RX_NEXT, or is DOWN as miswired. (R349) -/
  | linkInfo (port : Nat) (flit : List Byte)
  /-- A TIME_REQ is stamped on arrival and answered with TIME_RESP. (R359) -/
  | timeReq (port : Nat) (replay : Bool) (exch : Nat)
  /-- A TIME_RESP gives the offset and round trip; the chip slews or steps and updates freshness. (R361) -/
  | timeResp (port : Nat) (replay : Bool) (exch t2 t3 depth : Nat) (sync : Bool)
  /-- A COORD flit assigns coordinates to a chip that has none, or is checked for agreement. (R350) -/
  | coord (port chip dims origin : Nat)
  /-- Every SYNC_US, a TIME_REQ is sent on each UP port. (R359) -/
  | timeExchangeStart
  /-- No parent exchange for 12 ms takes the time state from HOLDOVER to STALE. (R361) -/
  | timeHoldoverExpiry
  /-- Fabric time passes from 2^64 - 1 to 0; WRAP_EPOCH toggles. (R358) -/
  | timeWrap
  /-- A packet is delivered locally or routed in dimension order, through a stand-in, reversed, or discarded as unroutable. (R353) -/
  | packetRoute (port : Nat) (errs : List (Nat × Nat))
  /-- A write of CHIP_ID to a spare chip in READY assigns its coordinates. (R352) -/
  | chipIdWrite (value : Nat)
  /-- A write to RLY_TIME_SET on the root in BRINGUP or READY sets fabric time. (R363) -/
  | timeSet (value : Nat)
  /-- The RLY START command checks its descriptor and queues a collective on its queue pair. (R373) -/
  | collectiveStart (part binding : Nat) (errs : List (Nat × Nat))
  /-- Once its queue pair is free, a collective begins by granting waystation slots to its predecessor. (R373) -/
  | collectiveBegin (part comm : Nat) (errs : List (Nat × Nat))
  /-- The RLY ARM command registers a trigger, which may fire at once. (R379) -/
  | arm (part binding : Nat) (errs : List (Nat × Nat))
  /-- The RLY INC command increments a trigger counter. (R378) -/
  | inc (part binding : Nat)
  /-- A baton accepted in BSEQ order is reduced or copied and forwarded, advancing the phase. (R371) -/
  | baton (part : Nat) (pkt : List Byte) (errs : List (Nat × Nat))
  /-- A WAYCREDIT returns slots and acknowledges batons, or carries RESTART or DONE. (R374) -/
  | waycredit (part : Nat) (pkt : List Byte) (errs : List (Nat × Nat))
  /-- A LEAD collects or distributes the ABSENT, APPLIED and OVERDUE words of a paced reducing phase. (R382) -/
  | lead (part : Nat) (pkt : List Byte) (errs : List (Nat × Nat))
  /-- A RESYNC from a restarting predecessor is answered with a WAYCREDIT granting slots or reporting DONE. (R381) -/
  | resync (part : Nat) (pkt : List Byte)
  /-- A DIGEST baton of the digest relay is combined and forwarded. (R388) -/
  | digest (part : Nat) (pkt : List Byte)
  /-- A packet of a reserved kind is discarded at its destination and counted. (R385) -/
  | packetKindReserved (kind : Nat)
  /-- An unacknowledged baton is sent again from the oldest BSEQ, and after RETRIES raises EV_RELAY_TIMEOUT. (R374) -/
  | batonTimeout (part qp : Nat)
  /-- A collective completes on the chip; its token completes and DONE_CTR is incremented. (R375) -/
  | collectiveComplete (part qp : Nat)
  /-- The final pace point waits on an unfired trigger longer than STALL_MS, a class P error. (R380) -/
  | triggerStall (part : Nat)
  /-- A host write through a window is checked and reaches device memory, or is refused. (R396) -/
  | windowWrite (fn offset : Nat) (data : List Byte) (poison : Bool)
  /-- A host read through a window is checked and returns device memory, or completes with Unsupported Request. (R396) -/
  | windowRead (fn offset len : Nat) (errs : List (Nat × Nat))
  /-- A host access through a CXL HDM decoder is checked as a window access. (R396) -/
  | hdmAccess (write : Bool) (addr len : Nat) (data : List Byte) (poison : Bool) (errs : List (Nat × Nat))
  /-- An SQ doorbell writes TAIL, or is refused. (R405) -/
  | sqDoorbell (fn index value : Nat) (wide : Bool)
  /-- A CQ or EQ doorbell writes HEAD, freeing slots, or is refused. (R405) -/
  | cqDoorbell (fn index value : Nat) (wide : Bool)
  /-- The device fetches the next command of an SQ in ring order and starts it. (R406) -/
  | commandFetch (queue : Nat) (errs : List (Nat × Nat))
  /-- The NOP command completes. (R407) -/
  | cmdNop (id : Nat)
  /-- The INLINE_WRITE command writes its payload to device memory. (R407) -/
  | inlineWrite (id : Nat)
  /-- The COPY_IN command copies host bytes into device memory on a copy engine. (R415) -/
  | copyIn (id : Nat)
  /-- The COPY_OUT command copies device bytes to the host and flushes. (R415) -/
  | copyOut (id : Nat) (errs : List (Nat × Nat))
  /-- A copy engine finishes a copy. (R415) -/
  | copyDone (job : Nat)
  /-- The INTAKE_COMMIT command commits a lap's intake segment, or completes with an error. (R416) -/
  | intakeCommit (id : Nat) (errs : List (Nat × Nat))
  /-- The input digest reaches LEN and closes; the segment becomes COMMITTED and the command completes. (R417) -/
  | intakeDigestClose (part : Nat)
  /-- The BIAS_SET command sets the bias of consecutive 64 KiB pages. (R400) -/
  | biasSet (id : Nat)
  /-- The QUEUE_CREATE command copies a context image and enables the queue. (R404) -/
  | queueCreate (id : Nat) (errs : List (Nat × Nat))
  /-- The QUEUE_DESTROY command disables the queue once its started commands complete. (R404) -/
  | queueDestroy (id : Nat)
  /-- The BACKFILL command queues a task as a write to CLU_BF_TASK. (R408) -/
  | backfill (id : Nat)
  /-- The BACKFILL_LOAD command loads backfill bank entries and completes with the load's status. (R409) -/
  | backfillLoad (id : Nat)
  /-- The HOST POST command creates a held PROGRAM completion. (R414) -/
  | post (part binding : Nat)
  /-- A store entry is reserved for a waiting POST, which then completes. (R414) -/
  | postStoreReserved (part id : Nat)
  /-- The HOST COPY_OUT command copies a descriptor's device bytes to the host. (R414) -/
  | hostCopyOut (part binding : Nat) (errs : List (Nat × Nat))
  /-- The HOST COPY_IN command copies a descriptor's host bytes to device memory. (R414) -/
  | hostCopyIn (part binding : Nat) (errs : List (Nat × Nat))
  /-- The HOST INTAKE command completes when the lap's segment is committed, and marks it IN_USE. (R416) -/
  | intake (part binding : Nat)
  /-- A waiting completion or event entry is written into its queue once a slot is free, followed by its interrupt. (R412) -/
  | cplEntryPost (queue : Nat)
  /-- MOD_US expires after an entry, and the queue's interrupt is sent. (R410) -/
  | interruptModTimeout (queue : Nat)
  /-- A host completion is delivered to its tag, or discarded as late. (R402) -/
  | hostReadCompletion (tag status : Nat) (poison : Bool) (data : List Byte)
  /-- A host read times out; the generation is retired, poisoned bytes are returned and the tag is quarantined. (R401) -/
  | hostReadTimeout (tag : Nat)
  /-- QUARANTINE_MS passes and the quarantined tag becomes free. (R401) -/
  | tagQuarantineExpiry (tag : Nat)
  /-- A host invalidation completes after every request that used the entry. (R403) -/
  | atsInvalidation (addr len : Nat)
  /-- PERST# is asserted; the host interface is reset and host loss is detected. (R418) -/
  | perstAssert
  /-- A hot reset is received; the host interface is reset and host loss is detected. (R418) -/
  | hotReset
  /-- An FLR of PF0 resets the host interface and is host loss. (R418) -/
  | flrPf0
  /-- An FLR of a function discards its held entries. (R421) -/
  | flrVf (fn : Nat)
  /-- The host link stays out of L0 for LINK_LOSS_MS. (R418) -/
  | linkLossTimeout
  /-- HST_HEARTBEAT is not written for HEARTBEAT_MS. (R418) -/
  | heartbeatTimeout
  /-- A write of BEAT restarts the heartbeat interval. (R418) -/
  | heartbeatWrite (value : Nat)
  /-- A write of ATTACH resumes host traffic when the link is in L0 and Bus Master Enable is set. (R421) -/
  | attach
  /-- QUE_ENABLE with OP enable enables a queue whose context is valid. (R404) -/
  | queueEnable (queue : Nat)
  /-- QUE_ENABLE with OP disable disables a queue once its started commands complete. (R404) -/
  | queueDisable (queue : Nat)
  /-- A write of ENABLE = 1 to a disabled partition is checked and accepted or refused. (R446) -/
  | partitionEnable (part value : Nat)
  /-- The partition's cores and counters are zeroed, new keys are drawn and the partition becomes READY. (R447) -/
  | partitionEnableDone (part : Nat)
  /-- A write of ENABLE = 0 destroys the partition's keys and idles its clusters, or is refused. (R448) -/
  | partitionDisable (part : Nat)
  /-- An SPDM vendor-defined INSTALL sets a function's host key. (R457) -/
  | hostkeyInstall (session : Nat) (payload : List Byte)
  /-- An SPDM vendor-defined CLEAR removes a function's host key. (R457) -/
  | hostkeyClear (session : Nat) (payload : List Byte)
  /-- IDE_KM in an SPDM session programs IDE stream keys. (R458) -/
  | ideKmProgram (session stream : Nat) (key : List Byte)
  /-- SPDM GET_VERSION is answered. (R460) -/
  | getVersion (transport : Nat)
  /-- SPDM GET_CAPABILITIES is answered. (R460) -/
  | getCapabilities (transport : Nat)
  /-- SPDM NEGOTIATE_ALGORITHMS is answered. (R460) -/
  | negotiateAlgorithms (transport : Nat)
  /-- SPDM GET_DIGESTS returns certificate slot digests. (R460) -/
  | getDigests (transport : Nat)
  /-- SPDM GET_CERTIFICATE returns the chain of slot 0. (R460) -/
  | getCertificate (transport slot offset len : Nat)
  /-- SPDM CHALLENGE is answered and signed with the Alias key. (R460) -/
  | challenge (transport slot : Nat) (nonce : List Byte)
  /-- SPDM GET_MEASUREMENTS returns signed measurements. (R460) -/
  | getMeasurements (transport index : Nat) (nonce : List Byte)
  /-- SPDM KEY_EXCHANGE starts a secured session. (R460) -/
  | keyExchange (transport slot : Nat) (nonce : List Byte)
  /-- SPDM FINISH completes session establishment. (R460) -/
  | finish (transport session : Nat) (cert : List Byte)
  /-- SPDM HEARTBEAT keeps a session alive. (R460) -/
  | heartbeat (transport session : Nat)
  /-- SPDM KEY_UPDATE updates session keys. (R460) -/
  | keyUpdate (transport session : Nat)
  /-- SPDM END_SESSION ends a session. (R460) -/
  | endSession (transport session : Nat)
  /-- The firmware DOWNLOAD operation erases and writes the inactive slot. (R462) -/
  | download
  /-- The firmware VERIFY operation checks the inactive slot and writes its verify mark. (R462) -/
  | verify
  /-- The firmware ACTIVATE operation writes an activation record putting a verified slot on trial. (R462) -/
  | activate
  /-- The firmware CONFIRM operation ends the trial and burns the fused SVN if higher. (R462) -/
  | confirm
  /-- The firmware operation ends with its ERROR. (R464) -/
  | fwupEnd (flashFail : Bool)
  /-- A GO to GLB_FENCE_REQ fences the named unit as a fault would, without a charge. (R481) -/
  | fenceRequest (value : Nat)
  /-- A mesh lane fails its link check; a static lane failure is class L and the spare takes over at the next boundary. (R33) -/
  | meshLaneFail (kind die tile dir lane : Nat)
  /-- A bridge module fails; lane repair is tried, then the spare module takes over at the next boundary. (R35) -/
  | bridgeModuleFail (bridge module : Nat) (repaired : Bool)
  /-- A TSV lane fails its link check and ECC covers it, or the error is class F on a DEGRADED stack. (R478) -/
  | tsvLaneFail (stack lane : Nat)
  /-- I3C ENTDAA arbitration assigns the dynamic address. (R518) -/
  | entdaa (addr : Nat)
  /-- I3C RSTDAA clears the dynamic address and the endpoint ID. (R520) -/
  | rstdaa
  /-- I3C SETNEWDA changes the dynamic address. (R520) -/
  | setnewda (addr : Nat)
  /-- I3C GETPID returns the provisional ID. (R519) -/
  | getpid
  /-- I3C GETBCR returns 0x06. (R519) -/
  | getbcr
  /-- I3C GETDCR returns 0x00. (R519) -/
  | getdcr
  /-- I3C GETSTATUS returns the target status. (R518) -/
  | getstatus
  /-- I3C GETMRL returns the maximum read length. (R518) -/
  | getmrl
  /-- I3C SETMRL sets the maximum read length. (R518) -/
  | setmrl (len : Nat)
  /-- I3C GETMWL returns the maximum write length. (R518) -/
  | getmwl
  /-- I3C SETMWL sets the maximum write length. (R518) -/
  | setmwl (len : Nat)
  /-- I3C ENEC enables target interrupts or Hot-Join. (R521) -/
  | enec (int hotJoin : Bool)
  /-- I3C DISEC disables target interrupts, and packets are held. (R521) -/
  | disec (int hotJoin : Bool)
  /-- I3C RSTACT sets the target reset action. (R518) -/
  | rstact (action : Nat)
  /-- An unsupported CCC is NACKed. (R518) -/
  | unsupportedCcc
  /-- The device requests Hot-Join once VSTBY is present and Hot-Join is enabled. (R520) -/
  | hotJoin
  /-- The device raises an IBI with byte 0xAE when an MCTP packet waits to be read. (R521) -/
  | ibi
  /-- MCTP Set Endpoint ID assigns the endpoint ID. (R522) -/
  | setEndpointId (transport inst op eid : Nat)
  /-- MCTP Get Endpoint ID is answered. (R522) -/
  | getEndpointId (transport inst : Nat)
  /-- MCTP Get Endpoint UUID is answered. (R522) -/
  | getEndpointUuid (transport inst : Nat)
  /-- MCTP Get MCTP Version Support is answered. (R522) -/
  | getMctpVersionSupport (transport inst typ : Nat)
  /-- MCTP Get Message Type Support is answered. (R522) -/
  | getMessageTypeSupport (transport inst : Nat)
  /-- MCTP Get Vendor Defined Message Support is answered. (R522) -/
  | getVendorDefinedMessageSupport (transport inst selector : Nat)
  /-- An MCTP message of an unsupported type is discarded and counted. (R522) -/
  | mctpUnknownType (transport typ : Nat)
  /-- PLDM GetTID is answered. (R522) -/
  | getTid (transport inst : Nat)
  /-- PLDM GetPLDMVersion is answered. (R522) -/
  | getPldmVersion (transport inst typ : Nat)
  /-- PLDM GetPLDMTypes is answered. (R522) -/
  | getPldmTypes (transport inst : Nat)
  /-- PLDM GetPLDMCommands is answered. (R522) -/
  | getPldmCommands (transport inst typ : Nat)
  /-- PLDM GetSensorReading returns a numeric sensor. (R523) -/
  | getSensorReading (transport inst sensor : Nat)
  /-- PLDM GetStateSensorReadings is answered. (R523) -/
  | getStateSensorReadings (transport inst sensor : Nat)
  /-- PLDM GetPDR returns a PDR repository entry. (R523) -/
  | getPdr (transport inst handle : Nat)
  /-- PLDM GetPDRRepositoryInfo is answered. (R523) -/
  | getPdrRepositoryInfo (transport inst : Nat)
  /-- PLDM SetEventReceiver enables platform event messages. (R523) -/
  | setEventReceiver (transport inst : Nat) (enable : Bool)
  /-- PLDM OEM ADMIT_TENANT from PF0 admits a tenant key for a function's host-key session. (R524) -/
  | admitTenant (transport inst : Nat) (fromPf0 : Bool) (fn context : Nat) (hash : List Byte)
  /-- Buzeik GET_IDENTITY returns identity, firmware status and coordinates. (R525) -/
  | getIdentity (transport inst : Nat)
  /-- Buzeik GET_STATE returns the chip and partition states. (R525) -/
  | getState (transport inst : Nat)
  /-- Buzeik READ_REG reads a register as the management controller. (R526) -/
  | readReg (transport inst offset width : Nat)
  /-- Buzeik WRITE_REG writes an MGT or TEL register, or is refused. (R526) -/
  | writeReg (transport inst offset width value : Nat)
  /-- Buzeik GET_SENSORS returns sensor readings. (R525) -/
  | getSensors (transport inst first count : Nat)
  /-- Buzeik GET_SNAPSHOT returns snapshot registers with the gun sequence and fire time. (R526) -/
  | getSnapshot (transport inst block first count : Nat)
  /-- Buzeik ARM_GUN writes the gun target and control images. (R525) -/
  | armGun (transport inst target ctrl : Nat)
  /-- Buzeik RESET requests a warm-chip or cold-chip reset. (R526) -/
  | reset (transport inst level confirm : Nat)
  /-- Buzeik READ_EVENTS returns records from the event log. (R527) -/
  | readEvents (transport inst sequence count : Nat)
  /-- Buzeik SUBSCRIBE sets the class mask for event notifications. (R526) -/
  | subscribe (transport inst mask : Nat)
  /-- Buzeik GET_LAP_REPORT returns a lap report record. (R525) -/
  | getLapReport (transport inst part lap : Nat)
  /-- Buzeik SET_POWER writes TEL_POWER_CTRL. (R525) -/
  | setPower (transport inst image : Nat)
  /-- The device sends a subscribed event to the subscribing endpoint. (R526) -/
  | eventNotify
  /-- A notification not sent within 1 s is dropped and counted. (R526) -/
  | notifyTimeout
  /-- A sensor is sampled at its interval and checked against its threshold. (R528) -/
  | sensorSample (id value : Nat) (ok fault : Bool) (warn word cycles : Nat)
  /-- PMB_ALERT_N is asserted and the rails' STATUS_WORD is read. (R549) -/
  | pmbusAlert (rails : List (Nat × Bool × Nat × Nat))
  /-- A write of ARM arms the TIME source and, with SPREAD, sends a GUN packet. (R535) -/
  | gunArm (value : Nat)
  /-- A write of FIRE fires the gun at the next FTCLK tick. (R533) -/
  | gunFireNow (value : Nat)
  /-- A rising edge on SNAP_IN with PIN_EN fires the gun two FTCLK ticks later. (R533) -/
  | snapIn
  /-- Fabric time reaches TARGET; the counters are copied to snapshots, or the fire is missed under LOCK or stale time. (R532) -/
  | gunFire
  /-- A GUN packet newer than SEQ_IN arms the TIME source and is forwarded by stage. (R536) -/
  | gun (body : List Byte)
  /-- Loss of SYSREF_CLK is a class F error. (R555) -/
  | sysrefLost
  /-- Loss of OE_REFCLK takes the ports DOWN with cause 2. (R555) -/
  | oerefLost
  /-- OE_REFCLK returns and the ports train again. (R555) -/
  | oerefReturn
  /-- The TAP EXTEST instruction drives the boundary scan, or loads as BYPASS outside COLD or an idle BRINGUP. (R561) -/
  | extest (hstap : Bool) (drive cells : Nat)
  /-- The TAP SAMPLE/PRELOAD instruction selects the boundary-scan register. (R560) -/
  | samplePreload (hstap : Bool) (cells : Nat)
  /-- The TAP IDCODE instruction selects the 32-bit identification register. (R560) -/
  | idcode (hstap : Bool)
  /-- The TAP CLAMP instruction holds the outputs, where permitted. (R561) -/
  | clamp (hstap : Bool)
  /-- The TAP HIGHZ instruction floats the outputs, where permitted. (R561) -/
  | highz (hstap : Bool)
  /-- The TAP BYPASS instruction, or any unlisted opcode, selects the bypass register. (R560) -/
  | bypass (hstap : Bool)
  /-- A TAP reset releases the arbitration between TAP and HSTAP. (R563) -/
  | tapReset
  /-- An UP port loses frame lock, stops sending frames, keeps its replay buffer and enters RETRAIN. (R338) -/
  | frameLockLost (port : Nat)
  /-- A lane of a receive direction loses clock or symbol lock and is marked failing at once, setting SPARE_REQ, or forcing a width-4 retrain if the spare is already in use. (R335) -/
  | symbolLockLoss (port lane : Nat)
  /-- A PARKED port sees its peer begin training and trains from its saved settings, going to LOCK. (R338) -/
  | peerTrainingBegins (port : Nat)
  /-- A port whose last good exchange is more than 12 ms old stops being fresh, and TIMED packets arriving on it are held. (R362) -/
  | freshnessExpiry (port : Nat)
  /-- The host link completes training and enters L0 in FLIT mode, setting HST_LINK_STATUS.UP, SPEED and WIDTH, or sets NO_FLIT if FLIT mode is not offered. (R391) -/
  | hostLinkUp (flit : Bool) (speed width : Nat)
  /-- A host write to PCIe configuration space, for example VF Enable, a BAR size or Bus Master Enable, takes effect or, before first READY, is refused for VF Enable. (R394) -/
  | configSpaceWrite (fn reg value : Nat)
  /-- The I3C controller reads an announced MCTP packet, after which the device may raise its next IBI. (R521) -/
  | mctpPacketRead
  /-- Once VSTBY is within limits, the standby island leaves its own reset within 20 ms and begins answering I3C CCCs, MCTP control and limited Buzeik commands. (R551) -/
  | standbyResetEnd
deriving DecidableEq, Repr

end Sys2Proof
end

