-- ==== Sys2Proof/Decode.lean ====
section
/-! DEFINITION. The command that a table word spells. The rows of spec/opcode_table.json give the commands no bits ("fields"
is empty in every row), so no word spells one. -/

namespace Sys2Proof

/-- The command spelled by `w`, a word of `nbits` bits. -/
def decodeTableWord (nbits w : Nat) : Option Instr :=
  match nbits, w with
  | _, _ => none

end Sys2Proof
end

