-- ==== Sys2Proof/Config.lean ====
section
/-! DEFINITION. What an implementation fixes, and the free values. -/

namespace Sys2Proof.Config

/-- Enabled-cluster fuses: the 64-cluster grade KX9-A1L (00_scope.md R2, R3; 01_organisation.md R20). DESIGN CHOICE, log 3. -/
def fusedClusters : Nat := 0xFFFFFFFFFFFFFFFF

/-- AKCs_ENGINES after fuse load: 32 standard and 4 privileged engines active, none fenced. DESIGN CHOICE, log 3. -/
def fusedEngines : Nat := 32 * 2 ^ 58 + 4 * 2 ^ 55

/-- CRC_AVS_FUSED: 750 mV at every setting. DESIGN CHOICE, log 3. -/
def fusedAvs : Nat := 0x02EE02EE02EE02EE

/-- The byte a reader sees where data stored under key `k` is read under key `k'`: no rule gives it (R227, R455).
Free value, log 12. Arguments: stored key, reader's key, address. -/
opaque garble : Nat → Nat → Nat → Byte

/-- STATUS of the error completion of a backfill task that ended under R166, and CODE of its fault record where the
end was no cue fault: no rule gives them. Free values, log 33. Argument: the free counter. -/
opaque bfEndStatus : Nat → BitVec 7
opaque bfEndCode : Nat → BitVec 8

/-- Byte `i` that a refused program read returns under its poison mark (Table 15-3): no rule gives it. Free value,
log 35. Arguments: the free counter, the byte's index. -/
opaque refusedByte : Nat → Nat → Byte

/-- The virtual channel, of those of its partition, that a queue pair's packets travel on: no rule gives it. Free value,
log 14. Argument: the queue pair. -/
opaque qpVc : Nat → Nat

/-- Byte `i` of what a failed host read leaves under its poison marks (R401, R402): no rule gives it. Free value, log 46.
Arguments: the free counter, the byte's index. -/
opaque failedByte : Nat → Nat → Byte

/-- KEY_HASH of the fuses, and the image the device is shipped with in slot A, header sector first (R459): no rule gives
them. Free values, log 47. -/
opaque keyHash : List Byte
opaque shippedImage : List Byte

/-- The digest of the ROM code (Table 15-8). Free value, log 47. -/
opaque romDigest : List Byte

/-- The certificate chain of SPDM slot 0 and a signature of the Alias key (R460): they rest on the unique secret in the
fuses. Free values, log 48. Arguments: the salt (SHA-384 of measurements 2 to 4); what is signed. -/
opaque certChain : List Byte → List Byte
opaque aliasSign : List Byte → List Byte → List Byte

/-- The unique device ID: the fuses hold it and no rule gives it (11_rilvi_fabric.md Table 11-6). Free value, log 41. -/
opaque deviceUid : BitVec 64

/-- RETRAIN_LIMIT of Table 11-8, which no register or rule gives. Free value, log 42. -/
opaque retrainLimit : Nat

/-- The discipline's choice of INC after an exchange, kept within R357 by its user; no rule gives the loop (R364). Free
value, log 43. Argument: the free counter. -/
opaque slewInc : Nat → Nat

/-- The bit that rounds an odd sum in theta, and one that rounds the root's rate steer: no rule gives the rounding. Free
values, log 43. Arguments: the sum; the steer. -/
opaque thetaRound : Int → Bool
opaque rateRound : Int → Bool

/-- PROGRESS of a routine that ends with an error: no rule gives it. Free value, log 49. Argument: the free counter. -/
opaque progress : Nat → BitVec 7

/-- Yaltin's MIPI manufacturer ID, its PCI vendor ID, and its JEDEC manufacturer identity (R519, R457, Table 19-12): fuses
and PF0's configuration space hold them and no rule gives them. Free values, log 51. -/
opaque mipiId : BitVec 15
opaque pciVendor : BitVec 16
opaque jedecId : BitVec 11

/-- What MCTP and PLDM leave to the endpoint: its UUID, the versions of a message type, TID, the version of a PLDM type,
a sensor's PDR, the rest of GetPDRRepositoryInfo, and ADMIT_TENANT's command code. Free values, log 50. -/
opaque endpointUuid : List Byte
opaque mctpVersions : Nat → List Byte
opaque pldmTid : Byte
opaque pldmVersion : Nat → List Byte
opaque pdr : Nat → List Byte
opaque pdrInfo : List Byte
opaque admitCode : Byte

/-- Input digest of a lap whose segment is not committed when its boundary reads it: no rule gives it (R417). Free value,
log 52. Arguments: the lap, the byte. -/
opaque openDigest : Nat → Nat → Byte

/-- STATUS of a Buzeik answer to a write that its register refuses, and INSTANCE of a notification (log 50). -/
opaque writeStatus : Nat → Byte
opaque notifyInst : Nat → BitVec 5

end Sys2Proof.Config
end

