-- ==== Sys2Proof/Machine/Bits.lean ====
section
/-! DEFINITION. Bit fields, sign extension and byte order (00_scope.md R5, R8). -/

namespace Sys2Proof.Machine

/-- Bits `[hi:lo]` of `v`, as the spec writes a bit range (R5). -/
def bits (v hi lo : Nat) : Nat := (v >>> lo) % 2 ^ (hi + 1 - lo)

/-- Bit `i` of `v`. -/
def bit (v i : Nat) : Bool := v.testBit i

/-- `v` with bits `[hi:lo]` replaced by the low bits of `x`. -/
def setBits (v hi lo x : Nat) : Nat :=
  v % 2 ^ lo + (x % 2 ^ (hi + 1 - lo)) * 2 ^ lo + (v >>> (hi + 1)) * 2 ^ (hi + 1)

/-- `x` placed at bits `[hi:lo]` of an otherwise zero word. -/
def atBits (hi lo x : Nat) : Nat := (x % 2 ^ (hi + 1 - lo)) * 2 ^ lo

/-- `v` with bit `i` set to `b`. -/
def setBit (v i : Nat) (b : Bool) : Nat := setBits v i i (if b then 1 else 0)

/-- One for true, zero for false. -/
def b2n (b : Bool) : Nat := if b then 1 else 0

/-- The number of ones among the low `n` bits. -/
def popCount (v : Nat) : Nat → Nat
  | 0 => 0
  | n + 1 => popCount v n + b2n (v.testBit n)

/-- The two's-complement value of the low `w` bits. -/
def sext (w v : Nat) : Int :=
  let m := v % 2 ^ w
  if 2 * m < 2 ^ w then (m : Int) else (m : Int) - (2 ^ w : Nat)

/-- An integer modulo `2^w`. -/
def wrapI (w : Nat) (i : Int) : Nat := (i % ((2 ^ w : Nat) : Int)).toNat

/-- Little-endian value of a byte list (R8). -/
def leNat : List Byte → Nat
  | [] => 0
  | b :: r => b.toNat + 256 * leNat r

/-- `n` little-endian bytes of `v` (R8). -/
def leBytes : Nat → Nat → List Byte
  | 0, _ => []
  | n + 1, v => BitVec.ofNat 8 v :: leBytes n (v / 256)

/-- Big-endian value of a byte list (SHA-256 and other published standards keep it, R8). -/
def beNat (l : List Byte) : Nat := l.foldl (fun a b => a * 256 + b.toNat) 0

/-- `n` big-endian bytes of `v`. -/
def beBytes (n v : Nat) : List Byte := (leBytes n v).reverse

/-- `n` bytes of a list from offset `o`, zero past its end. -/
def sliceB (l : List Byte) (o n : Nat) : List Byte :=
  let x := (l.drop o).take n
  x ++ List.replicate (n - x.length) 0

/-- The little-endian field of `n` bytes at offset `o` of a byte image. -/
def fieldAt (l : List Byte) (o n : Nat) : Nat := leNat (sliceB l o n)

/-- A byte image with the `n`-byte little-endian field at `o` replaced. -/
def putField (l : List Byte) (o n v : Nat) : List Byte :=
  sliceB l 0 o ++ leBytes n v ++ l.drop (o + n)

/-- Ceiling division. -/
def cdiv (a b : Nat) : Nat := (a + b - 1) / b

/-- `v` rounded up to a multiple of `m`. -/
def alignUp (v m : Nat) : Nat := cdiv v m * m

/-- The bit positions below `n` that are set in `v`, ascending. -/
def bitList (v n : Nat) : List Nat := (List.range n).filter v.testBit

/-- Serial-number comparison of `w`-bit numbers: `a` is newer than `b`. -/
def serialNewer (w a b : Nat) : Bool :=
  let d := (a + 2 ^ w - b % 2 ^ w) % 2 ^ w
  d != 0 && d < 2 ^ (w - 1)

end Sys2Proof.Machine
end

