-- ==== Sys2Proof/Machine/Sparse.lean ====
section
/-! DEFINITION. Sparse maps: lists of (key, value) pairs with strictly rising keys and no entry equal to the
default, so that equal maps are equal data. -/

namespace Sys2Proof.Machine

/-- A sparse map keyed by `Nat`. -/
abbrev Sp (α : Type) := List (Nat × α)

/-- The value listed for key `k`. -/
def Sp.find {α : Type} (k : Nat) : Sp α → Option α
  | [] => none
  | (j, v) :: r => if j = k then some v else Sp.find k r

/-- The value at `k`, `d` where nothing is listed. -/
def Sp.get {α : Type} (d : α) (m : Sp α) (k : Nat) : α := (Sp.find k m).getD d

/-- The map without key `k`. -/
def Sp.del {α : Type} (k : Nat) : Sp α → Sp α
  | [] => []
  | (j, v) :: r => if j = k then Sp.del k r else (j, v) :: Sp.del k r

/-- The map with `k` bound to `v`, keys kept in rising order. -/
def Sp.put {α : Type} (k : Nat) (v : α) : Sp α → Sp α
  | [] => [(k, v)]
  | (j, w) :: r => if j = k then (k, v) :: r else if k < j then (k, v) :: (j, w) :: r else (j, w) :: Sp.put k v r

/-- The map with `k` bound to `v`; binding the default removes the entry. -/
def Sp.set {α : Type} [DecidableEq α] (d : α) (m : Sp α) (k : Nat) (v : α) : Sp α :=
  if v = d then Sp.del k m else Sp.put k v m

/-- The map with the value at `k` changed by `f`. -/
def Sp.upd {α : Type} [DecidableEq α] (d : α) (m : Sp α) (k : Nat) (f : α → α) : Sp α :=
  Sp.set d m k (f (Sp.get d m k))

/-- The map without the keys in `[a, b)`. -/
def Sp.clearRange {α : Type} (a b : Nat) (m : Sp α) : Sp α := m.filter (fun e => e.1 < a || b ≤ e.1)

/-- Keys strictly rise. -/
abbrev Sp.Sorted {α : Type} (m : Sp α) : Prop := m.Pairwise (fun a b => a.1 < b.1)

/-- The canonical form: keys strictly rise and no entry equals the default. -/
abbrev Sp.wf {α : Type} (d : α) (m : Sp α) : Prop := Sp.Sorted m ∧ ∀ e ∈ m, e.2 ≠ d

end Sys2Proof.Machine
end

