-- ==== Sys2Proof/Machine/Regs.lean ====
section
/-! DEFINITION. The register cards of the spec: block, offset, width, array, partition view, reset value, field
access codes (00_scope.md R10 to R16, 01_organisation.md R45, 15_partitions_and_security.md R442), and the lookup of
a card by register-range offset. -/

namespace Sys2Proof.Machine

/-- Access codes of Table 0-5 (R10). -/
inductive Acc where
  | ro | rw | w1c | w1s | wo | rws | rwl
deriving DecidableEq, Repr

/-- Register blocks of Table 1-9 (R45). -/
inductive Blk where
  | glb | crc | seq | clu | hbm | blk | emb | fab | rly | hst | que | sec | mgt | tel
deriving DecidableEq, Repr

/-- How a register is copied per partition (Table 15-2, R442). -/
inductive View where
  | one | part2000 | part100 | glbPart
deriving DecidableEq, Repr

/-- A bit field `[hi:lo]`. -/
structure Fld where
  hi : Nat
  lo : Nat
deriving DecidableEq, Repr

/-- A field of a card with its access code. -/
structure CardField where
  hi : Nat
  lo : Nat
  acc : Acc
deriving DecidableEq, Repr

/-- A register card. `rst u k` is the reset value of instance or partition `u`, entry `k`. -/
structure Card where
  blk : Blk
  off : Nat
  width : Nat
  count : Nat
  stride : Nat
  view : View
  rst : Nat → Nat → Nat
  fields : List CardField

/-- Block instances and their spacing of Table 1-9. -/
def Blk.instances : Blk → Nat
  | .clu => 64 | .hbm => 12 | .blk => 8 | .fab => 8 | _ => 1

/-- Block base offsets of Table 1-9. -/
def Blk.base : Blk → Nat
  | .glb => 0x00000000 | .crc => 0x01000000 | .seq => 0x02000000 | .clu => 0x04000000 | .hbm => 0x08000000
  | .blk => 0x0A000000 | .emb => 0x0B000000 | .fab => 0x0C000000 | .rly => 0x0D000000 | .hst => 0x0E000000
  | .que => 0x0F000000 | .sec => 0x10000000 | .mgt => 0x11000000 | .tel => 0x12000000

/-- The block byte of a requester word: bits [31:24] of the block offset (R471). -/
def Blk.byte (b : Blk) : Nat := b.base / 0x1000000

/-- Offset added for partition `p`'s copy (Table 15-2). -/
def View.shift : View → Nat → Nat
  | .one, _ => 0
  | .part2000, p => p * 0x2000
  | .part100, p => p * 0x100
  | .glbPart, p => if p = 0 then 0 else 0x8000 + p * 0x100

/-- Register-range offset of entry `k` of the card in instance or partition `u`. -/
def Card.addr (c : Card) (u k : Nat) : Nat :=
  c.blk.base + (if c.blk.instances = 1 then 0 else u * 0x100000) + c.view.shift u + c.off + k * c.stride

/-- Whether the card has entry `k` in instance or partition `u` (Table 1-9, Table 15-2). -/
def Card.has (c : Card) (u k : Nat) : Bool :=
  (c.blk.instances = 1 || u < c.blk.instances) && (c.view = .one || u < 64) && k < c.count

/-- Whether the card has an effective image (R13). -/
def Card.shadowed (c : Card) : Bool := c.fields.any (fun f => f.acc = .rws || f.acc = .rwl)

/-- Offset of effective images and snapshots (R13, R531). -/
def imageOff : Nat := 0x80000

/-- GLB_DEVICE_ID (00_scope.md). -/
def R.GLB_DEVICE_ID : Card := ⟨.glb, 0x0, 32, 1, 8, .one, fun _ _ => 0x9114010, []⟩
abbrev F.GLB_DEVICE_ID_FAMILY : Fld := ⟨31, 24⟩
abbrev F.GLB_DEVICE_ID_STEP_LETTER : Fld := ⟨23, 20⟩
abbrev F.GLB_DEVICE_ID_STEP_NUMBER : Fld := ⟨19, 16⟩
abbrev F.GLB_DEVICE_ID_CLUSTERS : Fld := ⟨15, 8⟩
abbrev F.GLB_DEVICE_ID_LID : Fld := ⟨7, 4⟩
/-- GLB_REMAP_STATUS (01_organisation.md). -/
def R.GLB_REMAP_STATUS : Card := ⟨.glb, 0x48, 32, 1, 8, .one, fun _ _ => 0, []⟩
abbrev F.GLB_REMAP_STATUS_REMAP_GEN : Fld := ⟨31, 16⟩
abbrev F.GLB_REMAP_STATUS_DIE_EXHAUSTED : Fld := ⟨11, 8⟩
abbrev F.GLB_REMAP_STATUS_SHAPE_LOST : Fld := ⟨2, 2⟩
abbrev F.GLB_REMAP_STATUS_LOAD_ERROR : Fld := ⟨1, 1⟩
abbrev F.GLB_REMAP_STATUS_LOADED : Fld := ⟨0, 0⟩
/-- GLB_CLUSTER_REMAP (01_organisation.md). -/
def R.GLB_CLUSTER_REMAP : Card := ⟨.glb, 0x40, 64, 1, 8, .one, fun _ _ => 0x1f001f001f001f, []⟩
/-- CLU_CORE_REMAP (01_organisation.md). -/
def R.CLU_CORE_REMAP : Card := ⟨.clu, 0x100, 32, 1, 8, .one, fun _ _ => 0x1f00000, []⟩
abbrev F.CLU_CORE_REMAP_PHYS_POS : Fld := ⟨31, 27⟩
abbrev F.CLU_CORE_REMAP_NEEDS_MOVE : Fld := ⟨26, 26⟩
abbrev F.CLU_CORE_REMAP_SPARE_IN_USE : Fld := ⟨25, 25⟩
abbrev F.CLU_CORE_REMAP_MOVED_SLOT : Fld := ⟨24, 20⟩
abbrev F.CLU_CORE_REMAP_SLOT_FENCED : Fld := ⟨16, 0⟩
/-- CRC_CCLK_SELECT (01_organisation.md). -/
def R.CRC_CCLK_SELECT : Card := ⟨.crc, 0x20, 32, 1, 8, .one, fun _ _ => 0, [⟨1, 0, .rw⟩]⟩
abbrev F.CRC_CCLK_SELECT_USABLE : Fld := ⟨15, 12⟩
abbrev F.CRC_CCLK_SELECT_PENDING : Fld := ⟨9, 9⟩
abbrev F.CRC_CCLK_SELECT_LOCKED : Fld := ⟨8, 8⟩
abbrev F.CRC_CCLK_SELECT_FREQ : Fld := ⟨1, 0⟩
/-- SEQ_COURSE_ARM (02_laps_and_legs.md). -/
def R.SEQ_COURSE_ARM : Card := ⟨.seq, 0x20, 64, 1, 8, .part2000, fun _ _ => 0, [⟨63, 32, .w1s⟩, ⟨31, 0, .w1s⟩]⟩
abbrev F.SEQ_COURSE_ARM_ARM_LAP : Fld := ⟨63, 32⟩
abbrev F.SEQ_COURSE_ARM_ARM_LEG : Fld := ⟨31, 0⟩
/-- SEQ_LEG_TABLE (02_laps_and_legs.md). -/
def R.SEQ_LEG_TABLE : Card := ⟨.seq, 0x100, 64, 32, 8, .part2000, fun _ _ => 0, [⟨63, 63, .rwl⟩, ⟨62, 60, .rwl⟩, ⟨59, 55, .rwl⟩, ⟨54, 37, .rwl⟩, ⟨36, 17, .rwl⟩, ⟨16, 5, .rwl⟩]⟩
abbrev F.SEQ_LEG_TABLE_VALID : Fld := ⟨63, 63⟩
abbrev F.SEQ_LEG_TABLE_KIND : Fld := ⟨62, 60⟩
abbrev F.SEQ_LEG_TABLE_COURSE_SLOT : Fld := ⟨59, 55⟩
abbrev F.SEQ_LEG_TABLE_STRIDE_START : Fld := ⟨54, 37⟩
abbrev F.SEQ_LEG_TABLE_DEADLINE_US : Fld := ⟨36, 17⟩
abbrev F.SEQ_LEG_TABLE_PERIOD : Fld := ⟨16, 5⟩
/-- SEQ_LAP_CONFIG (02_laps_and_legs.md). -/
def R.SEQ_LAP_CONFIG : Card := ⟨.seq, 0x10, 64, 1, 8, .part2000, fun _ _ => 0, [⟨63, 48, .rwl⟩, ⟨47, 32, .rwl⟩, ⟨21, 16, .rwl⟩, ⟨7, 7, .rwl⟩, ⟨6, 6, .rwl⟩, ⟨5, 4, .rwl⟩, ⟨3, 3, .rwl⟩]⟩
abbrev F.SEQ_LAP_CONFIG_CONFIG_GEN : Fld := ⟨63, 48⟩
abbrev F.SEQ_LAP_CONFIG_STALL_LIMIT_MS : Fld := ⟨47, 32⟩
abbrev F.SEQ_LAP_CONFIG_LEGS : Fld := ⟨21, 16⟩
abbrev F.SEQ_LAP_CONFIG_REPLAY : Fld := ⟨7, 7⟩
abbrev F.SEQ_LAP_CONFIG_HOLD_ON_NONFINITE : Fld := ⟨6, 6⟩
abbrev F.SEQ_LAP_CONFIG_LATE_ACTION : Fld := ⟨5, 4⟩
abbrev F.SEQ_LAP_CONFIG_STRAGGLER : Fld := ⟨3, 3⟩
/-- SEQ_LAP_NUMBERS (02_laps_and_legs.md). -/
def R.SEQ_LAP_NUMBERS : Card := ⟨.seq, 0x8, 64, 1, 8, .part2000, fun _ _ => 0, [⟨63, 32, .rw⟩, ⟨31, 0, .rw⟩]⟩
abbrev F.SEQ_LAP_NUMBERS_RECORD_CONSUMED : Fld := ⟨63, 32⟩
abbrev F.SEQ_LAP_NUMBERS_START_LAP : Fld := ⟨31, 0⟩
/-- SEQ_RUN_CONTROL (02_laps_and_legs.md). -/
def R.SEQ_RUN_CONTROL : Card := ⟨.seq, 0x0, 64, 1, 8, .part2000, fun _ _ => 0, [⟨63, 32, .rw⟩, ⟨4, 4, .wo⟩, ⟨3, 3, .rw⟩, ⟨2, 2, .wo⟩, ⟨1, 1, .wo⟩, ⟨0, 0, .wo⟩]⟩
abbrev F.SEQ_RUN_CONTROL_HOLD_AT_LAP : Fld := ⟨63, 32⟩
abbrev F.SEQ_RUN_CONTROL_STOP : Fld := ⟨4, 4⟩
abbrev F.SEQ_RUN_CONTROL_HOLD_AT_ENABLE : Fld := ⟨3, 3⟩
abbrev F.SEQ_RUN_CONTROL_HOLD_NEXT : Fld := ⟨2, 2⟩
abbrev F.SEQ_RUN_CONTROL_RESUME : Fld := ⟨1, 1⟩
abbrev F.SEQ_RUN_CONTROL_START : Fld := ⟨0, 0⟩
/-- SEQ_POSITION (02_laps_and_legs.md). -/
def R.SEQ_POSITION : Card := ⟨.seq, 0x30, 64, 1, 8, .part2000, fun _ _ => 0, []⟩
abbrev F.SEQ_POSITION_LAP : Fld := ⟨63, 32⟩
abbrev F.SEQ_POSITION_LEG : Fld := ⟨31, 27⟩
abbrev F.SEQ_POSITION_ATTEMPT : Fld := ⟨26, 25⟩
abbrev F.SEQ_POSITION_IN_BOUNDARY : Fld := ⟨24, 24⟩
abbrev F.SEQ_POSITION_LAP_EPOCH : Fld := ⟨23, 16⟩
abbrev F.SEQ_POSITION_HOLD_CAUSE : Fld := ⟨15, 8⟩
/-- GLB_STATE (02_laps_and_legs.md). -/
def R.GLB_STATE : Card := ⟨.glb, 0x8, 32, 1, 8, .one, fun _ _ => 0, [⟨5, 5, .w1c⟩]⟩
abbrev F.GLB_STATE_HOST_LOST : Fld := ⟨5, 5⟩
abbrev F.GLB_STATE_ANY_FENCED : Fld := ⟨4, 4⟩
abbrev F.GLB_STATE_STATE : Fld := ⟨3, 0⟩
/-- SEQ_RECORD_RING (02_laps_and_legs.md). -/
def R.SEQ_RECORD_RING : Card := ⟨.seq, 0x40, 64, 1, 8, .part2000, fun _ _ => 0, [⟨63, 48, .rwl⟩, ⟨47, 12, .rwl⟩]⟩
abbrev F.SEQ_RECORD_RING_SIZE_MIB : Fld := ⟨63, 48⟩
abbrev F.SEQ_RECORD_RING_BASE : Fld := ⟨47, 12⟩
/-- SEQ_REPLAY_RING (02_laps_and_legs.md). -/
def R.SEQ_REPLAY_RING : Card := ⟨.seq, 0x48, 64, 1, 8, .part2000, fun _ _ => 0, [⟨63, 48, .rwl⟩, ⟨47, 12, .rwl⟩]⟩
abbrev F.SEQ_REPLAY_RING_SIZE_MIB : Fld := ⟨63, 48⟩
abbrev F.SEQ_REPLAY_RING_BASE : Fld := ⟨47, 12⟩
/-- SEQ_COURSE_STORE (03_program_image.md). -/
def R.SEQ_COURSE_STORE : Card := ⟨.seq, 0x200, 64, 1, 8, .part2000, fun _ _ => 0, [⟨47, 24, .rw⟩, ⟨4, 0, .rw⟩]⟩
abbrev F.SEQ_COURSE_STORE_BASE : Fld := ⟨47, 24⟩
abbrev F.SEQ_COURSE_STORE_SLOT_MIB : Fld := ⟨4, 0⟩
/-- SEQ_COURSE_LOAD_SRC (03_program_image.md). -/
def R.SEQ_COURSE_LOAD_SRC : Card := ⟨.seq, 0x208, 64, 1, 8, .part2000, fun _ _ => 0, [⟨47, 6, .rw⟩]⟩
abbrev F.SEQ_COURSE_LOAD_SRC_SRC : Fld := ⟨47, 6⟩
/-- SEQ_COURSE_LOAD_CTRL (03_program_image.md). -/
def R.SEQ_COURSE_LOAD_CTRL : Card := ⟨.seq, 0x210, 64, 1, 8, .part2000, fun _ _ => 0, [⟨56, 32, .rw⟩, ⟨12, 8, .rw⟩, ⟨0, 0, .wo⟩]⟩
abbrev F.SEQ_COURSE_LOAD_CTRL_LENGTH : Fld := ⟨56, 32⟩
abbrev F.SEQ_COURSE_LOAD_CTRL_SLOT : Fld := ⟨12, 8⟩
abbrev F.SEQ_COURSE_LOAD_CTRL_GO : Fld := ⟨0, 0⟩
/-- SEQ_COURSE_LOAD_STATUS (03_program_image.md). -/
def R.SEQ_COURSE_LOAD_STATUS : Card := ⟨.seq, 0x218, 64, 1, 8, .part2000, fun _ _ => 0, []⟩
abbrev F.SEQ_COURSE_LOAD_STATUS_ERR_OFFSET : Fld := ⟨63, 32⟩
abbrev F.SEQ_COURSE_LOAD_STATUS_ERROR : Fld := ⟨15, 8⟩
abbrev F.SEQ_COURSE_LOAD_STATUS_DONE : Fld := ⟨1, 1⟩
abbrev F.SEQ_COURSE_LOAD_STATUS_BUSY : Fld := ⟨0, 0⟩
/-- SEQ_SLOT_STATUS (03_program_image.md). -/
def R.SEQ_SLOT_STATUS : Card := ⟨.seq, 0x400, 64, 64, 8, .part2000, fun _ _ => 0, []⟩
abbrev F.SEQ_SLOT_STATUS_VALID : Fld := ⟨63, 63⟩
abbrev F.SEQ_SLOT_STATUS_BUSY : Fld := ⟨62, 62⟩
abbrev F.SEQ_SLOT_STATUS_CLUSTERS : Fld := ⟨55, 48⟩
abbrev F.SEQ_SLOT_STATUS_CONFIG_GEN : Fld := ⟨47, 32⟩
abbrev F.SEQ_SLOT_STATUS_LOAD_CYCLES : Fld := ⟨19, 0⟩
/-- SEQ_SLOT_DIGEST (03_program_image.md). -/
def R.SEQ_SLOT_DIGEST : Card := ⟨.seq, 0x800, 64, 256, 8, .part2000, fun _ _ => 0, []⟩
/-- SEQ_STRIDE_DIGEST_PENDING (03_program_image.md). -/
def R.SEQ_STRIDE_DIGEST_PENDING : Card := ⟨.seq, 0x2a0, 64, 4, 8, .part2000, fun _ _ => 0, []⟩
/-- SEQ_STRIDE_DIGEST (03_program_image.md). -/
def R.SEQ_STRIDE_DIGEST : Card := ⟨.seq, 0x2c0, 64, 4, 8, .part2000, fun _ _ => 0, []⟩
/-- SEQ_LAP_COURSE_DIGEST (03_program_image.md). -/
def R.SEQ_LAP_COURSE_DIGEST : Card := ⟨.seq, 0x2e0, 64, 4, 8, .part2000, fun _ _ => 0, []⟩
/-- SEQ_STRIDE_LOAD_SRC (03_program_image.md). -/
def R.SEQ_STRIDE_LOAD_SRC : Card := ⟨.seq, 0x240, 64, 1, 8, .part2000, fun _ _ => 0, [⟨47, 8, .rw⟩]⟩
abbrev F.SEQ_STRIDE_LOAD_SRC_SRC : Fld := ⟨47, 8⟩
/-- SEQ_STRIDE_LOAD_CTRL (03_program_image.md). -/
def R.SEQ_STRIDE_LOAD_CTRL : Card := ⟨.seq, 0x248, 64, 1, 8, .part2000, fun _ _ => 0, [⟨41, 41, .wo⟩, ⟨40, 40, .rw⟩, ⟨36, 18, .rw⟩, ⟨17, 0, .rw⟩]⟩
abbrev F.SEQ_STRIDE_LOAD_CTRL_GO : Fld := ⟨41, 41⟩
abbrev F.SEQ_STRIDE_LOAD_CTRL_MODE : Fld := ⟨40, 40⟩
abbrev F.SEQ_STRIDE_LOAD_CTRL_COUNT : Fld := ⟨36, 18⟩
abbrev F.SEQ_STRIDE_LOAD_CTRL_FIRST : Fld := ⟨17, 0⟩
/-- SEQ_STRIDE_LOAD_STATUS (03_program_image.md). -/
def R.SEQ_STRIDE_LOAD_STATUS : Card := ⟨.seq, 0x250, 64, 1, 8, .part2000, fun _ _ => 0, []⟩
abbrev F.SEQ_STRIDE_LOAD_STATUS_ERR_WORD : Fld := ⟨45, 28⟩
abbrev F.SEQ_STRIDE_LOAD_STATUS_ERROR : Fld := ⟨15, 8⟩
abbrev F.SEQ_STRIDE_LOAD_STATUS_DONE : Fld := ⟨1, 1⟩
abbrev F.SEQ_STRIDE_LOAD_STATUS_BUSY : Fld := ⟨0, 0⟩
/-- SEQ_STRIDE_EXPECT (03_program_image.md). -/
def R.SEQ_STRIDE_EXPECT : Card := ⟨.seq, 0x260, 64, 4, 8, .part2000, fun _ _ => 0, [⟨63, 0, .rw⟩]⟩
/-- SEQ_STRIDE_GUARD_PENDING (03_program_image.md). -/
def R.SEQ_STRIDE_GUARD_PENDING : Card := ⟨.seq, 0x280, 64, 1, 8, .part2000, fun _ _ => 0, []⟩
abbrev F.SEQ_STRIDE_GUARD_PENDING_VALID : Fld := ⟨63, 63⟩
abbrev F.SEQ_STRIDE_GUARD_PENDING_HI : Fld := ⟨49, 32⟩
abbrev F.SEQ_STRIDE_GUARD_PENDING_LO : Fld := ⟨17, 0⟩
/-- SEQ_STRIDE_GUARD (03_program_image.md). -/
def R.SEQ_STRIDE_GUARD : Card := ⟨.seq, 0x288, 64, 1, 8, .part2000, fun _ _ => 0, []⟩
abbrev F.SEQ_STRIDE_GUARD_VALID : Fld := ⟨63, 63⟩
abbrev F.SEQ_STRIDE_GUARD_HI : Fld := ⟨49, 32⟩
abbrev F.SEQ_STRIDE_GUARD_LO : Fld := ⟨17, 0⟩
/-- SEQ_STRIDE_MASTER (03_program_image.md). -/
def R.SEQ_STRIDE_MASTER : Card := ⟨.seq, 0x290, 64, 1, 8, .part2000, fun _ _ => 0, [⟨47, 8, .rwl⟩]⟩
abbrev F.SEQ_STRIDE_MASTER_ADDR : Fld := ⟨47, 8⟩
/-- CLU_CORE_FAULT (04_core.md). -/
def R.CLU_CORE_FAULT : Card := ⟨.clu, 0x200, 64, 16, 8, .one, fun _ _ => 0, [⟨63, 63, .w1c⟩]⟩
abbrev F.CLU_CORE_FAULT_VALID : Fld := ⟨63, 63⟩
abbrev F.CLU_CORE_FAULT_BACKFILL : Fld := ⟨62, 62⟩
abbrev F.CLU_CORE_FAULT_CONTEXT : Fld := ⟨61, 60⟩
abbrev F.CLU_CORE_FAULT_CODE : Fld := ⟨55, 48⟩
abbrev F.CLU_CORE_FAULT_ENTRY : Fld := ⟨47, 40⟩
abbrev F.CLU_CORE_FAULT_FIRST : Fld := ⟨39, 32⟩
abbrev F.CLU_CORE_FAULT_ISSUE : Fld := ⟨31, 16⟩
abbrev F.CLU_CORE_FAULT_PARAM : Fld := ⟨15, 0⟩
/-- CLU_BF_TASK (04_core.md). -/
def R.CLU_BF_TASK : Card := ⟨.clu, 0x300, 64, 3, 8, .one, fun _ _ => 0, [⟨63, 48, .wo⟩, ⟨47, 40, .wo⟩, ⟨39, 34, .wo⟩, ⟨33, 24, .wo⟩, ⟨17, 0, .wo⟩]⟩
abbrev F.CLU_BF_TASK_CORE_MASK : Fld := ⟨63, 48⟩
abbrev F.CLU_BF_TASK_TAG : Fld := ⟨47, 40⟩
abbrev F.CLU_BF_TASK_CUE : Fld := ⟨39, 34⟩
abbrev F.CLU_BF_TASK_PARAM : Fld := ⟨33, 24⟩
abbrev F.CLU_BF_TASK_LENGTH : Fld := ⟨17, 0⟩
/-- CLU_BF_LOAD_SRC (04_core.md). -/
def R.CLU_BF_LOAD_SRC : Card := ⟨.clu, 0x320, 64, 3, 8, .one, fun _ _ => 0, [⟨47, 5, .rw⟩]⟩
abbrev F.CLU_BF_LOAD_SRC_SRC : Fld := ⟨47, 5⟩
/-- CLU_BF_LOAD_CTRL (04_core.md). -/
def R.CLU_BF_LOAD_CTRL : Card := ⟨.clu, 0x340, 64, 3, 8, .one, fun _ _ => 0, [⟨47, 32, .rw⟩, ⟨21, 16, .rw⟩, ⟨14, 8, .rw⟩, ⟨0, 0, .wo⟩]⟩
abbrev F.CLU_BF_LOAD_CTRL_CORE_MASK : Fld := ⟨47, 32⟩
abbrev F.CLU_BF_LOAD_CTRL_FIRST : Fld := ⟨21, 16⟩
abbrev F.CLU_BF_LOAD_CTRL_COUNT : Fld := ⟨14, 8⟩
abbrev F.CLU_BF_LOAD_CTRL_GO : Fld := ⟨0, 0⟩
/-- CLU_BF_STATUS (04_core.md). -/
def R.CLU_BF_STATUS : Card := ⟨.clu, 0x360, 64, 3, 8, .one, fun _ _ => 0, []⟩
abbrev F.CLU_BF_STATUS_QUEUED : Fld := ⟨20, 16⟩
abbrev F.CLU_BF_STATUS_ERROR : Fld := ⟨15, 8⟩
abbrev F.CLU_BF_STATUS_RUNNING : Fld := ⟨2, 2⟩
abbrev F.CLU_BF_STATUS_DONE : Fld := ⟨1, 1⟩
abbrev F.CLU_BF_STATUS_BUSY : Fld := ⟨0, 0⟩
/-- SEQ_SEED0 (05_number_formats.md). -/
def R.SEQ_SEED0 : Card := ⟨.seq, 0x300, 64, 1, 8, .part2000, fun _ _ => 0, [⟨63, 0, .rwl⟩]⟩
abbrev F.SEQ_SEED0_SEED : Fld := ⟨63, 0⟩
/-- SEQ_SEED1 (05_number_formats.md). -/
def R.SEQ_SEED1 : Card := ⟨.seq, 0x308, 64, 1, 8, .part2000, fun _ _ => 0, [⟨63, 0, .rwl⟩]⟩
abbrev F.SEQ_SEED1_SEED : Fld := ⟨63, 0⟩
/-- SEQ_DRAW_RANK (05_number_formats.md). -/
def R.SEQ_DRAW_RANK : Card := ⟨.seq, 0x310, 64, 1, 8, .part2000, fun _ _ => 0, [⟨15, 0, .rwl⟩]⟩
abbrev F.SEQ_DRAW_RANK_RANK : Fld := ⟨15, 0⟩
/-- CLU_CAL_BIND (06_quantisation.md). -/
def R.CLU_CAL_BIND : Card := ⟨.clu, 0x400, 32, 16, 8, .one, fun _ _ => 0, [⟨31, 31, .rws⟩, ⟨11, 0, .rws⟩]⟩
abbrev F.CLU_CAL_BIND_ENABLE : Fld := ⟨31, 31⟩
abbrev F.CLU_CAL_BIND_TENSOR : Fld := ⟨11, 0⟩
/-- SEQ_CAL_TABLE (06_quantisation.md). -/
def R.SEQ_CAL_TABLE : Card := ⟨.seq, 0x320, 64, 1, 8, .part2000, fun _ _ => 0, [⟨63, 51, .rwl⟩, ⟨47, 6, .rwl⟩]⟩
abbrev F.SEQ_CAL_TABLE_COUNT : Fld := ⟨63, 51⟩
abbrev F.SEQ_CAL_TABLE_BASE : Fld := ⟨47, 6⟩
/-- SEQ_CAL_STATUS (06_quantisation.md). -/
def R.SEQ_CAL_STATUS : Card := ⟨.seq, 0x328, 64, 1, 8, .part2000, fun _ _ => 0, []⟩
abbrev F.SEQ_CAL_STATUS_LAP : Fld := ⟨63, 32⟩
abbrev F.SEQ_CAL_STATUS_DRIFTING : Fld := ⟨15, 0⟩
/-- HBM_STATUS (07_memory_tiers.md). -/
def R.HBM_STATUS : Card := ⟨.hbm, 0x0, 64, 1, 8, .one, fun _ _ => 0, []⟩
abbrev F.HBM_STATUS_TEMP_C : Fld := ⟨47, 40⟩
abbrev F.HBM_STATUS_REPAIR_QUEUED : Fld := ⟨31, 16⟩
abbrev F.HBM_STATUS_SCRUB_ACTIVE : Fld := ⟨3, 3⟩
abbrev F.HBM_STATUS_REFRESH_2X : Fld := ⟨2, 2⟩
abbrev F.HBM_STATUS_DEGRADED : Fld := ⟨1, 1⟩
abbrev F.HBM_STATUS_TRAINED : Fld := ⟨0, 0⟩
/-- BLK_STATUS (07_memory_tiers.md). -/
def R.BLK_STATUS : Card := ⟨.blk, 0x0, 64, 1, 8, .one, fun _ _ => 0, []⟩
abbrev F.BLK_STATUS_CAPACITY_GIB : Fld := ⟨63, 48⟩
abbrev F.BLK_STATUS_SPEED_MTS : Fld := ⟨47, 32⟩
abbrev F.BLK_STATUS_REPAIR_QUEUED : Fld := ⟨31, 16⟩
abbrev F.BLK_STATUS_SCRUB_ACTIVE : Fld := ⟨2, 2⟩
abbrev F.BLK_STATUS_PRESENT : Fld := ⟨1, 1⟩
abbrev F.BLK_STATUS_TRAINED : Fld := ⟨0, 0⟩
/-- BLK_CTRL (07_memory_tiers.md). -/
def R.BLK_CTRL : Card := ⟨.blk, 0x8, 32, 1, 8, .one, fun _ _ => 0x180003, [⟨23, 16, .rw⟩, ⟨15, 8, .rw⟩, ⟨1, 0, .rw⟩]⟩
abbrev F.BLK_CTRL_SCRUB_HOURS : Fld := ⟨23, 16⟩
abbrev F.BLK_CTRL_REPAIR_THRESHOLD : Fld := ⟨15, 8⟩
abbrev F.BLK_CTRL_SPEED_CAP : Fld := ⟨1, 0⟩
/-- HBM_SCRUB (07_memory_tiers.md). -/
def R.HBM_SCRUB : Card := ⟨.hbm, 0x8, 32, 1, 8, .one, fun _ _ => 0x180000, [⟨23, 16, .rw⟩, ⟨15, 8, .rw⟩]⟩
abbrev F.HBM_SCRUB_SCRUB_HOURS : Fld := ⟨23, 16⟩
abbrev F.HBM_SCRUB_REPAIR_THRESHOLD : Fld := ⟨15, 8⟩
/-- GLB_PAGE_ATTR (07_memory_tiers.md). -/
def R.GLB_PAGE_ATTR : Card := ⟨.glb, 0x80, 64, 1, 8, .one, fun _ _ => 0, [⟨47, 21, .rwl⟩, ⟨1, 1, .wo⟩, ⟨0, 0, .rwl⟩]⟩
abbrev F.GLB_PAGE_ATTR_BASE : Fld := ⟨47, 21⟩
abbrev F.GLB_PAGE_ATTR_APPLY : Fld := ⟨1, 1⟩
abbrev F.GLB_PAGE_ATTR_ENABLE : Fld := ⟨0, 0⟩
/-- EMB_PLACE_TABLE (07_memory_tiers.md). -/
def R.EMB_PLACE_TABLE : Card := ⟨.emb, 0x80, 64, 1, 8, .part2000, fun _ _ => 0, [⟨47, 6, .rwl⟩]⟩
abbrev F.EMB_PLACE_TABLE_BASE : Fld := ⟨47, 6⟩
/-- EMB_PLACE_CTRL (07_memory_tiers.md). -/
def R.EMB_PLACE_CTRL : Card := ⟨.emb, 0x88, 64, 1, 8, .part2000, fun _ _ => 0, [⟨48, 32, .rwl⟩, ⟨31, 16, .rwl⟩]⟩
abbrev F.EMB_PLACE_CTRL_COUNT : Fld := ⟨48, 32⟩
abbrev F.EMB_PLACE_CTRL_PERIOD : Fld := ⟨31, 16⟩
/-- EMB_PLACE_EPOCH (07_memory_tiers.md). -/
def R.EMB_PLACE_EPOCH : Card := ⟨.emb, 0x90, 64, 1, 8, .part2000, fun _ _ => 0, [⟨31, 0, .rw⟩]⟩
abbrev F.EMB_PLACE_EPOCH_LAST_MOVES : Fld := ⟨63, 32⟩
abbrev F.EMB_PLACE_EPOCH_EPOCH : Fld := ⟨31, 0⟩
/-- EMB_FAR_AREA (07_memory_tiers.md). -/
def R.EMB_FAR_AREA : Card := ⟨.emb, 0x100, 64, 4, 16, .part2000, fun _ _ => 0, [⟨63, 48, .rwl⟩, ⟨47, 12, .rwl⟩]⟩
abbrev F.EMB_FAR_AREA_SLOT_GRANULES : Fld := ⟨63, 48⟩
abbrev F.EMB_FAR_AREA_BASE : Fld := ⟨47, 12⟩
/-- EMB_FAR_SIZE (07_memory_tiers.md). -/
def R.EMB_FAR_SIZE : Card := ⟨.emb, 0x108, 64, 4, 16, .part2000, fun _ _ => 0, [⟨23, 0, .rwl⟩]⟩
abbrev F.EMB_FAR_SIZE_SLOTS : Fld := ⟨23, 0⟩
/-- EMB_FAR_DOORBELL (07_memory_tiers.md). -/
def R.EMB_FAR_DOORBELL : Card := ⟨.emb, 0x140, 64, 1, 8, .part2000, fun _ _ => 0, [⟨63, 62, .wo⟩, ⟨57, 56, .wo⟩, ⟨55, 32, .wo⟩, ⟨31, 0, .wo⟩]⟩
abbrev F.EMB_FAR_DOORBELL_OP : Fld := ⟨63, 62⟩
abbrev F.EMB_FAR_DOORBELL_DIE : Fld := ⟨57, 56⟩
abbrev F.EMB_FAR_DOORBELL_SLOT : Fld := ⟨55, 32⟩
abbrev F.EMB_FAR_DOORBELL_LAP : Fld := ⟨31, 0⟩
/-- EMB_FAR_RING (07_memory_tiers.md). -/
def R.EMB_FAR_RING : Card := ⟨.emb, 0x148, 64, 1, 8, .part2000, fun _ _ => 0, [⟨63, 59, .rw⟩, ⟨47, 5, .rw⟩]⟩
abbrev F.EMB_FAR_RING_LOG2_ENTRIES : Fld := ⟨63, 59⟩
abbrev F.EMB_FAR_RING_BASE : Fld := ⟨47, 5⟩
/-- EMB_FAR_RING_PTR (07_memory_tiers.md). -/
def R.EMB_FAR_RING_PTR : Card := ⟨.emb, 0x150, 64, 1, 8, .part2000, fun _ _ => 0, [⟨63, 32, .rw⟩]⟩
abbrev F.EMB_FAR_RING_PTR_CONSUMER : Fld := ⟨63, 32⟩
abbrev F.EMB_FAR_RING_PTR_PRODUCER : Fld := ⟨31, 0⟩
/-- EMB_CTRL (08_embedding_tables.md). -/
def R.EMB_CTRL : Card := ⟨.emb, 0x0, 64, 1, 8, .part2000, fun _ _ => 0x800020001, [⟨39, 32, .rwl⟩, ⟨17, 17, .rwl⟩, ⟨16, 0, .rwl⟩]⟩
abbrev F.EMB_CTRL_WINDOW : Fld := ⟨39, 32⟩
abbrev F.EMB_CTRL_MERGE : Fld := ⟨17, 17⟩
abbrev F.EMB_CTRL_RANKS : Fld := ⟨16, 0⟩
/-- EMB_TABLE_BASE (08_embedding_tables.md). -/
def R.EMB_TABLE_BASE : Card := ⟨.emb, 0x8, 64, 1, 8, .part2000, fun _ _ => 0, [⟨63, 48, .rwl⟩, ⟨47, 6, .rwl⟩, ⟨0, 0, .rwl⟩]⟩
abbrev F.EMB_TABLE_BASE_LAST : Fld := ⟨63, 48⟩
abbrev F.EMB_TABLE_BASE_BASE : Fld := ⟨47, 6⟩
abbrev F.EMB_TABLE_BASE_ENABLE : Fld := ⟨0, 0⟩
/-- EMB_REPLICA_KEY (08_embedding_tables.md). -/
def R.EMB_REPLICA_KEY : Card := ⟨.emb, 0x10, 64, 2, 8, .part2000, fun _ _ => 0, [⟨63, 0, .rwl⟩]⟩
abbrev F.EMB_REPLICA_KEY_KEY : Fld := ⟨63, 0⟩
/-- EMB_DEFER_AREA (08_embedding_tables.md). -/
def R.EMB_DEFER_AREA : Card := ⟨.emb, 0x20, 64, 1, 8, .part2000, fun _ _ => 0, [⟨63, 48, .rwl⟩, ⟨47, 12, .rwl⟩]⟩
abbrev F.EMB_DEFER_AREA_SIZE_MIB : Fld := ⟨63, 48⟩
abbrev F.EMB_DEFER_AREA_BASE : Fld := ⟨47, 12⟩
/-- EMB_TIMEOUT (08_embedding_tables.md). -/
def R.EMB_TIMEOUT : Card := ⟨.emb, 0x28, 32, 1, 8, .part2000, fun _ _ => 0xc80003, [⟨31, 16, .rwl⟩, ⟨3, 0, .rwl⟩]⟩
abbrev F.EMB_TIMEOUT_TIMEOUT_MS : Fld := ⟨31, 16⟩
abbrev F.EMB_TIMEOUT_RETRIES : Fld := ⟨3, 0⟩
/-- EMB_RANK_MAP (08_embedding_tables.md). -/
def R.EMB_RANK_MAP : Card := ⟨.emb, 0x30, 64, 1, 8, .part2000, fun _ _ => 0, [⟨47, 12, .rwl⟩]⟩
abbrev F.EMB_RANK_MAP_BASE : Fld := ⟨47, 12⟩
/-- EMB_STATUS (08_embedding_tables.md). -/
def R.EMB_STATUS : Card := ⟨.emb, 0x38, 64, 1, 8, .part2000, fun _ _ => 0, []⟩
abbrev F.EMB_STATUS_DEFER_USED_KIB : Fld := ⟨63, 32⟩
abbrev F.EMB_STATUS_CONVOY : Fld := ⟨23, 0⟩
/-- AKC_ENGINES (09_update_engines.md). -/
def R.AKC_ENGINES : Card := ⟨.hbm, 0x100, 64, 1, 8, .one, fun _ _ => Config.fusedEngines, []⟩
abbrev F.AKC_ENGINES_STD_ACTIVE : Fld := ⟨63, 58⟩
abbrev F.AKC_ENGINES_PRIV_ACTIVE : Fld := ⟨57, 55⟩
abbrev F.AKC_ENGINES_PRIV_FENCED : Fld := ⟨38, 34⟩
abbrev F.AKC_ENGINES_STD_FENCED : Fld := ⟨33, 0⟩
/-- AKC_ENGINE_FENCE (09_update_engines.md). -/
def R.AKC_ENGINE_FENCE : Card := ⟨.hbm, 0x108, 64, 1, 8, .one, fun _ _ => 0, [⟨38, 34, .w1s⟩, ⟨33, 0, .w1s⟩]⟩
abbrev F.AKC_ENGINE_FENCE_PRIV : Fld := ⟨38, 34⟩
abbrev F.AKC_ENGINE_FENCE_STD : Fld := ⟨33, 0⟩
/-- AKC_LEDGER_TABLE (09_update_engines.md). -/
def R.AKC_LEDGER_TABLE : Card := ⟨.hbm, 0x110, 64, 1, 8, .one, fun _ _ => 0, [⟨63, 48, .rwl⟩, ⟨47, 6, .rwl⟩]⟩
abbrev F.AKC_LEDGER_TABLE_COUNT : Fld := ⟨63, 48⟩
abbrev F.AKC_LEDGER_TABLE_BASE : Fld := ⟨47, 6⟩
/-- AKC_SWEEP_STATUS (09_update_engines.md). -/
def R.AKC_SWEEP_STATUS : Card := ⟨.hbm, 0x118, 64, 1, 8, .one, fun _ _ => 0, []⟩
abbrev F.AKC_SWEEP_STATUS_CAPTURE_LAP : Fld := ⟨63, 32⟩
abbrev F.AKC_SWEEP_STATUS_PENDING : Fld := ⟨31, 0⟩
/-- AKC_HASH_SRC (09_update_engines.md). -/
def R.AKC_HASH_SRC : Card := ⟨.hbm, 0x120, 64, 1, 8, .one, fun _ _ => 0, [⟨47, 6, .rw⟩]⟩
abbrev F.AKC_HASH_SRC_DESC : Fld := ⟨47, 6⟩
/-- AKC_HASH_CTRL (09_update_engines.md). -/
def R.AKC_HASH_CTRL : Card := ⟨.hbm, 0x128, 64, 1, 8, .one, fun _ _ => 0, [⟨2, 2, .rw⟩, ⟨0, 0, .wo⟩]⟩
abbrev F.AKC_HASH_CTRL_ERROR : Fld := ⟨63, 56⟩
abbrev F.AKC_HASH_CTRL_DONE : Fld := ⟨3, 3⟩
abbrev F.AKC_HASH_CTRL_SUBTRACT : Fld := ⟨2, 2⟩
abbrev F.AKC_HASH_CTRL_BUSY : Fld := ⟨1, 1⟩
abbrev F.AKC_HASH_CTRL_GO : Fld := ⟨0, 0⟩
/-- GLB_DIGEST_KEY (09_update_engines.md). -/
def R.GLB_DIGEST_KEY : Card := ⟨.glb, 0x100, 64, 8, 8, .glbPart, fun _ _ => 0, [⟨63, 0, .rw⟩]⟩
abbrev F.GLB_DIGEST_KEY_KEY : Fld := ⟨63, 0⟩
/-- GLB_WEIGHT_DIGEST (09_update_engines.md). -/
def R.GLB_WEIGHT_DIGEST : Card := ⟨.glb, 0x140, 64, 4, 8, .glbPart, fun _ _ => 0, [⟨63, 0, .rw⟩]⟩
abbrev F.GLB_WEIGHT_DIGEST_LANE : Fld := ⟨63, 0⟩
/-- FAB_LINK_CTRL (11_rilvi_fabric.md). -/
def R.FAB_LINK_CTRL : Card := ⟨.fab, 0x0, 32, 1, 8, .one, fun _ _ => 0x100, [⟨15, 8, .rw⟩, ⟨3, 3, .wo⟩, ⟨2, 2, .wo⟩, ⟨1, 1, .wo⟩, ⟨0, 0, .rw⟩]⟩
abbrev F.FAB_LINK_CTRL_DOWN_RETRY_S : Fld := ⟨15, 8⟩
abbrev F.FAB_LINK_CTRL_WAKE : Fld := ⟨3, 3⟩
abbrev F.FAB_LINK_CTRL_PARK : Fld := ⟨2, 2⟩
abbrev F.FAB_LINK_CTRL_RETRAIN : Fld := ⟨1, 1⟩
abbrev F.FAB_LINK_CTRL_ENABLE : Fld := ⟨0, 0⟩
/-- FAB_ROLE (11_rilvi_fabric.md). -/
def R.FAB_ROLE : Card := ⟨.fab, 0x8, 32, 1, 8, .one, fun u _ => if u < 6 then 1 else 0, [⟨7, 7, .rw⟩, ⟨6, 4, .rw⟩, ⟨2, 0, .rw⟩]⟩
abbrev F.FAB_ROLE_FORCE : Fld := ⟨7, 7⟩
abbrev F.FAB_ROLE_FOR : Fld := ⟨6, 4⟩
abbrev F.FAB_ROLE_ROLE : Fld := ⟨2, 0⟩
/-- FAB_LINK_STATUS (11_rilvi_fabric.md). -/
def R.FAB_LINK_STATUS : Card := ⟨.fab, 0x10, 32, 1, 8, .one, fun _ _ => 0, []⟩
abbrev F.FAB_LINK_STATUS_FAILED_TRAINS : Fld := ⟨23, 16⟩
abbrev F.FAB_LINK_STATUS_DOWN_CAUSE : Fld := ⟨15, 12⟩
abbrev F.FAB_LINK_STATUS_CONFLICT : Fld := ⟨9, 9⟩
abbrev F.FAB_LINK_STATUS_LASER_OK : Fld := ⟨8, 8⟩
abbrev F.FAB_LINK_STATUS_FRESH : Fld := ⟨7, 7⟩
abbrev F.FAB_LINK_STATUS_PEER_SPARE : Fld := ⟨6, 6⟩
abbrev F.FAB_LINK_STATUS_SPARE : Fld := ⟨5, 5⟩
abbrev F.FAB_LINK_STATUS_WIDTH4 : Fld := ⟨4, 4⟩
abbrev F.FAB_LINK_STATUS_STATE : Fld := ⟨3, 0⟩
/-- FAB_LANE_STATUS (11_rilvi_fabric.md). -/
def R.FAB_LANE_STATUS : Card := ⟨.fab, 0x18, 64, 1, 8, .one, fun _ _ => 0xf, []⟩
abbrev F.FAB_LANE_STATUS_WORST_SYM : Fld := ⟨63, 32⟩
abbrev F.FAB_LANE_STATUS_WORST_LANE : Fld := ⟨26, 23⟩
abbrev F.FAB_LANE_STATUS_RX_LOCKED : Fld := ⟨22, 14⟩
abbrev F.FAB_LANE_STATUS_TX_ACTIVE : Fld := ⟨13, 5⟩
abbrev F.FAB_LANE_STATUS_SPARE_LANE : Fld := ⟨3, 0⟩
/-- FAB_LINK_TUNE (11_rilvi_fabric.md). -/
def R.FAB_LINK_TUNE : Card := ⟨.fab, 0x20, 64, 1, 8, .one, fun _ _ => 0x100000803e80, [⟨47, 32, .rw⟩, ⟨23, 20, .rw⟩, ⟨19, 0, .rw⟩]⟩
abbrev F.FAB_LINK_TUNE_LANE_THRESH : Fld := ⟨47, 32⟩
abbrev F.FAB_LINK_TUNE_REPLAY_LIMIT : Fld := ⟨23, 20⟩
abbrev F.FAB_LINK_TUNE_ACK_TIMEOUT_NS : Fld := ⟨19, 0⟩
/-- FAB_PEER_UID (11_rilvi_fabric.md). -/
def R.FAB_PEER_UID : Card := ⟨.fab, 0x28, 64, 1, 8, .one, fun _ _ => 0, []⟩
abbrev F.FAB_PEER_UID_UID : Fld := ⟨63, 0⟩
/-- FAB_PEER (11_rilvi_fabric.md). -/
def R.FAB_PEER : Card := ⟨.fab, 0x30, 64, 1, 8, .one, fun _ _ => 0, []⟩
abbrev F.FAB_PEER_RTT : Fld := ⟨63, 32⟩
abbrev F.FAB_PEER_COORD_VALID : Fld := ⟨19, 19⟩
abbrev F.FAB_PEER_PORT : Fld := ⟨18, 16⟩
abbrev F.FAB_PEER_CHIP : Fld := ⟨15, 0⟩
/-- FAB_TIME_ASYM (11_rilvi_fabric.md). -/
def R.FAB_TIME_ASYM : Card := ⟨.fab, 0x38, 32, 1, 8, .one, fun _ _ => 0, [⟨31, 0, .rw⟩]⟩
abbrev F.FAB_TIME_ASYM_ASYM : Fld := ⟨31, 0⟩
/-- RLY_FABRIC_DIMS (11_rilvi_fabric.md). -/
def R.RLY_FABRIC_DIMS : Card := ⟨.rly, 0x4000, 32, 1, 8, .one, fun _ _ => 0, [⟨17, 17, .rw⟩, ⟨16, 16, .rw⟩, ⟨15, 11, .rw⟩, ⟨10, 6, .rw⟩, ⟨5, 0, .rw⟩]⟩
abbrev F.RLY_FABRIC_DIMS_SPARE : Fld := ⟨17, 17⟩
abbrev F.RLY_FABRIC_DIMS_ORIGIN : Fld := ⟨16, 16⟩
abbrev F.RLY_FABRIC_DIMS_DIMZ_M1 : Fld := ⟨15, 11⟩
abbrev F.RLY_FABRIC_DIMS_DIMY_M1 : Fld := ⟨10, 6⟩
abbrev F.RLY_FABRIC_DIMS_DIMX_M1 : Fld := ⟨5, 0⟩
/-- RLY_FABRIC_COORD (11_rilvi_fabric.md). -/
def R.RLY_FABRIC_COORD : Card := ⟨.rly, 0x4008, 32, 1, 8, .one, fun _ _ => 0, [⟨15, 0, .rw⟩]⟩
abbrev F.RLY_FABRIC_COORD_CONFLICT : Fld := ⟨17, 17⟩
abbrev F.RLY_FABRIC_COORD_VALID : Fld := ⟨16, 16⟩
abbrev F.RLY_FABRIC_COORD_CHIP_ID : Fld := ⟨15, 0⟩
/-- RLY_TIME_NOW (11_rilvi_fabric.md). -/
def R.RLY_TIME_NOW : Card := ⟨.rly, 0x4010, 64, 1, 8, .one, fun _ _ => 0, []⟩
abbrev F.RLY_TIME_NOW_TIME : Fld := ⟨63, 0⟩
/-- RLY_TIME_STATUS (11_rilvi_fabric.md). -/
def R.RLY_TIME_STATUS : Card := ⟨.rly, 0x4018, 64, 1, 8, .one, fun _ _ => 0, []⟩
abbrev F.RLY_TIME_STATUS_LAST_OFFSET : Fld := ⟨63, 32⟩
abbrev F.RLY_TIME_STATUS_DEPTH : Fld := ⟨15, 8⟩
abbrev F.RLY_TIME_STATUS_ROOT : Fld := ⟨7, 7⟩
abbrev F.RLY_TIME_STATUS_PARENT : Fld := ⟨6, 4⟩
abbrev F.RLY_TIME_STATUS_WRAP_EPOCH : Fld := ⟨3, 3⟩
abbrev F.RLY_TIME_STATUS_STATE : Fld := ⟨2, 0⟩
/-- RLY_TIME_CTRL (11_rilvi_fabric.md). -/
def R.RLY_TIME_CTRL : Card := ⟨.rly, 0x4020, 64, 1, 8, .one, fun _ _ => 0x64, [⟨63, 32, .rw⟩, ⟨17, 17, .rw⟩, ⟨16, 16, .rw⟩, ⟨15, 0, .rw⟩]⟩
abbrev F.RLY_TIME_CTRL_RATE_PPB : Fld := ⟨63, 32⟩
abbrev F.RLY_TIME_CTRL_ENABLE : Fld := ⟨17, 17⟩
abbrev F.RLY_TIME_CTRL_ROOT : Fld := ⟨16, 16⟩
abbrev F.RLY_TIME_CTRL_SYNC_US : Fld := ⟨15, 0⟩
/-- RLY_TIME_SET (11_rilvi_fabric.md). -/
def R.RLY_TIME_SET : Card := ⟨.rly, 0x4028, 64, 1, 8, .one, fun _ _ => 0, [⟨63, 0, .wo⟩]⟩
abbrev F.RLY_TIME_SET_TIME : Fld := ⟨63, 0⟩
/-- RLY_CTRL (12_relays_and_collectives.md). -/
def R.RLY_CTRL : Card := ⟨.rly, 0x0, 64, 1, 8, .part100, fun _ _ => 0x3e8000000c80003, [⟨63, 48, .rwl⟩, ⟨31, 16, .rwl⟩, ⟨3, 0, .rwl⟩]⟩
abbrev F.RLY_CTRL_STALL_MS : Fld := ⟨63, 48⟩
abbrev F.RLY_CTRL_TIMEOUT_MS : Fld := ⟨31, 16⟩
abbrev F.RLY_CTRL_RETRIES : Fld := ⟨3, 0⟩
/-- RLY_COMM_TABLE (12_relays_and_collectives.md). -/
def R.RLY_COMM_TABLE : Card := ⟨.rly, 0x8, 64, 1, 8, .part100, fun _ _ => 0, [⟨63, 51, .rwl⟩, ⟨47, 6, .rwl⟩]⟩
abbrev F.RLY_COMM_TABLE_COUNT : Fld := ⟨63, 51⟩
abbrev F.RLY_COMM_TABLE_BASE : Fld := ⟨47, 6⟩
/-- RLY_JOB (12_relays_and_collectives.md). -/
def R.RLY_JOB : Card := ⟨.rly, 0x10, 64, 1, 8, .part100, fun _ _ => 0, [⟨63, 48, .rwl⟩, ⟨47, 32, .rwl⟩, ⟨16, 0, .rwl⟩]⟩
abbrev F.RLY_JOB_COMM : Fld := ⟨63, 48⟩
abbrev F.RLY_JOB_QP : Fld := ⟨47, 32⟩
abbrev F.RLY_JOB_CHIPS : Fld := ⟨16, 0⟩
/-- RLY_DEFER_AREA (12_relays_and_collectives.md). -/
def R.RLY_DEFER_AREA : Card := ⟨.rly, 0x18, 64, 1, 8, .part100, fun _ _ => 0, [⟨63, 48, .rwl⟩, ⟨47, 12, .rwl⟩]⟩
abbrev F.RLY_DEFER_AREA_SIZE_MIB : Fld := ⟨63, 48⟩
abbrev F.RLY_DEFER_AREA_BASE : Fld := ⟨47, 12⟩
/-- RLY_FABRIC_DIGEST (12_relays_and_collectives.md). -/
def R.RLY_FABRIC_DIGEST : Card := ⟨.rly, 0x40, 64, 4, 8, .part100, fun _ _ => 0, []⟩
abbrev F.RLY_FABRIC_DIGEST_LANE : Fld := ⟨63, 0⟩
/-- RLY_SPLIT_STATUS (12_relays_and_collectives.md). -/
def R.RLY_SPLIT_STATUS : Card := ⟨.rly, 0x60, 32, 1, 8, .part100, fun _ _ => 0, []⟩
abbrev F.RLY_SPLIT_STATUS_HOLD : Fld := ⟨3, 3⟩
abbrev F.RLY_SPLIT_STATUS_CHIPS : Fld := ⟨2, 2⟩
abbrev F.RLY_SPLIT_STATUS_SETTINGS : Fld := ⟨1, 1⟩
abbrev F.RLY_SPLIT_STATUS_COURSE : Fld := ⟨0, 0⟩
/-- RLY_TRIGGER (12_relays_and_collectives.md). -/
def R.RLY_TRIGGER : Card := ⟨.rly, 0x8000, 64, 4096, 8, .one, fun _ _ => 0, []⟩
abbrev F.RLY_TRIGGER_COUNT : Fld := ⟨31, 0⟩
/-- HST_LINK_STATUS (13_host_interface.md). -/
def R.HST_LINK_STATUS : Card := ⟨.hst, 0x0, 32, 1, 8, .one, fun _ _ => 0, []⟩
abbrev F.HST_LINK_STATUS_NO_FLIT : Fld := ⟨13, 13⟩
abbrev F.HST_LINK_STATUS_UP : Fld := ⟨12, 12⟩
abbrev F.HST_LINK_STATUS_SPEED : Fld := ⟨11, 8⟩
abbrev F.HST_LINK_STATUS_WIDTH : Fld := ⟨7, 0⟩
/-- HST_CPL_TIMEOUT (13_host_interface.md). -/
def R.HST_CPL_TIMEOUT : Card := ⟨.hst, 0x8, 32, 1, 8, .one, fun _ _ => 0x3e8, [⟨15, 0, .rw⟩]⟩
abbrev F.HST_CPL_TIMEOUT_QUARANTINE_MS : Fld := ⟨15, 0⟩
/-- HST_HOST_WATCH (13_host_interface.md). -/
def R.HST_HOST_WATCH : Card := ⟨.hst, 0x10, 64, 1, 8, .one, fun _ _ => 0x6400000000, [⟨47, 32, .rw⟩, ⟨15, 0, .rw⟩]⟩
abbrev F.HST_HOST_WATCH_LINK_LOSS_MS : Fld := ⟨47, 32⟩
abbrev F.HST_HOST_WATCH_HEARTBEAT_MS : Fld := ⟨15, 0⟩
/-- HST_HEARTBEAT (13_host_interface.md). -/
def R.HST_HEARTBEAT : Card := ⟨.hst, 0x18, 32, 1, 8, .one, fun _ _ => 0, [⟨0, 0, .wo⟩]⟩
abbrev F.HST_HEARTBEAT_BEAT : Fld := ⟨0, 0⟩
/-- HST_ATTACH (13_host_interface.md). -/
def R.HST_ATTACH : Card := ⟨.hst, 0x20, 32, 1, 8, .one, fun _ _ => 2, [⟨0, 0, .wo⟩]⟩
abbrev F.HST_ATTACH_ERROR : Fld := ⟨7, 4⟩
abbrev F.HST_ATTACH_ATTACHED : Fld := ⟨1, 1⟩
abbrev F.HST_ATTACH_ATTACH : Fld := ⟨0, 0⟩
/-- HST_BIAS_TABLE (13_host_interface.md). -/
def R.HST_BIAS_TABLE : Card := ⟨.hst, 0x28, 64, 1, 8, .one, fun _ _ => 0, [⟨47, 12, .rw⟩, ⟨0, 0, .rw⟩]⟩
abbrev F.HST_BIAS_TABLE_BASE : Fld := ⟨47, 12⟩
abbrev F.HST_BIAS_TABLE_ENABLE : Fld := ⟨0, 0⟩
/-- HST_INTAKE_RING (13_host_interface.md). -/
def R.HST_INTAKE_RING : Card := ⟨.hst, 0x30, 64, 1, 8, .glbPart, fun _ _ => 0, [⟨63, 60, .rw⟩, ⟨59, 48, .rw⟩, ⟨47, 20, .rw⟩]⟩
abbrev F.HST_INTAKE_RING_SEGMENTS_M1 : Fld := ⟨63, 60⟩
abbrev F.HST_INTAKE_RING_SEG_MIB : Fld := ⟨59, 48⟩
abbrev F.HST_INTAKE_RING_BASE : Fld := ⟨47, 20⟩
/-- HST_INTAKE_STATUS (13_host_interface.md). -/
def R.HST_INTAKE_STATUS : Card := ⟨.hst, 0x38, 64, 1, 8, .glbPart, fun _ _ => 0, []⟩
abbrev F.HST_INTAKE_STATUS_NEXT_COMMIT : Fld := ⟨63, 32⟩
abbrev F.HST_INTAKE_STATUS_SEG_STATE : Fld := ⟨31, 0⟩
/-- HST_INPUT_DIGEST (13_host_interface.md). -/
def R.HST_INPUT_DIGEST : Card := ⟨.hst, 0x40, 64, 4, 8, .glbPart, fun _ _ => 0, []⟩
/-- HST_CPL_STORE (13_host_interface.md). -/
def R.HST_CPL_STORE : Card := ⟨.hst, 0x60, 64, 1, 8, .one, fun _ _ => 0, [⟨63, 48, .rw⟩, ⟨47, 12, .rw⟩]⟩
abbrev F.HST_CPL_STORE_SIZE_MIB : Fld := ⟨63, 48⟩
abbrev F.HST_CPL_STORE_BASE : Fld := ⟨47, 12⟩
/-- HST_WINSEG (13_host_interface.md). -/
def R.HST_WINSEG : Card := ⟨.hst, 0x10000, 64, 16384, 8, .one, fun _ _ => 0, [⟨63, 63, .rw⟩, ⟨47, 16, .rw⟩]⟩
abbrev F.HST_WINSEG_VALID : Fld := ⟨63, 63⟩
abbrev F.HST_WINSEG_DEV_BASE : Fld := ⟨47, 16⟩
/-- QUE_TABLE (13_host_interface.md). -/
def R.QUE_TABLE : Card := ⟨.que, 0x0, 64, 1, 8, .one, fun _ _ => 0, [⟨47, 12, .rw⟩]⟩
abbrev F.QUE_TABLE_BASE : Fld := ⟨47, 12⟩
/-- QUE_ENABLE (13_host_interface.md). -/
def R.QUE_ENABLE : Card := ⟨.que, 0x8, 32, 1, 8, .one, fun _ _ => 0, [⟨17, 16, .wo⟩, ⟨15, 0, .wo⟩]⟩
abbrev F.QUE_ENABLE_OP : Fld := ⟨17, 16⟩
abbrev F.QUE_ENABLE_QUEUE : Fld := ⟨15, 0⟩
/-- QUE_FN_RANGE (13_host_interface.md). -/
def R.QUE_FN_RANGE : Card := ⟨.que, 0x1000, 64, 256, 8, .one, fun _ _ => 0, [⟨48, 32, .rw⟩, ⟨15, 0, .rw⟩]⟩
abbrev F.QUE_FN_RANGE_COUNT : Fld := ⟨48, 32⟩
abbrev F.QUE_FN_RANGE_FIRST : Fld := ⟨15, 0⟩
/-- SEQ_SEAL_RING (14_reproducibility_and_audit.md). -/
def R.SEQ_SEAL_RING : Card := ⟨.seq, 0x340, 64, 1, 8, .part2000, fun _ _ => 0, [⟨63, 59, .rwl⟩, ⟨47, 8, .rwl⟩]⟩
abbrev F.SEQ_SEAL_RING_LOG2_ENTRIES : Fld := ⟨63, 59⟩
abbrev F.SEQ_SEAL_RING_BASE : Fld := ⟨47, 8⟩
/-- SEQ_LAP_STATE (14_reproducibility_and_audit.md). -/
def R.SEQ_LAP_STATE : Card := ⟨.seq, 0x348, 64, 1, 8, .part2000, fun _ _ => 0, [⟨63, 63, .rwl⟩, ⟨47, 6, .rwl⟩]⟩
abbrev F.SEQ_LAP_STATE_VALID : Fld := ⟨63, 63⟩
abbrev F.SEQ_LAP_STATE_BASE : Fld := ⟨47, 6⟩
/-- SEQ_REPLAY_POS (14_reproducibility_and_audit.md). -/
def R.SEQ_REPLAY_POS : Card := ⟨.seq, 0x350, 64, 1, 8, .part2000, fun _ _ => 0, [⟨31, 0, .rw⟩]⟩
abbrev F.SEQ_REPLAY_POS_OFFSET : Fld := ⟨31, 0⟩
/-- SEQ_AUDIT_CTRL (14_reproducibility_and_audit.md). -/
def R.SEQ_AUDIT_CTRL : Card := ⟨.seq, 0x358, 32, 1, 8, .part2000, fun _ _ => 0, [⟨1, 1, .rwl⟩, ⟨0, 0, .rwl⟩]⟩
abbrev F.SEQ_AUDIT_CTRL_STRICT : Fld := ⟨1, 1⟩
abbrev F.SEQ_AUDIT_CTRL_SEAL_ENABLE : Fld := ⟨0, 0⟩
/-- SEQ_LAP_SEAL (14_reproducibility_and_audit.md). -/
def R.SEQ_LAP_SEAL : Card := ⟨.seq, 0x360, 64, 4, 8, .part2000, fun _ _ => 0, []⟩
abbrev F.SEQ_LAP_SEAL_SEAL : Fld := ⟨63, 0⟩
/-- SEQ_AUDIT_STATUS (14_reproducibility_and_audit.md). -/
def R.SEQ_AUDIT_STATUS : Card := ⟨.seq, 0x380, 64, 1, 8, .part2000, fun _ _ => 0, [⟨2, 2, .w1c⟩]⟩
abbrev F.SEQ_AUDIT_STATUS_SEALED_LAP : Fld := ⟨63, 32⟩
abbrev F.SEQ_AUDIT_STATUS_REPLAY_DIVERGED : Fld := ⟨2, 2⟩
abbrev F.SEQ_AUDIT_STATUS_VARIANT : Fld := ⟨1, 1⟩
abbrev F.SEQ_AUDIT_STATUS_SEALED : Fld := ⟨0, 0⟩
/-- SEC_HOSTKEY (15_partitions_and_security.md). -/
def R.SEC_HOSTKEY : Card := ⟨.sec, 0x400, 64, 256, 8, .one, fun _ _ => 0, []⟩
abbrev F.SEC_HOSTKEY_VALID : Fld := ⟨63, 63⟩
abbrev F.SEC_HOSTKEY_KEY_ID : Fld := ⟨31, 0⟩
/-- SEC_FWUP_SRC (15_partitions_and_security.md). -/
def R.SEC_FWUP_SRC : Card := ⟨.sec, 0x100, 64, 1, 8, .one, fun _ _ => 0, [⟨63, 48, .rw⟩, ⟨47, 12, .rw⟩]⟩
abbrev F.SEC_FWUP_SRC_PAGES : Fld := ⟨63, 48⟩
abbrev F.SEC_FWUP_SRC_BASE : Fld := ⟨47, 12⟩
/-- SEC_FWUP_CTRL (15_partitions_and_security.md). -/
def R.SEC_FWUP_CTRL : Card := ⟨.sec, 0x108, 64, 1, 8, .one, fun _ _ => 0, [⟨4, 3, .wo⟩, ⟨0, 0, .wo⟩]⟩
abbrev F.SEC_FWUP_CTRL_ERROR : Fld := ⟨63, 56⟩
abbrev F.SEC_FWUP_CTRL_OP : Fld := ⟨4, 3⟩
abbrev F.SEC_FWUP_CTRL_DONE : Fld := ⟨2, 2⟩
abbrev F.SEC_FWUP_CTRL_BUSY : Fld := ⟨1, 1⟩
abbrev F.SEC_FWUP_CTRL_GO : Fld := ⟨0, 0⟩
/-- SEC_FW_STATUS (15_partitions_and_security.md). -/
def R.SEC_FW_STATUS : Card := ⟨.sec, 0x110, 64, 1, 8, .one, fun _ _ => 0, []⟩
abbrev F.SEC_FW_STATUS_SVN_FUSED : Fld := ⟨63, 32⟩
abbrev F.SEC_FW_STATUS_BOOTS : Fld := ⟨15, 12⟩
abbrev F.SEC_FW_STATUS_RECOVERY : Fld := ⟨7, 7⟩
abbrev F.SEC_FW_STATUS_ROLLED_BACK : Fld := ⟨6, 6⟩
abbrev F.SEC_FW_STATUS_FALLBACK : Fld := ⟨5, 5⟩
abbrev F.SEC_FW_STATUS_TRIAL : Fld := ⟨4, 4⟩
abbrev F.SEC_FW_STATUS_B_VERIFIED : Fld := ⟨3, 3⟩
abbrev F.SEC_FW_STATUS_A_VERIFIED : Fld := ⟨2, 2⟩
abbrev F.SEC_FW_STATUS_ACTIVE : Fld := ⟨0, 0⟩
/-- GLB_PART_CLUSTERS (15_partitions_and_security.md). -/
def R.GLB_PART_CLUSTERS : Card := ⟨.glb, 0x10000, 64, 64, 32, .one, fun _ k => if k = 0 then Config.fusedClusters else 0, [⟨63, 0, .rw⟩]⟩
abbrev F.GLB_PART_CLUSTERS_CLUSTERS : Fld := ⟨63, 0⟩
/-- GLB_PART_BANKS (15_partitions_and_security.md). -/
def R.GLB_PART_BANKS : Card := ⟨.glb, 0x10008, 64, 64, 32, .one, fun _ k => if k = 0 then 0xFFFFFFFFFFFFFFFF else 0, [⟨63, 0, .rw⟩]⟩
abbrev F.GLB_PART_BANKS_BANKS : Fld := ⟨63, 0⟩
/-- GLB_PART_CONFIG (15_partitions_and_security.md). -/
def R.GLB_PART_CONFIG : Card := ⟨.glb, 0x10010, 64, 64, 32, .one, fun _ k => if k = 0 then 0x800000000003F000 else 0, [⟨63, 63, .rw⟩, ⟨55, 48, .rw⟩, ⟨47, 40, .rw⟩, ⟨39, 32, .rw⟩, ⟨31, 24, .rw⟩, ⟨23, 18, .rw⟩, ⟨17, 12, .rw⟩]⟩
abbrev F.GLB_PART_CONFIG_ENABLE : Fld := ⟨63, 63⟩
abbrev F.GLB_PART_CONFIG_STATE : Fld := ⟨59, 56⟩
abbrev F.GLB_PART_CONFIG_PRIMARY : Fld := ⟨55, 48⟩
abbrev F.GLB_PART_CONFIG_BF0 : Fld := ⟨47, 40⟩
abbrev F.GLB_PART_CONFIG_BF1 : Fld := ⟨39, 32⟩
abbrev F.GLB_PART_CONFIG_BF2 : Fld := ⟨31, 24⟩
abbrev F.GLB_PART_CONFIG_VC_FIRST : Fld := ⟨23, 18⟩
abbrev F.GLB_PART_CONFIG_VC_LAST : Fld := ⟨17, 12⟩
/-- GLB_PART_SHARE (15_partitions_and_security.md). -/
def R.GLB_PART_SHARE : Card := ⟨.glb, 0x10018, 64, 64, 32, .one, fun _ k => if k = 0 then 0xFF03F80000010000 else 0, [⟨63, 56, .rw⟩, ⟨55, 50, .rw⟩, ⟨49, 44, .rw⟩, ⟨43, 33, .rw⟩, ⟨23, 16, .rw⟩]⟩
abbrev F.GLB_PART_SHARE_BRIDGE_PLANES : Fld := ⟨63, 56⟩
abbrev F.GLB_PART_SHARE_TRIG_FIRST : Fld := ⟨55, 50⟩
abbrev F.GLB_PART_SHARE_TRIG_LAST : Fld := ⟨49, 44⟩
abbrev F.GLB_PART_SHARE_TRIG_ENTRIES : Fld := ⟨43, 33⟩
abbrev F.GLB_PART_SHARE_HBM_WEIGHT : Fld := ⟨23, 16⟩
/-- QUE_FN_WEIGHT (15_partitions_and_security.md). -/
def R.QUE_FN_WEIGHT : Card := ⟨.que, 0x1800, 32, 256, 8, .one, fun _ _ => 1, [⟨7, 0, .rw⟩]⟩
abbrev F.QUE_FN_WEIGHT_WEIGHT : Fld := ⟨7, 0⟩
/-- QUE_FN_EVENT (16_reliability_and_fencing.md). -/
def R.QUE_FN_EVENT : Card := ⟨.que, 0x2000, 32, 256, 8, .one, fun _ _ => 0, [⟨31, 24, .rw⟩, ⟨21, 21, .rw⟩, ⟨20, 16, .rw⟩, ⟨15, 0, .rw⟩]⟩
abbrev F.QUE_FN_EVENT_LIMIT : Fld := ⟨31, 24⟩
abbrev F.QUE_FN_EVENT_NOCLASS : Fld := ⟨21, 21⟩
abbrev F.QUE_FN_EVENT_CLASSES : Fld := ⟨20, 16⟩
abbrev F.QUE_FN_EVENT_EQ : Fld := ⟨15, 0⟩
/-- SEQ_ERR_FIRST (16_reliability_and_fencing.md). -/
def R.SEQ_ERR_FIRST : Card := ⟨.seq, 0x600, 64, 1, 8, .part2000, fun _ _ => 0, [⟨63, 63, .w1c⟩]⟩
abbrev F.SEQ_ERR_FIRST_VALID : Fld := ⟨63, 63⟩
abbrev F.SEQ_ERR_FIRST_CLASS : Fld := ⟨50, 48⟩
abbrev F.SEQ_ERR_FIRST_PARTITION : Fld := ⟨45, 40⟩
abbrev F.SEQ_ERR_FIRST_LEG : Fld := ⟨36, 32⟩
abbrev F.SEQ_ERR_FIRST_CODE : Fld := ⟨15, 0⟩
/-- SEQ_ERR_FIRST_LAP (16_reliability_and_fencing.md). -/
def R.SEQ_ERR_FIRST_LAP : Card := ⟨.seq, 0x608, 64, 1, 8, .part2000, fun _ _ => 0, []⟩
abbrev F.SEQ_ERR_FIRST_LAP_LAP : Fld := ⟨31, 0⟩
/-- SEQ_ERR_FIRST_DATA (16_reliability_and_fencing.md). -/
def R.SEQ_ERR_FIRST_DATA : Card := ⟨.seq, 0x610, 64, 2, 8, .part2000, fun _ _ => 0, []⟩
/-- GLB_ERR_FATAL (16_reliability_and_fencing.md). -/
def R.GLB_ERR_FATAL : Card := ⟨.glb, 0x200, 64, 1, 8, .one, fun _ _ => 0, []⟩
abbrev F.GLB_ERR_FATAL_VALID : Fld := ⟨63, 63⟩
abbrev F.GLB_ERR_FATAL_CLASS : Fld := ⟨50, 48⟩
abbrev F.GLB_ERR_FATAL_PARTITION : Fld := ⟨45, 40⟩
abbrev F.GLB_ERR_FATAL_LEG : Fld := ⟨36, 32⟩
abbrev F.GLB_ERR_FATAL_CODE : Fld := ⟨15, 0⟩
/-- GLB_ERR_FATAL_LAP (16_reliability_and_fencing.md). -/
def R.GLB_ERR_FATAL_LAP : Card := ⟨.glb, 0x208, 64, 1, 8, .one, fun _ _ => 0, []⟩
abbrev F.GLB_ERR_FATAL_LAP_LAP : Fld := ⟨31, 0⟩
/-- GLB_ERR_FATAL_DATA (16_reliability_and_fencing.md). -/
def R.GLB_ERR_FATAL_DATA : Card := ⟨.glb, 0x210, 64, 2, 8, .one, fun _ _ => 0, []⟩
/-- GLB_FENCE_REQ (16_reliability_and_fencing.md). -/
def R.GLB_FENCE_REQ : Card := ⟨.glb, 0x50, 64, 1, 8, .one, fun _ _ => 0, [⟨63, 63, .wo⟩, ⟨57, 56, .rw⟩, ⟨52, 48, .rw⟩, ⟨44, 40, .rw⟩, ⟨36, 32, .rw⟩, ⟨25, 24, .rw⟩]⟩
abbrev F.GLB_FENCE_REQ_GO : Fld := ⟨63, 63⟩
abbrev F.GLB_FENCE_REQ_DIE : Fld := ⟨57, 56⟩
abbrev F.GLB_FENCE_REQ_KIND : Fld := ⟨52, 48⟩
abbrev F.GLB_FENCE_REQ_A : Fld := ⟨44, 40⟩
abbrev F.GLB_FENCE_REQ_B : Fld := ⟨36, 32⟩
abbrev F.GLB_FENCE_REQ_DIR : Fld := ⟨25, 24⟩
abbrev F.GLB_FENCE_REQ_ERROR : Fld := ⟨7, 0⟩
/-- GLB_FENCE_POLICY (16_reliability_and_fencing.md). -/
def R.GLB_FENCE_POLICY : Card := ⟨.glb, 0x58, 32, 1, 8, .one, fun _ _ => 0x211, [⟨11, 8, .rw⟩, ⟨7, 4, .rw⟩, ⟨3, 0, .rw⟩]⟩
abbrev F.GLB_FENCE_POLICY_LANE_LIMIT : Fld := ⟨11, 8⟩
abbrev F.GLB_FENCE_POLICY_HUB_LIMIT : Fld := ⟨7, 4⟩
abbrev F.GLB_FENCE_POLICY_CORE_LIMIT : Fld := ⟨3, 0⟩
/-- GLB_SPARE_STATUS (16_reliability_and_fencing.md). -/
def R.GLB_SPARE_STATUS : Card := ⟨.glb, 0x60, 64, 1, 8, .one, fun _ _ => 0, []⟩
abbrev F.GLB_SPARE_STATUS_DYN_SPARED : Fld := ⟨47, 32⟩
abbrev F.GLB_SPARE_STATUS_STATIC_SPARED : Fld := ⟨31, 16⟩
abbrev F.GLB_SPARE_STATUS_BRIDGE_SPARED : Fld := ⟨5, 0⟩
/-- RLY_SETTINGS_DIGEST (16_reliability_and_fencing.md). -/
def R.RLY_SETTINGS_DIGEST : Card := ⟨.rly, 0x80, 64, 4, 8, .part100, fun _ _ => 0, []⟩
/-- CRC_DROOP_CTRL (16_reliability_and_fencing.md). -/
def R.CRC_DROOP_CTRL : Card := ⟨.crc, 0x30, 32, 1, 8, .one, fun _ _ => 0x23000405, [⟨31, 24, .rw⟩, ⟨15, 4, .rw⟩, ⟨3, 2, .rw⟩, ⟨0, 0, .rw⟩]⟩
abbrev F.CRC_DROOP_CTRL_TRIP_MV : Fld := ⟨31, 24⟩
abbrev F.CRC_DROOP_CTRL_HOLD : Fld := ⟨15, 4⟩
abbrev F.CRC_DROOP_CTRL_RATIO : Fld := ⟨3, 2⟩
abbrev F.CRC_DROOP_CTRL_ENABLE : Fld := ⟨0, 0⟩
/-- MGT_RELAY_ADDR (17_bringup_and_reset.md). -/
def R.MGT_RELAY_ADDR : Card := ⟨.mgt, 0x100, 64, 1, 8, .one, fun _ _ => 0, [⟨31, 0, .rw⟩]⟩
abbrev F.MGT_RELAY_ADDR_OFFSET : Fld := ⟨31, 0⟩
/-- MGT_RELAY_DATA (17_bringup_and_reset.md). -/
def R.MGT_RELAY_DATA : Card := ⟨.mgt, 0x108, 64, 1, 8, .one, fun _ _ => 0, [⟨63, 0, .rw⟩]⟩
/-- MGT_RELAY_CTRL (17_bringup_and_reset.md). -/
def R.MGT_RELAY_CTRL : Card := ⟨.mgt, 0x110, 32, 1, 8, .one, fun _ _ => 0, [⟨2, 2, .rw⟩, ⟨1, 1, .rw⟩, ⟨0, 0, .wo⟩]⟩
abbrev F.MGT_RELAY_CTRL_ERROR : Fld := ⟨15, 8⟩
abbrev F.MGT_RELAY_CTRL_DONE : Fld := ⟨4, 4⟩
abbrev F.MGT_RELAY_CTRL_BUSY : Fld := ⟨3, 3⟩
abbrev F.MGT_RELAY_CTRL_WIDE : Fld := ⟨2, 2⟩
abbrev F.MGT_RELAY_CTRL_WRITE : Fld := ⟨1, 1⟩
abbrev F.MGT_RELAY_CTRL_GO : Fld := ⟨0, 0⟩
/-- GLB_BRINGUP_CMD (17_bringup_and_reset.md). -/
def R.GLB_BRINGUP_CMD : Card := ⟨.glb, 0x300, 64, 1, 8, .one, fun _ _ => 0, [⟨63, 63, .wo⟩, ⟨55, 48, .rw⟩, ⟨39, 32, .rw⟩, ⟨31, 24, .rw⟩, ⟨23, 12, .rw⟩, ⟨8, 8, .rw⟩, ⟨7, 0, .rw⟩]⟩
abbrev F.GLB_BRINGUP_CMD_GO : Fld := ⟨63, 63⟩
abbrev F.GLB_BRINGUP_CMD_ARG : Fld := ⟨55, 48⟩
abbrev F.GLB_BRINGUP_CMD_PORTS : Fld := ⟨39, 32⟩
abbrev F.GLB_BRINGUP_CMD_CHANNELS : Fld := ⟨31, 24⟩
abbrev F.GLB_BRINGUP_CMD_STACKS : Fld := ⟨23, 12⟩
abbrev F.GLB_BRINGUP_CMD_FAST : Fld := ⟨8, 8⟩
abbrev F.GLB_BRINGUP_CMD_ROUTINE : Fld := ⟨7, 0⟩
/-- GLB_BRINGUP_STATUS (17_bringup_and_reset.md). -/
def R.GLB_BRINGUP_STATUS : Card := ⟨.glb, 0x308, 64, 1, 8, .one, fun _ _ => 0, []⟩
abbrev F.GLB_BRINGUP_STATUS_DONE : Fld := ⟨63, 48⟩
abbrev F.GLB_BRINGUP_STATUS_FALLBACK : Fld := ⟨47, 47⟩
abbrev F.GLB_BRINGUP_STATUS_PROGRESS : Fld := ⟨46, 40⟩
abbrev F.GLB_BRINGUP_STATUS_ERROR : Fld := ⟨31, 24⟩
abbrev F.GLB_BRINGUP_STATUS_LAST : Fld := ⟨23, 16⟩
abbrev F.GLB_BRINGUP_STATUS_CONTENTS_LOST : Fld := ⟨2, 2⟩
abbrev F.GLB_BRINGUP_STATUS_END : Fld := ⟨1, 1⟩
abbrev F.GLB_BRINGUP_STATUS_BUSY : Fld := ⟨0, 0⟩
/-- GLB_MEMTEST_RESULT (17_bringup_and_reset.md). -/
def R.GLB_MEMTEST_RESULT : Card := ⟨.glb, 0x310, 64, 1, 8, .one, fun _ _ => 0xffffffffff, []⟩
abbrev F.GLB_MEMTEST_RESULT_CHANNEL : Fld := ⟨39, 24⟩
abbrev F.GLB_MEMTEST_RESULT_STACK : Fld := ⟨23, 0⟩
/-- CRC_RESET_CTRL (17_bringup_and_reset.md). -/
def R.CRC_RESET_CTRL : Card := ⟨.crc, 0x40, 64, 1, 8, .one, fun _ _ => 0, [⟨63, 63, .wo⟩, ⟨47, 32, .wo⟩, ⟨25, 16, .rw⟩, ⟨2, 0, .rw⟩]⟩
abbrev F.CRC_RESET_CTRL_GO : Fld := ⟨63, 63⟩
abbrev F.CRC_RESET_CTRL_CONFIRM : Fld := ⟨47, 32⟩
abbrev F.CRC_RESET_CTRL_TARGET : Fld := ⟨25, 16⟩
abbrev F.CRC_RESET_CTRL_LEVEL : Fld := ⟨2, 0⟩
/-- CRC_RESET_STATUS (17_bringup_and_reset.md). -/
def R.CRC_RESET_STATUS : Card := ⟨.crc, 0x48, 64, 1, 8, .one, fun _ _ => 0, []⟩
abbrev F.CRC_RESET_STATUS_WARM_COUNT : Fld := ⟨63, 48⟩
abbrev F.CRC_RESET_STATUS_CAUSE : Fld := ⟨47, 44⟩
abbrev F.CRC_RESET_STATUS_ERROR : Fld := ⟨15, 8⟩
abbrev F.CRC_RESET_STATUS_LEVEL : Fld := ⟨7, 5⟩
abbrev F.CRC_RESET_STATUS_DONE : Fld := ⟨1, 1⟩
abbrev F.CRC_RESET_STATUS_BUSY : Fld := ⟨0, 0⟩
/-- MGT_I3C_STATUS (18_management_and_telemetry.md). -/
def R.MGT_I3C_STATUS : Card := ⟨.mgt, 0x0, 32, 1, 8, .one, fun _ _ => 0x4500, []⟩
abbrev F.MGT_I3C_STATUS_EID : Fld := ⟨31, 24⟩
abbrev F.MGT_I3C_STATUS_MRL : Fld := ⟨15, 8⟩
abbrev F.MGT_I3C_STATUS_IBI_ENABLED : Fld := ⟨7, 7⟩
abbrev F.MGT_I3C_STATUS_DYN_ADDR : Fld := ⟨6, 0⟩
/-- TEL_SENSOR (18_management_and_telemetry.md). -/
def R.TEL_SENSOR : Card := ⟨.tel, 0x200, 64, 128, 8, .one, fun _ _ => 0, []⟩
abbrev F.TEL_SENSOR_AGE_MS : Fld := ⟨47, 34⟩
abbrev F.TEL_SENSOR_STALE : Fld := ⟨33, 33⟩
abbrev F.TEL_SENSOR_VALID : Fld := ⟨32, 32⟩
abbrev F.TEL_SENSOR_VALUE : Fld := ⟨31, 0⟩
/-- TEL_SENSOR_THRESH (18_management_and_telemetry.md). -/
def R.TEL_SENSOR_THRESH : Card := ⟨.tel, 0xa00, 32, 128, 4, .one, fun _ _ => 0, [⟨31, 0, .rw⟩]⟩
abbrev F.TEL_SENSOR_THRESH_THRESH : Fld := ⟨31, 0⟩
/-- TEL_POWER_CTRL (18_management_and_telemetry.md). -/
def R.TEL_POWER_CTRL : Card := ⟨.tel, 0x100, 32, 1, 8, .one, fun _ _ => 0x5f6407d0, [⟨31, 26, .rw⟩, ⟨25, 24, .rw⟩, ⟨23, 16, .rw⟩, ⟨11, 0, .rw⟩]⟩
abbrev F.TEL_POWER_CTRL_WARN_C : Fld := ⟨31, 26⟩
abbrev F.TEL_POWER_CTRL_RATIO : Fld := ⟨25, 24⟩
abbrev F.TEL_POWER_CTRL_THROTTLE_C : Fld := ⟨23, 16⟩
abbrev F.TEL_POWER_CTRL_POWER_LIMIT_W : Fld := ⟨11, 0⟩
/-- TEL_GUN_CTRL (18_management_and_telemetry.md). -/
def R.TEL_GUN_CTRL : Card := ⟨.tel, 0x0, 32, 1, 8, .one, fun _ _ => 2, [⟨7, 7, .wo⟩, ⟨6, 6, .rw⟩, ⟨5, 5, .wo⟩, ⟨4, 4, .rw⟩, ⟨3, 3, .rw⟩, ⟨2, 2, .rw⟩, ⟨1, 1, .rw⟩]⟩
abbrev F.TEL_GUN_CTRL_FIRE : Fld := ⟨7, 7⟩
abbrev F.TEL_GUN_CTRL_SPREAD : Fld := ⟨6, 6⟩
abbrev F.TEL_GUN_CTRL_ARM : Fld := ⟨5, 5⟩
abbrev F.TEL_GUN_CTRL_LOCK : Fld := ⟨4, 4⟩
abbrev F.TEL_GUN_CTRL_SNAP_OUT_EN : Fld := ⟨3, 3⟩
abbrev F.TEL_GUN_CTRL_PIN_EN : Fld := ⟨2, 2⟩
abbrev F.TEL_GUN_CTRL_GUN_RX_EN : Fld := ⟨1, 1⟩
/-- TEL_GUN_TARGET (18_management_and_telemetry.md). -/
def R.TEL_GUN_TARGET : Card := ⟨.tel, 0x8, 64, 1, 8, .one, fun _ _ => 0, [⟨63, 0, .rw⟩]⟩
abbrev F.TEL_GUN_TARGET_TARGET : Fld := ⟨63, 0⟩
/-- TEL_GUN_STATUS (18_management_and_telemetry.md). -/
def R.TEL_GUN_STATUS : Card := ⟨.tel, 0x10, 64, 1, 8, .one, fun _ _ => 0, [⟨2, 2, .w1c⟩, ⟨1, 1, .w1c⟩]⟩
abbrev F.TEL_GUN_STATUS_SEQ_IN : Fld := ⟨63, 48⟩
abbrev F.TEL_GUN_STATUS_SEQ_OUT : Fld := ⟨47, 32⟩
abbrev F.TEL_GUN_STATUS_SEQ : Fld := ⟨31, 16⟩
abbrev F.TEL_GUN_STATUS_ARMED : Fld := ⟨3, 3⟩
abbrev F.TEL_GUN_STATUS_MISSED : Fld := ⟨2, 2⟩
abbrev F.TEL_GUN_STATUS_FIRED : Fld := ⟨1, 1⟩
/-- TEL_GUN_FIRE_TIME (18_management_and_telemetry.md). -/
def R.TEL_GUN_FIRE_TIME : Card := ⟨.tel, 0x18, 64, 1, 8, .one, fun _ _ => 0, []⟩
abbrev F.TEL_GUN_FIRE_TIME_TIME : Fld := ⟨63, 0⟩
/-- TEL_REPORT_RING (18_management_and_telemetry.md). -/
def R.TEL_REPORT_RING : Card := ⟨.tel, 0x20, 64, 1, 8, .one, fun _ _ => 0, [⟨63, 59, .rw⟩, ⟨47, 12, .rw⟩]⟩
abbrev F.TEL_REPORT_RING_LOG2_ENTRIES : Fld := ⟨63, 59⟩
abbrev F.TEL_REPORT_RING_BASE : Fld := ⟨47, 12⟩
/-- CRC_AVS (19_package_and_electrical.md). -/
def R.CRC_AVS : Card := ⟨.crc, 0x60, 64, 1, 8, .one, fun _ _ => 0, []⟩
abbrev F.CRC_AVS_READ_MV : Fld := ⟨47, 32⟩
abbrev F.CRC_AVS_TARGET_MV : Fld := ⟨31, 16⟩
/-- CRC_AVS_FUSED (19_package_and_electrical.md). -/
def R.CRC_AVS_FUSED : Card := ⟨.crc, 0x68, 64, 1, 8, .one, fun _ _ => Config.fusedAvs, []⟩
abbrev F.CRC_AVS_FUSED_MV_1500 : Fld := ⟨63, 48⟩
abbrev F.CRC_AVS_FUSED_MV_1350 : Fld := ⟨47, 32⟩
abbrev F.CRC_AVS_FUSED_MV_1200 : Fld := ⟨31, 16⟩
abbrev F.CRC_AVS_FUSED_MV_1000 : Fld := ⟨15, 0⟩
/-- MGT_RAIL (19_package_and_electrical.md). -/
def R.MGT_RAIL : Card := ⟨.mgt, 0x400, 32, 12, 8, .one, fun _ k => 0x80000040 + k, [⟨31, 31, .rw⟩, ⟨23, 16, .rw⟩, ⟨6, 0, .rw⟩]⟩
abbrev F.MGT_RAIL_PRESENT : Fld := ⟨31, 31⟩
abbrev F.MGT_RAIL_PAGE : Fld := ⟨23, 16⟩
abbrev F.MGT_RAIL_ADDR : Fld := ⟨6, 0⟩
/-- CNT_GLB (15_partitions_and_security.md R465, R493, R517). -/
def R.CNT_GLB : Card := ⟨.glb, 0x1000, 64, 21, 8, .one, fun _ _ => 0, []⟩
/-- CNT_SEQ (R439, R493). -/
def R.CNT_SEQ : Card := ⟨.seq, 0x1000, 64, 10, 8, .part2000, fun _ _ => 0, []⟩
/-- CNT_CLU (R169). -/
def R.CNT_CLU : Card := ⟨.clu, 0x1000, 64, 15, 8, .one, fun _ _ => 0, []⟩
/-- CNT_HBM (R245, R307). -/
def R.CNT_HBM : Card := ⟨.hbm, 0x1000, 64, 16, 8, .one, fun _ _ => 0, []⟩
/-- CNT_BLK (R245). -/
def R.CNT_BLK : Card := ⟨.blk, 0x1000, 64, 6, 8, .one, fun _ _ => 0, []⟩
/-- CNT_EMB (R245, R272). -/
def R.CNT_EMB : Card := ⟨.emb, 0x1800, 64, 17, 8, .part2000, fun _ _ => 0, []⟩
/-- CNT_FAB (R365). -/
def R.CNT_FAB : Card := ⟨.fab, 0x1000, 64, 13, 8, .one, fun _ _ => 0, []⟩
/-- CNT_RLY (R365, R390, R493). -/
def R.CNT_RLY : Card := ⟨.rly, 0x5000, 64, 19, 8, .one, fun _ _ => 0, []⟩
/-- CNT_HST (R423). -/
def R.CNT_HST : Card := ⟨.hst, 0x1000, 64, 13, 8, .one, fun _ _ => 0, []⟩
/-- CNT_TEL (R539, R566). -/
def R.CNT_TEL : Card := ⟨.tel, 0x1000, 64, 6, 8, .one, fun _ _ => 0, []⟩
/-- CNT_SAT (R209). -/
def R.CNT_SAT : Card := ⟨.clu, 0x1100, 64, 16, 8, .one, fun _ _ => 0, []⟩
/-- CNT_BF_SAT (R209). -/
def R.CNT_BF_SAT : Card := ⟨.clu, 0x1180, 64, 3, 8, .one, fun _ _ => 0, []⟩

/-- Cards of each block. -/
def Blk.cards : Blk → List Card
  | .glb => [R.GLB_DEVICE_ID, R.GLB_REMAP_STATUS, R.GLB_CLUSTER_REMAP, R.GLB_STATE, R.GLB_PAGE_ATTR, R.GLB_DIGEST_KEY, R.GLB_WEIGHT_DIGEST, R.GLB_PART_CLUSTERS, R.GLB_PART_BANKS, R.GLB_PART_CONFIG, R.GLB_PART_SHARE, R.GLB_ERR_FATAL, R.GLB_ERR_FATAL_LAP, R.GLB_ERR_FATAL_DATA, R.GLB_FENCE_REQ, R.GLB_FENCE_POLICY, R.GLB_SPARE_STATUS, R.GLB_BRINGUP_CMD, R.GLB_BRINGUP_STATUS, R.GLB_MEMTEST_RESULT, R.CNT_GLB]
  | .clu => [R.CLU_CORE_REMAP, R.CLU_CORE_FAULT, R.CLU_BF_TASK, R.CLU_BF_LOAD_SRC, R.CLU_BF_LOAD_CTRL, R.CLU_BF_STATUS, R.CLU_CAL_BIND, R.CNT_CLU, R.CNT_SAT, R.CNT_BF_SAT]
  | .crc => [R.CRC_CCLK_SELECT, R.CRC_DROOP_CTRL, R.CRC_RESET_CTRL, R.CRC_RESET_STATUS, R.CRC_AVS, R.CRC_AVS_FUSED]
  | .seq => [R.SEQ_COURSE_ARM, R.SEQ_LEG_TABLE, R.SEQ_LAP_CONFIG, R.SEQ_LAP_NUMBERS, R.SEQ_RUN_CONTROL, R.SEQ_POSITION, R.SEQ_RECORD_RING, R.SEQ_REPLAY_RING, R.SEQ_COURSE_STORE, R.SEQ_COURSE_LOAD_SRC, R.SEQ_COURSE_LOAD_CTRL, R.SEQ_COURSE_LOAD_STATUS, R.SEQ_SLOT_STATUS, R.SEQ_SLOT_DIGEST, R.SEQ_STRIDE_DIGEST_PENDING, R.SEQ_STRIDE_DIGEST, R.SEQ_LAP_COURSE_DIGEST, R.SEQ_STRIDE_LOAD_SRC, R.SEQ_STRIDE_LOAD_CTRL, R.SEQ_STRIDE_LOAD_STATUS, R.SEQ_STRIDE_EXPECT, R.SEQ_STRIDE_GUARD_PENDING, R.SEQ_STRIDE_GUARD, R.SEQ_STRIDE_MASTER, R.SEQ_SEED0, R.SEQ_SEED1, R.SEQ_DRAW_RANK, R.SEQ_CAL_TABLE, R.SEQ_CAL_STATUS, R.SEQ_SEAL_RING, R.SEQ_LAP_STATE, R.SEQ_REPLAY_POS, R.SEQ_AUDIT_CTRL, R.SEQ_LAP_SEAL, R.SEQ_AUDIT_STATUS, R.SEQ_ERR_FIRST, R.SEQ_ERR_FIRST_LAP, R.SEQ_ERR_FIRST_DATA, R.CNT_SEQ]
  | .hbm => [R.HBM_STATUS, R.HBM_SCRUB, R.AKC_ENGINES, R.AKC_ENGINE_FENCE, R.AKC_LEDGER_TABLE, R.AKC_SWEEP_STATUS, R.AKC_HASH_SRC, R.AKC_HASH_CTRL, R.CNT_HBM]
  | .blk => [R.BLK_STATUS, R.BLK_CTRL, R.CNT_BLK]
  | .emb => [R.EMB_PLACE_TABLE, R.EMB_PLACE_CTRL, R.EMB_PLACE_EPOCH, R.EMB_FAR_AREA, R.EMB_FAR_SIZE, R.EMB_FAR_DOORBELL, R.EMB_FAR_RING, R.EMB_FAR_RING_PTR, R.EMB_CTRL, R.EMB_TABLE_BASE, R.EMB_REPLICA_KEY, R.EMB_DEFER_AREA, R.EMB_TIMEOUT, R.EMB_RANK_MAP, R.EMB_STATUS, R.CNT_EMB]
  | .fab => [R.FAB_LINK_CTRL, R.FAB_ROLE, R.FAB_LINK_STATUS, R.FAB_LANE_STATUS, R.FAB_LINK_TUNE, R.FAB_PEER_UID, R.FAB_PEER, R.FAB_TIME_ASYM, R.CNT_FAB]
  | .rly => [R.RLY_FABRIC_DIMS, R.RLY_FABRIC_COORD, R.RLY_TIME_NOW, R.RLY_TIME_STATUS, R.RLY_TIME_CTRL, R.RLY_TIME_SET, R.RLY_CTRL, R.RLY_COMM_TABLE, R.RLY_JOB, R.RLY_DEFER_AREA, R.RLY_FABRIC_DIGEST, R.RLY_SPLIT_STATUS, R.RLY_TRIGGER, R.RLY_SETTINGS_DIGEST, R.CNT_RLY]
  | .hst => [R.HST_LINK_STATUS, R.HST_CPL_TIMEOUT, R.HST_HOST_WATCH, R.HST_HEARTBEAT, R.HST_ATTACH, R.HST_BIAS_TABLE, R.HST_INTAKE_RING, R.HST_INTAKE_STATUS, R.HST_INPUT_DIGEST, R.HST_CPL_STORE, R.HST_WINSEG, R.CNT_HST]
  | .que => [R.QUE_TABLE, R.QUE_ENABLE, R.QUE_FN_RANGE, R.QUE_FN_WEIGHT, R.QUE_FN_EVENT]
  | .sec => [R.SEC_HOSTKEY, R.SEC_FWUP_SRC, R.SEC_FWUP_CTRL, R.SEC_FW_STATUS]
  | .mgt => [R.MGT_RELAY_ADDR, R.MGT_RELAY_DATA, R.MGT_RELAY_CTRL, R.MGT_I3C_STATUS, R.MGT_RAIL]
  | .tel => [R.TEL_SENSOR, R.TEL_SENSOR_THRESH, R.TEL_POWER_CTRL, R.TEL_GUN_CTRL, R.TEL_GUN_TARGET, R.TEL_GUN_STATUS, R.TEL_GUN_FIRE_TIME, R.TEL_REPORT_RING, R.CNT_TEL]

/-- All blocks. -/
def Blk.all : List Blk := [.glb, .crc, .seq, .clu, .hbm, .blk, .emb, .fab, .rly, .hst, .que, .sec, .mgt, .tel]

/-- The block and instance that hold register-range offset `o` (Table 1-9). -/
def blockAt (o : Nat) : Option (Blk × Nat) :=
  (Blk.all.find? (fun b => b.base ≤ o && o < b.base + b.instances * 0x100000)).map
    (fun b => (b, (o - b.base) / 0x100000))

/-- The views a block offset may lie in, as partition and offset of the card within it (Table 15-2). -/
def viewsAt (b : Blk) (o : Nat) : List (View × Nat × Nat) :=
  match b with
  | .seq | .emb => if o < 64 * 0x2000 then [(.part2000, o / 0x2000, o % 0x2000)] else []
  | .rly => if o < 0x4000 then [(.part100, o / 0x100, o % 0x100)] else [(.one, 0, o)]
  -- GLB_DIGEST_KEY and GLB_WEIGHT_DIGEST lie from 0x100 in partition 0, so p's copy lies from 0x8100 + p * 0x100
  | .glb => [(.one, 0, o), (.glbPart, 0, o)] ++
      (if 0x8200 ≤ o ∧ o < 0xC100 then [(.glbPart, (o - 0x8100) / 0x100, (o - 0x8100) % 0x100 + 0x100)] else [])
  | .hst => [(.one, 0, o), (.glbPart, 0, o)] ++
      (if 0x8100 ≤ o ∧ o < 0x8000 + 64 * 0x100 then [(.glbPart, (o - 0x8000) / 0x100, (o - 0x8000) % 0x100)] else [])
  | _ => [(.one, 0, o)]

/-- A register found by offset: its card, its instance or partition, and its entry. -/
structure RegAt where
  card : Card
  unit : Nat
  idx : Nat

/-- The entry of card `c` at block offset `o`. -/
def Card.entryAt (c : Card) (o : Nat) : Option Nat :=
  if c.off ≤ o ∧ (o - c.off) % c.stride = 0 ∧ (o - c.off) / c.stride < c.count then some ((o - c.off) / c.stride) else none

/-- The register at register-range offset `o` below the effective images; none at a hole (R15). Sensors are numbered
from 1 (R528). -/
def regAt (o : Nat) : Option RegAt :=
  if o = 0x12000200 ∨ o = 0x12000A00 then none else
  match blockAt o with
  | none => none
  | some (b, i) =>
    let w := (o - b.base) % 0x100000
    (viewsAt b w).findSome? fun (v, p, x) =>
      b.cards.findSome? fun c =>
        if c.view = v then (c.entryAt x).map (fun k => ⟨c, if b.instances = 1 then p else i, k⟩) else none

end Sys2Proof.Machine
end

