-- ==== Sys2Proof/Machine/Events.lean ====
section
/-! DEFINITION. Event codes, classes and scopes (16_reliability_and_fencing.md R466, R472, R476 Table 16-4;
18_management_and_telemetry.md R538 Table 18-9; 19_package_and_electrical.md R565 Table 19-13). -/

namespace Sys2Proof.Machine

/-- The class column of Table 16-4: an error class, no class, or the class Table 16-2 gives the requester. -/
inductive EvClass where
  | c | d | l | p | f | none | req
deriving DecidableEq, Repr

/-- Record code of a class (Table 16-1; 7 for none). -/
def EvClass.code : EvClass → Nat
  | .c => 0 | .d => 1 | .l => 2 | .p => 3 | .f => 4 | .none => 7 | .req => 7

/-- Delivery scope (R472). -/
inductive EvScope where
  | chip | part | fn | all
deriving DecidableEq, Repr

/-- An event of the tables. -/
structure Ev where
  code : Nat
  cls : EvClass
  scope : EvScope
deriving DecidableEq, Repr

/-- EV_REG_ACCESS, data form V. -/
def E.REG_ACCESS : Ev := ⟨0x0001, .none, .chip⟩
/-- EV_ADDR_UNMAPPED, data form A. -/
def E.ADDR_UNMAPPED : Ev := ⟨0x0002, .req, .part⟩
/-- EV_UNIT_FENCED, data form U. -/
def E.UNIT_FENCED : Ev := ⟨0x0003, .none, .part⟩
/-- EV_SHAPE_LOST, data form U. -/
def E.SHAPE_LOST : Ev := ⟨0x0004, .none, .part⟩
/-- EV_FATAL_HW, data form U. -/
def E.FATAL_HW : Ev := ⟨0x0005, .f, .all⟩
/-- EV_PART_CONFIG, data form V. -/
def E.PART_CONFIG : Ev := ⟨0x0006, .none, .chip⟩
/-- EV_TENANT_VIOLATION, data form A. -/
def E.TENANT_VIOLATION : Ev := ⟨0x0007, .req, .part⟩
/-- EV_MESH_LANE_SPARED, data form U. -/
def E.MESH_LANE_SPARED : Ev := ⟨0x0008, .c, .chip⟩
/-- EV_BRIDGE_SPARED, data form U. -/
def E.BRIDGE_SPARED : Ev := ⟨0x0009, .c, .chip⟩
/-- EV_BRIDGE_DESKEW, data form U. -/
def E.BRIDGE_DESKEW : Ev := ⟨0x0101, .none, .chip⟩
/-- EV_CCLK_REJECTED, data form V. -/
def E.CCLK_REJECTED : Ev := ⟨0x0102, .none, .chip⟩
/-- EV_DROOP, data form V. -/
def E.DROOP : Ev := ⟨0x0103, .none, .chip⟩
/-- EV_SEQ_LOCKSTEP, data form W. -/
def E.SEQ_LOCKSTEP : Ev := ⟨0x0201, .f, .all⟩
/-- EV_LEG_OVERRUN, data form W. -/
def E.LEG_OVERRUN : Ev := ⟨0x0202, .p, .part⟩
/-- EV_SHADOW_BUSY, data form V. -/
def E.SHADOW_BUSY : Ev := ⟨0x0203, .none, .part⟩
/-- EV_START_REJECTED, data form V. -/
def E.START_REJECTED : Ev := ⟨0x0204, .none, .part⟩
/-- EV_PEER_STALL, data form P. -/
def E.PEER_STALL : Ev := ⟨0x0205, .none, .part⟩
/-- EV_REPLAY_MISSING, data form V. -/
def E.REPLAY_MISSING : Ev := ⟨0x0206, .none, .part⟩
/-- EV_JOURNAL_OVERFLOW, data form W. -/
def E.JOURNAL_OVERFLOW : Ev := ⟨0x0207, .none, .part⟩
/-- EV_LEG_RETRY_LIMIT, data form W. -/
def E.LEG_RETRY_LIMIT : Ev := ⟨0x0208, .f, .all⟩
/-- EV_COURSE_LOADED, data form V. -/
def E.COURSE_LOADED : Ev := ⟨0x0209, .none, .part⟩
/-- EV_ARM_INVALID, data form V. -/
def E.ARM_INVALID : Ev := ⟨0x020A, .none, .part⟩
/-- EV_COURSE_MISSING, data form W. -/
def E.COURSE_MISSING : Ev := ⟨0x020B, .p, .part⟩
/-- EV_COURSE_GEN, data form V. -/
def E.COURSE_GEN : Ev := ⟨0x020C, .p, .part⟩
/-- EV_STRIDE_ENCODING, data form W. -/
def E.STRIDE_ENCODING : Ev := ⟨0x020D, .p, .part⟩
/-- EV_PACE_ORDER, data form W. -/
def E.PACE_ORDER : Ev := ⟨0x020E, .p, .part⟩
/-- EV_LOOP_INVALID, data form W. -/
def E.LOOP_INVALID : Ev := ⟨0x020F, .p, .part⟩
/-- EV_BINDING_MISMATCH, data form W. -/
def E.BINDING_MISMATCH : Ev := ⟨0x0210, .p, .part⟩
/-- EV_TOKEN_OVERFLOW, data form W. -/
def E.TOKEN_OVERFLOW : Ev := ⟨0x0211, .p, .part⟩
/-- EV_ENGINE_QFULL, data form W. -/
def E.ENGINE_QFULL : Ev := ⟨0x0212, .p, .part⟩
/-- EV_STRIDE_GUARD, data form V. -/
def E.STRIDE_GUARD : Ev := ⟨0x0213, .none, .part⟩
/-- EV_STRIDE_UNGUARDED, data form W. -/
def E.STRIDE_UNGUARDED : Ev := ⟨0x0214, .p, .part⟩
/-- EV_CAL_INVALID, data form V. -/
def E.CAL_INVALID : Ev := ⟨0x0215, .none, .part⟩
/-- EV_CAL_DRIFT, data form V. -/
def E.CAL_DRIFT : Ev := ⟨0x0216, .none, .part⟩
/-- EV_CAL_POISON, data form V. -/
def E.CAL_POISON : Ev := ⟨0x0217, .p, .part⟩
/-- EV_VARIANT_STRICT, data form W. -/
def E.VARIANT_STRICT : Ev := ⟨0x0218, .p, .part⟩
/-- EV_LAP_STATE_MISSING, data form N. -/
def E.LAP_STATE_MISSING : Ev := ⟨0x0219, .p, .part⟩
/-- EV_REPLAY_DIVERGED, data form V. -/
def E.REPLAY_DIVERGED : Ev := ⟨0x021A, .none, .part⟩
/-- EV_LEG_TABLE_INVALID, data form V. -/
def E.LEG_TABLE_INVALID : Ev := ⟨0x021B, .none, .part⟩
/-- EV_STRIDE_UE, data form W. -/
def E.STRIDE_UE : Ev := ⟨0x021C, .l, .part⟩
/-- EV_STRIDE_MASTER, data form W. -/
def E.STRIDE_MASTER : Ev := ⟨0x021D, .p, .part⟩
/-- EV_CUE_INVALID, data form W. -/
def E.CUE_INVALID : Ev := ⟨0x0401, .p, .part⟩
/-- EV_CUE_OVERLAP, data form W. -/
def E.CUE_OVERLAP : Ev := ⟨0x0402, .p, .part⟩
/-- EV_SCRATCH_UE, data form U. -/
def E.SCRATCH_UE : Ev := ⟨0x0403, .l, .part⟩
/-- EV_STATIC_PARITY, data form U. -/
def E.STATIC_PARITY : Ev := ⟨0x0404, .l, .part⟩
/-- EV_CUE_FAULT, data form W. -/
def E.CUE_FAULT : Ev := ⟨0x0405, .p, .part⟩
/-- EV_CORE_PARITY, data form U. -/
def E.CORE_PARITY : Ev := ⟨0x0406, .l, .part⟩
/-- EV_BACKFILL_FAULT, data form W. -/
def E.BACKFILL_FAULT : Ev := ⟨0x0407, .none, .part⟩
/-- EV_BACKFILL_LOST, data form U. -/
def E.BACKFILL_LOST : Ev := ⟨0x0408, .none, .part⟩
/-- EV_HBM_REFRESH_2X, data form V. -/
def E.HBM_REFRESH_2X : Ev := ⟨0x0801, .none, .chip⟩
/-- EV_HBM_UE, data form A. -/
def E.HBM_UE : Ev := ⟨0x0802, .d, .part⟩
/-- EV_SCRUB_UE, data form A. -/
def E.SCRUB_UE : Ev := ⟨0x0803, .d, .part⟩
/-- EV_MEM_DESC, data form W. -/
def E.MEM_DESC : Ev := ⟨0x0804, .p, .part⟩
/-- EV_LEDGER_INVALID, data form V. -/
def E.LEDGER_INVALID : Ev := ⟨0x0805, .p, .part⟩
/-- EV_LEDGER_FULL, data form V. -/
def E.LEDGER_FULL : Ev := ⟨0x0806, .p, .part⟩
/-- EV_LEDGER_ANCHOR, data form V. -/
def E.LEDGER_ANCHOR : Ev := ⟨0x0807, .p, .part⟩
/-- EV_AKC_COMMAND, data form W. -/
def E.AKC_COMMAND : Ev := ⟨0x0808, .p, .part⟩
/-- EV_AKC_POISON, data form A. -/
def E.AKC_POISON : Ev := ⟨0x0809, .d, .part⟩
/-- EV_AKC_ENGINE_ERR, data form U. -/
def E.AKC_ENGINE_ERR : Ev := ⟨0x080A, .c, .chip⟩
/-- EV_AKC_DEGRADED, data form U. -/
def E.AKC_DEGRADED : Ev := ⟨0x080B, .none, .chip⟩
/-- EV_AKC_NO_POOL, data form U. -/
def E.AKC_NO_POOL : Ev := ⟨0x080C, .p, .part⟩
/-- EV_TSV_LANE, data form U. -/
def E.TSV_LANE : Ev := ⟨0x080D, .c, .chip⟩
/-- EV_BULK_UE, data form A. -/
def E.BULK_UE : Ev := ⟨0x0A01, .d, .part⟩
/-- EV_PLACE_INVALID, data form V. -/
def E.PLACE_INVALID : Ev := ⟨0x0B01, .p, .part⟩
/-- EV_FAR_RING_FULL, data form N. -/
def E.FAR_RING_FULL : Ev := ⟨0x0B02, .none, .part⟩
/-- EV_FAR_RECORD, data form V. -/
def E.FAR_RECORD : Ev := ⟨0x0B03, .none, .part⟩
/-- EV_TABLE_INVALID, data form R. -/
def E.TABLE_INVALID : Ev := ⟨0x0B04, .p, .part⟩
/-- EV_ROW_RANGE, data form R. -/
def E.ROW_RANGE : Ev := ⟨0x0B05, .d, .part⟩
/-- EV_RANK_MAP, data form V. -/
def E.RANK_MAP : Ev := ⟨0x0B06, .p, .part⟩
/-- EV_HOT_INVALID, data form V. -/
def E.HOT_INVALID : Ev := ⟨0x0B07, .p, .part⟩
/-- EV_REPLICA_DIVERGED, data form R. -/
def E.REPLICA_DIVERGED : Ev := ⟨0x0B08, .c, .part⟩
/-- EV_EMB_COMMAND, data form W. -/
def E.EMB_COMMAND : Ev := ⟨0x0B09, .p, .part⟩
/-- EV_CARAVAN_TIMEOUT, data form P. -/
def E.CARAVAN_TIMEOUT : Ev := ⟨0x0B0A, .p, .part⟩
/-- EV_REPLICA_HOME_POISON, data form R. -/
def E.REPLICA_HOME_POISON : Ev := ⟨0x0B0B, .p, .part⟩
/-- EV_DISC_MISWIRE, data form U. -/
def E.DISC_MISWIRE : Ev := ⟨0x0C01, .none, .chip⟩
/-- EV_LANE_SPARED, data form U. -/
def E.LANE_SPARED : Ev := ⟨0x0C02, .c, .chip⟩
/-- EV_PORT_DEGRADED, data form U. -/
def E.PORT_DEGRADED : Ev := ⟨0x0C03, .none, .chip⟩
/-- EV_PORT_DOWN, data form U. -/
def E.PORT_DOWN : Ev := ⟨0x0C04, .none, .chip⟩
/-- EV_DISC_CONFLICT, data form U. -/
def E.DISC_CONFLICT : Ev := ⟨0x0C05, .none, .chip⟩
/-- EV_STANDIN_PEER, data form U. -/
def E.STANDIN_PEER : Ev := ⟨0x0C06, .none, .chip⟩
/-- EV_QP_UNBOUND, data form P. -/
def E.QP_UNBOUND : Ev := ⟨0x0D01, .none, .part⟩
/-- EV_CONFIG_SPLIT, data form V. -/
def E.CONFIG_SPLIT : Ev := ⟨0x0D02, .none, .part⟩
/-- EV_FAB_PKT_CRC, data form P. -/
def E.FAB_PKT_CRC : Ev := ⟨0x0D03, .c, .part⟩
/-- EV_CFG_GEN_MISMATCH, data form P. -/
def E.CFG_GEN_MISMATCH : Ev := ⟨0x0D04, .none, .part⟩
/-- EV_FAB_UNROUTABLE, data form V. -/
def E.FAB_UNROUTABLE : Ev := ⟨0x0D05, .none, .chip⟩
/-- EV_TIME_WRAP, data form N. -/
def E.TIME_WRAP : Ev := ⟨0x0D06, .none, .chip⟩
/-- EV_TIME_NO_ROOT, data form N. -/
def E.TIME_NO_ROOT : Ev := ⟨0x0D07, .none, .chip⟩
/-- EV_TIME_STALE, data form V. -/
def E.TIME_STALE : Ev := ⟨0x0D08, .none, .chip⟩
/-- EV_RLY_DESC, data form W. -/
def E.RLY_DESC : Ev := ⟨0x0D09, .p, .part⟩
/-- EV_COLL_ORDER, data form P. -/
def E.COLL_ORDER : Ev := ⟨0x0D0A, .p, .part⟩
/-- EV_RELAY_TIMEOUT, data form P. -/
def E.RELAY_TIMEOUT : Ev := ⟨0x0D0B, .p, .part⟩
/-- EV_TRIGGER_FULL, data form W. -/
def E.TRIGGER_FULL : Ev := ⟨0x0D0C, .p, .part⟩
/-- EV_TRIGGER_STUCK, data form V. -/
def E.TRIGGER_STUCK : Ev := ⟨0x0D0D, .p, .part⟩
/-- EV_FABRIC_TENANT, data form P. -/
def E.FABRIC_TENANT : Ev := ⟨0x0D0E, .none, .part⟩
/-- EV_WINDOW_REFUSED, data form A. -/
def E.WINDOW_REFUSED : Ev := ⟨0x0E01, .none, .fn⟩
/-- EV_BIAS_INVALID, data form A. -/
def E.BIAS_INVALID : Ev := ⟨0x0E02, .p, .part⟩
/-- EV_HOST_CPL_TIMEOUT, data form A. -/
def E.HOST_CPL_TIMEOUT : Ev := ⟨0x0E03, .d, .part⟩
/-- EV_HOST_COMMAND, data form W. -/
def E.HOST_COMMAND : Ev := ⟨0x0E04, .p, .part⟩
/-- EV_INTAKE_WRITE, data form A. -/
def E.INTAKE_WRITE : Ev := ⟨0x0E05, .none, .fn⟩
/-- EV_HOST_LOST, data form N. -/
def E.HOST_LOST : Ev := ⟨0x0E06, .none, .all⟩
/-- EV_QUEUE_ERROR, data form V. -/
def E.QUEUE_ERROR : Ev := ⟨0x0F01, .none, .fn⟩
/-- EV_HOST_KEY_MISSING, data form V. -/
def E.HOST_KEY_MISSING : Ev := ⟨0x1001, .p, .part⟩
/-- EV_FW_VERIFIED, data form V. -/
def E.FW_VERIFIED : Ev := ⟨0x1002, .none, .chip⟩
/-- EV_MGT_ADDR, data form V. -/
def E.MGT_ADDR : Ev := ⟨0x1101, .none, .chip⟩
/-- EV_GUN_FIRED, data form V. -/
def E.GUN_FIRED : Ev := ⟨0x1201, .none, .chip⟩
/-- EV_GUN_MISSED, data form V. -/
def E.GUN_MISSED : Ev := ⟨0x1202, .none, .chip⟩
/-- EV_SENSOR_HIGH, data form V. -/
def E.SENSOR_HIGH : Ev := ⟨0x1203, .none, .chip⟩
/-- EV_THERMAL_WARN, data form V. -/
def E.THERMAL_WARN : Ev := ⟨0x1204, .none, .chip⟩
/-- EV_THROTTLE, data form V. -/
def E.THROTTLE : Ev := ⟨0x1205, .none, .chip⟩
/-- EV_THERMAL_TRIP, data form V. -/
def E.THERMAL_TRIP : Ev := ⟨0x1206, .f, .all⟩
/-- EV_SYSREF_LOST, data form V. -/
def E.SYSREF_LOST : Ev := ⟨0x0104, .f, .all⟩
/-- EV_OEREF_LOST, data form V. -/
def E.OEREF_LOST : Ev := ⟨0x0105, .none, .chip⟩
/-- EV_AVS_FAIL, data form V. -/
def E.AVS_FAIL : Ev := ⟨0x0106, .f, .all⟩
/-- EV_RAIL_FAULT, data form V. -/
def E.RAIL_FAULT : Ev := ⟨0x1102, .f, .all⟩
/-- EV_RAIL_WARN, data form V. -/
def E.RAIL_WARN : Ev := ⟨0x1103, .none, .chip⟩

end Sys2Proof.Machine
end

