-- ==== Sys2Proof/Machine/State.lean ====
section
/-! DEFINITION. The block's state as plain data: every register, memory, buffer, queue, counter, mode and pin of the
spec, the queue of waiting commands, and State.reset. -/

namespace Sys2Proof.Machine

/-- What the device keeps with each 64-byte granule: the poison mark (R137, R229), the key the stored data is under
(R455; log 12) and a stored error not yet read, 1 correctable, 2 uncorrectable (R228, R229; log 13). -/
structure Gran where
  poison : Bool := false
  key : Nat := 0
  latent : Nat := 0
deriving DecidableEq, Repr

/-- An event record (R411, R471). -/
structure EventRec where
  code : Nat
  cls : Nat
  leg : Nat
  lap : Nat
  d0 : Nat
  d1 : Nat
  time : Nat
deriving DecidableEq, Repr

/-- An entry that waits in the completion store for a slot of its queue (R412): the function it counts against, its
global queue and its 32 bytes. -/
structure StoreEntry where
  fn : Nat
  queue : Nat
  bytes : List Byte
  /-- It has found its queue full and been counted (R412). -/
  waited : Bool := false
deriving DecidableEq, Repr

/-- What leaves the block, in the order it leaves: the outside world's view. -/
inductive Emit where
  /-- A packet queued to the fabric, with its port. -/
  | packet (port : Nat) (bytes : List Byte)
  /-- A link frame sent on a port (R330). -/
  | frame (port : Nat) (bytes : List Byte)
  /-- A control flit queued on a port: TIME, CREDIT, LINK_INFO, COORD (R330, R349, R350, R359). -/
  | flit (port : Nat) (bytes : List Byte)
  /-- Completion of a host read or write: status 0 success, 1 Unsupported Request; data; poison (R396). -/
  | hostCpl (status : Nat) (data : List Byte) (poison : Bool)
  /-- A read request to the host under a tag and generation (R401). -/
  | hostRead (tag gen addr len : Nat)
  /-- A write to host memory that carries poison (R397, R414). -/
  | hostPoison (addr : Nat)
  /-- An interrupt message of a function's vector (R410). -/
  | irq (fn vector : Nat)
  /-- Answer to an I3C CCC: acknowledged or not, with its data (R518). -/
  | ccc (ack : Bool) (data : List Byte)
  /-- An in-band interrupt with its mandatory data byte (R521). -/
  | ibi (data : Byte)
  /-- A Hot-Join request (R520). -/
  | hotJoin
  /-- An MCTP message sent on a transport: 0 I3C, 1 PCIe VDM, 2 DOE (R522). -/
  | mctp (transport : Nat) (bytes : List Byte)
  /-- A package output driven: its name and level. -/
  | pin (name : String) (level : Nat)
  /-- The TAP data register selected, with its captured value (R560). -/
  | tap (register : String) (width value : Nat)
  /-- A register value returned to a requester. -/
  | regValue (offset value : Nat)
  /-- An SPDM response on a transport: its name and what Table 15-7 and 15-8 put in it (R460). -/
  | spdm (transport : Nat) (name : String) (data : List Byte)
  /-- An AVSBus or PMBus transaction started (R547, R549). -/
  | bus (name : String) (address data : Nat)
deriving DecidableEq, Repr

/-- An engine command: a filled engine slot of a stride word (R109), or a triggered one (R379). -/
structure EngCmd where
  part : Nat := 0
  target : Nat := 0
  binding : Nat := 0
  opcode : Nat := 0
  token : Nat := 0
  desc : Nat := 0
  count : Nat := 0
  offset : Nat := 0
  /-- Stride position of the issue, for event data (R471). -/
  pos : Nat := 0
  /-- Fired by a trigger (R379), whose NEXT_CTR is `nextCtr`. -/
  trig : Bool := false
  nextCtr : Nat := 0xFFFF
  /-- Issue number within the partition; the engine has taken the command. -/
  id : Nat := 0
  started : Bool := false
deriving DecidableEq, Repr

/-- An entry of the lap record (Table 2-8). -/
structure RecEntry where
  typ : Nat
  leg : Nat := 0
  code : Nat := 0
  source : Nat := 0
  item : Nat := 0
  value : Nat := 0
  time : Nat := 0
deriving DecidableEq, Repr

/-- A stage-map entry (stage, enabled, sixteen group masks). -/
structure StageEnt where
  stage : Nat := 0
  enabled : Bool := false
  groups : List Nat := []
deriving DecidableEq, Repr

/-- A static route record (R95). -/
structure Route where
  srcC : Nat
  srcK : Nat
  srcPort : Nat
  dstC : Nat
  dstK : Nat
  dstPort : Nat
  plane : Nat
  via : Nat
deriving DecidableEq, Repr

/-- An engine binding (R96). -/
structure Binding where
  target : Nat := 0
  inst : Nat := 0
  queue : Nat := 0
  part : Nat := 0
  tenant : Nat := 0
  base : Nat := 0
deriving DecidableEq, Repr

/-- A region record (R98). -/
structure Region where
  kind : Nat
  ctx : Nat
  base : Nat
  size : Nat
deriving DecidableEq, Repr

/-- The parts of a course in force in a partition's hubs and sequencer context (03_program_image.md). -/
structure Course where
  loadCycles : Nat := 0
  clusters : Nat := 0
  gen : Nat := 0
  digest : List Byte := []
  stages : List StageEnt := []
  routes : List Route := []
  binds : List Binding := []
  loops : List (Nat × Nat) := []
  axes : List Nat := []
  regions : List Region := []
deriving DecidableEq, Repr

/-- A codebook slot (06_quantisation.md): format, value format and values. -/
structure Codebook where
  format : Nat
  vformat : Nat
  values : List Nat
deriving DecidableEq, Repr

/-- An accumulator tile of 64 x 32 lanes, row-major; `typ` is 0 untyped, 1 FP32, 2 INT32 (R142). -/
structure Tile where
  typ : Nat := 0
  lanes : Sp Nat := []
  poison : Bool := false
deriving DecidableEq, Repr

/-- A vector register of 64 lanes with its poison bit (R137). -/
structure VReg where
  lanes : List Nat := List.replicate 64 0
  poison : Bool := false
deriving DecidableEq, Repr

/-- A calibration channel (Table 6-4); `amax` is FP32 bits. -/
structure Chan where
  elems : Nat := 0
  sat : Nat := 0
  nonfin : Nat := 0
  amax : Nat := 0
deriving DecidableEq, Repr

/-- What an issue writes once its latency has passed (R131). A lane of `none` stays as it is. -/
inductive Eff where
  | vreg (i : Nat) (lanes : List (Option Nat)) (poison : Bool)
  | mask (i keep value : Nat)
  | tile (i : Nat) (t : Tile)
  | scratch (parts : List (Nat × List Byte)) (poison : Bool)
deriving DecidableEq, Repr

/-- An effect that becomes visible to issues of cycle `due`; `unit` orders effects of one cycle (R132); `cueAt`,
`entry` and `r` name its issue, `ctx` its context. -/
structure Pend where
  due : Nat
  unit : Nat
  ctx : Nat
  cueAt : Nat
  entry : Nat
  r : Nat
  eff : Eff
deriving DecidableEq, Repr

/-- A cue that a core runs: its context (0 primary, x + 1 backfill context x), first entry, PARAM, the cycle of its
first issue, its issue length, the stride word it came from, and for backfill its task's TAG. -/
structure RunCue where
  ctx : Nat := 0
  first : Nat := 0
  param : Nat := 0
  start : Nat := 0
  il : Nat := 0
  word : Nat := 0
  tag : Nat := 0
deriving DecidableEq, Repr

/-- State of a logical core (04_core.md). An unlisted cue entry or codebook slot is invalid (R94). -/
structure Core where
  cue : Sp (List Byte) := []
  cb : Sp Codebook := []
  /-- Backfill bank: entry `e` of context `x` at 64 x + e (R163). -/
  bank : Sp (List Byte) := []
  tiles : Sp Tile := []
  vregs : Sp VReg := []
  masks : Sp Nat := []
  /-- Receive queues of the four stream ports, oldest first (R156), and arrivals on their way: the cycle from which
  a RECV can take them, the port, the bytes and their poison mark. -/
  rxq : Sp (List (List Byte × Bool)) := []
  arr : List (Nat × Nat × List Byte × Bool) := []
  /-- Dynamic inbox: lanes and poison mark, oldest first. -/
  inbox : List VReg := []
  cues : List RunCue := []
  pend : List Pend := []
  chan : Sp Chan := []
  /-- Live counters of Table 4-12. -/
  live : Sp Nat := []
  /-- A cue fault has been recorded in this leg attempt (R158). -/
  faulted : Bool := false
  /-- The rest run in progress: its first cycle and the cycle after its last. -/
  rest : Option (Nat × Nat) := none
  /-- Request-buffer entries held per token (R153). -/
  held : Sp Nat := []
  /-- A saved quantisation pair: the even issue of a group of 128 (R201). -/
  pair : Option (Nat × Nat × VReg) := none
  /-- The cycle last counted in CNT_BACKFILL_CYCLES, plus one; 0 for none. -/
  bfCycle : Nat := 0
deriving DecidableEq, Repr

/-- A backfill task (R164, R168). -/
structure BfTask where
  ctx : Nat
  mask : Nat
  tag : Nat
  cue : Nat
  param : Nat
  len : Nat
  /-- The function of its context, and for a BACKFILL command nothing more (R408). -/
  fn : Nat := 0
  /-- Cycle of its dispatch, once running. -/
  at_ : Nat := 0
deriving DecidableEq, Repr

/-- A cluster hub (04_core.md): backfill tasks queued, running tasks, the round-robin pointer (R83), and bank loads
in progress per context: source, core mask, first entry and count. -/
structure Hub where
  queue : List BfTask := []
  running : List BfTask := []
  next : Nat := 0
  load : Sp (Nat × Nat × Nat × Nat) := []
  /-- Completion of a BACKFILL_LOAD command that waits for its load: context to command (R409). -/
  loadCmd : List (Nat × Nat) := []
deriving DecidableEq, Repr

/-- A request of the gather/scatter unit (Table 4-6) that has not completed (R152, R153). `wrote` is how many
granules are in the scratchpad; `reqDone` marks that nothing remains but the completion. -/
structure GReq where
  id : Nat
  op : Nat
  core : Nat
  part : Nat
  ctx : Nat := 0
  task : Nat := 0
  token : Nat := 0
  issued : Nat := 0
  entry : Nat := 0
  local_ : Nat := 0
  first : Nat := 0
  count : Nat := 0
  fmt : Nat := 0
  data : VReg := {}
  mask : Nat := 0
  word : Nat := 0
  reqDone : Bool := false
  wait : Nat := 0
deriving DecidableEq, Repr

/-- Physical units: fenced slots per physical cluster (die x 17 + position), fenced hubs, charges per unit word
(R479), fenced mesh lanes and bridge modules and the use of their spares: 0 free, 1 pending, 2 in use (R24, R33, R35). -/
structure Phys where
  slots : Sp Nat := []
  hubs : Nat := 0
  charges : Sp Nat := []
  lanes : Sp Nat := []
  laneUse : Sp Nat := []
  modules : Sp Nat := []
  moduleUse : Sp Nat := []
  /-- Die of the pending static-lane move per link direction and the partitions that still have to move. -/
  lanePart : Sp Nat := []
  /-- Active engines of a pool (stack x 2 + pool) as a mask plus one; as fuse load left them where nothing is listed
  (R273). -/
  akc : Sp Nat := []
deriving DecidableEq, Repr

/-- What a pace point waits for (R68): the token mask, the scheduled resume cycle, the cycle E of the word's last
cycle, and the word's control bits. -/
structure PaceWait where
  mask : Nat
  resume : Nat
  last : Nat
  endLeg : Bool
  loopOp : Bool
  loopId : Nat
  word : Nat
deriving DecidableEq, Repr

/-- A loader operation in progress (R103, R123, R124). -/
structure LoadOp where
  mode : Nat := 0
  src : Nat := 0
  first : Nat := 0
  count : Nat := 0
deriving DecidableEq, Repr

/-- An armed trigger (R379): the command it fires, under its ARM's token, its counters and threshold. -/
structure Trig where
  cmd : EngCmd
  ctr : Nat
  next : Nat
  threshold : Nat
deriving DecidableEq, Repr

/-- An entry of a caravan: a request or refresh for data granules, with the requests merged in it (R256, R262), or a
gradient with its format, data and poison bits (R263). -/
structure CarEntry where
  table : Nat
  row : Nat
  first : Nat
  grans : Nat
  mult : Nat := 0
  reqs : List Nat := []
  fmt : Nat := 0
  data : List Byte := []
  mask : Nat := 0
deriving DecidableEq, Repr

/-- A caravan of this chip (R257, R258): `stage` is 0 open, 1 closed, 2 sent; `got` lists the returned granules by
entry and number. -/
structure Caravan where
  slice : Nat
  owner : Nat
  dir : Nat
  refresh : Bool := false
  convoy : Nat := 0
  attempt : Nat := 0
  index : Nat := 0
  countable : Bool := false
  entries : List CarEntry := []
  stage : Nat := 0
  tag : Nat := 0
  gen : Nat := 0
  tries : Nat := 0
  got : List (Nat × Nat) := []
deriving DecidableEq, Repr

/-- A convoy this chip sends: caravans so far, its closing message due and sent, and its acknowledgement with its
RESULT (R257, R260). -/
structure OutConvoy where
  owner : Nat
  dir : Nat
  convoy : Nat
  attempt : Nat
  cars : Nat := 0
  due : Bool := false
  closed : Bool := false
  acked : Bool := false
  result : Nat := 0
  tries : Nat := 0
deriving DecidableEq, Repr

/-- A caravan received: its segments in order (R264, R265). -/
structure InCar where
  index : Nat
  segs : List (List Byte) := []
  last : Bool := false
deriving DecidableEq, Repr

/-- A convoy received. `stage`: 0 open, 1 credited or applied, 2 late and to be dropped, 3 late and to be added later,
4 deferred, 5 dropped (R264, R265, R268). -/
structure InConvoy where
  src : Nat
  dir : Nat
  convoy : Nat
  attempt : Nat
  qp : Nat := 0
  cars : List InCar := []
  closing : Option Nat := none
  stage : Nat := 0
deriving DecidableEq, Repr

/-- Request entries of one segment that this owner has still to serve, from entry number `next` on (R264, R269). -/
structure Serve where
  qp : Nat
  head : List Byte
  refresh : Bool
  next : Nat
  last : Bool
  entries : List (List Byte)
  seg : Nat := 0
  /-- Segments taken in order, those that came early, and a wait on a sweep already counted. -/
  nseg : Nat := 0
  early : List (List Byte) := []
  waited : Bool := false
deriving DecidableEq, Repr

/-- A contribution kept for the next lap (R75): of a convoy, its REVERSE segments; of a relay, its data and marks, under
its communicator (`src`) and n x 8 + phase (`item`). -/
structure Deferred where
  src : Nat
  item : Nat
  lap : Nat
  segs : List (List Byte)
deriving DecidableEq, Repr

/-- The caravan engine of a partition (08_embedding_tables.md). -/
structure EmbSt where
  cars : List Caravan := []
  outs : List OutConvoy := []
  ins : List InConvoy := []
  serves : List Serve := []
  /-- OFFSET[0] of the CLOSE and REFRESH commands issued in this attempt (R259). -/
  issued : List Nat := []
  /-- Replicas that verified in this lap by table x 2^32 + slot, and requests redirected from divergent ones by
  table x 2^48 + row (R255). -/
  verified : List Nat := []
  diverged : Sp Nat := []
  /-- Refresh entries outstanding and poison seen, by table x 2^48 + row (R269). -/
  refreshLeft : Sp Nat := []
  refreshPoison : List Nat := []
  refreshHash : Sp Nat := []
  /-- The deferred area's contributions (R268). -/
  deferred : List Deferred := []
deriving DecidableEq, Repr

/-- A baton that waits or is unacknowledged (Table 12-5); `bseq` is 0 until it is sent. -/
structure Baton where
  step : Nat
  index : Nat
  empty : Bool := false
  data : List Byte := []
  poison : Nat := 0
  bseq : Nat := 0
deriving DecidableEq, Repr

/-- A phase of a collective that this chip has entered, as a present member (`started`) or as an absent one that joined
at the lead (R370, R374, R382). `lead` is 0 before the first circuit, 1 after it, 2 once the second has passed. -/
structure PhaseRun where
  phase : Nat
  started : Bool := false
  absent : Bool := false
  credits : Nat := 0
  bOut : Nat := 0
  bIn : Nat := 0
  pushed : Bool := false
  outq : List Baton := []
  unacked : List Baton := []
  lead : Nat := 0
  absents : Nat := 0
  applied : Nat := 0
  overdue : Nat := 0
  /-- Batons up to this BSEQ were accepted before a restart and need no slot (R381). -/
  resyncAck : Nat := 0
  succDone : Bool := false
  /-- Deferred values to add to the contribution: bytes and granule marks (R383). -/
  addend : List (List Byte) := []
  isOver : Bool := false
deriving DecidableEq, Repr

/-- A contribution to be deferred: its phase, bytes and granule marks (R383). -/
structure Capture where
  phase : Nat
  bytes : List Byte
  marks : List Byte
deriving DecidableEq, Repr

/-- A collective on this chip (12_relays_and_collectives.md). `stage`: 0 queued behind its queue pair, 1 running, 2
complete. -/
structure Coll where
  comm : Nat
  id : Nat
  seq : Nat
  qp : Nat
  set : Nat
  bind : Nat
  desc : Nat
  d : List Byte
  cmd : Option Nat := none
  stage : Nat := 0
  /-- Joined through a LEAD; its START has come. -/
  absent : Bool := false
  captured : Bool := true
  runs : List PhaseRun := []
  capture : List Capture := []
  tries : Nat := 0
  /-- Its leg is a re-execution, so each phase is resynchronised (R381). -/
  resync : Bool := false
deriving DecidableEq, Repr

/-- The digest relay in progress (R388): its phase, the record, and whether it is complete. -/
structure DigestRun where
  phase : Nat := 0
  acc : List Byte
  sent : Bool := false
  done : Bool := false
deriving DecidableEq, Repr

/-- The relay engine of a partition. -/
structure RlySt where
  colls : List Coll := []
  /-- Collectives started per communicator in the lap, and as of the leg's start (R373). -/
  started : Sp Nat := []
  legStart : Sp Nat := []
  /-- Collectives that an abandoned attempt of this leg had begun: communicator and sequence number (R381). -/
  begun : List (Nat × Nat) := []
  /-- Packets for a sequence number or phase not yet reached (R376). -/
  early : List (List Byte) := []
  /-- Journalled batons and leads still to be delivered again (R381). -/
  replay : List (List Byte) := []
  deferred : List Deferred := []
  digest : Option DigestRun := none
  earlyDigest : List (List Byte) := []
deriving DecidableEq, Repr

/-- A packet queued on a port: its number there, its bytes as it arrived at this chip, and as it is sent. -/
structure TxPkt where
  no : Nat
  orig : List Byte
  sent : List Byte
deriving DecidableEq, Repr

/-- An unacknowledged frame: its SEQ, its forty flit slots, how often it has been sent, and the packets with a flit in
it (R332, R340). -/
structure TxFrame where
  seq : Nat
  slots : List Byte
  sends : Nat := 1
  pkts : List TxPkt := []
deriving DecidableEq, Repr

/-- A Rilvi port's link layer (11_rilvi_fabric.md R326 to R344). -/
structure Port where
  /-- Packets routed to the port, control flits, and the flits left of the packet in transmission with that packet. -/
  txq : List TxPkt := []
  ctrl : List (List Byte) := []
  cur : List (List Byte) := []
  curPkt : TxPkt := ⟨0, [], []⟩
  pktNo : Nat := 0
  /-- Credits held per VC x 4 + class, beyond or short of nothing listed 67 (R343). -/
  credits : Sp Nat := []
  seq : Nat := 0
  replay : List TxFrame := []
  /-- A retransmission in progress: the next SEQ it sends, and where it began. -/
  resend : Option Nat := none
  resendStart : Nat := 0
  expect : Nat := 0
  gapSeen : Bool := false
  nakDue : Bool := false
  /-- The packet being received, and the flits it still needs. -/
  rx : List Byte := []
  rxNeed : Nat := 0
  /-- Packets received whole that wait to be routed. -/
  rxq : List (List Byte) := []
  spareReq : Nat := 15
  spareUse : Nat := 15
  peerReq : Nat := 15
  good : Nat := 0
  /-- Corrected symbols per lane in this window, and lanes marked failing. -/
  win : Sp Nat := []
  failing : List Nat := []
  parkDue : Bool := false
  retrainFails : Nat := 0
  /-- Time exchange: number of the next and t1 of those outstanding. -/
  exch : Nat := 0
  t1s : List (Nat × Nat) := []
  /-- The port has completed a good exchange and it has not expired (R362). -/
  goodExch : Bool := false
  peerDepth : Nat := 255
  peerSync : Bool := false
  /-- Training uses saved settings. -/
  saved : Bool := false
  width4 : Bool := false
  /-- The port keeps the light of its engine off since OE_REFCLK was lost (R555). -/
  noRef : Bool := false
  /-- Unique ID of the peer that the saved settings in use were for (R504). -/
  savedKey : Option Nat := none
deriving DecidableEq, Repr

/-- Run state of a sequencer context (one per partition, R441). `stop` is 0 while the context may issue, 1 once a
class L error ends the attempt (R77), 2 once a class P error stops the partition (R467). -/
structure Part where
  running : Bool := false
  stop : Nat := 0
  lCode : Nat := 0
  nextRepeat : Bool := false
  shapeLost : Bool := false
  heldClusters : List Nat := []
  word : Nat := 0
  /-- Cycles count from the leg's first word: that of the next word, and the latest that a command has named. -/
  cycle : Nat := 0
  now : Nat := 0
  sched : Nat := 0
  pace : Option PaceWait := none
  paceIdx : Nat := 0
  bound : Option Nat := none
  folded : Bool := false
  staged : Option Nat := none
  loops : Sp Nat := []
  tokens : Sp Nat := []
  outstanding : List EngCmd := []
  course : Course := {}
  courseSlot : Nat := 0
  chain : List Byte := List.replicate 32 0
  record : List RecEntry := []
  recPos : Nat := 0
  recIndex : List (Nat × Nat × Nat) := []
  reexecuted : Bool := false
  vIssues : Nat := 0
  lapStartFt : Nat := 0
  lapCycles : Nat := 0
  lapExcess : Nat := 0
  held : List StoreEntry := []
  journal : List (List Byte) := []
  journalUsed : Nat := 0
  journalOverflow : Bool := false
  holdReq : Bool := false
  hostLostReq : Bool := false
  /-- The lap-scoped steps have run and the lap's record is closed; the leg that follows has not begun. -/
  atLap : Bool := false
  configBad : Bool := false
  slotRef : Sp Nat := []
  courseLoad : Option LoadOp := none
  strideLoad : Option LoadOp := none
  replayed : List RecEntry := []
  replayRing : Bool := false
  stallSeen : Bool := false
  lapStateOpen : Option Nat := none
  truncated : Bool := false
  lapEvC : Nat := 0
  lapEvD : Nat := 0
  lapEvL : Nat := 0
  report : Sp (List Byte) := []
  keyId : Nat := 0
  /-- What RESUME begins: 0 the next leg of the lap, 1 the lap's first leg, 2 the leg in progress again (R420). -/
  resumeAt : Nat := 0
  /-- Causes of Table 2-4 that this chip itself found at the lap boundary in progress (R64). -/
  lapHolds : List Nat := []
  /-- A lap record that found no room (R72, cause 0x06): its lap and its bytes. -/
  owed : Option (Nat × List Byte) := none
  /-- Token additions of G issues still on their way (R152): cycle, token, request. -/
  tokPend : List (Nat × Nat × Nat) := []
  /-- Calibration accumulators, four dies combined, by tensor (R208). -/
  cal : Sp Chan := []
  /-- Number of the next engine command. -/
  cmdNext : Nat := 0
  /-- Armed triggers that have not fired, in the order of their ARMs (R379), and entries held per token (R380). -/
  trigs : List Trig := []
  trigHeld : Sp Nat := []
  /-- Commands that no satisfied pace point has awaited, by binding x 32 + token (R119). -/
  queueHeld : Sp Nat := []
  /-- Working count segment of the leg: increments by descriptor x 2^48 + row (R234). -/
  placeWork : Sp Nat := []
  /-- Candidate lists by placement descriptor, rising (R234, R235). -/
  cand : Sp (List Nat) := []
  /-- Far tier (R241 to R243): staged rows (die, table x 2^48 + row, slot), RELEASE doorbells waiting (die, slot, lap),
  records waiting for ring room, the full episode, and rows announced this lap (kind, table x 2^48 + row). -/
  farIdx : List (Nat × Nat × Nat) := []
  farQ : List (Nat × Nat × Nat) := []
  farWait : List (List Byte) := []
  farFull : Bool := false
  farAnn : List (Nat × Nat) := []
  /-- Non-finite counts by ((lap x 16 + stack) x 2 + scope) x 65536 + identifier (R300, R301). -/
  nonfin : Sp Nat := []
  /-- Delta lanes of the weight digest: capture lap and its four lanes (R305). -/
  delta : List (Nat × List Nat) := []
  emb : EmbSt := {}
  rly : RlySt := {}
  /-- Configuration or tenant mismatches already reported in this lap (R347, R454). -/
  cfgSeen : Bool := false
  tenantSeen : Bool := false
  /-- The deadline of the exchange leg has passed (R73). -/
  deadline : Bool := false
  /-- Intake (R416, R417): the lap each segment is open for, committed or in use by; the digests of committed segments;
  and the commit whose digest is not closed: its host command, lap, segment and digest. -/
  segLap : Sp Nat := []
  segDigest : Sp (List Byte) := []
  closing : Option (Nat × Nat × Nat × List Byte) := none
  /-- PARTITION_ENABLE_DONE is still to come (R447). -/
  enabling : Bool := false
  /-- Figures of the lap for its report (R491, R529, R537): a droop and a throttle stretch have been reported, the
  counters and energy at its start, and the highest hotspot and package power seen. -/
  lapDroop : Bool := false
  lapThrottle : Bool := false
  lapThr0 : Nat := 0
  lapDroop0 : Nat := 0
  lapEnergy0 : Nat := 0
  lapTemp : Option Int := none
  lapPeak : Nat := 0
deriving DecidableEq, Repr

/-- A command in an engine pool's queue (R275, R293): the command, its unit descriptor, what is left of it and the
reading of its parameters. `todo` lists ledger entries of a table unit. -/
structure AkcJob where
  cmd : EngCmd
  desc : Nat
  taken : Bool := false
  skip : Bool := false
  lap : Nat := 0
  next : Nat := 0
  total : Nat := 0
  todo : List Nat := []
  params : List Byte := []
  factor : Nat := 0
deriving DecidableEq, Repr

/-- A bulk sweep of a stack (R297): its unit, capture lap, and the captured entries not yet written back. -/
structure Sweep where
  part : Nat
  desc : Nat
  lap : Nat
  todo : List Nat := []
  params : List Byte := []
  factor : Nat := 0
  pos : Nat := 0
deriving DecidableEq, Repr

/-- A host command in flight (R406): its number, its submission queue, the function and its 64 bytes. -/
structure HCmd where
  id : Nat
  sq : Nat
  fn : Nat
  bytes : List Byte
deriving DecidableEq, Repr

/-- A copy (R415): host to device or back, for a program command (partition, id) or a host command (its number), with
its ranges, the bytes whose reads are issued, what its reads met, and the host key in force at its start (R457). -/
structure CopyJob where
  id : Nat
  inn : Bool
  prog : Option (Nat × Nat)
  cmd : Option Nat
  fn : Nat
  dev : Nat
  host : Nat
  len : Nat
  next : Nat := 0
  running : Bool := false
  flushed : Bool := false
  timedOut : Bool := false
  poisoned : Bool := false
  failAt : Nat := 0
  key : Option (List Byte) := none
deriving DecidableEq, Repr

/-- What an outstanding host read serves: a piece of a copy at a device address, the flush of a copy, a submission
queue, or a page of a firmware image. -/
inductive HUse where
  | piece (job dev : Nat)
  | flush (job : Nat)
  | sq (queue : Nat)
  | fw (page : Nat)
deriving DecidableEq, Repr

/-- An outstanding host read (R401). -/
structure HRead where
  tag : Nat
  use : HUse
  addr : Nat
  len : Nat
deriving DecidableEq, Repr

/-- The host interface (13_host_interface.md). -/
structure HostSt where
  /-- The link: 0 held by PERST_N, 1 training, 2 in L0. -/
  link : Nat := 0
  /-- Configuration space: VF Enable, BAR sizes (0 for PF0, 1 for the VFs) in log2 bytes where they differ from the
  default, functions with Bus Master Enable, ATS Enable, payload and read request sizes, completion timeout range. -/
  vfEnable : Bool := false
  barSize : Sp Nat := []
  busMaster : List Nat := []
  ats : Bool := false
  mps : Nat := 128
  mrrs : Nat := 512
  cplRange : Nat := 0
  /-- Cached translations by 4 KiB host page (R403). -/
  atc : List Nat := []
  /-- MSI-X table, by function x 2,048 + vector: address and data as one value. -/
  msix : Sp Nat := []
  /-- Enabled queues; queues to be disabled once idle with the QUEUE_DESTROY that asked (0 for none); entries since the
  last interrupt of a queue; commands fetched from the host that have not started. -/
  enabledQ : List Nat := []
  stopping : List (Nat × Nat) := []
  irqCnt : Sp Nat := []
  fetched : Sp (List Byte) := []
  /-- Functions whose window refusal has been reported in this lap (R396). -/
  winSeen : List Nat := []
  cmds : List HCmd := []
  cmdNext : Nat := 1
  copies : List CopyJob := []
  copyNext : Nat := 0
  reads : List HRead := []
  gens : Sp Nat := []
  quarantine : List Nat := []
  /-- Host keys by function (R456). -/
  hostKey : Sp (List Byte) := []
  /-- Fabric time of the last BEAT (R418). -/
  lastBeat : Nat := 0
  /-- Pages of a firmware image read so far, and whether one failed (R462). -/
  fwPages : Sp (List Byte) := []
  fwFail : Bool := false
deriving DecidableEq, Repr

/-- An activation record (Table 15-10). -/
structure FwRec where
  counter : Nat
  active : Nat
  trial : Bool := false
  boots : Nat := 0
  previous : Nat := 0
  svn : Nat := 0
  digest : List Byte := []
deriving DecidableEq, Repr

/-- A firmware slot: the image the device was shipped with, or one written since (header sector, then body), and the
verify mark. -/
structure FwSlot where
  shipped : Bool := false
  img : Option (List Byte) := none
  mark : Option (List Byte) := none
deriving DecidableEq, Repr

/-- An entry of the saved settings record (Table 17-4): kind (1 bridge, 2 stack, 3 channel, 4 port), unit, tested-good
flag, rows queued for repair and key. The settings themselves are opaque. -/
structure SavedEnt where
  kind : Nat
  unit : Nat
  good : Bool
  rows : List Nat := []
  key : Nat
deriving DecidableEq, Repr

/-- A saved settings record. -/
structure SavedRec where
  counter : Nat
  ents : List SavedEnt
deriving DecidableEq, Repr

/-- An SPDM session (R457, R460): its transport, whether FINISH has completed it, the hash of the verified certificate
key, and how often its keys were updated. -/
structure Sess where
  id : Nat
  transport : Nat
  up : Bool := false
  cert : List Byte := []
  updates : Nat := 0
deriving DecidableEq, Repr

/-- The security engine (15_partitions_and_security.md). -/
structure SecSt where
  /-- Tenant keys admitted: function, context, SHA-384 of the key (R524). -/
  admitted : List (Nat × Nat × List Byte) := []
  /-- SPDM negotiation reached per transport (0 I3C, 2 DOE): 1 version, 2 capabilities, 3 algorithms. -/
  stage : Sp Nat := []
  sessions : List Sess := []
  sessNext : Nat := 1
  /-- IDE keys by stream (R458). -/
  ideKey : Sp (List Byte) := []
  /-- Flash: the two activation record copies and the two slots; fused SVN; the debug unlock state. -/
  recA : Option FwRec := some { counter := 1, active := 0 }
  recB : Option FwRec := none
  slotA : FwSlot := { shipped := true }
  slotB : FwSlot := {}
  svn : Nat := 0
  debug : Nat := 0
  /-- The SEC_FWUP operation in progress. -/
  fwOp : Nat := 0
  /-- The saved settings record's two copies in flash (R505). -/
  savedA : Option SavedRec := none
  savedB : Option SavedRec := none
deriving DecidableEq, Repr

/-- Chip-wide run state outside the registers. -/
structure Chip where
  fatal : Bool := false
  everReady : Bool := false
  /-- Next fresh key number for the memory controllers (R447, R455). -/
  nextKey : Nat := 1
  /-- Unique ID of the fabric's origin, once a COORD gave it (R350, R351). -/
  origin : Option Nat := none
  /-- EV_TIME_NO_ROOT has been raised since the chip last had a parent (R360), and it has a parent port. -/
  noRoot : Bool := false
  parent : Option Nat := none
  /-- The gun (R533): sequence number under which the TIME source was armed, source NOW due, and ticks left of each
  edge seen at SNAP_IN. -/
  gunSeq : Nat := 0
  gunNow : Bool := false
  gunPins : List Nat := []
  /-- Bring-up (17_bringup_and_reset.md): the command of the running routine; memory units (stack s, channel 12 + b)
  trained since the last reset; units (kind, unit) trained since the last cold-chip reset; memory units that have passed
  a test, and a full test, since then; serial numbers of the modules; FALLBACK of the running routine. -/
  routine : Nat := 0
  trained : Nat := 0
  everTrained : List (Nat × Nat) := []
  passed : Nat := 0
  fullPass : Nat := 0
  serials : Sp Nat := []
  fallback : Bool := false
  /-- The last chip reset was a warm-chip reset (R499); one is in progress (R513); the target of the request in progress;
  a partition reset has met a class F error (R516). -/
  warm : Bool := false
  warming : Bool := false
  resetTarget : Nat := 0
  /-- The relock in progress lowers the frequency (R547). -/
  falling : Bool := false
  /-- A droop stretch is in force (R490), and a throttle stretch (R529): 1, or 2 once nothing has asked for it since the
  last power sample. -/
  droop : Bool := false
  throttle : Nat := 0
deriving DecidableEq, Repr

/-- A packet of an MCTP message that waits to be read over I3C (R521); `last` ends its message, `answer` marks a
response. -/
structure MctpPkt where
  bytes : List Byte
  last : Bool
  answer : Bool
deriving DecidableEq, Repr

/-- The management port (18_management_and_telemetry.md): the standby island has left its reset, Hot-Join is enabled and
due, the maximum write length, the target reset action, packets waiting and whether the first is announced, whom
EVENT_NOTIFY and PlatformEventMessage go to (transport 0 I3C, 1 PCIe VDM), and the ERROR of the relayed access. -/
structure MgtSt where
  standby : Bool := false
  hotJoin : Bool := false
  joinDue : Bool := false
  mwl : Nat := 69
  rstAct : Nat := 0
  packets : List MctpPkt := []
  announced : Bool := false
  subscriber : Nat := 0
  receiver : Option Nat := none
  relayErr : Nat := 0
deriving DecidableEq, Repr

/-- Sensors (R528 to R530): the fabric time of each sample, sensors above their threshold and above the warning level,
package energy in uJ, and the warning bits last seen of each rail (R550). -/
structure TelSt where
  at_ : Sp Nat := []
  high : Nat := 0
  warm : Nat := 0
  energy : Nat := 0
  railWarn : Sp Nat := []
deriving DecidableEq, Repr

/-- The package (19_package_and_electrical.md): power-on reset is in force, TEST_MODE was high at its end, THERMTRIP_N is
asserted, EXTEST, CLAMP or HIGHZ has been in effect, and which of TAP (1) and HSTAP (2) holds the controller. -/
structure PkgSt where
  por : Bool := true
  testMode : Bool := false
  tripped : Bool := false
  scan : Bool := false
  tap : Nat := 0
deriving DecidableEq, Repr

/-- Why the block stops with a fault. No command of the table does: an access to an address that does not exist is
answered by the device itself (R43). -/
inductive Fault where
  /-- The queue front's meaning never raises it; kept for the interface. Safe. -/
  | stuck
deriving DecidableEq, Repr

/-- Why a command has no meaning. -/
inductive Refusal where
  /-- Raised by the dispatch alone, for a command this model does not give a meaning. Safe. -/
  | notModelled (mnemonic : String)
deriving DecidableEq, Repr

/-- The whole state of the block. -/
structure State where
  /-- Commands that wait, first in, first out. -/
  pending : List Instr := []
  /-- Every register of the register range, by its offset; an unlisted one holds its reset value. -/
  regs : Sp Nat := []
  /-- Device memory and host memory, one entry per byte that differs from zero. -/
  mem : List Host.Cell := []
  /-- Metadata of 64-byte granules, by address div 64. -/
  gran : Sp Gran := []
  parts : Sp Part := []
  chip : Chip := {}
  /-- Logical cores, by number, and cluster hubs. -/
  cores : Sp Core := []
  hubs : Sp Hub := []
  /-- Requests of the gather/scatter units, oldest first, and the number of the next. -/
  greqs : List GReq := []
  greqNext : Nat := 0
  phys : Phys := {}
  /-- Patrol scrub (R231): next granule per unit (stack s, channel 12 + b), corrected errors per row of the pass by
  unit x 2^48 + row, and rows queued for post-package repair. -/
  scrubPos : Sp Nat := []
  scrubRows : Sp Nat := []
  repair : List (Nat × Nat) := []
  /-- Engine pools (stack x 2 + pool) and bulk sweeps by stack (R275, R297). -/
  pools : Sp (List AkcJob) := []
  sweeps : Sp (List Sweep) := []
  /-- Management event log, oldest first (R475, R527), the sequence number of the next record, and how many were
  overwritten. -/
  log : List EventRec := []
  logNext : Nat := 0
  logLost : Nat := 0
  /-- Event classes the last SUBSCRIBE selected, bits [5:0] (R526), and notifications not yet sent. -/
  subMask : Nat := 0
  notify : List EventRec := []
  /-- Completion store (R412). -/
  store : List StoreEntry := []
  host : HostSt := {}
  sec : SecSt := {}
  mgt : MgtSt := {}
  tel : TelSt := {}
  pkg : PkgSt := {}
  /-- Records created per function and event code in the current window (R473): (function * 65536 + code, window, count). -/
  windows : List (Nat × Nat × Nat) := []
  /-- Rilvi ports, and packets held at their destination with their arrival port (R51, R55). -/
  ports : Sp Port := []
  heldPkts : List (Nat × List Byte) := []
  /-- Fabric read tags in use, and the generation of each tag (R387). -/
  tagUse : List Nat := []
  tagGen : Sp Nat := []
  /-- Fabric time, the 32 bits of the accumulator below it, and INC (R357). -/
  ftime : Nat := 0
  ffrac : Nat := 0
  finc : Nat := 1024 * 2 ^ 32
  /-- Everything that left the block, oldest first. -/
  out : List Emit := []
  /-- Counter that gives each free value its own argument. -/
  free : Nat := 0
deriving DecidableEq, Repr

/-- The machine in power-on reset: every register at its card's value, memory zero, nothing queued. -/
def State.reset : State := {}

end Sys2Proof.Machine
end

