-- ==== Sys2Proof/Machine/Ops.lean ====
section
/-! DEFINITION. The named operations over registers, memory, counters and events. -/

namespace Sys2Proof.Machine

/-! ## Bit fields of registers -/

/-- Field `f` of value `v`. -/
def Fld.get (f : Fld) (v : Nat) : Nat := bits v f.hi f.lo

/-- Value `v` with field `f` replaced. -/
def Fld.put (f : Fld) (v x : Nat) : Nat := setBits v f.hi f.lo x

/-! ## Registers -/

/-- Stored (pending) value of entry `k` of a card in instance or partition `u`. -/
def State.rd (s : State) (c : Card) (u k : Nat) : Nat :=
  (Sp.find (c.addr u k) s.regs).getD (c.rst u k)

/-- Value in effect: the effective image of a shadowed card (R13), else the stored value. -/
def State.rdEff (s : State) (c : Card) (u k : Nat) : Nat :=
  if c.shadowed then (Sp.find (c.addr u k + imageOff) s.regs).getD (c.rst u k) else s.rd c u k

/-- Set the stored value, cut to the card's width; an entry the card does not have is no register. -/
def State.wr (s : State) (c : Card) (u k v : Nat) : State :=
  { s with regs := if c.has u k then Sp.put (c.addr u k) (v % 2 ^ c.width) s.regs else s.regs }

/-- Set the value in effect of a shadowed card. -/
def State.wrEff (s : State) (c : Card) (u k v : Nat) : State :=
  { s with regs := if c.has u k then Sp.put (c.addr u k + imageOff) (v % 2 ^ c.width) s.regs else s.regs }

/-- Field of a stored value. -/
def State.rdF (s : State) (c : Card) (f : Fld) (u k : Nat) : Nat := f.get (s.rd c u k)

/-- Field of a value in effect. -/
def State.effF (s : State) (c : Card) (f : Fld) (u k : Nat) : Nat := f.get (s.rdEff c u k)

/-- Replace a field of a stored value. -/
def State.wrF (s : State) (c : Card) (f : Fld) (u k x : Nat) : State := s.wr c u k (f.put (s.rd c u k) x)

/-- Replace several fields of a stored value. -/
def State.wrFs (s : State) (c : Card) (u k : Nat) (l : List (Fld × Nat)) : State :=
  s.wr c u k (l.foldl (fun v e => e.1.put v e.2) (s.rd c u k))

/-- Counter `i` of a counter card, plus `n`, modulo 2^64 (R16). -/
def State.count (s : State) (c : Card) (u i n : Nat) : State := s.wr c u i (s.rd c u i + n)

/-- Four 64-bit registers as 32 digest bytes (R106). -/
def State.rdDigest (s : State) (c : Card) (u k : Nat) : List Byte :=
  ((List.range 4).map (fun j => leBytes 8 (s.rd c u (k + j)))).flatten

/-- Write 32 digest bytes into four 64-bit registers (R106). -/
def State.wrDigest (s : State) (c : Card) (u k : Nat) (d : List Byte) : State :=
  (List.range 4).foldl (fun s j => s.wr c u (k + j) (fieldAt d (8 * j) 8)) s

/-- A register write, read or access that a rule refuses counts here (Table 16-8). -/
def State.regErr (s : State) : State := s.count R.CNT_GLB 0 4 1

/-! ## Partitions and run state -/

def State.part (s : State) (p : Nat) : Part := Sp.get {} s.parts p
def State.setPart (s : State) (p : Nat) (x : Part) : State := { s with parts := Sp.set {} s.parts p x }
def State.updPart (s : State) (p : Nat) (f : Part → Part) : State := s.setPart p (f (s.part p))

/-- Run-state codes of GLB_STATE and GLB_PARTp_CONFIG (R443, Table 2-5). -/
abbrev stCold : Nat := 0
abbrev stBringup : Nat := 1
abbrev stReady : Nat := 2
abbrev stRunning : Nat := 3
abbrev stHeld : Nat := 4
abbrev stDetached : Nat := 5
abbrev stFenced : Nat := 6
abbrev stFailed : Nat := 7

def State.chipState (s : State) : Nat := s.rdF R.GLB_STATE F.GLB_STATE_STATE 0 0
def State.enabled (s : State) (p : Nat) : Bool := decide (p < 64) && decide (s.rdF R.GLB_PART_CONFIG F.GLB_PART_CONFIG_ENABLE 0 p = 1)
def State.pState (s : State) (p : Nat) : Nat := s.rdF R.GLB_PART_CONFIG F.GLB_PART_CONFIG_STATE 0 p
/-- The enabled partitions, in ascending order. -/
def State.enabledParts (s : State) : List Nat := (List.range 64).filter s.enabled

/-- Whether partition `p` is RUNNING or FENCED. -/
def State.isRunning (s : State) (p : Nat) : Bool := s.pState p = stRunning || s.pState p = stFenced

/-- GLB_STATE.STATE from the partitions, once the chip has left BRINGUP, in the order of precedence of R443. -/
def State.syncChip (s : State) : State :=
  if s.chipState ≤ stBringup then s else
  let ps := s.enabledParts
  let anyF := s.rdF R.GLB_STATE F.GLB_STATE_ANY_FENCED 0 0 = 1
  let st :=
    if s.chip.fatal then stFailed
    else if s.rdF R.GLB_STATE F.GLB_STATE_HOST_LOST 0 0 = 1 && ps.any (fun p => s.pState p != stReady) then stDetached
    else if ps.any s.isRunning then (if anyF then stFenced else stRunning)
    else if ps.any (fun p => s.pState p = stHeld) then stHeld
    else stReady
  s.wrF R.GLB_STATE F.GLB_STATE_STATE 0 0 st

/-- Set a partition's STATE and the chip's (R443). -/
def State.setPState (s : State) (p st : Nat) : State :=
  (s.wrF R.GLB_PART_CONFIG F.GLB_PART_CONFIG_STATE 0 p st).syncChip

/-- The running code: FENCED where a unit has been fenced at run time (R66). -/
def State.runCode (s : State) : Nat :=
  if s.rdF R.GLB_STATE F.GLB_STATE_ANY_FENCED 0 0 = 1 then stFenced else stRunning

/-- Every enabled partition is READY (R443: a chip-scoped register that accepts writes only in READY). -/
def State.allReady (s : State) : Bool := s.enabledParts.all (fun p => s.pState p = stReady)

/-- The chip is in READY with every enabled partition READY. -/
def State.inReady (s : State) : Bool := s.chipState = stReady && s.allReady

/-- BRINGUP, or READY: where chip-scoped registers accept writes. -/
def State.calm (s : State) : Bool := s.chipState = stBringup || s.inReady

/-- Partition whose clusters include logical cluster `c`. -/
def State.partOfCluster (s : State) (c : Nat) : Option Nat :=
  s.enabledParts.find? (fun p => bit (s.rd R.GLB_PART_CLUSTERS 0 p) c)

/-- Primary function of a partition. -/
def State.primary (s : State) (p : Nat) : Nat := s.rdF R.GLB_PART_CONFIG F.GLB_PART_CONFIG_PRIMARY 0 p

/-- Function of backfill context `x`; 0 where unused (R451). -/
def State.bfFn (s : State) (p x : Nat) : Nat :=
  let v := s.rd R.GLB_PART_CONFIG 0 p
  if x = 0 then bits v 47 40 else if x = 1 then bits v 39 32 else bits v 31 24

/-- Partition whose context set contains function `f` (R451). -/
def State.partOfFn (s : State) (f : Nat) : Option Nat :=
  s.enabledParts.find? (fun p =>
    s.primary p = f || (f != 0 && (s.bfFn p 0 = f || s.bfFn p 1 = f || s.bfFn p 2 = f)))

def State.lap (s : State) (p : Nat) : Nat := s.rdF R.SEQ_POSITION F.SEQ_POSITION_LAP p 0
def State.leg (s : State) (p : Nat) : Nat := s.rdF R.SEQ_POSITION F.SEQ_POSITION_LEG p 0
def State.attempt (s : State) (p : Nat) : Nat := s.rdF R.SEQ_POSITION F.SEQ_POSITION_ATTEMPT p 0

/-- Add to what has left the block. -/
def State.emit (s : State) (e : Emit) : State := { s with out := s.out ++ [e] }

/-! ## Events -/

/-- An event as its 32-byte record, PHASE zero (R411). -/
def EventRec.bytes (e : EventRec) : List Byte :=
  leBytes 2 e.code ++ leBytes 1 e.cls ++ leBytes 1 e.leg ++ leBytes 4 e.lap ++ leBytes 8 e.d0 ++ leBytes 8 e.d1
    ++ leBytes 8 e.time

/-- Functions an event reaches by its scope (R472): PF0 and those the scope adds. -/
def State.eventFns (s : State) (sc : EvScope) (p fn : Nat) (extra : Option Nat) : List Nat :=
  let l := match sc with
    | .chip => []
    | .part => s.primary p :: extra.toList
    | .fn => [fn]
    | .all => s.enabledParts.map s.primary
  0 :: (l.filter (· != 0)).eraseDups

/-- Deliver one record to one function, under its mask and limit (R472, R473). -/
def State.deliver (s : State) (r : EventRec) (f : Nat) : State :=
  let q := s.rd R.QUE_FN_EVENT 0 f
  let sel := if r.cls ≤ 4 then bit q (16 + r.cls) else F.QUE_FN_EVENT_NOCLASS.get q = 1
  if !sel then s else
  let key := f * 65536 + r.code
  let win := s.ftime / 2 ^ 40
  let n := (s.windows.find? (fun e => e.1 = key && e.2.1 = win)).map (·.2.2) |>.getD 0
  let lim := F.QUE_FN_EVENT_LIMIT.get q
  if lim != 0 && n ≥ lim && r.cls != 3 && r.cls != 4 then s.count R.CNT_GLB 0 18 1 else
  let eq := s.rdF R.QUE_FN_RANGE F.QUE_FN_RANGE_FIRST 0 f + F.QUE_FN_EVENT_EQ.get q
  { s with
    windows := (key, win, n + 1) :: s.windows.filter (fun e => e.1 != key)
    store := s.store ++ [{ fn := f, queue := eq, bytes := r.bytes }] }

/-- Hand an MCTP message to a transport (R521, R522): over PCIe VDM it leaves at once, over I3C it waits as packets of
64 bytes. `answer` marks a response. -/
def State.mctpSend (s : State) (t : Nat) (b : List Byte) (answer : Bool) : State :=
  if t = 1 then s.emit (.mctp 1 b) else
  let n := cdiv b.length 64
  let l := (List.range n).map (fun i => { bytes := (b.drop (64 * i)).take 64, last := decide (i + 1 = n), answer := answer : MctpPkt })
  { s with mgt := { s.mgt with packets := s.mgt.packets ++ l } }

/-- PLDM PlatformEventMessage to the event receiver (R523), with its data (log 50). -/
def State.platformEvent (s : State) (data : List Byte) : State :=
  match s.mgt.receiver with
  | some t => s.mctpSend t ([0x01, 0x80, 0x02, 0x0A] ++ data) false
  | none => s

/-- Append a record to the management event log of 1,024 records (R475, R527), and to the notifications waiting for
the subscriber (R526). -/
def State.logEvent (s : State) (r : EventRec) : State :=
  let s := if r.cls = 4 then s.platformEvent r.bytes else s
  let isOver := s.log.length ≥ 1024
  { s with
    log := (if isOver then s.log.drop 1 else s.log) ++ [r]
    logNext := (s.logNext + 1) % 2 ^ 32
    logLost := s.logLost + b2n isOver
    notify := if bit s.subMask (if r.cls ≤ 4 then r.cls else 5) then s.notify ++ [r] else s.notify }

/-- Record an error of class L, P or F (R477). -/
def State.recordErr (s : State) (p : Nat) (r : EventRec) : State :=
  if r.cls < 2 ∨ r.cls > 4 then s else
  let w := atBits 63 63 1 + atBits 50 48 r.cls + atBits 45 40 p + atBits 36 32 r.leg + atBits 15 0 r.code
  let put (s : State) (c cl cd : Card) (u : Nat) : State :=
    (((s.wr c u 0 w).wr cl u 0 r.lap).wr cd u 0 r.d0).wr cd u 1 r.d1
  let old := s.rd R.SEQ_ERR_FIRST p 0
  let s := if bit old 63 = false || bits old 50 48 < r.cls then
      put s R.SEQ_ERR_FIRST R.SEQ_ERR_FIRST_LAP R.SEQ_ERR_FIRST_DATA p else s
  if r.cls = 4 && !bit (s.rd R.GLB_ERR_FATAL 0 0) 63 then
    put s R.GLB_ERR_FATAL R.GLB_ERR_FATAL_LAP R.GLB_ERR_FATAL_DATA 0 else s

/-- Raise an event of class code `cls` in partition `p` (R466, R475): it is counted, recorded, logged and delivered.
`fn` is the function of scope Fn, `extra` a backfill context's function. -/
def State.eventAs (s : State) (e : Ev) (cls p d0 d1 fn : Nat) (extra : Option Nat) : State :=
  let r : EventRec := ⟨e.code, cls, s.leg p, s.lap p, d0, d1, s.ftime % 2 ^ 64⟩
  let s := if cls ≤ 4 then s.count R.CNT_GLB 0 (6 + cls) 1 else s
  let s := match cls with
    | 0 => s.updPart p (fun x => { x with lapEvC := x.lapEvC + 1 })
    | 1 => s.updPart p (fun x => { x with lapEvD := x.lapEvD + 1 })
    | 2 => s.updPart p (fun x => { x with lapEvL := x.lapEvL + 1 })
    | _ => s
  let s := (s.recordErr p r).logEvent r
  (s.eventFns e.scope p fn extra).foldl (fun s f => s.deliver r f) s

/-- Raise an event with the class its table row gives. -/
def State.event (s : State) (e : Ev) (p d0 d1 : Nat) : State := s.eventAs e e.cls.code p d0 d1 0 none

/-! ## What an error class stops -/

/-- A class F error stops every partition and the chip in the same cycle (R468). The drain and discard of each
partition is its FAILING_BOUNDARY. -/
def State.classF (s : State) : State :=
  let s := { s with chip := { s.chip with fatal := true } }
  let s := s.enabledParts.foldl (fun s p =>
    (s.updPart p (fun x => { x with stop := 2, running := false })).wrF R.GLB_PART_CONFIG
      F.GLB_PART_CONFIG_STATE 0 p stFailed) s
  s.wrF R.GLB_STATE F.GLB_STATE_STATE 0 0 stFailed

/-- A class P error stops its partition after the cycle it arises in (R467). -/
def State.classP (s : State) (p : Nat) : State :=
  if s.enabled p && s.pState p != stFailed then s.updPart p (fun x => { x with stop := 2 }) else s

/-- A class L error ends the partition's leg attempt (R77), is promoted to class F where the journal has overflowed
(R80) or the attempt is the fourth (R81), and belongs to the next leg once the fold has begun (R280, R469). -/
def State.classL (s : State) (p code : Nat) : State :=
  let x := s.part p
  if !s.isRunning p || x.stop = 2 then s
  else if x.journalOverflow then s.classF
  else if s.attempt p = 3 then (s.event E.LEG_RETRY_LIMIT p (atBits 17 0 x.word + atBits 36 32 (s.leg p) + atBits 38 37 3) 0).classF
  else if x.folded || x.atLap then s.updPart p (fun x => { x with nextRepeat := true, lCode := code })
  else if x.stop = 1 then s
  else s.updPart p (fun x => { x with stop := 1, lCode := code })

/-- Raise an error: its event, then what its class stops (R466). -/
def State.raiseAs (s : State) (e : Ev) (cls p d0 d1 fn : Nat) (extra : Option Nat) : State :=
  let s := s.eventAs e cls p d0 d1 fn extra
  match cls with
  | 2 => s.classL p e.code
  | 3 => s.classP p
  | 4 => s.classF
  | _ => s

/-- Raise an error of the class its table row gives. -/
def State.raise (s : State) (e : Ev) (p d0 d1 : Nat) : State := s.raiseAs e e.cls.code p d0 d1 0 none

/-! ## The address map -/

/-- The regions of Table 1-8. -/
inductive Region8 where
  | hbm (stack : Nat) | bulk (channel : Nat) | scratch (core : Nat) | stride | reg | host | unmapped
deriving DecidableEq, Repr

abbrev hbmStackBytes : Nat := 0xC00000000
abbrev bulkBase : Nat := 0x100000000000
abbrev bulkSlot : Nat := 0x4000000000
abbrev scratchBase : Nat := 0x200000000000
abbrev strideBase : Nat := 0x300000000000
abbrev regBase : Nat := 0x3F0000000000
abbrev hostBase : Nat := 0x400000000000

/-- Number of logical cores of the grade (R20). -/
def State.coreCount (s : State) : Nat := 16 * bits (s.rd R.GLB_DEVICE_ID 0 0) 15 8

/-- Scratchpad address of core `n` (R41). -/
def scratchAddr (n off : Nat) : Nat := scratchBase + n * 0x200000 + off

/-- The region of one address (R41, R42). -/
def State.regionOf (s : State) (a : Nat) : Region8 :=
  if a < 12 * hbmStackBytes then .hbm (a / hbmStackBytes)
  else if bulkBase ≤ a ∧ a < bulkBase + 8 * bulkSlot then
    let b := (a - bulkBase) / bulkSlot
    let v := s.rd R.BLK_STATUS b 0
    if bit v 1 && (a - bulkBase) % bulkSlot < bits v 63 48 * 2 ^ 30 then .bulk b else .unmapped
  else if scratchBase ≤ a ∧ a < scratchBase + 0x80000000 then
    let n := (a - scratchBase) / 0x200000
    if n < s.coreCount && (a - scratchBase) % 0x200000 < 0x180000 then .scratch n else .unmapped
  else if strideBase ≤ a ∧ a < strideBase + 0x4000000 then .stride
  else if regBase ≤ a ∧ a < regBase + 0x100000000 then .reg
  else if hostBase ≤ a ∧ a < 0x800000000000 then .host
  else .unmapped

def State.mapped (s : State) (a : Nat) : Bool := s.regionOf a != .unmapped

/-- Every byte of a range is mapped; its ends and its 64-byte steps are looked at. -/
def State.rangeMapped (s : State) (a n : Nat) : Bool :=
  n = 0 || (s.mapped a && s.mapped (a + n - 1) && (decide (n ≤ 64) || s.regionOf a = s.regionOf (a + n - 1)))

/-! ## Page attributes and keys -/

def State.attrOn (s : State) : Bool := s.effF R.GLB_PAGE_ATTR F.GLB_PAGE_ATTR_ENABLE 0 0 = 1

/-- Index of a page's attribute entry: HBM pages first, bulk pages from 294,912 (07_memory_tiers.md). -/
def attrIndex (a : Nat) : Nat := if a < bulkBase then a / 2 ^ 21 else 294912 + (a - bulkBase) / 2 ^ 21

/-- A raw stored byte. -/
def State.raw (s : State) (a : Nat) : Byte := Sp.get 0 s.mem a

def State.rawN (s : State) (a n : Nat) : Nat := leNat ((List.range n).map (fun i => s.raw (a + i)))

/-- The attribute entry of the page that holds `a` (R226); the table is read as stored. -/
def State.attrOf (s : State) (a : Nat) : Nat :=
  s.rawN (setBits (s.rdEff R.GLB_PAGE_ATTR 0 0) 20 0 0 + 8 * attrIndex a) 8

/-- The key a granule's data is stored under (R455): 0 for none. -/
def State.keyOf (s : State) (a : Nat) : Nat :=
  match s.regionOf a with
  | .hbm _ => if s.attrOn && bit (s.attrOf a) 15 then (s.part (bits (s.attrOf a) 13 8)).keyId + 1 else 0
  | .bulk _ => (s.part (if s.attrOn then bits (s.attrOf a) 13 8 else 0)).keyId
  | _ => 0

/-- A page access passes (R453): VALID, PARTITION and TENANT. -/
def State.pageOk (s : State) (fn p a : Nat) : Bool :=
  match s.regionOf a with
  | .hbm _ | .bulk _ =>
    !s.attrOn ||
      (let e := s.attrOf a; bit e 63 && bits e 13 8 = p && bits e 7 0 = fn)
  | _ => true

/-- The pages of a range pass. -/
def State.pagesOk (s : State) (fn p a n : Nat) : Bool :=
  (List.range (if n = 0 then 0 else (a + n - 1) / 2 ^ 21 - a / 2 ^ 21 + 1)).all
    (fun i => s.pageOk fn p (if i = 0 then a else (a / 2 ^ 21 + i) * 2 ^ 21))

/-! ## Memory -/

def State.granAt (s : State) (a : Nat) : Gran := Sp.get {} s.gran (a / 64)

/-- One byte as its reader sees it: what is stored, or a free value where the key has changed since (R227, R455). -/
def State.byteAt (s : State) (a : Nat) : Byte :=
  let k := (s.granAt a).key
  if k = s.keyOf a then s.raw a else Config.garble k (s.keyOf a) a

/-- `n` bytes from `a`. -/
def State.load (s : State) (a n : Nat) : List Byte := (List.range n).map (fun i => s.byteAt (a + i))

/-- The little-endian value of `n` bytes from `a` (R8). -/
def State.loadN (s : State) (a n : Nat) : Nat := leNat (s.load a n)

/-- Whether a granule of the range carries a poison mark. -/
def State.poisoned (s : State) (a n : Nat) : Bool :=
  (List.range (if n = 0 then 0 else (a + n - 1) / 64 - a / 64 + 1)).any (fun i => (Sp.get {} s.gran (a / 64 + i)).poison)

/-- Store raw bytes. -/
def storeRaw (m : List Host.Cell) (a : Nat) : List Byte → List Host.Cell
  | [] => m
  | b :: r => storeRaw (Sp.set 0 m a b) (a + 1) r

/-- Bring a granule under the key in force before a write: its other bytes stay what a reader sees. -/
def State.rekey (s : State) (a : Nat) : State :=
  let g := s.granAt a
  if g.key = s.keyOf a then s else
  let base := a / 64 * 64
  { s with
    mem := storeRaw s.mem base (s.load base 64)
    gran := Sp.set {} s.gran (a / 64) { g with key := s.keyOf a } }

/-- Set or clear the poison mark of the granule that holds `a`. -/
def State.setPoison (s : State) (a : Nat) (b : Bool) : State :=
  { s with gran := Sp.upd {} s.gran (a / 64) (fun g => { g with poison := b }) }

/-- Counter `i` of the HBM or BLK block that holds `a` (R245). -/
def State.countMem (s : State) (a i : Nat) : State :=
  match s.regionOf a with
  | .hbm k => s.count R.CNT_HBM k i 1
  | .bulk b => s.count R.CNT_BLK b i 1
  | _ => s

/-- A write within one granule (R230): a whole unmarked granule clears poison, a marked write sets it, and a partial
write into a poisoned granule is merged and counted. -/
def State.storePiece (s : State) (a : Nat) (bs : List Byte) (poison : Bool) : State :=
  let s := s.rekey a
  let g := s.granAt a
  let s := { s with mem := storeRaw s.mem a bs }
  if poison then s.setPoison a true
  else if bs.length = 64 then
    { s with gran := Sp.upd {} s.gran (a / 64) (fun g => { g with poison := false, latent := 0 }) }
  else if g.poison then s.countMem a 4
  else s

/-- Cut a byte string at granule boundaries: pairs of address and bytes; `fuel` bounds the pieces. -/
def pieces : Nat → Nat → List Byte → List (Nat × List Byte)
  | 0, _, _ => []
  | _, _, [] => []
  | fuel + 1, a, bs =>
    let n := 64 - a % 64
    (a, bs.take n) :: pieces fuel (a + n) (bs.drop n)

/-- Write bytes to memory, granule by granule, with one poison mark for all. -/
def State.save (s : State) (a : Nat) (bs : List Byte) (poison : Bool := false) : State :=
  (pieces (bs.length + 1) a bs).foldl (fun s e => s.storePiece e.1 e.2 poison) s

/-- Write a little-endian number of `n` bytes. -/
def State.saveN (s : State) (a n v : Nat) : State := s.save a (leBytes n v)

/-- Copy `n` granules from `src` to `dst`, poison with them (R230). -/
def State.copyGran (s : State) (dst src n : Nat) : State :=
  (List.range n).foldl (fun s i =>
    s.save (dst + 64 * i) (s.load (src + 64 * i) 64) (s.poisoned (src + 64 * i) 64)) s

/-- Write `n` zero granules and clear their poison (R230). -/
def State.zeroGran (s : State) (a n : Nat) : State :=
  (List.range n).foldl (fun s i => s.save (a + 64 * i) (List.replicate 64 0)) s

/-- What reading a granule does to a stored error (R228, R229): a correctable one is counted and corrected, an
uncorrectable one is marked, counted and reported. `rq` is the requester word, `p` its partition. -/
def State.senseGran (s : State) (g p rq : Nat) : State :=
  let a := 64 * g
  match (s.granAt a).latent with
  | 0 => s
  | 1 => { s.countMem a 0 with gran := Sp.upd {} s.gran g (fun x => { x with latent := 0 }) }
  | _ =>
    let s := { s.countMem a 1 with gran := Sp.upd {} s.gran g (fun x => { x with latent := 0, poison := true }) }
    match s.regionOf a with
    | .hbm _ => s.raise E.HBM_UE p (bits a 47 0) rq
    | .bulk _ => s.raise E.BULK_UE p (bits a 47 0) rq
    | _ => s

/-- Bias code of the 64 KiB page that holds `a` (R398, Table 13-5): 0 DEVICE, 1 SHARED, 2 HOST, 3 reserved. -/
def State.biasOf (s : State) (a : Nat) : Nat :=
  let v := s.rd R.HST_BIAS_TABLE 0 0
  if !bit v 0 then 0 else
  let x? := match s.regionOf a with
    | .hbm _ => some (a / 2 ^ 16)
    | .bulk _ => some (9437184 + (a - bulkBase) / 2 ^ 16)
    | _ => none
  match x? with
  | some x => bits (s.raw (setBits v 11 0 0 + x / 4)).toNat (2 * (x % 4) + 1) (2 * (x % 4))
  | none => 0

/-- Bias forbids an access of `n` bytes at `a` (Table 13-5). -/
def State.biasBad (s : State) (a n : Nat) (write : Bool) : Bool :=
  s.rdF R.HST_BIAS_TABLE F.HST_BIAS_TABLE_ENABLE 0 0 = 1 &&
  (List.range (if n = 0 then 0 else (a + n - 1) / 2 ^ 16 - a / 2 ^ 16 + 1)).any
    (fun i => let b := s.biasOf (if i = 0 then a else (a / 2 ^ 16 + i) * 2 ^ 16); b = 3 || (write && b = 2))

/-- A device access to a page that is not DEVICE resolves coherence with the host first (R398, R400). -/
def State.snoop (s : State) (a : Nat) : State := if s.biasOf a = 0 then s else s.count R.CNT_HST 0 6 1

/-- Read a range of the HBM or bulk tier through its ECC (R228, R229). -/
def State.senseRaw (s : State) (a n p rq : Nat) : State :=
  (List.range (if n = 0 then 0 else (a + n - 1) / 64 - a / 64 + 1)).foldl (fun s i => s.senseGran (a / 64 + i) p rq) s

/-- A device read of a range, coherence resolved where its bias asks for it. -/
def State.sense (s : State) (a n p rq : Nat) : State := (s.snoop a).senseRaw a n p rq

/-- Errors that the reads of a command meet: pairs of an address and a kind, 1 correctable, 2 uncorrectable (log 13). -/
def State.plant (s : State) (errs : List (Nat × Nat)) : State :=
  errs.foldl (fun s e => { s with gran := Sp.upd {} s.gran (e.1 / 64) (fun g => { g with latent := e.2 }) }) s

/-! ## Requesters -/

/-- Who makes an access (Tables 15-3 and 16-2). -/
inductive ReqKind where
  | program | serve | backfill (ctx : Nat) | window | command | loader | mgmt
deriving DecidableEq, Repr

/-- A requester: its kind, function, partition, block byte, instance and core (0x7FF for none), and whether it writes. -/
structure Req where
  kind : ReqKind
  fn : Nat := 0
  part : Nat := 0
  blk : Nat := 0
  inst : Nat := 0
  core : Nat := 0x7FF
  write : Bool := false
deriving DecidableEq, Repr

/-- The requester word of data form A (R471). -/
def Req.word (r : Req) : Nat :=
  atBits 7 0 r.fn + atBits 13 8 r.part + atBits 23 16 r.blk + atBits 31 24 r.inst + atBits 42 32 r.core

/-- The class code of Table 16-2 for a requester: class P for a program and for a slice that serves a peer, code 7
where the table gives another outcome. -/
def Req.cls (r : Req) : Nat :=
  match r.kind with
  | .program | .serve => 3
  | _ => 7

/-- An access to an unmapped address is counted and reported, and stops what its class stops (R43, R470). -/
def State.unmappedErr (s : State) (r : Req) (a : Nat) : State :=
  (s.count R.CNT_GLB 0 5 1).raiseAs E.ADDR_UNMAPPED r.cls r.part (bits a 47 0) r.word r.fn
    (match r.kind with | .backfill _ => some r.fn | _ => none)

/-- A refused access whose rule names no other counter (R470), or one to a page of the reserved bias (Table 13-5). -/
def State.refusedErr (s : State) (r : Req) (a : Nat) : State :=
  if s.biasOf a = 3 then
    s.raiseAs E.BIAS_INVALID r.cls r.part (bits a 47 0) r.word r.fn (match r.kind with | .backfill _ => some r.fn | _ => none)
  else
  (s.count R.CNT_GLB 0 0 1).raiseAs E.TENANT_VIOLATION r.cls r.part (bits a 47 0) r.word r.fn
    (match r.kind with | .backfill _ => some r.fn | _ => none)

/-- Outcome of the checks on an access. -/
inductive AccRes where
  | ok | unmapped | refused
deriving DecidableEq, Repr

/-- The course store areas of partition `p` are closed to every requester but the sequencer (R102). -/
def State.inCourseStore (s : State) (p a n : Nat) : Bool :=
  let v := s.rd R.SEQ_COURSE_STORE p 0
  let base := bits v 47 24 * 2 ^ 24
  let size := 64 * bits v 4 0 * 2 ^ 20
  bits v 4 0 != 0 && a < base + size && base < a + n

/-- Checks of a memory access of `n` bytes at `a` (R42, R43, R102, R398, R453, Table 15-3). PF0's window and command
accesses are compared with VALID only. -/
def State.check (s : State) (r : Req) (a n : Nat) : AccRes :=
  if !s.rangeMapped a n then .unmapped
  else if s.enabledParts.any (fun p => s.inCourseStore p a n) && r.kind != .mgmt then .refused
  else
    let own := match s.regionOf a with
      | .scratch k => (match r.kind with
        | .program | .serve | .backfill _ => s.partOfCluster (k / 16) = some r.part
        | _ => true)
      | _ => true
    if !own || (r.kind != .mgmt && s.biasBad a n (r.write && r.kind != .window)) then .refused
    else match r.kind with
      | .mgmt => .ok
      | .window | .command =>
        if r.fn = 0 then
          (if !s.attrOn || (match s.regionOf a with | .hbm _ | .bulk _ => bit (s.attrOf a) 63 | _ => true)
            then .ok else .refused)
        else if s.pagesOk r.fn r.part a n then .ok else .refused
      | .loader => if !s.attrOn || s.pagesOk (s.primary r.part) r.part a n then .ok else .refused
      | _ => if s.pagesOk r.fn r.part a n then .ok else .refused

/-- Requester word and checks of the primary program of partition `p`, from block `b`, instance `i`. -/
def State.progReq (s : State) (p : Nat) (b : Blk) (i : Nat) (core : Nat := 0x7FF) : Req :=
  { kind := .program, fn := s.primary p, part := p, blk := b.byte, inst := i, core := core }

/-- Stride position word (R471): the store word and the leg and attempt. -/
def State.posWord (s : State) (p word : Nat) : Nat :=
  atBits 17 0 word + atBits 36 32 (s.leg p) + atBits 38 37 (s.attempt p)

/-- The same for engine slot `e`. -/
def State.posSlot (s : State) (p word e : Nat) : Nat := s.posWord p word + atBits 19 18 e + atBits 20 20 1

/-- The same for cluster slot `c`. -/
def State.posCluster (s : State) (p word c : Nat) : Nat := s.posWord p word + atBits 26 21 c + atBits 27 27 1

/-- Unit word (R471). -/
def unitWord (kind wher a b serves : Nat) : Nat :=
  atBits 7 0 kind + atBits 15 8 wher + atBits 23 16 a + atBits 31 24 b + atBits 47 32 serves

/-- Function keys of free values: the next argument, and the state with the counter moved on. -/
def State.takeFree (s : State) : Nat × State := (s.free, { s with free := s.free + 1 })

end Sys2Proof.Machine
end

