-- ==== Sys2Proof/Machine/RegRead.lean ====
section
/-! DEFINITION. Reading registers: live values, effective images and snapshots (00_scope.md R10 to R16,
18_management_and_telemetry.md R531, 15_partitions_and_security.md Table 15-3). -/

namespace Sys2Proof.Machine

/-- Two cards name the same register. -/
def Card.same (c d : Card) : Bool := c.blk = d.blk && c.off = d.off && c.view = d.view

/-- The cards of CNT_ counters (R16). -/
def counterCards : List Card :=
  [R.CNT_GLB, R.CNT_SEQ, R.CNT_CLU, R.CNT_SAT, R.CNT_BF_SAT, R.CNT_HBM, R.CNT_BLK, R.CNT_EMB, R.CNT_FAB, R.CNT_RLY,
   R.CNT_HST, R.CNT_TEL]

def Card.isCounter (c : Card) : Bool := counterCards.any c.same

/-- The card has snapshot registers (R531). -/
def Card.hasSnap (c : Card) : Bool := c.isCounter || c.same R.SEQ_POSITION

/-- Value of a register as a read returns it. -/
def State.liveValue (s : State) (r : RegAt) : Nat :=
  let v := s.rd r.card r.unit r.idx
  if r.card.same R.RLY_TIME_NOW then s.ftime % 2 ^ 64
  else if r.card.same R.TEL_SENSOR && F.TEL_SENSOR_VALID.get v = 1 then
    F.TEL_SENSOR_AGE_MS.put v (min 16383 ((s.ftime - Sp.get 0 s.tel.at_ r.idx) / 1024000000))
  else v

/-- What a register-range offset names: the register, and whether its image or snapshot is meant. None at a hole
(R13, R15, R531). -/
def regName (o : Nat) : Option (RegAt × Bool) :=
  if o % 0x100000 < imageOff then (regAt o).map (fun r => (r, false))
  else match regAt (o - imageOff) with
    | some r => if r.card.shadowed || r.card.hasSnap then some (r, true) else none
    | none => none

/-- A register access of `n` bytes at offset `o` that is well formed (R15). -/
def regAccess (o n : Nat) : Option (RegAt × Bool) :=
  match regName o with
  | some (r, im) => if 8 * n = r.card.width then some (r, im) else none
  | none => none

/-- The value read at a well-formed access. During a warm-chip reset every register but two reads zero (R513). -/
def State.regValue (s : State) (r : RegAt) (image : Bool) : Nat :=
  if s.chip.warming && !(r.card.same R.GLB_STATE || r.card.same R.CRC_RESET_STATUS) then 0
  else if !image then s.liveValue r
  else if r.card.shadowed then s.rdEff r.card r.unit r.idx
  else (Sp.find (r.card.addr r.unit r.idx + imageOff) s.regs).getD 0

/-- A malformed register access: counted and reported (R15). DATA0 holds the offset. -/
def State.badAccess (s : State) (o : Nat) : State := s.regErr.event E.REG_ACCESS 0 o 0

/-- A register read (R15): a malformed one gives zero. -/
def State.regRead (s : State) (o n : Nat) : State × Nat :=
  match regAccess o n with
  | some (r, im) => (s, s.regValue r im)
  | none => (s.badAccess o, 0)

/-- The partition whose view offset `o` lies in; none for a chip-scoped register (R442). -/
def viewPart (o : Nat) : Option Nat :=
  match regName o with
  | some (r, _) => if r.card.view = .one then none else some r.unit
  | none => none

/-- The registers of 64 bytes from offset `o`, as a program's granule read sees them (log 34): each register gives its
bytes, every other byte is zero; where none lies there the access is malformed. -/
def State.regGranule (s : State) (o : Nat) : State × List Byte :=
  let put (l : List Byte) (i : Nat) : List Byte :=
    match regName (o + 4 * i) with
    | some (r, im) => putField l (4 * i) (r.card.width / 8) (s.regValue r im)
    | none => l
  let any := (List.range 16).any (fun i => (regName (o + 4 * i)).isSome)
  let l := ((List.range 16).foldl put (List.replicate 64 0)).take 64
  if any then (s, l) else (s.badAccess o, List.replicate 64 0)

/-- A register granule holds only views of partition `p` and chip-scoped registers (Table 15-3). -/
def regGranuleOk (p o : Nat) : Bool :=
  (List.range 16).all (fun i => match viewPart (o + 4 * i) with
    | some q => q = p
    | none => true)

end Sys2Proof.Machine
end

