-- ==== Sys2Proof/Machine/Hash.lean ====
section
/-! DEFINITION. The published functions the spec names: SHA-256 (R59, R93), SHA-384 (R459), CRC-32C (R326),
SipHash-2-4 (R254, R304), Philox4x32-10 (R189) and mix64 (R251). -/

namespace Sys2Proof.Machine

/-- Rotate a `w`-bit word right. -/
def rotr (w x n : Nat) : Nat := (x >>> n) ||| ((x <<< (w - n)) % 2 ^ w)

/-- Rotate a `w`-bit word left. -/
def rotl (w x n : Nat) : Nat := ((x <<< n) % 2 ^ w) ||| (x >>> (w - n))

/-- Bitwise complement of a `w`-bit word. -/
def notw (w x : Nat) : Nat := 2 ^ w - 1 - x % 2 ^ w

/-- The parameters in which SHA-256 and SHA-512 differ: word width, rounds, block bytes, rotation amounts. -/
structure ShaKind where
  w : Nat
  block : Nat
  bs0 : Nat × Nat × Nat
  bs1 : Nat × Nat × Nat
  ss0 : Nat × Nat × Nat
  ss1 : Nat × Nat × Nat
  k : List Nat

def sha256K : List Nat :=
  [0x428a2f98, 0x71374491, 0xb5c0fbcf, 0xe9b5dba5]
  ++ [0x3956c25b, 0x59f111f1, 0x923f82a4, 0xab1c5ed5]
  ++ [0xd807aa98, 0x12835b01, 0x243185be, 0x550c7dc3]
  ++ [0x72be5d74, 0x80deb1fe, 0x9bdc06a7, 0xc19bf174]
  ++ [0xe49b69c1, 0xefbe4786, 0xfc19dc6, 0x240ca1cc]
  ++ [0x2de92c6f, 0x4a7484aa, 0x5cb0a9dc, 0x76f988da]
  ++ [0x983e5152, 0xa831c66d, 0xb00327c8, 0xbf597fc7]
  ++ [0xc6e00bf3, 0xd5a79147, 0x6ca6351, 0x14292967]
  ++ [0x27b70a85, 0x2e1b2138, 0x4d2c6dfc, 0x53380d13]
  ++ [0x650a7354, 0x766a0abb, 0x81c2c92e, 0x92722c85]
  ++ [0xa2bfe8a1, 0xa81a664b, 0xc24b8b70, 0xc76c51a3]
  ++ [0xd192e819, 0xd6990624, 0xf40e3585, 0x106aa070]
  ++ [0x19a4c116, 0x1e376c08, 0x2748774c, 0x34b0bcb5]
  ++ [0x391c0cb3, 0x4ed8aa4a, 0x5b9cca4f, 0x682e6ff3]
  ++ [0x748f82ee, 0x78a5636f, 0x84c87814, 0x8cc70208]
  ++ [0x90befffa, 0xa4506ceb, 0xbef9a3f7, 0xc67178f2]

def sha512K : List Nat :=
  [0x428a2f98d728ae22, 0x7137449123ef65cd, 0xb5c0fbcfec4d3b2f, 0xe9b5dba58189dbbc]
  ++ [0x3956c25bf348b538, 0x59f111f1b605d019, 0x923f82a4af194f9b, 0xab1c5ed5da6d8118]
  ++ [0xd807aa98a3030242, 0x12835b0145706fbe, 0x243185be4ee4b28c, 0x550c7dc3d5ffb4e2]
  ++ [0x72be5d74f27b896f, 0x80deb1fe3b1696b1, 0x9bdc06a725c71235, 0xc19bf174cf692694]
  ++ [0xe49b69c19ef14ad2, 0xefbe4786384f25e3, 0xfc19dc68b8cd5b5, 0x240ca1cc77ac9c65]
  ++ [0x2de92c6f592b0275, 0x4a7484aa6ea6e483, 0x5cb0a9dcbd41fbd4, 0x76f988da831153b5]
  ++ [0x983e5152ee66dfab, 0xa831c66d2db43210, 0xb00327c898fb213f, 0xbf597fc7beef0ee4]
  ++ [0xc6e00bf33da88fc2, 0xd5a79147930aa725, 0x6ca6351e003826f, 0x142929670a0e6e70]
  ++ [0x27b70a8546d22ffc, 0x2e1b21385c26c926, 0x4d2c6dfc5ac42aed, 0x53380d139d95b3df]
  ++ [0x650a73548baf63de, 0x766a0abb3c77b2a8, 0x81c2c92e47edaee6, 0x92722c851482353b]
  ++ [0xa2bfe8a14cf10364, 0xa81a664bbc423001, 0xc24b8b70d0f89791, 0xc76c51a30654be30]
  ++ [0xd192e819d6ef5218, 0xd69906245565a910, 0xf40e35855771202a, 0x106aa07032bbd1b8]
  ++ [0x19a4c116b8d2d0c8, 0x1e376c085141ab53, 0x2748774cdf8eeb99, 0x34b0bcb5e19b48a8]
  ++ [0x391c0cb3c5c95a63, 0x4ed8aa4ae3418acb, 0x5b9cca4f7763e373, 0x682e6ff3d6b2b8a3]
  ++ [0x748f82ee5defb2fc, 0x78a5636f43172f60, 0x84c87814a1f0ab72, 0x8cc702081a6439ec]
  ++ [0x90befffa23631e28, 0xa4506cebde82bde9, 0xbef9a3f7b2c67915, 0xc67178f2e372532b]
  ++ [0xca273eceea26619c, 0xd186b8c721c0c207, 0xeada7dd6cde0eb1e, 0xf57d4f7fee6ed178]
  ++ [0x6f067aa72176fba, 0xa637dc5a2c898a6, 0x113f9804bef90dae, 0x1b710b35131c471b]
  ++ [0x28db77f523047d84, 0x32caab7b40c72493, 0x3c9ebe0a15c9bebc, 0x431d67c49c100d4c]
  ++ [0x4cc5d4becb3e42b6, 0x597f299cfc657e2a, 0x5fcb6fab3ad6faec, 0x6c44198c4a475817]

def sha256Kind : ShaKind := ⟨32, 64, (2, 13, 22), (6, 11, 25), (7, 18, 3), (17, 19, 10), sha256K⟩
def sha512Kind : ShaKind := ⟨64, 128, (28, 34, 39), (14, 18, 41), (1, 8, 7), (19, 61, 6), sha512K⟩

/-- Message schedule: extend sixteen words, held newest first, by `n` more. -/
def shaSched (c : ShaKind) : Nat → List Nat → List Nat
  | 0, l => l
  | n + 1, l =>
    let a := l.getD 1 0
    let b := l.getD 14 0
    let s1 := rotr c.w a c.ss1.1 ^^^ rotr c.w a c.ss1.2.1 ^^^ (a >>> c.ss1.2.2)
    let s0 := rotr c.w b c.ss0.1 ^^^ rotr c.w b c.ss0.2.1 ^^^ (b >>> c.ss0.2.2)
    shaSched c n (((s1 + l.getD 6 0 + s0 + l.getD 15 0) % 2 ^ c.w) :: l)

/-- One round over the eight working words. -/
def shaRound (c : ShaKind) (v : List Nat) (kw : Nat) : List Nat :=
  match v with
  | [a, b, cc, d, e, f, g, h] =>
    let s1 := rotr c.w e c.bs1.1 ^^^ rotr c.w e c.bs1.2.1 ^^^ rotr c.w e c.bs1.2.2
    let ch := (e &&& f) ^^^ (notw c.w e &&& g)
    let t1 := h + s1 + ch + kw
    let s0 := rotr c.w a c.bs0.1 ^^^ rotr c.w a c.bs0.2.1 ^^^ rotr c.w a c.bs0.2.2
    let mj := (a &&& b) ^^^ (a &&& cc) ^^^ (b &&& cc)
    [(t1 + s0 + mj) % 2 ^ c.w, a, b, cc, (d + t1) % 2 ^ c.w, e, f, g]
  | l => l

/-- The compression of one block of big-endian words. -/
def shaBlock (c : ShaKind) (h : List Nat) (block : List Byte) : List Nat :=
  let ws := (List.range 16).map (fun i => beNat ((block.drop (i * (c.w / 8))).take (c.w / 8)))
  let sched := (shaSched c (c.k.length - 16) ws.reverse).reverse
  let v := (List.zipWith (· + ·) c.k sched).foldl (shaRound c) h
  List.zipWith (fun a b => (a + b) % 2 ^ c.w) h v

/-- Blocks of `n` bytes, at most `fuel` of them. -/
def chunks {α : Type} (n : Nat) : Nat → List α → List (List α)
  | 0, _ => []
  | _, [] => []
  | fuel + 1, l => l.take n :: chunks n fuel (l.drop n)

/-- Padding of the SHA-2 functions. -/
def shaPad (c : ShaKind) (m : List Byte) : List Byte :=
  let z := (2 * c.block - 1 - c.block / 8 - m.length % c.block) % c.block
  m ++ [0x80] ++ List.replicate z 0 ++ beBytes (c.block / 8) (8 * m.length)

def shaRun (c : ShaKind) (iv : List Nat) (m : List Byte) : List Byte :=
  let p := shaPad c m
  ((chunks c.block (p.length / c.block) p).foldl (shaBlock c) iv).flatMap (beBytes (c.w / 8))

/-- SHA-256: 32 bytes. -/
def sha256 (m : List Byte) : List Byte :=
  shaRun sha256Kind [0x6a09e667, 0xbb67ae85, 0x3c6ef372, 0xa54ff53a, 0x510e527f, 0x9b05688c, 0x1f83d9ab, 0x5be0cd19] m

/-- SHA-384: 48 bytes. -/
def sha384 (m : List Byte) : List Byte :=
  (shaRun sha512Kind [0xcbbb9d5dc1059ed8, 0x629a292a367cd507, 0x9159015a3070dd17, 0x152fecd8f70e5939,
    0x67332667ffc00b31, 0x8eb44a8768581511, 0xdb0c2e0d64f98fa7, 0x47b5481dbefa4fa4] m).take 48

/-- One bit step of the reflected Castagnoli CRC. -/
def crcStep : Nat → Nat → Nat
  | 0, c => c
  | n + 1, c => crcStep n (if c % 2 = 1 then (c >>> 1) ^^^ 0x82F63B78 else c >>> 1)

/-- CRC-32C: reflected polynomial 0x1EDC_6F41, initial value and final XOR 0xFFFF_FFFF (R326). -/
def crc32c (m : List Byte) : Nat :=
  (m.foldl (fun c b => crcStep 8 (c ^^^ b.toNat)) 0xFFFFFFFF) ^^^ 0xFFFFFFFF

/-- One SipRound over (v0, v1, v2, v3). -/
def sipRound (v : Nat × Nat × Nat × Nat) : Nat × Nat × Nat × Nat :=
  let (v0, v1, v2, v3) := v
  let v0 := (v0 + v1) % 2 ^ 64
  let v1 := rotl 64 v1 13 ^^^ v0
  let v0 := rotl 64 v0 32
  let v2 := (v2 + v3) % 2 ^ 64
  let v3 := rotl 64 v3 16 ^^^ v2
  let v0 := (v0 + v3) % 2 ^ 64
  let v3 := rotl 64 v3 21 ^^^ v0
  let v2 := (v2 + v1) % 2 ^ 64
  let v1 := rotl 64 v1 17 ^^^ v2
  let v2 := rotl 64 v2 32
  (v0, v1, v2, v3)

/-- SipHash-2-4 under the 128-bit key (k0, k1). -/
def sipHash (k0 k1 : Nat) (m : List Byte) : Nat :=
  let full := m.length / 8
  let last := leNat (m.drop (8 * full)) + (m.length % 256) * 2 ^ 56
  let words := (List.range full).map (fun i => fieldAt m (8 * i) 8) ++ [last]
  let v := words.foldl (fun v w =>
      let (a, b, c, d) := v
      let (a, b, c, d) := sipRound (sipRound (a, b, c, d ^^^ w))
      (a ^^^ w, b, c, d))
    (k0 ^^^ 0x736f6d6570736575, k1 ^^^ 0x646f72616e646f6d, k0 ^^^ 0x6c7967656e657261, k1 ^^^ 0x7465646279746573)
  let (a, b, c, d) := v
  let (a, b, c, d) := sipRound (sipRound (sipRound (sipRound (a, b, c ^^^ 0xFF, d))))
  a ^^^ b ^^^ c ^^^ d

/-- One Philox round on counter and key. -/
def philoxRound (c : Nat × Nat × Nat × Nat) (k0 k1 : Nat) : Nat × Nat × Nat × Nat :=
  let (c0, c1, c2, c3) := c
  let p0 := 0xD2511F53 * c0
  let p1 := 0xCD9E8D57 * c2
  ((p1 / 2 ^ 32) ^^^ c1 ^^^ k0, p1 % 2 ^ 32, (p0 / 2 ^ 32) ^^^ c3 ^^^ k1, p0 % 2 ^ 32)

def philoxRounds : Nat → Nat × Nat × Nat × Nat → Nat → Nat → Nat × Nat × Nat × Nat
  | 0, c, _, _ => c
  | n + 1, c, k0, k1 =>
    philoxRounds n (philoxRound c k0 k1) ((k0 + 0x9E3779B9) % 2 ^ 32) ((k1 + 0xBB67AE85) % 2 ^ 32)

/-- Output word `i` of philox4x32_10 (R189). -/
def philox (c0 c1 c2 c3 k0 k1 i : Nat) : Nat :=
  let (a, b, c, d) := philoxRounds 10 (c0 % 2 ^ 32, c1 % 2 ^ 32, c2 % 2 ^ 32, c3 % 2 ^ 32) (k0 % 2 ^ 32) (k1 % 2 ^ 32)
  if i = 0 then a else if i = 1 then b else if i = 2 then c else d

/-- mix64 of R251. -/
def mix64 (z : Nat) : Nat :=
  let z := z % 2 ^ 64
  let z := ((z ^^^ (z >>> 30)) * 0xBF58476D1CE4E5B9) % 2 ^ 64
  let z := ((z ^^^ (z >>> 27)) * 0x94D049BB133111EB) % 2 ^ 64
  z ^^^ (z >>> 31)

end Sys2Proof.Machine
end

