-- ==== Sys2Proof/Machine/Course.lean ====
section
/-! DEFINITION. Courses: reading a course image, and the checks of Table 3-4 (03_program_image.md R92 to R100,
15_partitions_and_security.md R445, R451). -/

namespace Sys2Proof.Machine

/-- Smallest and largest of the 24-bit and 32-bit header fields a course names its sections by (Table 3-3). -/
structure CourseHead where
  magic : Nat
  version : Nat
  length : Nat
  loadCycles : Nat
  gen : Nat
  clusters : Nat
  stageOff : Nat
  routeOff : Nat
  routeCount : Nat
  bindOff : Nat
  loopOff : Nat
  axes : List Nat
  regionOff : Nat
  regionCount : Nat
  cueOff : Nat
  cueCount : Nat
  cbOff : Nat
  cbCount : Nat

def courseHead (b : List Byte) : CourseHead :=
  { magic := fieldAt b 0 4, version := fieldAt b 4 2, length := fieldAt b 8 4, loadCycles := fieldAt b 0xC 4
    gen := fieldAt b 0x10 2, clusters := fieldAt b 0x12 1, stageOff := fieldAt b 0x14 4, routeOff := fieldAt b 0x18 4
    routeCount := fieldAt b 0x1C 4, bindOff := fieldAt b 0x20 4, loopOff := fieldAt b 0x24 4
    axes := [fieldAt b 0x28 1, fieldAt b 0x29 1, fieldAt b 0x2A 1], regionOff := fieldAt b 0x2C 4
    regionCount := fieldAt b 0x30 4, cueOff := fieldAt b 0x34 4, cueCount := fieldAt b 0x38 4
    cbOff := fieldAt b 0x3C 4, cbCount := fieldAt b 0x40 4 }

/-- The course digest: SHA-256 with bytes 0x10-0x11 and 0x60-0x7F taken as zero (R93). -/
def courseDigest (b : List Byte) : List Byte :=
  sha256 (b.take 0x10 ++ [0, 0] ++ (b.drop 0x12).take 0x4E ++ List.replicate 32 0 ++ b.drop 0x80)

/-- A cue-load record: offset, cluster, core mask, first entry, entries. -/
structure CueLoad where
  off : Nat
  cluster : Nat
  mask : Nat
  first : Nat
  count : Nat
  entries : List (List Byte)

/-- The cue-load records from offset `o`. -/
def cueLoads (b : List Byte) : Nat → Nat → List CueLoad
  | 0, _ => []
  | n + 1, o =>
    let count := fieldAt b (o + 6) 2
    ⟨o, fieldAt b o 1, fieldAt b (o + 2) 2, fieldAt b (o + 4) 1, count,
      (List.range count).map (fun i => sliceB b (o + 8 + 32 * i) 32)⟩ :: cueLoads b n (o + 8 + 32 * count)

/-- A codebook-load record. -/
structure CbLoad where
  off : Nat
  cluster : Nat
  slot : Nat
  mask : Nat
  format : Nat
  vformat : Nat
  count : Nat
  values : List Nat

/-- Bytes of one codebook value: FP32 4, BF16 and FP16 2. -/
def cbWidth (vf : Nat) : Nat := if vf = 0 then 4 else 2

def cbLoads (b : List Byte) : Nat → Nat → List CbLoad
  | 0, _ => []
  | n + 1, o =>
    let vf := fieldAt b (o + 5) 1
    let count := fieldAt b (o + 6) 2
    ⟨o, fieldAt b o 1, fieldAt b (o + 1) 1, fieldAt b (o + 2) 2, fieldAt b (o + 4) 1, vf, count,
      (List.range count).map (fun i => fieldAt b (o + 8 + cbWidth vf * i) (cbWidth vf))⟩
      :: cbLoads b n (o + 8 + cbWidth vf * count)

def stageEnts (b : List Byte) (h : CourseHead) : List StageEnt :=
  (List.range 64).map (fun c =>
    let o := h.stageOff + 40 * c
    ⟨fieldAt b o 1, fieldAt b (o + 1) 1 % 2 = 1, (List.range 16).map (fun g => fieldAt b (o + 8 + 2 * g) 2)⟩)

def courseRoutes (b : List Byte) (h : CourseHead) : List Route :=
  (List.range h.routeCount).map (fun i =>
    let o := h.routeOff + 8 * i
    let x := fieldAt b (o + 1) 1
    let y := fieldAt b (o + 3) 1
    ⟨fieldAt b o 1, x % 16, x / 16, fieldAt b (o + 2) 1, y % 16, y / 16, fieldAt b (o + 4) 1, fieldAt b (o + 5) 1⟩)

def courseBinds (b : List Byte) (h : CourseHead) : List Binding :=
  (List.range 64).map (fun i =>
    let o := h.bindOff + 16 * i
    ⟨fieldAt b o 1, fieldAt b (o + 1) 1, fieldAt b (o + 2) 2, fieldAt b (o + 4) 1, fieldAt b (o + 5) 1,
      fieldAt b (o + 8) 8⟩)

def courseLoops (b : List Byte) (h : CourseHead) : List (Nat × Nat) :=
  (List.range 16).map (fun i => (fieldAt b (h.loopOff + 8 * i) 3, fieldAt b (h.loopOff + 8 * i + 4) 4))

def courseRegions (b : List Byte) (h : CourseHead) : List Region :=
  (List.range h.regionCount).map (fun i =>
    let w := fieldAt b (h.regionOff + 16 * i) 8
    ⟨bits w 63 56, bits w 55 48, bits w 47 0, fieldAt b (h.regionOff + 16 * i + 8) 8⟩)

/-- The course an image describes. -/
def parseCourse (b : List Byte) : Course :=
  let h := courseHead b
  { loadCycles := h.loadCycles, clusters := h.clusters, gen := h.gen, digest := courseDigest b
    stages := stageEnts b h, routes := courseRoutes b h, binds := courseBinds b h, loops := courseLoops b h
    axes := h.axes, regions := courseRegions b h }

/-- Bytes a list of cue-load records takes. -/
def cueBytes (l : List CueLoad) : Nat := (l.map (fun r => 8 + 32 * r.count)).sum
def cbBytes (l : List CbLoad) : Nat := (l.map (fun r => 8 + cbWidth r.vformat * r.count)).sum

/-- The sections of a course: the offset field that names each, its start and its length. -/
def courseSections (b : List Byte) (h : CourseHead) : List (Nat × Nat × Nat) :=
  [(0x00, 0, 0x80), (0x14, h.stageOff, 2560), (0x18, h.routeOff, 8 * h.routeCount), (0x20, h.bindOff, 1024),
   (0x24, h.loopOff, 128), (0x2C, h.regionOff, 16 * h.regionCount),
   (0x34, h.cueOff, cueBytes (cueLoads b h.cueCount h.cueOff)),
   (0x3C, h.cbOff, cbBytes (cbLoads b h.cbCount h.cbOff))]

/-- First pair of overlapping sections, by the field of the later. -/
def overlapAt : List (Nat × Nat × Nat) → Option Nat
  | [] => none
  | (_, o, n) :: r =>
    match r.find? (fun e => n != 0 && e.2.2 != 0 && e.2.1 < o + n && o < e.2.1 + e.2.2) with
    | some e => some e.1
    | none => overlapAt r

/-- The first element listed twice, by the offset it carries. -/
def dupAt : List (Nat × Nat) → Option Nat
  | [] => none
  | (k, _) :: r => match r.find? (fun e => e.1 = k) with
    | some e => some e.2
    | none => dupAt r

/-- Die of a logical cluster (R19). -/
def dieOf (c : Nat) : Nat := c / 16

/-- The dies a route passes, source first: one, two, or three through VIA; none where VIA is wrong. Dies 0 and 3, and
1 and 2, are diagonal. -/
def Route.path (r : Route) : Option (List Nat) :=
  let a := dieOf r.srcC
  let b := dieOf r.dstC
  if a = b then (if r.via = 0xFF then some [a] else none)
  else if a + b = 3 then (if r.via < 4 && r.via != a && r.via != b then some [a, r.via, b] else none)
  else if r.via = 0xFF then some [a, b] else none

/-- The bridge directions a route crosses, each as source die times four plus destination die (R95). -/
def Route.bridges (r : Route) : List Nat :=
  match r.path with
  | some [a, b] => [4 * a + b]
  | some [a, v, b] => [4 * a + v, 4 * v + b]
  | _ => []

/-- Occurrences of an element. -/
def countOf (l : List Nat) (x : Nat) : Nat := (l.filter (· = x)).length

/-- The plane and port limits of R95 hold of all routes together. -/
def routesFit (rs : List Route) : Bool :=
  let outer := rs.filter (fun r => r.srcC != r.dstC)
  let src := outer.map (fun r => r.plane * 64 + r.srcC)
  let dst := outer.map (fun r => r.plane * 64 + r.dstC)
  let br := outer.flatMap (fun r => r.bridges.map (fun x => r.plane * 16 + x))
  let sp := rs.map (fun r => (r.srcC * 16 + r.srcK) * 4 + r.srcPort)
  let dp := rs.map (fun r => (r.dstC * 16 + r.dstK) * 4 + r.dstPort)
  src.all (fun x => countOf src x ≤ 1) && dst.all (fun x => countOf dst x ≤ 1) && br.all (fun x => countOf br x ≤ 2)
    && sp.all (fun x => countOf sp x ≤ 1) && dp.all (fun x => countOf dp x ≤ 1)

/-- Static-lane latency of a route in CCLK cycles, at every setting (R29, Table 1-5). -/
def Route.latency (r : Route) : Nat :=
  if r.srcC = r.dstC then 4
  else if dieOf r.srcC = dieOf r.dstC then 2 + 8 + 2
  else if dieOf r.srcC + dieOf r.dstC = 3 then 2 + 36 + 2
  else 2 + 22 + 2

/-- L_min of R99. -/
def minLoad (cues : List CueLoad) (cbs : List CbLoad) : Nat :=
  let d := (List.range 1024).map (fun n =>
    ((cues.filter (fun r => r.cluster = n / 16 && bit r.mask (n % 16))).map (fun r => 32 * r.count)).sum
    + ((cbs.filter (fun r => r.cluster = n / 16 && bit r.mask (n % 16))).map (fun r => cbWidth r.vformat * r.count)).sum)
  64 + (d.map (fun x => cdiv x 32)).foldl max 0

/-- The check of Table 3-4 with a given code fails at the offset returned. -/
def State.courseCheck (s : State) (p goLen : Nat) (b : List Byte) : Nat → Option Nat
  | 0x01 => let h := courseHead b
    if h.magic != 0x5243584B then some 0 else if h.version != 1 then some 4 else none
  | 0x02 => let h := courseHead b
    if h.length != goLen then some 8
    else match (courseSections b h).find? (fun e => h.length < e.2.1 + e.2.2) with
      | some e => some e.1
      | none => overlapAt (courseSections b h)
  | 0x03 => if courseDigest b = sliceB b 0x60 32 then none else some 0x60
  | 0x04 =>
    let h := courseHead b
    let lim := bits (s.rd R.GLB_DEVICE_ID 0 0) 15 8
    let mine := s.rd R.GLB_PART_CLUSTERS 0 p
    let bad := fun c => decide (lim ≤ c) || !bit mine c
    if lim < h.clusters then some 0x12
    else match (List.range 64).find? (fun c => bad c && fieldAt b (h.stageOff + 40 * c + 1) 1 % 2 = 1) with
      | some c => some (h.stageOff + 40 * c)
      | none => match (cueLoads b h.cueCount h.cueOff).find? (fun r => bad r.cluster) with
        | some r => some r.off
        | none => match (cbLoads b h.cbCount h.cbOff).find? (fun r => bad r.cluster) with
          | some r => some r.off
          | none => ((List.range h.routeCount).find? (fun i =>
              bad (fieldAt b (h.routeOff + 8 * i) 1) || bad (fieldAt b (h.routeOff + 8 * i + 2) 1))).map
              (fun i => h.routeOff + 8 * i)
  | 0x05 => let h := courseHead b
    ((List.range 64).find? (fun c => fieldAt b (h.stageOff + 40 * c + 1) 1 / 2 != 0
      || fieldAt b (h.stageOff + 40 * c + 2) 6 != 0)).map (fun c => h.stageOff + 40 * c)
  | 0x06 =>
    let h := courseHead b
    let st := stageEnts b h
    let l := cueLoads b h.cueCount h.cueOff
    match l.find? (fun r => !(st.getD r.cluster {}).enabled || r.count = 0 || 256 < r.first + r.count) with
    | some r => some r.off
    | none => dupAt (l.flatMap (fun r => (bitList r.mask 16).flatMap (fun k =>
        (List.range r.count).map (fun i => ((r.cluster * 16 + k) * 256 + r.first + i, r.off)))))
  | 0x07 =>
    let h := courseHead b
    let st := stageEnts b h
    let l := cbLoads b h.cbCount h.cbOff
    match l.find? (fun r => !(st.getD r.cluster {}).enabled || decide (63 < r.slot) || decide (2 < r.vformat)
        || !((r.format = 0x0C && r.count = 16) || (r.format = 0x0D && r.count = 256))) with
    | some r => some r.off
    | none => dupAt (l.flatMap (fun r => (bitList r.mask 16).map (fun k =>
        ((r.cluster * 16 + k) * 64 + r.slot, r.off))))
  | 0x08 =>
    let h := courseHead b
    let st := stageEnts b h
    let rs := courseRoutes b h
    let planes := s.rdF R.GLB_PART_SHARE F.GLB_PART_SHARE_BRIDGE_PLANES 0 p
    match (List.range h.routeCount).find? (fun i =>
        let o := h.routeOff + 8 * i
        let r := rs.getD i ⟨0, 0, 0, 0, 0, 0, 0, 0⟩
        !(st.getD r.srcC {}).enabled || !(st.getD r.dstC {}).enabled || decide (3 < r.srcPort) || decide (3 < r.dstPort)
          || decide (7 < r.plane) || fieldAt b (o + 6) 2 != 0 || r.path.isNone
          || (dieOf r.srcC != dieOf r.dstC && !bit planes r.plane)) with
    | some i => some (h.routeOff + 8 * i)
    | none => if routesFit rs then none else some h.routeOff
  | 0x09 =>
    let h := courseHead b
    let bs := courseBinds b h
    ((List.range 64).find? (fun i =>
      let x := bs.getD i {}
      let lim := if x.target = 1 || x.target = 5 then 12 else if x.target = 2 then 8 else if x.target = 3 then 4 else 1
      x.target != 0 && (decide (6 < x.target) || decide (lim ≤ x.inst) || x.base % 64 != 0 || decide (2 ^ 48 ≤ x.base)
        || !s.mapped x.base || x.tenant != s.primary p || x.part != p))).map (fun i => h.bindOff + 16 * i)
  | 0x0A =>
    let h := courseHead b
    let ax := h.axes
    match (List.range 3).find? (fun i => 16 ≤ ax.getD i 0) with
    | some i => some (0x28 + i)
    | none =>
      let bound := (ax.map (· % 4)).filter (· != 3)
      if bound.all (fun x => countOf bound x ≤ 1) then none else some 0x28
  | 0x0B => let h := courseHead b
    ((List.range 16).find? (fun i => decide (262143 < fieldAt b (h.loopOff + 8 * i) 3)
      || fieldAt b (h.loopOff + 8 * i + 3) 1 != 0)).map (fun i => h.loopOff + 8 * i)
  | 0x0C =>
    let h := courseHead b
    let rs := courseRegions b h
    let isHbm := fun a => match s.regionOf a with | .hbm _ => true | _ => false
    let isTier := fun a => match s.regionOf a with | .hbm _ | .bulk _ => true | _ => false
    match (List.range h.regionCount).find? (fun i =>
        let r := rs.getD i ⟨0, 0, 0, 0⟩
        if r.kind = 1 then decide (r.base % 4096 ≠ 0) || !(isHbm r.base && s.rangeMapped r.base r.size)
        else if r.kind = 2 then decide (r.base % 4096 ≠ 0) || !(isTier r.base && s.rangeMapped r.base r.size)
        else if r.kind = 3 then decide (2 < r.ctx) || decide (r.base % 256 ≠ 0) || decide (r.size % 256 ≠ 0)
          || decide (0x180000 < r.base + r.size)
        else true) with
    | some i => some (h.regionOff + 16 * i)
    | none => if (rs.filter (fun r => r.kind = 1)).length = 1 then none else some 0x30
  | 0x0D => let h := courseHead b
    let m := minLoad (cueLoads b h.cueCount h.cueOff) (cbLoads b h.cbCount h.cbOff)
    if h.loadCycles < m ∨ 1048575 < h.loadCycles then some 0x0C else none
  | 0x0E =>
    let h := courseHead b
    let cues := cueLoads b h.cueCount h.cueOff
    let cbs := cbLoads b h.cbCount h.cbOff
    ((List.range 64).find? (fun c =>
      1310720 < 40 + cueBytes (cues.filter (fun r => r.cluster = c)) + cbBytes (cbs.filter (fun r => r.cluster = c)))).map
      (fun c => h.stageOff + 40 * c)
  | _ => none

/-- The first failing check of a course image, by code and offset; (0, 0) where it passes. -/
def State.courseErr (s : State) (p goLen : Nat) (b : List Byte) : Nat × Nat :=
  (((List.range 15).filter (· != 0)).findSome? (fun c => (s.courseCheck p goLen b c).map (fun o => (c, o)))).getD (0, 0)

/-! ## The course bank -/

/-- Store area of slot `k` (0-31 active, 32-63 shadow): its own number until a swap (R56). -/
def Part.area (x : Part) (k : Nat) : Nat := Sp.get k x.slotRef k

/-- Device address of store area `a` of partition `p`. -/
def State.areaAddr (s : State) (p a : Nat) : Nat :=
  let v := s.rd R.SEQ_COURSE_STORE p 0
  bits v 47 24 * 2 ^ 24 + a * (bits v 4 0 * 2 ^ 20)

/-- The image held in slot `k`: as many bytes as its header's LENGTH names. -/
def State.slotImage (s : State) (p k : Nat) : List Byte :=
  let a := s.areaAddr p ((s.part p).area k)
  s.load a (s.loadN (a + 8) 4)

def State.slotValid (s : State) (p k : Nat) : Bool := bit (s.rd R.SEQ_SLOT_STATUS p k) 63

/-- Swap an active slot with its shadow: the references, the status and the digests change places (R56). -/
def State.swapSlot (s : State) (p k : Nat) : State :=
  let x := s.part p
  let a := x.area k
  let b := x.area (k + 32)
  let s := s.setPart p { x with slotRef := Sp.set (k + 32) (Sp.set k x.slotRef k b) (k + 32) a }
  let va := s.rd R.SEQ_SLOT_STATUS p k
  let vb := s.rd R.SEQ_SLOT_STATUS p (k + 32)
  let da := s.rdDigest R.SEQ_SLOT_DIGEST p (4 * k)
  let db := s.rdDigest R.SEQ_SLOT_DIGEST p (4 * (k + 32))
  (((s.wr R.SEQ_SLOT_STATUS p k vb).wr R.SEQ_SLOT_STATUS p (k + 32) va).wrDigest R.SEQ_SLOT_DIGEST p (4 * k) db).wrDigest
    R.SEQ_SLOT_DIGEST p (4 * (k + 32)) da

/-- Swap the armed slots of `mask`: a slot whose course carries another generation than `gen` is not swapped, loses
both arm bits and raises EV_COURSE_GEN (R56, R107). -/
def State.swapArmed (s : State) (p mask gen : Nat) : State :=
  (bitList mask 32).foldl (fun s k =>
    let arm := s.rd R.SEQ_COURSE_ARM p 0
    let s' := s.wr R.SEQ_COURSE_ARM p 0 (setBit (setBit arm k false) (k + 32) false)
    if bits (s.rd R.SEQ_SLOT_STATUS p (k + 32)) 47 32 = gen then s'.swapSlot p k
    else s'.raise E.COURSE_GEN p k gen) s

end Sys2Proof.Machine
end

