-- ==== Sys2Proof/Machine/Stride.lean ====
section
/-! DEFINITION. Stride words: layout, encoding faults, engine slots and loops (03_program_image.md R109 to R119, R123,
R570). -/

namespace Sys2Proof.Machine

/-- A stride word as a number: 256 bytes, little-endian (R109). -/
abbrev StrideWord := Nat

def swCluster (w c : Nat) : Nat := bits w (24 * c + 23) (24 * c)
def swRepeat (w : Nat) : Nat := bits w 1551 1536
def swCtrl (w : Nat) : Nat := bits w 1567 1552
def swAwait (w : Nat) : Nat := bits w 1599 1568
def swResume (w : Nat) : Nat := bits w 1631 1600
def swEngine (w e : Nat) : Nat := bits w (1664 + 96 * e + 95) (1664 + 96 * e)
def swEndLeg (w : Nat) : Bool := bit (swCtrl w) 0
def swPace (w : Nat) : Bool := bit (swCtrl w) 1
def swLoopOp (w : Nat) : Nat := bits (swCtrl w) 4 2
def swLoopId (w : Nat) : Nat := bits (swCtrl w) 8 5

/-- What a cluster slot asks of its cores. -/
inductive SlotAct where
  | hold
  | dispatch (cue group param : Nat)
  | rest (group len : Nat)
  | bad
deriving DecidableEq, Repr

/-- Reading of a 24-bit cluster slot (R110). A REST of length 0 lies outside RUN_LEN's range. -/
def slotAct (v : Nat) : SlotAct :=
  match bits v 23 22 with
  | 0 => if bits v 21 0 = 0 then .hold else .bad
  | 1 => .dispatch (bits v 21 14) (bits v 13 10) (bits v 9 0)
  | 2 => if bits v 17 0 = 0 then .bad else .rest (bits v 21 18) (bits v 17 0)
  | _ => .bad

/-- Reading of a 96-bit engine slot; none where empty. -/
def slotCmd (p pos v : Nat) : Option EngCmd :=
  if bits v 95 91 = 0 then none else
  some { part := p, target := bits v 95 91, binding := bits v 90 85, opcode := bits v 84 80, token := bits v 76 72
         desc := bits v 71 48, count := bits v 47 32, offset := bits v 31 0, pos := pos }

/-- Encoding faults of a word that any program meets (R123), for a partition that owns `mine` of the chip's clusters
(R110, R441). -/
def strideFault (mine w : Nat) : Bool :=
  (List.range 64).any (fun c =>
    decide (slotAct (swCluster w c) = .bad) || (swCluster w c != 0 && !bit mine c))
  || (List.range 4).any (fun e =>
    let v := swEngine w e
    let t := bits v 95 91
    (t = 0 && v != 0) || decide (6 < t) || bits v 79 77 != 0)
  || bits w 1663 1632 != 0 || bits (swCtrl w) 15 9 != 0 || decide (1 < swLoopOp w)
  || (!swPace w && (swAwait w != 0 || swResume w != 0))
  || (swEndLeg w && (!swPace w || swLoopOp w != 0))

/-- The clusters of partition `p` that exist on the grade. -/
def State.myClusters (s : State) (p : Nat) : Nat :=
  s.rd R.GLB_PART_CLUSTERS 0 p % 2 ^ bits (s.rd R.GLB_DEVICE_ID 0 0) 15 8

/-- Address of store word `w` (R109). -/
def strideAddr (w : Nat) : Nat := strideBase + 256 * w

/-- Store word `w` belongs to a bank of partition `p` (R441). -/
def State.bankOk (s : State) (p w : Nat) : Bool := bit (s.rd R.GLB_PART_BANKS 0 p) (w / 4096)

/-- Store word `w` lies in the guard in effect of partition `p` (R122). -/
def State.guarded (s : State) (p w : Nat) : Bool :=
  let g := s.rd R.SEQ_STRIDE_GUARD p 0
  bit g 63 && bits g 17 0 ≤ w && w ≤ bits g 49 32

/-- Outside READY, some guard covers store word `w` (R122). -/
def State.guardBlocks (s : State) (w : Nat) : Bool :=
  s.enabledParts.any (fun p => s.pState p != stReady && s.guarded p w)

/-- A write through the store image (R36, R122): poisoned writes and writes to guarded words are discarded, counted and
reported; others reach all four copies. -/
def State.strideImageWrite (s : State) (a : Nat) (bs : List Byte) (poison : Bool) : State :=
  let w := (a - strideBase) / 256
  let p := (s.enabledParts.find? (fun p => s.bankOk p w)).getD 0
  if poison || s.guardBlocks w || s.guardBlocks ((a + bs.length - 1 - strideBase) / 256) then
    (s.count R.CNT_SEQ p 8 1).event E.STRIDE_GUARD p w 0
  else { s with mem := storeRaw s.mem a bs }

/-- Tokens: a mask reads zero where every counter it names is zero (R118). -/
def Part.tokensZero (x : Part) (mask : Nat) : Bool := (bitList mask 32).all (fun t => Sp.get 0 x.tokens t = 0)

/-- Count a token up at an issue; none where the counter would pass 65,535 (R118). -/
def Part.tokenUp (x : Part) (t : Nat) : Option Part :=
  let n := Sp.get 0 x.tokens t
  if 65535 ≤ n then none else some { x with tokens := Sp.set 0 x.tokens t (n + 1) }

/-- Count a token down at a completion (R118). -/
def Part.tokenDown (x : Part) (t : Nat) : Part :=
  { x with tokens := Sp.set 0 x.tokens t (Sp.get 0 x.tokens t - 1) }

/-- Armed triggers of partition `p` whose counter has reached its threshold fire, in the order of their ARMs: each
appends its command to its binding's queue, on the token its ARM counted (R379). -/
def State.fireTrigs (s : State) (p : Nat) : State :=
  let x := s.part p
  let due (t : Trig) : Bool := decide (t.threshold ≤ s.rd R.RLY_TRIGGER 0 t.ctr)
  let s := s.count R.CNT_RLY 0 13 (x.trigs.filter due).length
  s.setPart p ((x.trigs.filter due).foldl (fun y t =>
    { y with outstanding := y.outstanding ++ [{ t.cmd with id := y.cmdNext }], cmdNext := y.cmdNext + 1 })
    { x with trigs := x.trigs.filter (fun t => !due t) })

/-- Add to a trigger counter (R378). -/
def State.trigInc (s : State) (p ctr n : Nat) : State :=
  (s.wr R.RLY_TRIGGER 0 ctr ((s.rd R.RLY_TRIGGER 0 ctr + n) % 2 ^ 32)).fireTrigs p

/-- Complete an engine command: it leaves its binding's queue, its token counts down (R118, R119), and a fired command
counts in its NEXT_CTR (R378). -/
def State.cmdDone (s : State) (c : EngCmd) : State :=
  let s := s.updPart c.part (fun x => { x.tokenDown c.token with outstanding := x.outstanding.filter (fun d => d.id != c.id) })
  if c.trig && c.nextCtr != 0xFFFF then s.trigInc c.part c.nextCtr 1 else s

/-- The oldest command of binding `b` that its engine has not taken (R117). -/
def State.engNext (s : State) (p b : Nat) : Option EngCmd :=
  (s.part p).outstanding.find? (fun c => c.binding = b && !c.started)

/-- The engine takes a command. -/
def State.engStart (s : State) (c : EngCmd) : State :=
  s.updPart c.part (fun x => { x with outstanding := x.outstanding.map (fun d =>
    if d.id = c.id then { d with started := true } else d) })

/-- A descriptor fetch by an engine command: the binding is checked again (R96), then the 64 bytes at
DESC_BASE + DESC x 64 are read. None where the fetch is refused or poisoned; the state carries the error. -/
def State.fetchDesc (s : State) (c : EngCmd) (b : Binding) (bk : Blk) : State × Option (List Byte) :=
  let a := b.base + 64 * c.desc
  let rq := s.progReq c.part bk b.inst
  if b.tenant != s.primary c.part || b.part != c.part then (s.refusedErr rq a, none) else
  match s.check rq a 64 with
  | .unmapped => (s.unmappedErr rq a, none)
  | .refused => (s.refusedErr rq a, none)
  | .ok =>
    let s := s.sense a 64 c.part rq.word
    (s, some (s.load a 64))

/-- The binding a command names, of the course in force. -/
def State.bindingOf (s : State) (c : EngCmd) : Binding := (s.part c.part).course.binds.getD c.binding {}

/-- Trigger entries a partition's pace points have not yet released (R380). -/
def Part.trigCount (x : Part) : Nat := (x.trigHeld.map (·.2)).sum

/-- Commands to binding `b` that no satisfied pace point has yet awaited (R119). -/
def Part.queueCount (x : Part) (b : Nat) : Nat := ((x.queueHeld.filter (fun e => e.1 / 32 = b)).map (·.2)).sum

/-- The command is an RLY ARM (Table 12-3). -/
def EngCmd.isArm (c : EngCmd) : Bool := c.target = 4 && c.opcode = 2

/-- Issue one engine slot (R117 to R119, R380): a full queue, want of a trigger entry and token overflow are
class P and leave the slot unissued; the result says whether the next slot may issue. -/
def State.issueEngine (s : State) (c : EngCmd) : State × Bool :=
  let x := s.part c.part
  if (s.bindingOf c).target != c.target then (s.raise E.BINDING_MISMATCH c.part c.pos 0, false)
  else if 64 ≤ x.queueCount c.binding then
    (s.raise E.ENGINE_QFULL c.part c.pos 0, false)
  else if c.isArm && decide (s.rdF R.GLB_PART_SHARE F.GLB_PART_SHARE_TRIG_ENTRIES 0 c.part ≤ x.trigCount) then
    (s.raise E.TRIGGER_FULL c.part c.pos ((s.bindingOf c).base + 64 * c.desc), false)
  else match x.tokenUp c.token with
    | none => (s.raise E.TOKEN_OVERFLOW c.part c.pos 0, false)
    | some y => (s.setPart c.part { y with
        outstanding := y.outstanding ++ [{ c with id := y.cmdNext }]
        cmdNext := y.cmdNext + 1
        queueHeld := Sp.upd 0 y.queueHeld (32 * c.binding + c.token) (· + 1)
        trigHeld := if c.isArm then Sp.set 0 y.trigHeld c.token (Sp.get 0 y.trigHeld c.token + 1) else y.trigHeld }, true)

/-- The loop step at the end of word `w` (R116): the next word, and the state; none where EV_LOOP_INVALID stops it.
`loops` holds remaining + 1 of an active descriptor, nothing for an inactive one. -/
def State.loopStep (s : State) (p d w start : Nat) : State × Option Nat :=
  let x := s.part p
  let (body, cnt) := x.course.loops.getD d (0, 0)
  if cnt = 0 || decide (w - start < body) then (s.raise E.LOOP_INVALID p (s.posWord p w) 0, none) else
  let rem := match Sp.get 0 x.loops d with
    | 0 => cnt - 1
    | n + 1 => n
  if 0 < rem then (s.setPart p { x with loops := Sp.set 0 x.loops d rem }, some (start + body))
  else (s.setPart p { x with loops := Sp.set 0 x.loops d 0 }, some (w + 1))

end Sys2Proof.Machine
end

