-- ==== Sys2Proof/Machine/Seq.lean ====
section
/-! DEFINITION. The sequencer outside its boundaries: run control, configuration checks, legs, the lap record, the seal, replay reads and the course and stride loaders (02_laps_and_legs.md, 03_program_image.md,
14_reproducibility_and_audit.md). -/

namespace Sys2Proof.Machine

/-! ## Legs -/

/-- A leg-table entry runs in lap `lap` (R48). -/
def legRuns (entry lap : Nat) : Bool :=
  let per := F.SEQ_LEG_TABLE_PERIOD.get entry
  decide (per ≤ 1) || lap % per = 0

/-- First leg from `k` that runs in lap `lap`, of a leg table read by `tab` and `legs` legs. -/
def firstLeg (tab : Nat → Nat) (legs lap k : Nat) : Option Nat :=
  (List.range legs).find? (fun j => k ≤ j && legRuns (tab j) lap)

/-- The leg table in effect. -/
def State.legEff (s : State) (p k : Nat) : Nat := s.rdEff R.SEQ_LEG_TABLE p k
def State.legsEff (s : State) (p : Nat) : Nat := s.effF R.SEQ_LAP_CONFIG F.SEQ_LAP_CONFIG_LEGS p 0

/-- The leg after leg `k` of the lap in progress; none at the last. -/
def State.nextLeg (s : State) (p k : Nat) : Option Nat := firstLeg (s.legEff p) (s.legsEff p) (s.lap p) (k + 1)

def State.legKind (s : State) (p : Nat) : Nat := F.SEQ_LEG_TABLE_KIND.get (s.legEff p (s.leg p))

/-- Configuration generation in force (R108). -/
def State.gen (s : State) (p : Nat) : Nat := s.effF R.SEQ_LAP_CONFIG F.SEQ_LAP_CONFIG_CONFIG_GEN p 0

/-- Paced mode is on for the leg in progress: STRAGGLER = 1 and an exchange leg (R73, R88). -/
def State.pacedLeg (s : State) (p : Nat) : Bool :=
  s.effF R.SEQ_LAP_CONFIG F.SEQ_LAP_CONFIG_STRAGGLER p 0 = 1 && s.legKind p = 3

/-- Replay is on (R76). -/
def State.replayOn (s : State) (p : Nat) : Bool := s.effF R.SEQ_LAP_CONFIG F.SEQ_LAP_CONFIG_REPLAY p 0 = 1

/-! ## Configuration checks and pending values -/

/-- The pending lap configuration is valid (R62). -/
def State.configOk (s : State) (p : Nat) : Bool :=
  let v := s.rd R.SEQ_LAP_CONFIG p 0
  let legs := F.SEQ_LAP_CONFIG_LEGS.get v
  let ringLog := F.SEQ_SEAL_RING_LOG2_ENTRIES.get (s.rd R.SEQ_SEAL_RING p 0)
  decide (1 ≤ legs) && decide (legs ≤ 32)
  && (List.range legs).all (fun k =>
      let e := s.rd R.SEQ_LEG_TABLE p k
      F.SEQ_LEG_TABLE_VALID.get e = 1 && F.SEQ_LEG_TABLE_KIND.get e != 7)
  && decide (F.SEQ_LAP_CONFIG_LATE_ACTION.get v ≤ 1)
  && decide (1 ≤ F.SEQ_RECORD_RING_SIZE_MIB.get (s.rd R.SEQ_RECORD_RING p 0))
  && (F.SEQ_LAP_CONFIG_REPLAY.get v = 0 || decide (1 ≤ F.SEQ_RECORD_RING_SIZE_MIB.get (s.rd R.SEQ_REPLAY_RING p 0)))
  && (F.SEQ_AUDIT_CTRL_SEAL_ENABLE.get (s.rd R.SEQ_AUDIT_CTRL p 0) = 0 || (decide (4 ≤ ringLog) && decide (ringLog ≤ 20)))

/-- Copy the pending fields of code `a` of one register into its effective image. -/
def State.applyReg (s : State) (c : Card) (u k : Nat) (a : Acc) : State :=
  let pend := s.rd c u k
  s.wrEff c u k ((c.fields.filter (fun f => f.acc = a)).foldl
    (fun v f => setBits v f.hi f.lo (bits pend f.hi f.lo)) (s.rdEff c u k))

/-- All pending RWL fields of partition `p`'s views take effect (R10, R54 step 4). A record ring that changes begins at
its first place (log 102). -/
def State.applyLap (s : State) (p : Nat) : State :=
  let per := (Blk.seq.cards ++ Blk.emb.cards ++ Blk.rly.cards.filter (fun c => c.view = .part100)).filter Card.shadowed
  let ring := s.rdEff R.SEQ_RECORD_RING p 0
  let s := per.foldl (fun s c => (List.range c.count).foldl (fun s k => s.applyReg c p k .rwl) s) s
  if s.rdEff R.SEQ_RECORD_RING p 0 = ring then s else s.updPart p (fun x => { x with recPos := 0, recIndex := [] })

/-- The chip-wide RWL fields: page attributes and the stacks' ledger tables. They take effect at the lap boundaries
of partition 0 (log 20). -/
def State.applyLapChip (s : State) : State :=
  let s := s.applyReg R.GLB_PAGE_ATTR 0 0 .rwl
  (List.range 12).foldl (fun s i => s.applyReg R.AKC_LEDGER_TABLE i 0 .rwl) s

/-- RWS fields of the partition's clusters take effect (R10, Table 2-3 B + 40). -/
def State.applyLeg (s : State) (p : Nat) : State :=
  (bitList (s.rd R.GLB_PART_CLUSTERS 0 p) 64).foldl (fun s c =>
    (List.range 16).foldl (fun s i => s.applyReg R.CLU_CAL_BIND c i .rws) s) s

/-- The digested stride guard takes effect at a lap or opening boundary (R124). -/
def State.applyGuard (s : State) (p : Nat) : State :=
  let g := s.rd R.SEQ_STRIDE_GUARD_PENDING p 0
  if bit g 63 then
    (s.wr R.SEQ_STRIDE_GUARD p 0 g).wrDigest R.SEQ_STRIDE_DIGEST p 0 (s.rdDigest R.SEQ_STRIDE_DIGEST_PENDING p 0)
  else s

def State.armLeg (s : State) (p : Nat) : Nat := s.rdF R.SEQ_COURSE_ARM F.SEQ_COURSE_ARM_ARM_LEG p 0
def State.armLap (s : State) (p : Nat) : Nat := s.rdF R.SEQ_COURSE_ARM F.SEQ_COURSE_ARM_ARM_LAP p 0

/-- Set SEQ_POSITION's fields. -/
def State.setPos (s : State) (p : Nat) (l : List (Fld × Nat)) : State := s.wrFs R.SEQ_POSITION p 0 l

def State.setLap (s : State) (p n : Nat) : State :=
  s.setPos p [(F.SEQ_POSITION_LAP, n), (F.SEQ_POSITION_LAP_EPOCH, n)]

/-! ## Staging (R101) -/

/-- The store area of the course the next leg will run under, from the leg table, the arm bits and the slots as they
stand: the pending leg table once the lap ends with this leg. -/
def State.courseAhead (s : State) (p : Nat) : Nat :=
  let x := s.part p
  let pick (slot mask : Nat) : Nat := if bit mask slot then x.area (slot + 32) else x.area slot
  match s.nextLeg p (s.leg p) with
  | some j => pick (F.SEQ_LEG_TABLE_COURSE_SLOT.get (s.legEff p j)) (s.armLeg p)
  | none =>
    let tab := s.rd R.SEQ_LEG_TABLE p
    match firstLeg tab (s.rdF R.SEQ_LAP_CONFIG F.SEQ_LAP_CONFIG_LEGS p 0) ((s.lap p + 1) % 2 ^ 32) 0 with
    | some j => pick (F.SEQ_LEG_TABLE_COURSE_SLOT.get (tab j)) (s.armLeg p ||| s.armLap p)
    | none => 0

/-- A write that changes the course to be staged restarts staging before cycle B (R101). -/
def State.restage (s : State) (p : Nat) : State :=
  let x := s.part p
  match x.staged with
  | some a => if x.bound.isNone && a != s.courseAhead p then s.setPart p { x with staged := none } else s
  | none => s

/-! ## Run control (R60 to R67) -/

/-- A START that is not accepted (R60). -/
def State.startRejected (s : State) (p : Nat) : State :=
  s.regErr.event E.START_REJECTED p 0 0

/-- A RESUME that is ignored (R62, R66, R485). -/
def State.resumeRejected (s : State) (p : Nat) : State := s.event E.START_REJECTED p 0 0

/-- HOLD_NEXT requests a hold at the next completion boundary (R63). -/
def State.holdNext (s : State) (p : Nat) : State :=
  if s.isRunning p then s.updPart p (fun x => { x with holdReq := true }) else s

/-- Enter HELD or DETACHED with a cause of Table 2-4. -/
def State.enterHold (s : State) (p cause : Nat) : State :=
  let s := s.setPos p [(F.SEQ_POSITION_HOLD_CAUSE, cause), (F.SEQ_POSITION_IN_BOUNDARY, 0)]
  (s.updPart p (fun x => { x with running := false, bound := none, pace := none })).setPState p
    (if cause = 2 then stDetached else stHeld)

/-! ## The lap record (R71, R72) -/

def RecEntry.bytes (e : RecEntry) : List Byte :=
  leBytes 1 e.typ ++ leBytes 1 e.leg ++ leBytes 1 e.code ++ leBytes 1 0 ++ leBytes 2 e.source ++ leBytes 2 0
    ++ leBytes 8 e.item ++ leBytes 8 e.value ++ leBytes 8 e.time

/-- Types that are sealed (Table 2-8). -/
def RecEntry.sealed (e : RecEntry) : Bool := e.typ = 1 || e.typ = 2 || e.typ = 3 || e.typ = 4 || e.typ = 0x30

/-- The order of sealed entries: bytes 0x00 to 0x0F as one big-endian number (R71). -/
def RecEntry.key (e : RecEntry) : Nat := beNat (e.bytes.take 16)

/-- Insert by rising key. -/
def insertRec (e : RecEntry) : List RecEntry → List RecEntry
  | [] => [e]
  | f :: r => if e.key < f.key then e :: f :: r else f :: insertRec e r

/-- Sealed entries in record order. -/
def sealedOf (l : List RecEntry) : List RecEntry := (l.filter RecEntry.sealed).foldl (fun acc e => insertRec e acc) []

def unsealedOf (l : List RecEntry) : List RecEntry := l.filter (fun e => !e.sealed)

/-- SEALED_DIGEST: SHA-256 over bytes 0x00-0x17 of each sealed entry (Table 2-7). -/
def sealedDigest (l : List RecEntry) : List Byte := sha256 ((sealedOf l).flatMap (fun e => e.bytes.take 24))

/-- Add an entry, stamped with the partition's leg and the fabric time. -/
def State.addRec (s : State) (p : Nat) (e : RecEntry) : State :=
  s.updPart p (fun x => { x with record := x.record ++ [{ e with time := s.ftime % 2 ^ 64 }] })

/-- Ring size in 4 KiB units. -/
def State.ringUnits (s : State) (p : Nat) : Nat := 256 * F.SEQ_RECORD_RING_SIZE_MIB.get (s.rdEff R.SEQ_RECORD_RING p 0)

def recUnits (n : Nat) : Nat := cdiv (64 + 32 * n) 4096

/-- A record of `n` units from unit `pos` meets a record of a lap above RECORD_CONSUMED (R72). Laps are compared as
32-bit serial numbers. -/
def State.recBlocked (s : State) (p pos n : Nat) : Bool :=
  let units := s.ringUnits p
  let consumed := s.rdF R.SEQ_LAP_NUMBERS F.SEQ_LAP_NUMBERS_RECORD_CONSUMED p 0
  decide (units < n) || (s.part p).recIndex.any (fun (lap, at_, len) =>
    serialNewer 32 lap consumed &&
      (List.range n).any (fun i => (List.range len).any (fun j => (pos + i) % units = (at_ + j) % units)))

/-- A record's bytes, written unit by unit round the ring. -/
def State.writeRing (s : State) (base units pos : Nat) (b : List Byte) : State :=
  ((chunks 4096 (b.length / 4096 + 1) b).zipIdx).foldl
    (fun s e => s.save (base + 4096 * ((pos + e.2) % units)) e.1) s

/-- Put a record's bytes at the ring's next place. -/
def State.putRecord (s : State) (p lap : Nat) (b : List Byte) : State :=
  let pos := (s.part p).recPos
  let units := s.ringUnits p
  let n := cdiv b.length 4096
  let base := bits (s.rdEff R.SEQ_RECORD_RING p 0) 47 12 * 4096
  let covered (e : Nat × Nat × Nat) : Bool :=
    (List.range n).any (fun i => (List.range e.2.2).any (fun j => (pos + i) % units = (e.2.1 + j) % units))
  (s.writeRing base units pos b).updPart p (fun y => { y with
    recPos := (pos + n) % units
    recIndex := y.recIndex.filter (fun e => !covered e) ++ [(lap, pos, n)] })

/-- Header and entries of the lap record (Tables 2-7 and 2-8) with the entries `l`. -/
def State.recordBytes (s : State) (p flags : Nat) (l : List RecEntry) : List Byte :=
  let x := s.part p
  let flags := flags + 2 * b2n (s.replayOn p) + 4 * b2n (s.effF R.SEQ_LAP_CONFIG F.SEQ_LAP_CONFIG_STRAGGLER p 0 = 1)
  leBytes 4 (s.lap p) ++ leBytes 2 (s.rdF R.RLY_FABRIC_COORD F.RLY_FABRIC_COORD_CHIP_ID 0 0) ++ leBytes 2 (s.gen p)
    ++ leBytes 4 l.length ++ leBytes 4 (sealedOf x.record).length ++ leBytes 4 flags ++ List.replicate 12 0
    ++ sealedDigest x.record ++ l.flatMap RecEntry.bytes

/-- Close the lap record (R54 step 1, R71, R72). Where the sealed entries do not fit, nothing is written and the record is
owed. -/
def State.closeRecord (s : State) (p : Nat) : State :=
  let x := s.part p
  let sealedL := sealedOf x.record
  let all := sealedL ++ unsealedOf x.record
  if !s.recBlocked p x.recPos (recUnits all.length) then
    (s.putRecord p (s.lap p) (s.recordBytes p 0 all)).updPart p (fun y => { y with truncated := false })
  else
    let s := s.updPart p (fun y => { y with truncated := true })
    if !s.recBlocked p x.recPos (recUnits sealedL.length) then s.putRecord p (s.lap p) (s.recordBytes p 1 sealedL)
    else s.updPart p (fun y => { y with owed := some (s.lap p, s.recordBytes p 9 sealedL) })

/-- An owed record is written once it fits; the result says whether none is owed (R72). -/
def State.writeOwed (s : State) (p : Nat) : State × Bool :=
  match (s.part p).owed with
  | none => (s, true)
  | some (lap, b) =>
    if s.recBlocked p (s.part p).recPos (cdiv b.length 4096) then (s, false)
    else ((s.putRecord p lap b).updPart p (fun y => { y with owed := none }), true)

/-- A lap that ends in a hold marks its record HELD_AFTER (Table 2-7). -/
def State.markHeld (s : State) (p lap : Nat) : State :=
  match (s.part p).recIndex.getLast? with
  | some (l, pos, _) =>
    let a := bits (s.rdEff R.SEQ_RECORD_RING p 0) 47 12 * 4096 + 4096 * pos + 0x10
    if l = lap then s.saveN a 1 (setBits (s.rawN a 1) 3 3 1) else s
  | none => s

/-! ## The seal (R429 to R432) -/

/-- The seal preimage (Table 14-4). -/
def State.sealPreimage (s : State) (p : Nat) : List Byte :=
  let rank := s.effF R.SEQ_DRAW_RANK F.SEQ_DRAW_RANK_RANK p 0
  let chips := s.effF R.RLY_JOB F.RLY_JOB_CHIPS p 0
  let ring := s.rd R.HST_INTAKE_RING p 0
  let input := if F.HST_INTAKE_RING_SEG_MIB.get ring = 0 then List.replicate 32 0 else s.rdDigest R.HST_INPUT_DIGEST p 0
  leBytes 4 0x4C414553 ++ leBytes 2 1 ++ leBytes 2 rank ++ leBytes 4 (s.lap p) ++ leBytes 4 chips
    ++ leBytes 8 (s.rdEff R.SEQ_SEED0 p 0) ++ leBytes 8 (s.rdEff R.SEQ_SEED1 p 0)
    ++ s.rdDigest R.SEQ_LAP_COURSE_DIGEST p 0 ++ s.rdDigest R.SEQ_STRIDE_DIGEST p 0 ++ input
    ++ sealedDigest (s.part p).record ++ s.rdDigest R.GLB_WEIGHT_DIGEST p 0

/-- Compute and write the lap seal (R430, R431). -/
def State.writeSeal (s : State) (p : Nat) : State :=
  if s.effF R.SEQ_AUDIT_CTRL F.SEQ_AUDIT_CTRL_SEAL_ENABLE p 0 = 0 then s else
  let x := s.part p
  let pre := s.sealPreimage p
  let d := sha256 pre
  let ring := s.rdEff R.SEQ_SEAL_RING p 0
  let a := bits ring 47 8 * 256 + 256 * (s.lap p % 2 ^ bits ring 63 59)
  let flags := b2n (x.vIssues != 0) + 2 * b2n (s.replayOn p)
    + 4 * b2n (s.effF R.SEQ_LAP_CONFIG F.SEQ_LAP_CONFIG_STRAGGLER p 0 = 1)
    + 8 * b2n (F.HST_INTAKE_RING_SEG_MIB.get (s.rd R.HST_INTAKE_RING p 0) = 0) + 16 * b2n x.reexecuted
    + 32 * b2n x.truncated
  let ent := pre ++ d ++ leBytes 4 flags ++ leBytes 2 (s.rdF R.RLY_FABRIC_COORD F.RLY_FABRIC_COORD_CHIP_ID 0 0)
    ++ leBytes 2 (s.gen p) ++ leBytes 8 x.vIssues ++ leBytes 8 (s.ftime % 2 ^ 64) ++ List.replicate 8 0
  let s := ((s.save a ent).wrDigest R.SEQ_LAP_SEAL p 0 d).count R.CNT_SEQ p 4 1
  s.wrFs R.SEQ_AUDIT_STATUS p 0 [(F.SEQ_AUDIT_STATUS_SEALED_LAP, s.lap p), (F.SEQ_AUDIT_STATUS_VARIANT, b2n (x.vIssues != 0)),
    (F.SEQ_AUDIT_STATUS_SEALED, 1)]

/-! ## Variance (R426, R427) -/

/-- A primary issue of a V operation: counted, and refused as class P in strict mode. The result says whether the
operation executes. -/
def State.vIssue (s : State) (p pos : Nat) : State × Bool :=
  let s := (s.count R.CNT_SEQ p 2 1).updPart p (fun x => { x with vIssues := x.vIssues + 1 })
  if s.effF R.SEQ_AUDIT_CTRL F.SEQ_AUDIT_CTRL_STRICT p 0 = 1 then (s.raise E.VARIANT_STRICT p pos 0, false) else (s, true)

/-! ## Replay (R76, R437, R438) -/

/-- Address of the next replayed record's header. -/
def State.replayAddr (s : State) (p : Nat) : Nat :=
  let ring := s.rdEff R.SEQ_REPLAY_RING p 0
  bits ring 47 12 * 4096 + 4096 * (s.rd R.SEQ_REPLAY_POS p 0 % max 1 (256 * bits ring 63 48))

/-- Bytes of the replay ring from the record's start, round the ring. -/
def State.replayByte (s : State) (p i : Nat) : List Byte :=
  let ring := s.rdEff R.SEQ_REPLAY_RING p 0
  let size := max 4096 (2 ^ 20 * bits ring 63 48)
  let base := bits ring 47 12 * 4096
  s.load (base + (s.replayAddr p - base + i) % size) 32

/-- The ring holds a record for lap `lap` of this chip (R437). -/
def State.replayHas (s : State) (p lap : Nat) : Bool :=
  let a := s.replayAddr p
  s.loadN a 4 = lap && s.loadN (a + 4) 2 = s.rdF R.RLY_FABRIC_COORD F.RLY_FABRIC_COORD_CHIP_ID 0 0

def recOfBytes (b : List Byte) : RecEntry :=
  { typ := fieldAt b 0 1, leg := fieldAt b 1 1, code := fieldAt b 2 1, source := fieldAt b 4 2, item := fieldAt b 8 8
    value := fieldAt b 16 8, time := fieldAt b 24 8 }

/-- Read the replayed lap's sealed entries; false where the ring holds none for the lap (R437). -/
def State.loadReplay (s : State) (p lap : Nat) : State × Bool :=
  if !s.replayOn p then (s.updPart p (fun x => { x with replayed := [], replayRing := false }), true)
  else if s.replayHas p lap then
    let n := s.loadN (s.replayAddr p + 0x0C) 4
    (s.updPart p (fun x => { x with
      replayed := (List.range n).map (fun i => recOfBytes (s.replayByte p (64 + 32 * i))), replayRing := true }), true)
  else ((s.updPart p (fun x => { x with replayed := [], replayRing := false })).event E.REPLAY_MISSING p 0 lap, false)

/-- At the close of a replayed lap's record: compare the digests (R438) and advance the replay position (R437). -/
def State.closeReplay (s : State) (p : Nat) : State :=
  let x := s.part p
  if !x.replayRing then s else
  let a := s.replayAddr p
  let units := max 1 (256 * bits (s.rdEff R.SEQ_REPLAY_RING p 0) 63 48)
  let s := if s.load (a + 0x20) 32 = sealedDigest x.record then s else
    ((s.count R.CNT_SEQ p 3 1).wrF R.SEQ_AUDIT_STATUS F.SEQ_AUDIT_STATUS_REPLAY_DIVERGED p 0 1).event
      E.REPLAY_DIVERGED p 0 (s.lap p)
  s.wr R.SEQ_REPLAY_POS p 0 ((s.rd R.SEQ_REPLAY_POS p 0 + recUnits (s.loadN (a + 8) 4)) % units)

/-! ## The lap-state block (R435) -/

/-- Write the lap-state block at the start of a checkpoint leg; `emb`, `rly` and `items` are the occupancies of the
deferred areas. -/
def State.lapStateBlock (s : State) (p emb rly items : Nat) : State :=
  let v := s.rdEff R.SEQ_LAP_STATE p 0
  if !bit v 63 then s.raise E.LAP_STATE_MISSING p 0 0 else
  let b := leBytes 4 0x5350414C ++ leBytes 2 1 ++ leBytes 2 0 ++ leBytes 4 (s.lap p) ++ leBytes 2 (s.gen p)
    ++ leBytes 2 (s.effF R.SEQ_DRAW_RANK F.SEQ_DRAW_RANK_RANK p 0) ++ s.rdDigest R.GLB_WEIGHT_DIGEST p 0
    ++ leBytes 4 (s.rdF R.EMB_PLACE_EPOCH F.EMB_PLACE_EPOCH_EPOCH p 0) ++ leBytes 4 emb ++ leBytes 4 rly ++ leBytes 4 items
  (s.save (bits v 47 6 * 64) b).updPart p (fun x => { x with lapStateOpen := some (bits v 47 6 * 64) })

/-! ## The course loader (R102 to R104) -/

/-- A write of SEQ_COURSE_STORE (R102). -/
def State.courseStoreWrite (s : State) (p v : Nat) : State :=
  if s.pState p != stReady then s.regErr else
  let s := s.wr R.SEQ_COURSE_STORE p 0 (atBits 47 24 (bits v 47 24) + bits v 4 0)
  (List.range 64).foldl (fun s k => s.wr R.SEQ_SLOT_STATUS p k 0) s

/-- End of a course load (R103 steps 5 and 6). -/
def State.courseLoadEnd (s : State) (p slot err off : Nat) : State :=
  let s := s.wrFs R.SEQ_COURSE_LOAD_STATUS p 0 [(F.SEQ_COURSE_LOAD_STATUS_ERR_OFFSET, off),
    (F.SEQ_COURSE_LOAD_STATUS_ERROR, err), (F.SEQ_COURSE_LOAD_STATUS_DONE, 1), (F.SEQ_COURSE_LOAD_STATUS_BUSY, 0)]
  (s.updPart p (fun x => { x with courseLoad := none })).event E.COURSE_LOADED p slot err

/-- A GO to the course loader (R103 steps 1 to 4). -/
def State.courseLoadGo (s : State) (p v : Nat) : State :=
  if s.rdF R.SEQ_COURSE_LOAD_STATUS F.SEQ_COURSE_LOAD_STATUS_BUSY p 0 = 1 then s.regErr else
  let slot := F.SEQ_COURSE_LOAD_CTRL_SLOT.get v
  let len := F.SEQ_COURSE_LOAD_CTRL_LENGTH.get v
  let s := s.wr R.SEQ_COURSE_LOAD_CTRL p 0 (F.SEQ_COURSE_LOAD_CTRL_LENGTH.put (atBits 12 8 slot) len)
  let s := s.wrF R.SEQ_COURSE_LOAD_STATUS F.SEQ_COURSE_LOAD_STATUS_DONE p 0 0
  if bit (s.armLeg p) slot || bit (s.armLap p) slot then
    ((s.count R.CNT_SEQ p 5 1).event E.SHADOW_BUSY p slot 0).courseLoadEnd p slot 0x0F 0
  else
    let s := s.wr R.SEQ_SLOT_STATUS p (slot + 32) 0
    let max := bits (s.rd R.SEQ_COURSE_STORE p 0) 4 0 * 2 ^ 20
    if len = 0 ∨ len % 64 ≠ 0 ∨ max < len then s.courseLoadEnd p slot 0x02 0x08 else
    let src := bits (s.rd R.SEQ_COURSE_LOAD_SRC p 0) 47 6 * 64
    ((s.wrF R.SEQ_COURSE_LOAD_STATUS F.SEQ_COURSE_LOAD_STATUS_BUSY p 0 1).wrF R.SEQ_SLOT_STATUS
      F.SEQ_SLOT_STATUS_BUSY p (slot + 32) 1).updPart p
      (fun x => { x with courseLoad := some ⟨0, src, slot, len⟩ })

/-- The loader of partition `p` as a requester (Table 15-3). -/
def State.loaderReq (s : State) (p : Nat) : Req :=
  { kind := .loader, fn := s.primary p, part := p, blk := Blk.seq.byte }

/-- The copy and the checks of a course load (R103 steps 4 to 6). -/
def State.courseLoadDone (s : State) (p : Nat) : State :=
  match (s.part p).courseLoad with
  | none => s
  | some op =>
    let slot := op.first
    let dst := s.areaAddr p ((s.part p).area (slot + 32))
    let s := s.wrF R.SEQ_SLOT_STATUS F.SEQ_SLOT_STATUS_BUSY p (slot + 32) 0
    match s.check (s.loaderReq p) op.src op.count with
    | .unmapped => (s.unmappedErr (s.loaderReq p) op.src).courseLoadEnd p slot 0x10 0
    | .refused => (s.refusedErr (s.loaderReq p) op.src).courseLoadEnd p slot 0x10 0
    | .ok =>
      let s := s.sense op.src op.count p (s.loaderReq p).word
      if s.poisoned op.src op.count then s.courseLoadEnd p slot 0x10 0 else
      let b := s.load op.src op.count
      let s := s.save dst b
      let (err, off) := s.courseErr p op.count b
      let s := if err = 0 then
          let h := courseHead b
          (s.wr R.SEQ_SLOT_STATUS p (slot + 32) (atBits 63 63 1 + atBits 55 48 h.clusters + atBits 47 32 h.gen
            + atBits 19 0 h.loadCycles)).wrDigest R.SEQ_SLOT_DIGEST p (4 * (slot + 32)) (courseDigest b)
        else s
      s.courseLoadEnd p slot err off

/-- Set arm bits (R56, R104): a shadow slot without a valid course is not armed. -/
def State.courseArm (s : State) (p v : Nat) : State :=
  let s := ((bitList (v ||| (v >>> 32)) 32)).foldl (fun s k =>
    if s.slotValid p (k + 32) then
      s.wr R.SEQ_COURSE_ARM p 0 (s.rd R.SEQ_COURSE_ARM p 0 ||| (v &&& (2 ^ k + 2 ^ (k + 32))))
    else s.event E.ARM_INVALID p k 0) s
  s.restage p

/-! ## The stride loader (R120 to R125) -/

def State.strideLoadEnd (s : State) (p err word : Nat) : State :=
  (s.wrFs R.SEQ_STRIDE_LOAD_STATUS p 0 [(F.SEQ_STRIDE_LOAD_STATUS_ERR_WORD, word), (F.SEQ_STRIDE_LOAD_STATUS_ERROR, err),
    (F.SEQ_STRIDE_LOAD_STATUS_DONE, 1), (F.SEQ_STRIDE_LOAD_STATUS_BUSY, 0)]).updPart p
    (fun x => { x with strideLoad := none })

/-- The range of a loader operation leaves the store or the partition's banks (R123, R441). -/
def State.strideRangeBad (s : State) (p first cnt : Nat) : Bool :=
  cnt = 0 || decide (262144 < first + cnt)
    || ((List.range 64).any (fun k => decide (first < 4096 * (k + 1)) && decide (4096 * k < first + cnt)
        && !bit (s.rd R.GLB_PART_BANKS 0 p) k))

/-- ERR_WORD of a range error: the first word of a bank the partition lacks, else FIRST. -/
def State.strideRangeWord (s : State) (p first cnt : Nat) : Nat :=
  match (List.range 64).find? (fun k => decide (first < 4096 * (k + 1)) && decide (4096 * k < first + cnt)
    && !bit (s.rd R.GLB_PART_BANKS 0 p) k) with
  | some k => max first (4096 * k)
  | none => first

/-- A GO to the stride loader (R122 to R125), for the mode of the write. -/
def State.strideLoadGo (s : State) (p v : Nat) : State :=
  if s.rdF R.SEQ_STRIDE_LOAD_STATUS F.SEQ_STRIDE_LOAD_STATUS_BUSY p 0 = 1 then s.regErr else
  let first := F.SEQ_STRIDE_LOAD_CTRL_FIRST.get v
  let cnt := F.SEQ_STRIDE_LOAD_CTRL_COUNT.get v
  let s := s.wr R.SEQ_STRIDE_LOAD_CTRL p 0 (setBits (v % 2 ^ 41) 39 37 0)
  let s := s.wrF R.SEQ_STRIDE_LOAD_STATUS F.SEQ_STRIDE_LOAD_STATUS_DONE p 0 0
  if s.strideRangeBad p first cnt then s.strideLoadEnd p 1 (s.strideRangeWord p first cnt) else
  match (List.range cnt).find? (fun i => s.guardBlocks (first + i)) with
  | some i => s.strideLoadEnd p 2 (first + i)
  | none =>
    let src := bits (s.rd R.SEQ_STRIDE_LOAD_SRC p 0) 47 8 * 256
    (s.wrF R.SEQ_STRIDE_LOAD_STATUS F.SEQ_STRIDE_LOAD_STATUS_BUSY p 0 1).updPart p
      (fun x => { x with strideLoad := some ⟨F.SEQ_STRIDE_LOAD_CTRL_MODE.get v, src, first, cnt⟩ })

/-- Store word `w` as a number. -/
def State.storeWord (s : State) (w : Nat) : StrideWord := s.rawN (strideAddr w) 256

/-- The `k` words of a LOAD from word `i` on, in order: a word that cannot be read or that fails the encoding checks ends the
operation, and the words before it stay (R123). The error and its word, if any. -/
def State.strideLoadWords (p : Nat) (op : LoadOp) : Nat → Nat → State → State × Option (Nat × Nat)
  | 0, _, s => (s, none)
  | k + 1, i, s =>
    let a := op.src + 256 * i
    match s.check (s.loaderReq p) a 256 with
    | .unmapped => (s.unmappedErr (s.loaderReq p) a, some (3, op.first + i))
    | .refused => (s.refusedErr (s.loaderReq p) a, some (3, op.first + i))
    | .ok =>
      let s := s.sense a 256 p (s.loaderReq p).word
      if s.poisoned a 256 then (s, some (3, op.first + i))
      else if strideFault (s.myClusters p) (leNat (s.load a 256)) then (s, some (5, op.first + i))
      else State.strideLoadWords p op k (i + 1) { s with mem := storeRaw s.mem (strideAddr (op.first + i)) (s.load a 256) }

/-- The words of a LOAD reach the store; the digest and encoding results are recorded (R123). -/
def State.strideLoadDone (s : State) (p : Nat) : State :=
  match (s.part p).strideLoad with
  | none => s
  | some op =>
    if op.mode = 1 then s else
    match State.strideLoadWords p op op.count 0 s with
    | (s, some (err, w)) => s.strideLoadEnd p err w
    | (s, none) =>
      if sha256 (s.load op.src (256 * op.count)) = s.rdDigest R.SEQ_STRIDE_EXPECT p 0 then s.strideLoadEnd p 0 0
      else s.strideLoadEnd p 4 op.first

/-- The result of a DIGEST (R124). -/
def State.strideDigestDone (s : State) (p : Nat) : State :=
  match (s.part p).strideLoad with
  | none => s
  | some op =>
    if op.mode = 0 then s else
    let d := sha256 ((List.range (256 * op.count)).map (fun i => s.raw (strideAddr op.first + i)))
    if d = s.rdDigest R.SEQ_STRIDE_EXPECT p 0 then
      ((s.wrDigest R.SEQ_STRIDE_DIGEST_PENDING p 0 d).wr R.SEQ_STRIDE_GUARD_PENDING p 0
        (atBits 63 63 1 + atBits 49 32 (op.first + op.count - 1) + atBits 17 0 op.first)).strideLoadEnd p 0 0
    else s.strideLoadEnd p 4 op.first

end Sys2Proof.Machine
end

