-- ==== Sys2Proof/Machine/Fence.lean ====
section
/-! DEFINITION. Physical units: charges, fences and substitutions (01_organisation.md R19 to R35,
16_reliability_and_fencing.md R478 to R485). -/

namespace Sys2Proof.Machine

/-! ## Cores, hubs and clusters -/

def State.core (s : State) (n : Nat) : Core := Sp.get {} s.cores n
def State.setCore (s : State) (n : Nat) (x : Core) : State := { s with cores := Sp.set {} s.cores n x }
def State.updCore (s : State) (n : Nat) (f : Core → Core) : State := s.setCore n (f (s.core n))
def State.hub (s : State) (c : Nat) : Hub := Sp.get {} s.hubs c
def State.setHub (s : State) (c : Nat) (x : Hub) : State := { s with hubs := Sp.set {} s.hubs c x }
def State.updHub (s : State) (c : Nat) (f : Hub → Hub) : State := s.setHub c (f (s.hub c))
/-- Logical clusters of the grade (R20). -/
def State.clusterCount (s : State) : Nat := s.coreCount / 16

/-- A remap has been loaded (GLB_REMAP_STATUS.LOADED). -/
def State.remapLoaded (s : State) : Bool := s.rdF R.GLB_REMAP_STATUS F.GLB_REMAP_STATUS_LOADED 0 0 = 1

/-- Physical position of logical cluster `c` (R19, R22). -/
def State.posOf (s : State) (c : Nat) : Nat :=
  if s.remapLoaded then s.rdF R.CLU_CORE_REMAP F.CLU_CORE_REMAP_PHYS_POS c 0 else c % 16

/-- Physical cluster number of logical cluster `c`: die times 17 plus position. -/
def State.physOf (s : State) (c : Nat) : Nat := c / 16 * 17 + s.posOf c

/-- Fenced slots and fenced hub of a physical cluster. -/
def State.slotMask (s : State) (j : Nat) : Nat := Sp.get 0 s.phys.slots j
def State.hubFenced (s : State) (j : Nat) : Bool := bit s.phys.hubs j

/-- Logical cluster that position `pos` of die `d` serves. -/
def State.clusterAt (s : State) (d pos : Nat) : Option Nat :=
  (List.range s.clusterCount).find? (fun c => c / 16 = d && s.posOf c = pos)

/-- Slot that serves logical core `k` of cluster `c` (R21). -/
def State.slotOf (s : State) (c k : Nat) : Nat :=
  let v := s.rd R.CLU_CORE_REMAP c 0
  if F.CLU_CORE_REMAP_SPARE_IN_USE.get v = 1 && F.CLU_CORE_REMAP_MOVED_SLOT.get v = k then 16 else k

/-- Logical core of cluster `c` that slot `sl` serves. -/
def State.coreAt (s : State) (c sl : Nat) : Option Nat :=
  ((List.range 16).find? (fun k => s.slotOf c k = sl)).map (fun k => 16 * c + k)

/-- The group of die `d` in GLB_CLUSTER_REMAP, bits [7:0]. -/
def State.dieGroup (s : State) (d : Nat) : Nat := bits (s.rd R.GLB_CLUSTER_REMAP 0 0) (16 * d + 7) (16 * d)
def State.setDieGroup (s : State) (d v : Nat) : State :=
  s.wr R.GLB_CLUSTER_REMAP 0 0 (setBits (s.rd R.GLB_CLUSTER_REMAP 0 0) (16 * d + 7) (16 * d) v)

/-- A spare cluster is healthy: hub not fenced and at most one slot fenced (R22). -/
def State.spareHealthy (s : State) (d : Nat) : Bool :=
  !s.hubFenced (d * 17 + 16) && decide (popCount (s.slotMask (d * 17 + 16)) 17 ≤ 1)
def State.spareUsed (s : State) (d : Nat) : Bool := bit (s.dieGroup d) 5

/-- Recompute DIE_EXHAUSTED and SPARE_FENCED of die `d`. -/
def State.syncSpares (s : State) (d : Nat) : State :=
  let ex := s.rdF R.GLB_REMAP_STATUS F.GLB_REMAP_STATUS_DIE_EXHAUSTED 0 0
  let s := s.wrF R.GLB_REMAP_STATUS F.GLB_REMAP_STATUS_DIE_EXHAUSTED 0 0 (setBit ex d (!s.spareHealthy d || s.spareUsed d))
  s.setDieGroup d (setBit (s.dieGroup d) 7 (s.hubFenced (d * 17 + 16)))

/-- Cluster `c` has to leave its physical cluster (R22). -/
def State.mustMove (s : State) (c : Nat) : Bool :=
  s.hubFenced (s.physOf c) || decide (2 ≤ popCount (s.slotMask (s.physOf c)) 17)

/-- The move of R22 finds a healthy unused spare cluster for `c`. -/
def State.canMove (s : State) (c : Nat) : Bool :=
  s.posOf c != 16 && s.spareHealthy (c / 16) && !s.spareUsed (c / 16)

/-- The remap register of `c` shows the fences of its physical cluster, and the pending move of R22. -/
def State.syncRemap (s : State) (c : Nat) : State :=
  s.wrFs R.CLU_CORE_REMAP c 0 [(F.CLU_CORE_REMAP_SLOT_FENCED, s.slotMask (s.physOf c)),
    (F.CLU_CORE_REMAP_NEEDS_MOVE, b2n (decide (2 ≤ popCount (s.slotMask (s.physOf c)) 17) && s.canMove c))]

/-- Unit word of a core slot and of a hub (R471). -/
def slotWord (d pos sl serves : Nat) : Nat := unitWord 1 d pos sl serves
def hubWord (d pos serves : Nat) : Nat := unitWord 2 d pos 0 serves

/-- What a fence of a unit of cluster `c` asks of its partition (R24, R25, R480, R485): the cluster is held, a leg
attempt in progress ends, and a move that finds no spare sets SHAPE_LOST. `served` says the unit was in service. -/
def State.fenceServed (s : State) (c u : Nat) (served : Bool) : State :=
  match s.partOfCluster c with
  | none => s
  | some p =>
    if !served then s else
    let s := s.updPart p (fun x => { x with heldClusters := if c ∈ x.heldClusters then x.heldClusters else x.heldClusters ++ [c] })
    let d := c / 16
    let rivals := (List.range s.clusterCount).any (fun e => e != c && e / 16 = d && s.mustMove e && s.posOf e != 16)
    let lost := s.mustMove c && (s.posOf c = 16 || !s.spareHealthy d || s.spareUsed d || rivals)
    let s := if lost && !(s.part p).shapeLost then
        ((s.wrF R.GLB_REMAP_STATUS F.GLB_REMAP_STATUS_SHAPE_LOST 0 0 1).updPart p (fun x => { x with shapeLost := true })).event
          E.SHAPE_LOST p u 0
      else s
    s.classL p E.UNIT_FENCED.code

/-- Fence core slot `sl` at position `pos` of die `d` (R21, R478, R481): the state and the ERROR code. -/
def State.fenceSlot (s : State) (d pos sl : Nat) : State × Nat :=
  if 3 < d ∨ 16 < pos ∨ 16 < sl then (s, 1) else
  let j := d * 17 + pos
  if bit (s.slotMask j) sl then (s, 2) else
  let c? := s.clusterAt d pos
  let n? := c?.bind (fun c => s.coreAt c sl)
  let s := { s with phys := { s.phys with slots := Sp.set 0 s.phys.slots j (setBit (s.slotMask j) sl true) } }
  let s := s.count R.CNT_GLB 0 11 1
  let s := match c? with
    | some c => s.syncRemap c
    | none => s
  let u := slotWord d pos sl (n?.getD 0xFFFF)
  let s := (s.syncSpares d).event E.UNIT_FENCED ((c?.bind s.partOfCluster).getD 0) u 0
  (match c? with
    | some c => s.fenceServed c u n?.isSome
    | none => s, 0)

/-- Fence the hub at position `pos` of die `d` (R22, R478, R481). -/
def State.fenceHub (s : State) (d pos : Nat) : State × Nat :=
  if 3 < d ∨ 16 < pos then (s, 1) else
  let j := d * 17 + pos
  if s.hubFenced j then (s, 2) else
  let c? := s.clusterAt d pos
  let s := { s with phys := { s.phys with hubs := setBit s.phys.hubs j true } }
  let s := (s.count R.CNT_GLB 0 12 1).syncSpares d
  let u := hubWord d pos (c?.getD 0xFFFF)
  let s := s.event E.UNIT_FENCED ((c?.bind s.partOfCluster).getD 0) u 0
  (match c? with
    | some c => s.fenceServed c u true
    | none => s, 0)

/-! ## Charges (R479) -/

/-- Charge a unit once; its charges so far come with the state. -/
def State.charge (s : State) (u : Nat) : State × Nat :=
  let n := Sp.get 0 s.phys.charges (u % 2 ^ 32) + 1
  ({ s with phys := { s.phys with charges := Sp.set 0 s.phys.charges (u % 2 ^ 32) n } }, n)

/-- A class L hardware error of logical core `n` (R136, R159, R479): counted, charged to its slot, and the slot is
fenced at CORE_LIMIT. -/
def State.coreHwErr (s : State) (e : Ev) (n : Nat) : State :=
  let c := n / 16
  let p := (s.partOfCluster c).getD 0
  let d := c / 16
  let pos := s.posOf c
  let sl := s.slotOf c (n % 16)
  let u := slotWord d pos sl n
  let (s, k) := s.charge u
  let s := s.raise e p u k
  if max 1 (s.rdF R.GLB_FENCE_POLICY F.GLB_FENCE_POLICY_CORE_LIMIT 0 0) ≤ k then (s.fenceSlot d pos sl).1 else s

/-! ## Mesh lanes and bridge modules -/

/-- The link from tile `tile` in direction `dir` (0 north, 1 east, 2 south, 3 west) exists in the 6 x 3 mesh; tiles
count along rows of six (log 31). -/
def linkExists (tile dir : Nat) : Bool :=
  tile < 18 && (match dir with
    | 0 => decide (6 ≤ tile)
    | 1 => decide (tile % 6 < 5)
    | 2 => decide (tile < 12)
    | _ => decide (0 < tile % 6))

/-- Key of a link direction and lane kind (0 static, 1 dynamic). -/
def laneKey (kind d tile dir : Nat) : Nat := ((d * 18 + tile) * 4 + dir) * 2 + kind

def laneWord (kind d tile dir lane : Nat) : Nat := unitWord (3 + kind) d tile (dir * 16 + lane) 0xFFFF

/-- The partitions whose routes use static lanes of die `d`: those with a route through the die (log 32). -/
def State.routesOn (s : State) (d : Nat) : List Nat :=
  s.enabledParts.filter (fun p => (s.part p).course.routes.any (fun r => r.srcC != r.dstC && (r.path.getD []).contains d))

/-- The spare of link direction `k` goes into use (R33, R484). -/
def State.laneSpared (s : State) (kind k lane : Nat) : State :=
  let d := k / 144
  let f := if kind = 0 then F.GLB_SPARE_STATUS_STATIC_SPARED else F.GLB_SPARE_STATUS_DYN_SPARED
  let v := s.rdF R.GLB_SPARE_STATUS f 0 0
  let n := bits v (4 * d + 3) (4 * d)
  let s := { s with phys := { s.phys with laneUse := Sp.set 0 s.phys.laneUse k 2 } }
  let s := s.wrF R.GLB_SPARE_STATUS f 0 0 (setBits v (4 * d + 3) (4 * d) (min 15 (n + 1)))
  ((s.count R.CNT_GLB 0 14 1).wrF R.GLB_STATE F.GLB_STATE_ANY_FENCED 0 0 1).event E.MESH_LANE_SPARED 0
    (laneWord kind d (k / 8 % 18) (k / 2 % 4) lane) 0

/-- Nothing runs: a substitution of a shared unit takes effect at once (R484). -/
def State.noneRunning (s : State) : Bool := !s.enabledParts.any s.isRunning

/-- Lane index of the fenced lane of a mask. -/
def firstBit (m n : Nat) : Nat := ((bitList m n).head?).getD 0

/-- Fence a mesh lane (R33, R478, R480, R481). -/
def State.fenceLane (s : State) (kind d tile dir lane : Nat) : State × Nat :=
  let lim := if kind = 0 then 9 else 5
  if 3 < d ∨ !linkExists tile dir ∨ lim ≤ lane then (s, 1) else
  let k := laneKey kind d tile dir
  let m := Sp.get 0 s.phys.lanes k
  if bit m lane then (s, 2) else
  let u := laneWord kind d tile dir lane
  let users := if kind = 0 then s.routesOn d else []
  let s := { s with phys := { s.phys with lanes := Sp.set 0 s.phys.lanes k (setBit m lane true) } }
  let s := s.event E.UNIT_FENCED (users.head?.getD 0) u 0
  if m != 0 then
    -- a second failure in the same kind and link direction
    (s.raise E.FATAL_HW 0 u 0, 0)
  else if lane + 1 = lim then (s, 0)
  else
    let s := { s with phys := { s.phys with laneUse := Sp.set 0 s.phys.laneUse k 1 } }
    if kind = 0 then
      let run := users.filter s.isRunning
      let s := { s with phys := { s.phys with lanePart := Sp.set 0 s.phys.lanePart k (users.foldl (fun v p => v ||| 2 ^ p) 0) } }
      let s := run.foldl (fun s p => s.classL p E.UNIT_FENCED.code) s
      (if users = [] then s.laneSpared kind k lane else s, 0)
    else (if s.noneRunning then s.laneSpared kind k lane else s, 0)

/-- Modules of bridge `b`, spare included (Table 1-6). -/
def bridgeModules (b : Nat) : Nat := if b < 4 then 17 else 9

def moduleWord (b m : Nat) : Nat := unitWord 5 b m 0 0xFFFF

/-- The spare module of bridge `b` goes into use (R35, R484). -/
def State.moduleSpared (s : State) (b m : Nat) : State :=
  let v := s.rdF R.GLB_SPARE_STATUS F.GLB_SPARE_STATUS_BRIDGE_SPARED 0 0
  let s := { s with phys := { s.phys with moduleUse := Sp.set 0 s.phys.moduleUse b 2 } }
  let s := s.wrF R.GLB_SPARE_STATUS F.GLB_SPARE_STATUS_BRIDGE_SPARED 0 0 (setBit v b true)
  ((s.count R.CNT_GLB 0 15 1).wrF R.GLB_STATE F.GLB_STATE_ANY_FENCED 0 0 1).event E.BRIDGE_SPARED 0 (moduleWord b m) 0

/-- Fence a bridge module (R35, R478, R480, R481). -/
def State.fenceModule (s : State) (b m : Nat) : State × Nat :=
  if 5 < b ∨ bridgeModules b ≤ m then (s, 1) else
  let v := Sp.get 0 s.phys.modules b
  if bit v m then (s, 2) else
  let s := { s with phys := { s.phys with modules := Sp.set 0 s.phys.modules b (setBit v m true) } }
  let s := s.event E.UNIT_FENCED 0 (moduleWord b m) 0
  if v != 0 then (s.raise E.FATAL_HW 0 (moduleWord b m) 0, 0)
  else if m + 1 = bridgeModules b then (s, 0)
  else
    let s := { s with phys := { s.phys with moduleUse := Sp.set 0 s.phys.moduleUse b 1 } }
    (if s.noneRunning then s.moduleSpared b m else s, 0)

/-! ## Substitution at a boundary (R21, R22, R24, R482, R484) -/

/-- What a substitution discards with the old cores of a cluster: backfill banks and scratch state (R86, R163), and
what the physical unit held (R28). `ks` are the logical cores that moved. -/
def State.dropCores (s : State) (p : Nat) (ns : List Nat) : State :=
  ns.foldl (fun s n =>
    let x := s.core n
    let u := slotWord (n / 256) (s.posOf (n / 16)) (s.slotOf (n / 16) (n % 16)) n
    let ctxs := (List.range 3).filter (fun c =>
      x.bank.any (fun e => e.1 / 64 = c) || (s.part p).course.regions.any (fun r => r.kind = 3 && r.ctx = c))
    let s := s.setCore n { live := x.live }
    let s := { s with
      mem := Sp.clearRange (scratchAddr n 0) (scratchAddr n 0x180000) s.mem
      gran := Sp.clearRange (scratchAddr n 0 / 64) (scratchAddr n 0x180000 / 64) s.gran }
    ctxs.foldl (fun s c => s.eventAs E.BACKFILL_LOST E.BACKFILL_LOST.cls.code p u 0 0 (some (s.bfFn p c))) s) s

/-- Pending substitution of one cluster: the state and whether one took effect. -/
def State.substCluster (s : State) (p c : Nat) : State × Bool :=
  let d := c / 16
  if s.mustMove c then
    if s.posOf c = 16 || !s.spareHealthy d || s.spareUsed d then (s, false) else
    let from_ := s.posOf c
    let m := s.slotMask (d * 17 + 16)
    let moved := if m % 2 ^ 16 = 0 then 0x1F else firstBit m 16
    let s := s.wr R.CLU_CORE_REMAP c 0
      (atBits 31 27 16 + atBits 25 25 (b2n (decide (moved ≠ 0x1F))) + atBits 24 20 moved + m)
    let s := ((s.setDieGroup d (setBits (setBit (s.dieGroup d) 5 true) 4 0 from_)).count R.CNT_GLB 0 13 1).syncSpares d
    (s.dropCores p ((List.range 16).map (fun k => 16 * c + k)), true)
  else
    let m := s.slotMask (s.physOf c)
    let v := s.rd R.CLU_CORE_REMAP c 0
    if m % 2 ^ 16 = 0 ∨ bit m 16 = true ∨ F.CLU_CORE_REMAP_SPARE_IN_USE.get v = 1 then (s, false) else
    let k := firstBit m 16
    let s := s.dropCores p [16 * c + k]
    (s.wrFs R.CLU_CORE_REMAP c 0 [(F.CLU_CORE_REMAP_SPARE_IN_USE, 1), (F.CLU_CORE_REMAP_MOVED_SLOT, k)], true)

/-- Static-lane moves of partition `p`, and every pending dynamic-lane and module move (R484). -/
def State.substLinks (s : State) (p : Nat) : State × Bool :=
  let pendL := s.phys.laneUse.filter (fun e => e.2 = 1)
  let (s, a) := pendL.foldl (fun (s, a) e =>
    let k := e.1
    let lane := firstBit (Sp.get 0 s.phys.lanes k) 9
    if k % 2 = 0 then
      let v := setBit (Sp.get 0 s.phys.lanePart k) p false
      let hit := bit (Sp.get 0 s.phys.lanePart k) p
      let s := { s with phys := { s.phys with lanePart := Sp.set 0 s.phys.lanePart k v } }
      (if v = 0 then s.laneSpared 0 k lane else s, a || hit)
    else (s.laneSpared 1 k lane, true)) (s, false)
  let pendM := s.phys.moduleUse.filter (fun e => e.2 = 1)
  (pendM.foldl (fun s e => s.moduleSpared e.1 (firstBit (Sp.get 0 s.phys.modules e.1) 17)) s, a || pendM != [])

/-- Every pending substitution of partition `p` takes effect; REMAP_GEN rises by one if any did (R22, R24, R444). -/
def State.applySubst (s : State) (p : Nat) : State :=
  let (s, a) := (bitList (s.rd R.GLB_PART_CLUSTERS 0 p) s.clusterCount).foldl (fun (s, a) c =>
    let (s, b) := s.substCluster p c
    (s, a || b)) (s, false)
  let (s, b) := s.substLinks p
  let s := s.updPart p (fun x => { x with heldClusters := [] })
  if a || b then
    let g := s.rdF R.GLB_REMAP_STATUS F.GLB_REMAP_STATUS_REMAP_GEN 0 0
    let s := (s.wrF R.GLB_REMAP_STATUS F.GLB_REMAP_STATUS_REMAP_GEN 0 0 ((g + 1) % 65536)).wrF
      R.GLB_STATE F.GLB_STATE_ANY_FENCED 0 0 1
    let s := if s.pState p = stRunning then s.setPState p stFenced else s
    s.syncChip
  else s

/-- A substitution waits for partition `p` (R482). -/
def State.substPending (s : State) (p : Nat) : Bool :=
  (bitList (s.rd R.GLB_PART_CLUSTERS 0 p) s.clusterCount).any (fun c =>
    s.mustMove c || (let m := s.slotMask (s.physOf c)
      m % 2 ^ 16 != 0 && !bit m 16 && s.rdF R.CLU_CORE_REMAP F.CLU_CORE_REMAP_SPARE_IN_USE c 0 = 0))
  || s.phys.laneUse.any (fun e => e.2 = 1) || s.phys.moduleUse.any (fun e => e.2 = 1)

/-- FENCE_REQUEST: a GO to GLB_FENCE_REQ (R481). -/
def State.fenceRequest (s : State) (v : Nat) : State :=
  let s := s.wr R.GLB_FENCE_REQ 0 0 (v &&& 0x031F1F1F03000000)
  let d := F.GLB_FENCE_REQ_DIE.get v
  let a := F.GLB_FENCE_REQ_A.get v
  let b := F.GLB_FENCE_REQ_B.get v
  let dir := F.GLB_FENCE_REQ_DIR.get v
  let (s, err) := match F.GLB_FENCE_REQ_KIND.get v with
    | 1 => s.fenceSlot d a b
    | 2 => s.fenceHub d a
    | 3 => s.fenceLane 0 d a dir b
    | 4 => s.fenceLane 1 d a dir b
    | 5 => s.fenceModule a b
    | _ => (s, 1)
  s.wrF R.GLB_FENCE_REQ F.GLB_FENCE_REQ_ERROR 0 0 err

/-- A mesh lane fails its link check (R33): a failed static lane is a class L error at once. -/
def State.meshLaneFail (s : State) (kind d tile dir lane : Nat) : State :=
  (s.fenceLane (kind % 2) d tile dir lane).1

/-- A bridge module fails; `repaired` says that lane repair within the module succeeded (R35). -/
def State.bridgeModuleFail (s : State) (b m : Nat) (repaired : Bool) : State :=
  if repaired then s else (s.fenceModule b m).1

/-- Parity error of a static lane found on the hop that enters from (die, tile, direction) on `lane` (R30, R479);
`c` is the logical cluster of the hub that finds it. -/
def State.staticParity (s : State) (c d tile dir lane : Nat) : State :=
  let p := (s.partOfCluster c).getD 0
  let u := laneWord 0 d tile dir lane
  let (s, k) := (s.count R.CNT_CLU c 7 1).charge u
  let s := s.raise E.STATIC_PARITY p u k
  if max 1 (s.rdF R.GLB_FENCE_POLICY F.GLB_FENCE_POLICY_LANE_LIMIT 0 0) ≤ k then (s.fenceLane 0 d tile dir lane).1 else s

end Sys2Proof.Machine
end

