-- ==== Sys2Proof/Machine/Fp.lean ====
section
/-! DEFINITION. Number formats, conversions and rounding on exact values (05_number_formats.md R170 to R188,
06_quantisation.md R202, R568). -/

namespace Sys2Proof.Machine

/-- An exact value: NaN, an infinity, or (-1)^neg x m x 2^e, which keeps the sign of zero. -/
inductive Num where
  | nan
  | inf (neg : Bool)
  | fin (neg : Bool) (m : Nat) (e : Int)
deriving DecidableEq, Repr

/-- A floating format of Table 5-2: exponent and mantissa widths, bias, and whether it has infinities and NaNs. -/
structure FFmt where
  ew : Nat
  mw : Nat
  bias : Nat
  hasInf : Bool
  hasNan : Bool

/-- The floating formats by format code (Table 5-1). -/
def ffmt : Nat → Option FFmt
  | 0 => some ⟨8, 23, 127, true, true⟩
  | 1 => some ⟨8, 7, 127, true, true⟩
  | 2 => some ⟨5, 10, 15, true, true⟩
  | 3 => some ⟨4, 3, 7, false, true⟩
  | 4 => some ⟨5, 2, 15, true, true⟩
  | 5 => some ⟨3, 2, 3, false, false⟩
  | 6 => some ⟨2, 3, 1, false, false⟩
  | 7 => some ⟨2, 1, 1, false, false⟩
  | _ => none

abbrev f32fmt : FFmt := ⟨8, 23, 127, true, true⟩

/-- Widths of Table 5-1. -/
def fmtWidth (c : Nat) : Nat :=
  if c = 0 ∨ c = 8 then 32 else if c = 1 ∨ c = 2 then 16 else if c = 5 ∨ c = 6 then 6
  else if c = 7 ∨ c = 11 ∨ c = 12 then 4 else if c = 16 then 144 else 8

def isFloatFmt (c : Nat) : Bool := decide (c ≤ 7)
def isIntFmt (c : Nat) : Bool := decide (8 ≤ c ∧ c ≤ 11)
def isCbFmt (c : Nat) : Bool := c = 12 || c = 13
def isScaleFmt (c : Nat) : Bool := c = 14 || c = 15

/-- Value of a floating encoding (R171). -/
def FFmt.decode (f : FFmt) (v : Nat) : Num :=
  let neg := v.testBit (f.ew + f.mw)
  let ex := bits v (f.ew + f.mw - 1) f.mw
  let m := v % 2 ^ f.mw
  let top := 2 ^ f.ew - 1
  if f.hasInf && ex = top then (if m = 0 then .inf neg else .nan)
  else if f.hasNan && !f.hasInf && ex = top && m = 2 ^ f.mw - 1 then .nan
  else if ex = 0 then .fin neg m (1 - (f.bias : Int) - f.mw)
  else .fin neg (m + 2 ^ f.mw) ((ex : Int) - f.bias - f.mw)

/-- Code of the largest finite value (Table 5-2). -/
def FFmt.maxCode (f : FFmt) : Nat :=
  if f.hasInf then (2 ^ f.ew - 1) * 2 ^ f.mw - 1 else if f.hasNan then 2 ^ (f.ew + f.mw) - 2 else 2 ^ (f.ew + f.mw) - 1

def FFmt.infCode (f : FFmt) : Nat := (2 ^ f.ew - 1) * 2 ^ f.mw
/-- Canonical NaN (Table 5-2). -/
def FFmt.nanCode (f : FFmt) : Nat :=
  if f.hasInf then (2 ^ f.ew - 1) * 2 ^ f.mw + 2 ^ (f.mw - 1) else if f.hasNan then 2 ^ (f.ew + f.mw) - 1 else 0

/-- A signed code. -/
def FFmt.signed (f : FFmt) (neg : Bool) (c : Nat) : Nat := if neg then c + 2 ^ (f.ew + f.mw) else c

/-- 2^i for a non-negative exponent, 1 otherwise. -/
def pow2 (i : Int) : Nat := 2 ^ i.toNat

/-- floor(log2 (num/den)) of a positive rational. -/
def ilog2 (num den : Nat) : Int :=
  let g : Int := (Nat.log2 num : Int) - Nat.log2 den
  if num * pow2 (-g) < den * pow2 g then g - 1 else g

/-- Roundings: ties-to-even, ties-away, stochastic with its draw (R179, R187), and upward (R202). -/
inductive Rnd where
  | even | away | stoch (draw : Nat) | up
deriving DecidableEq, Repr

/-- Round a quotient `n/d` to an integer. -/
def roundDiv (r : Rnd) (n d : Nat) : Nat :=
  let lo := n / d
  let rem := n % d
  let up := match r with
    | .even => decide (d < 2 * rem) || (decide (2 * rem = d) && decide (lo % 2 = 1))
    | .away => decide (d ≤ 2 * rem)
    | .stoch x => decide (rem ≠ 0) && decide (2 ^ 32 ≤ rem * 2 ^ 32 / d + x)
    | .up => decide (rem ≠ 0)
  if up then lo + 1 else lo

/-- Round the magnitude (num/den) x 2^e on the unbounded grid of `f`: the code on that grid, and whether R180 counts a
saturation. -/
def FFmt.roundMag (f : FFmt) (r : Rnd) (num den : Nat) (e : Int) : Nat × Bool :=
  if num = 0 then (0, false) else
  let q := max (ilog2 num den + e - f.mw) (1 - (f.bias : Int) - f.mw)
  let n := num * pow2 (e - q)
  let d := den * pow2 (q - e)
  let base := ((q + f.mw + f.bias).toNat - 1) * 2 ^ f.mw
  let c := base + roundDiv r n d
  let tie := match r with
    | .even | .away => decide (2 * (n % d) = d) && decide (base + n / d = f.maxCode)
    | _ => false
  (c, decide (f.maxCode < c) || tie)

/-- The result of a counted rounding (R181). -/
def FFmt.overCode (f : FFmt) (sat : Bool) : Nat := if f.hasInf && !sat then f.infCode else f.maxCode

/-- Convert the exact value (-1)^neg (num/den) 2^e: code and saturation count (R177 to R182). -/
def FFmt.encodeQ (f : FFmt) (r : Rnd) (sat neg : Bool) (num den : Nat) (e : Int) : Nat × Bool :=
  let (c, isOver) := f.roundMag r num den e
  (f.signed neg (if isOver then f.overCode sat else c), isOver)

/-- Convert an exact value to a floating format (R176 to R183). -/
def FFmt.encode (f : FFmt) (r : Rnd) (sat : Bool) : Num → Nat × Bool
  | .nan => if f.hasNan then (f.nanCode, false) else (0, true)
  | .inf neg => if f.hasInf then (f.signed neg f.infCode, false) else (f.signed neg f.maxCode, true)
  | .fin neg m e => f.encodeQ r sat neg m 1 e

/-! ## FP32 -/

def f32 (v : Nat) : Num := f32fmt.decode (v % 2 ^ 32)
abbrev nan32 : Nat := 0x7FC00000
/-- FP32 with ties-to-even and overflow to infinity (R145). -/
def toF32 (x : Num) : Nat := (f32fmt.encode .even false x).1
/-- FP32 of a rational. -/
def ratF32 (neg : Bool) (num den : Nat) (e : Int) : Nat := (f32fmt.encodeQ .even false neg num den e).1

def Num.isNan : Num → Bool
  | .nan => true
  | _ => false
def Num.isFin : Num → Bool
  | .fin _ _ _ => true
  | _ => false
def Num.isZero : Num → Bool
  | .fin _ m _ => m = 0
  | _ => false
def Num.neg? : Num → Bool
  | .fin n _ _ => n
  | .inf n => n
  | .nan => false
def Num.negate : Num → Num
  | .fin n m e => .fin (!n) m e
  | .inf n => .inf (!n)
  | .nan => .nan

/-- Signed integer of a finite value at exponent `e0`, which is at most its own. -/
def Num.at_ (e0 : Int) : Num → Int
  | .fin n m e => let v : Int := (m * pow2 (e - e0) : Nat); if n then -v else v
  | _ => 0
/-- Exponent of a finite value. -/
def Num.expo : Num → Int
  | .fin _ _ e => e
  | _ => 0

/-- A signed integer times 2^e as a value; zero is +0. -/
def Num.ofInt (i : Int) (e : Int) : Num := .fin (decide (i < 0)) i.natAbs e

/-- Exact product (R140): NaN of a NaN and of infinity times zero. -/
def Num.mul : Num → Num → Num
  | .nan, _ | _, .nan => .nan
  | .inf a, .inf b => .inf (a != b)
  | .inf a, .fin b m _ => if m = 0 then .nan else .inf (a != b)
  | .fin a m _, .inf b => if m = 0 then .nan else .inf (a != b)
  | .fin a m e, .fin b n f => .fin (a != b) (m * n) (e + f)

/-- Exact sum of a list of terms (R140): NaN for a NaN or infinities of both signs; the infinity of the infinite
terms; -0 only when every term is -0. -/
def Num.sum (l : List Num) : Num :=
  let pos := l.any (fun x => x = .inf false)
  let ng := l.any (fun x => x = .inf true)
  if l.any Num.isNan || (pos && ng) then .nan
  else if pos then .inf false
  else if ng then .inf true
  else
    let e := l.foldl (fun a x => min a x.expo) (l.head?.elim 0 Num.expo)
    let t := l.foldl (fun a x => a + x.at_ e) (0 : Int)
    if t = 0 then .fin (l.all (fun x => x.isZero && x.neg?)) 0 0 else Num.ofInt t e

def fadd (a b : Nat) : Nat := toF32 (Num.sum [f32 a, f32 b])
def fsub (a b : Nat) : Nat := toF32 (Num.sum [f32 a, (f32 b).negate])
def fmul (a b : Nat) : Nat := toF32 ((f32 a).mul (f32 b))
/-- A x B + D with one rounding (R145). -/
def ffma (a b d : Nat) : Nat := toF32 (Num.sum [(f32 a).mul (f32 b), f32 d])

/-- Order of two finite values or infinities, by their difference; -0 and +0 are equal. -/
def Num.lt : Num → Num → Bool
  | .nan, _ | _, .nan => false
  | .inf a, .inf b => a && !b
  | .inf a, .fin _ _ _ => a
  | .fin _ _ _, .inf b => !b
  | x, y => let e := min x.expo y.expo; decide (x.at_ e < y.at_ e)

def Num.eqv : Num → Num → Bool
  | .nan, _ | _, .nan => false
  | .inf a, .inf b => a = b
  | .inf _, .fin _ _ _ | .fin _ _ _, .inf _ => false
  | x, y => let e := min x.expo y.expo; decide (x.at_ e = y.at_ e)

/-- VMAX and VMIN (R145): canonical NaN if either is NaN, -0 below +0. -/
def fmax (a b : Nat) : Nat :=
  let x := f32 a
  let y := f32 b
  if x.isNan || y.isNan then nan32
  else if x.lt y then b % 2 ^ 32 else if y.lt x then a % 2 ^ 32
  else if x.neg? then b % 2 ^ 32 else a % 2 ^ 32
def fmin (a b : Nat) : Nat :=
  let x := f32 a
  let y := f32 b
  if x.isNan || y.isNan then nan32
  else if x.lt y then a % 2 ^ 32 else if y.lt x then b % 2 ^ 32
  else if x.neg? then a % 2 ^ 32 else b % 2 ^ 32

/-- IEEE division, correctly rounded (R146). -/
def fdiv (a b : Nat) : Nat :=
  match f32 a, f32 b with
  | .nan, _ | _, .nan => nan32
  | .inf _, .inf _ => nan32
  | .inf s, .fin t _ _ => f32fmt.signed (s != t) f32fmt.infCode
  | .fin s _ _, .inf t => f32fmt.signed (s != t) 0
  | .fin s m e, .fin t n f =>
    if n = 0 then (if m = 0 then nan32 else f32fmt.signed (s != t) f32fmt.infCode)
    else ratF32 (s != t) m n (e - f)

/-- Integer square root of a number below 2^(2k), by bits from k - 1. -/
def isqrtAux (n : Nat) : Nat → Nat → Nat
  | 0, r => r
  | k + 1, r => let t := r + 2 ^ k; isqrtAux n k (if t * t ≤ n then t else r)
def isqrt (n : Nat) : Nat := isqrtAux n (Nat.log2 n / 2 + 1) 0

/-- sqrt(m 2^e) and 1/sqrt(m 2^e) to more bits than FP32 keeps, the last bit sticky. -/
def sqrtMag (m : Nat) (e : Int) : Nat :=
  let odd := e % 2
  let n := m * 2 ^ odd.toNat * 2 ^ 128
  let r := isqrt n
  ratF32 false (2 * r + b2n (r * r != n)) 1 ((e - odd) / 2 - 64 - 1)
def rsqrtMag (m : Nat) (e : Int) : Nat :=
  let odd := e % 2
  let d := m * 2 ^ odd.toNat
  let n := 2 ^ 256 / d
  let r := isqrt n
  ratF32 false (2 * r + b2n (r * r * d != 2 ^ 256)) 1 (-(e - odd) / 2 - 128 - 1)

def fsqrt (a : Nat) : Nat :=
  match f32 a with
  | .nan => nan32
  | .inf s => if s then nan32 else f32fmt.infCode
  | .fin s m e => if m = 0 then f32fmt.signed s 0 else if s then nan32 else sqrtMag m e
def frcp (a : Nat) : Nat := fdiv 0x3F800000 a
def frsqrt (a : Nat) : Nat :=
  match f32 a with
  | .nan => nan32
  | .inf s => if s then nan32 else 0
  | .fin s m e => if m = 0 then f32fmt.signed s f32fmt.infCode else if s then nan32 else rsqrtMag m e

/-! ## Correctly rounded 2^x, log2 and tanh (R146)

Fixed-point enclosures at rising precision, until both ends of the enclosure round to one FP32 value. The exact value
is never a rounding boundary: outside the cases answered exactly it is irrational. -/

/-- Sum of t_k/(2k+1) with t_0 = z and t_(k+1) = t_k z2 / 2^P, the series of atanh. -/
def atanhAux (P z2 : Nat) : Nat → Nat → Nat → Nat → Nat
  | 0, _, _, acc => acc
  | n + 1, t, k, acc => atanhAux P z2 n (t * z2 / 2 ^ P) (k + 2) (acc + t / k)
/-- ln 2 at P bits, below the exact value by at most P units. -/
def ln2At (P : Nat) : Nat := 2 * atanhAux P (2 ^ P / 9) P (2 ^ P / 3) 1 0

/-- Sum of x^k/k! at P bits for 0 <= x < 2^P. -/
def expAux (P x : Nat) : Nat → Nat → Nat → Nat → Nat
  | 0, _, _, acc => acc
  | n + 1, t, k, acc => if t = 0 then acc else expAux P x n (t * x / 2 ^ P / k) (k + 1) (acc + t)
def expAt (P x : Nat) : Nat := expAux P x P (2 ^ P) 1 0

/-- First precision at which both ends of an enclosure round alike. `f P` gives the ends. -/
def refine (f : Nat → Nat × Nat) : Nat → Nat → Nat
  | 0, P => (f P).1
  | n + 1, P => let r := f P; if r.1 = r.2 then r.1 else refine f n (2 * P)

/-- Enclosure of 2^(n + x/2^P), the units of error `er`, as FP32 ends. -/
def exp2Ends (P : Nat) (n : Int) (x er : Nat) : Nat × Nat :=
  let l := ln2At P
  let lo := expAt P (x * l / 2 ^ P)
  let slack := 16 * P + 16 + 2 * er
  (ratF32 false (lo - slack) 1 (n - P), ratF32 false (lo + slack) 1 (n - P))

def fexp2 (a : Nat) : Nat :=
  match f32 a with
  | .nan => nan32
  | .inf s => if s then 0 else f32fmt.infCode
  | .fin s m e =>
    if m = 0 then 0x3F800000
    else if 8 < (Nat.log2 m : Int) + e then (if s then 0 else f32fmt.infCode)
    else
      let v := (Num.fin s m e).at_ (min e 0)
      let d : Int := (pow2 (-(min e 0)) : Nat)
      let n := v / d
      let fr := (v % d).toNat
      if fr = 0 then ratF32 false 1 1 n
      else refine (fun P => exp2Ends P n (fr * 2 ^ P / d.toNat) 1) 8 96

/-- ln of 1 + y/2^P for 0 <= y < 2^P, at P bits. -/
def lnAt (P y : Nat) : Nat :=
  let z := y * 2 ^ P / (2 * 2 ^ P + y)
  2 * atanhAux P (z * z / 2 ^ P) P z 1 0

def signedRat (i : Int) (den : Nat) : Nat := ratF32 (decide (i < 0)) i.natAbs den 0

def flog2 (a : Nat) : Nat :=
  match f32 a with
  | .nan => nan32
  | .inf s => if s then nan32 else f32fmt.infCode
  | .fin s m e =>
    if m = 0 then f32fmt.signed true f32fmt.infCode
    else if s then nan32
    else
      let g := Nat.log2 m
      let k : Int := e + g
      if m = 2 ^ g then signedRat k 1
      else refine (fun P =>
        let y := (m - 2 ^ g) * 2 ^ P / 2 ^ g
        let v : Int := (lnAt P y * 2 ^ P / ln2At P : Nat)
        let slack : Int := 32 * P + 32
        (signedRat (k * (2 ^ P : Nat) + v - slack) (2 ^ P), signedRat (k * (2 ^ P : Nat) + v + slack) (2 ^ P))) 8 96

/-- Enclosure of tanh of y/2^P for 0 < y, at P bits. -/
def tanhEnds (P y : Nat) : Nat × Nat :=
  let l := ln2At P
  let t := 2 * y * 2 ^ P / l
  let n := t / 2 ^ P
  let ex := expAt P ((t % 2 ^ P) * l / 2 ^ P)
  let slack := 1024 * P + 1024
  let lo := (ex - slack) * 2 ^ n
  let hi := (ex + slack) * 2 ^ n
  (ratF32 false (lo - 2 ^ P) (lo + 2 ^ P) 0, ratF32 false (hi - 2 ^ P) (hi + 2 ^ P) 0)

def ftanh (a : Nat) : Nat :=
  match f32 a with
  | .nan => nan32
  | .inf s => f32fmt.signed s 0x3F800000
  | .fin s m e =>
    if m = 0 then f32fmt.signed s 0
    else if 3 < (Nat.log2 m : Int) + e then f32fmt.signed s 0x3F800000
    else f32fmt.signed s (refine (fun P => tanhEnds P (m * 2 ^ P * pow2 e / pow2 (-e))) 8 192)

/-! ## Integers -/

/-- INT32 value of a lane. -/
def i32 (v : Nat) : Int := sext 32 v

/-- Range of an integer format (R172). -/
def intRange (c : Nat) : Int × Int :=
  if c = 8 then (-2147483648, 2147483647) else if c = 9 then (-128, 127) else if c = 10 then (0, 255) else (-8, 7)

/-- Clamp to an integer format: the integer and whether it changed (R184, R185). -/
def clampInt (c : Nat) (i : Int) : Int × Bool :=
  let (lo, hi) := intRange c
  if i < lo then (lo, true) else if hi < i then (hi, true) else (i, false)

/-- Round (-1)^neg (num/den) 2^e to an integer (R184). -/
def roundInt (r : Rnd) (neg : Bool) (num den : Nat) (e : Int) : Int :=
  let v : Int := (roundDiv r (num * pow2 e) (den * pow2 (-e)) : Nat)
  if neg then -v else v

/-- An exact value to an integer format: the integer and the saturation count (R184, Table 5-7). -/
def numToInt (c : Nat) (r : Rnd) : Num → Int × Bool
  | .nan => (0, true)
  | .inf neg => (if neg then (intRange c).1 else (intRange c).2, true)
  | .fin neg m e => clampInt c (roundInt r neg m 1 e)

/-! ## Scale formats (R173, R202, R568) -/

abbrev ue5m3 : FFmt := ⟨5, 3, 15, false, false⟩

def scaleNum (c v : Nat) : Num :=
  let v := v % 256
  if v = 0xFF then .nan
  else if c = 14 then .fin false 1 ((v : Int) - 127)
  else ue5m3.decode v

/-- Code of the smallest non-zero scale value at or above the positive rational (num/den) 2^e, and whether it lies
above every one (R202). -/
def scaleUp (c num den : Nat) (e : Int) : Nat × Bool :=
  if c = 14 then
    let g := ilog2 num den
    let x := g + e + (if num * pow2 (-g) = den * pow2 g then 0 else 1) + 127
    if x < 0 then (0, false) else if 0xFE < x then (0xFE, true) else (x.toNat, false)
  else
    let (v, _) := ue5m3.roundMag .up num den e
    if 0xFE < v then (0xFE, true) else (max 1 v, false)

/-- VST of a lane to a scale format (R568): code and saturation count. -/
def scaleStore (c : Nat) (x : Num) : Nat × Bool :=
  match x with
  | .nan => (0xFF, false)
  | .inf _ => (0xFF, true)
  | .fin neg m e => if m = 0 then (0, false) else if neg then (0xFF, true) else scaleUp c m 1 e

/-! ## Codebook rounding (R186) -/

/-- |x - v| as a fraction over the denominator of x, at a common exponent; x is (-1)^neg (num/den) 2^e. -/
def cbDist (neg : Bool) (num den : Nat) (e : Int) (v : Num) (e0 : Int) : Nat :=
  let x : Int := (num * pow2 (e - e0) : Nat)
  ((if neg then -x else x) - v.at_ e0 * den).natAbs

/-- Signed difference of the same. -/
def cbDiff (neg : Bool) (num den : Nat) (e : Int) (v : Num) (e0 : Int) : Int :=
  let x : Int := (num * pow2 (e - e0) : Nat)
  v.at_ e0 * den - (if neg then -x else x)

/-- Index of the largest (`hi`) or smallest finite entry. -/
def cbExtreme (l : List (Nat × Num)) (hi : Bool) : Nat :=
  match l with
  | [] => 0
  | x :: r => (r.foldl (fun b y => if (if hi then b.2.lt y.2 else y.2.lt b.2) then y else b) x).1

/-- Encode an exact finite value by codebook entries `vs`: index and saturation count. -/
def cbEncodeQ (vs : List Num) (r : Rnd) (neg : Bool) (num den : Nat) (e : Int) : Nat × Bool :=
  let fs := (vs.zipIdx.map (fun (v, i) => (i, v))).filter (fun x => x.2.isFin)
  match fs with
  | [] => (0, true)
  | (i0, v0) :: _ =>
    let e0 := fs.foldl (fun a x => min a x.2.expo) e
    let ds := fs.map (fun x => (x.1, x.2, cbDist neg num den e x.2 e0))
    let d := ds.foldl (fun a x => min a x.2.2) (cbDist neg num den e v0 e0)
    let cs := ds.filter (fun x => x.2.2 = d)
    let side := cs.map (fun x => (x.1, x.2.1, cbDiff neg num den e x.2.1 e0))
    let below := side.filter (fun x => x.2.2 < 0)
    let above := side.filter (fun x => 0 < x.2.2)
    let isOver := fs.all (fun x => cbDiff neg num den e x.2 e0 < 0) || fs.all (fun x => 0 < cbDiff neg num den e x.2 e0)
    let pick := match below, above with
      | (l, lv, _) :: _, (h, hv, _) :: _ =>
        match r with
        | .away =>
          let al := (lv.at_ e0).natAbs
          let ah := (hv.at_ e0).natAbs
          if ah < al then l else if al < ah then h else min l h
        | _ => if l % 2 = 0 ∧ h % 2 = 1 then l else if h % 2 = 0 ∧ l % 2 = 1 then h else min l h
      | _, _ => (cs.head?.map (·.1)).getD i0
    (pick, isOver)

/-- Encode a value by codebook entries (R186). -/
def cbEncode (vs : List Num) (r : Rnd) (x : Num) : Nat × Bool :=
  let fs := (vs.zipIdx.map (fun (v, i) => (i, v))).filter (fun x => x.2.isFin)
  match x with
  | .nan => (0, true)
  | .inf neg => (cbExtreme fs (!neg), true)
  | .fin neg m e => cbEncodeQ vs r neg m 1 e

/-! ## Packed elements (R138) -/

/-- `n` elements of width `w` from a byte string. -/
def unpack (w n : Nat) (b : List Byte) : List Nat :=
  let v := leNat b
  (List.range n).map (fun i => (v >>> (w * i)) % 2 ^ w)

/-- Pack elements of width `w` into bytes. -/
def pack (w : Nat) (l : List Nat) : List Byte :=
  leBytes (w * l.length / 8) (l.zipIdx.foldl (fun a x => a + (x.1 % 2 ^ w) * 2 ^ (w * x.2)) 0)

/-- fmax of an element format as (m, e) (Table 6-3); codebooks give their largest finite magnitude. -/
def fmaxOf (c : Nat) (vs : List Num) : Nat × Int :=
  match ffmt c with
  | some f => match f.decode f.maxCode with
    | .fin _ m e => (m, e)
    | _ => (0, 0)
  | none =>
    if c = 9 then (127, 0) else if c = 10 then (255, 0) else if c = 11 then (7, 0)
    else
      let fs := vs.filter Num.isFin
      let e := fs.foldl (fun a x => min a x.expo) 0
      (fs.foldl (fun a x => max a (x.at_ e).natAbs) 0, e)

end Sys2Proof.Machine
end

