-- ==== Sys2Proof/Machine/Cue.lean ====
section
/-! DEFINITION. Cues: entries, steps and issue timing, faults, visibility of results, dispatch and rest runs
(04_core.md R127 to R137, R152, R157 to R166; 03_program_image.md R110 to R112). -/

namespace Sys2Proof.Machine

/-! ## Entries (R127) -/

/-- An operand descriptor (Table 4-4). -/
structure Opnd where
  raw : Nat := 0
  stride : Int := 0
  space : Nat := 7
  off : Nat := 0
deriving DecidableEq, Repr

/-- A decoded cue entry (Tables 4-2 and 4-3). -/
structure Entry where
  op : Nat := 0
  next : Nat := 0
  ctl : Nat := 0
  rep : Nat := 0
  fmt : Nat := 0
  a : Opnd := {}
  b : Opnd := {}
  d : Opnd := {}
  aux : Nat := 0
  imm : Nat := 0
deriving DecidableEq, Repr

def opnd (v : Nat) : Opnd := { raw := v, stride := sext 24 (v / 2 ^ 24), space := bits v 23 21, off := v % 2 ^ 21 }

def entryOf (b : List Byte) : Entry :=
  { op := fieldAt b 0 1, next := fieldAt b 1 1, ctl := fieldAt b 2 2, rep := fieldAt b 4 2, fmt := fieldAt b 6 2
    a := opnd (fieldAt b 8 6), b := opnd (fieldAt b 0xE 6), d := opnd (fieldAt b 0x14 6)
    aux := fieldAt b 0x1A 2, imm := fieldAt b 0x1C 4 }

def Entry.last (e : Entry) : Bool := bit e.ctl 0
def Entry.rnd (e : Entry) : Nat := bits e.ctl 2 1
def Entry.sat (e : Entry) : Bool := bit e.ctl 3
def Entry.zero (e : Entry) : Bool := bit e.ctl 11
def Entry.join (e : Entry) : Bool := bit e.ctl 12
def Entry.masked (e : Entry) : Bool := bit e.ctl 13
def Entry.fmtA (e : Entry) : Nat := bits e.fmt 4 0
def Entry.fmtB (e : Entry) : Nat := bits e.fmt 9 5
def Entry.fmtD (e : Entry) : Nat := bits e.fmt 14 10
/-- AUX of the V unit: mask register and saturation counter. -/
def Entry.auxMask (e : Entry) : Nat := bits e.aux 10 8
def Entry.auxSat (e : Entry) : Nat := bits e.aux 15 12
def Entry.auxSlot (e : Entry) : Nat := bits e.aux 5 0

/-! ## The opcode table (R157) -/

/-- Operand kinds: the space an opcode takes for an operand; 7 for none. -/
structure OpInfo where
  unit : Nat
  ii : Nat
  lat : Nat
  sa : Nat
  sb : Nat
  sd : Nat
  imm : Nat
  v : Bool := false

/-- Units in the order of R132: M 0, V 1, G 2, S 3, R 4, C 5. For MMA and MMA.S `ii` is 0 and R139 gives it; an
elastic latency is 0. -/
def opInfo : Nat → Option OpInfo
  | 0x00 => some ⟨5, 1, 0, 7, 7, 7, 0, false⟩
  | 0x01 => some ⟨0, 0, 12, 0, 0, 2, 0, false⟩
  | 0x02 => some ⟨0, 0, 14, 0, 0, 2, 0x00DFFFFF, false⟩
  | 0x03 => some ⟨0, 32, 40, 2, 7, 0, 0xFFFFFFFF, false⟩
  | 0x04 => some ⟨0, 32, 36, 0, 7, 2, 0, false⟩
  | 0x10 => some ⟨1, 1, 6, 0, 7, 3, 0, false⟩
  | 0x11 => some ⟨1, 1, 6, 3, 7, 0, 0xFFFF0000, false⟩
  | 0x12 => some ⟨1, 1, 4, 3, 3, 3, 0, false⟩
  | 0x13 => some ⟨1, 1, 4, 3, 3, 3, 0, false⟩
  | 0x14 => some ⟨1, 1, 4, 3, 3, 3, 0, false⟩
  | 0x15 => some ⟨1, 1, 4, 3, 3, 3, 0, false⟩
  | 0x16 => some ⟨1, 1, 2, 3, 3, 3, 0, false⟩
  | 0x17 => some ⟨1, 1, 2, 3, 3, 3, 0, false⟩
  | 0x18 => some ⟨1, 1, 1, 3, 7, 3, 0, false⟩
  | 0x19 => some ⟨1, 1, 1, 3, 7, 3, 0, false⟩
  | 0x1A => some ⟨1, 4, 24, 3, 7, 3, 0, false⟩
  | 0x1B => some ⟨1, 4, 24, 3, 7, 3, 0, false⟩
  | 0x1C => some ⟨1, 4, 24, 3, 7, 3, 0, false⟩
  | 0x1D => some ⟨1, 4, 24, 3, 7, 3, 0, false⟩
  | 0x1E => some ⟨1, 4, 24, 3, 7, 3, 0, false⟩
  | 0x1F => some ⟨1, 4, 24, 3, 7, 3, 0, false⟩
  | 0x20 => some ⟨1, 8, 32, 3, 3, 3, 0, false⟩
  | 0x21 => some ⟨1, 1, 2, 3, 3, 4, 7, false⟩
  | 0x22 => some ⟨1, 1, 2, 3, 3, 3, 0, false⟩
  | 0x23 => some ⟨1, 1, 2, 3, 3, 3, 15, false⟩
  | 0x24 => some ⟨1, 1, 4, 3, 7, 3, 1, false⟩
  | 0x25 => some ⟨1, 1, 4, 3, 7, 3, 0xFFFF0000, false⟩
  | 0x2B => some ⟨1, 1, 14, 3, 7, 3, 3, false⟩
  | 0x2C => some ⟨1, 1, 3, 3, 3, 3, 0, false⟩
  | 0x2D => some ⟨1, 1, 6, 0, 7, 3, 0, false⟩
  | 0x2E => some ⟨1, 2, 12, 3, 0, 0, 0xFFFFFFFF, false⟩
  | 0x2F => some ⟨1, 2, 10, 0, 0, 3, 0xFFFFFFFF, false⟩
  | 0x30 => some ⟨1, 2, 10, 3, 7, 0, 0, false⟩
  | 0x31 => some ⟨1, 2, 10, 0, 7, 3, 0, false⟩
  | 0x32 => some ⟨1, 1, 12, 7, 7, 3, 0xFFFF, false⟩
  | 0x33 => some ⟨1, 1, 20, 7, 7, 3, 0, true⟩
  | 0x40 => some ⟨2, 1, 0, 0, 7, 0, 0xFFFF, false⟩
  | 0x41 => some ⟨2, 1, 0, 0, 7, 0, 0xFF, false⟩
  | 0x42 => some ⟨2, 1, 0, 0, 0, 7, 0xFFFF, false⟩
  | 0x43 => some ⟨2, 1, 0, 0, 0, 7, 0xFF, false⟩
  | 0x44 => some ⟨2, 1, 0, 3, 7, 7, 0x3FF, false⟩
  | 0x50 => some ⟨3, 1, 0, 0, 7, 1, 0, false⟩
  | 0x51 => some ⟨4, 1, 2, 1, 7, 0, 0, false⟩
  | 0x60 => some ⟨5, 1, 4, 7, 7, 3, 0, true⟩
  | 0x61 => some ⟨5, 1, 4, 7, 7, 3, 0xFF, true⟩
  | _ => none

/-- AUX bits an opcode uses (AUX layouts of each unit; Table 6-1 for VDQNT). -/
def auxBits (op unit : Nat) : Nat :=
  if op = 1 ∨ op = 2 then 0x3F3F else if op = 3 then 0xF001 else if unit = 0 then 0
  else if op = 0x2F then 0x073F else if unit = 1 then 0xF73F else if unit = 2 then 0x1F else 0

/-- The valid OFFSET bits of a register space or port (Table 4-4). -/
def offBits (space : Nat) : Nat := if space = 1 ∨ space = 2 then 3 else if space = 3 then 31 else if space = 4 then 7 else 0x1FFFFF

/-- Registers of a space (R130). -/
def spaceSize (space : Nat) : Nat := if space = 2 then 4 else if space = 3 then 32 else 8

/-- Fault of an operand descriptor against the space its opcode takes (Table 4-9). -/
def Opnd.fault (x : Opnd) (want : Nat) (p : Bool) : Option Nat :=
  if want = 7 then (if x.raw = 7 * 2 ^ 21 then none else some 1)
  else if x.space != want then some 5
  else if want != 0 && x.off &&& offBits want != x.off then some 1
  else if want = 1 && (x.stride != 0 || p) then some 1
  else none

/-- Faults an entry has whatever its data (R130, R133, R170, Table 4-9); the lowest code. -/
def Entry.fault (e : Entry) : Option Nat :=
  match opInfo e.op with
  | none => some 1
  | some i =>
    let one := bits e.ctl 15 14 != 0 || bit e.fmt 15 || (e.last && e.next != 0) || e.aux &&& auxBits e.op i.unit != e.aux
      || e.imm &&& i.imm != e.imm || (e.masked && i.unit != 1)
    let fs := [e.a.fault i.sa (bit e.ctl 8), e.b.fault i.sb (bit e.ctl 9), e.d.fault i.sd (bit e.ctl 10)].filterMap id
    if one || fs.contains 1 then some 1
    else if e.rnd = 3 || decide (16 < e.fmtA) || decide (16 < e.fmtB) || decide (16 < e.fmtD) then some 2
    else fs.head?

/-! ## Issue timing (R128, R139) -/

/-- Twice the rate factor of a matrix operand format (Table 4-5). -/
def Core.rate2 (x : Core) (fmt slot : Nat) : Nat :=
  if isCbFmt fmt then (match Sp.find slot x.cb with
    | some c => if c.vformat = 0 then 32 else 8
    | none => 8)
  else if fmt = 0 then 32 else if fmt = 1 ∨ fmt = 2 then 8
  else if fmt = 5 ∨ fmt = 6 ∨ fmt = 7 ∨ fmt = 11 then 1 else 2

/-- Issue interval II of an entry. -/
def Core.interval (x : Core) (e : Entry) : Nat :=
  match opInfo e.op with
  | none => 1
  | some i => if i.ii = 0 then 16 * max (x.rate2 e.fmtA (bits e.aux 5 0)) (x.rate2 e.fmtB (bits e.aux 13 8)) else i.ii

/-- Latency LAT of an entry; 0 for elastic ones. -/
def Core.latency (x : Core) (e : Entry) : Nat :=
  match opInfo e.op with
  | none => 0
  | some i => if i.ii = 0 then x.interval e + i.lat else i.lat

/-- The cue entry `e` as context `ctx` sees it (R94, R163). -/
def Core.entryAt (x : Core) (ctx e : Nat) : Option (List Byte) :=
  if ctx = 0 then Sp.find e x.cue else if e < 64 then Sp.find (64 * (ctx - 1) + e) x.bank else none

/-- A step of a cue: offset of its first cycle, length, entries with their numbers. -/
structure CueStep where
  at_ : Nat
  len : Nat
  ents : List (Nat × Entry)

/-- The steps of a cue, its issue length, and the fault that cuts it short: offset, code, entry (R128, R133). -/
structure Plan where
  steps : List CueStep := []
  il : Nat := 0
  fault : Option (Nat × Nat × Nat) := none

/-- Walk a chain: `seen` entries of the cue, `cur` entries of the step in hand. -/
def planAux (x : Core) (ctx : Nat) : Nat → Nat → List Nat → List (Nat × Entry) → Plan → Plan
  | 0, e, _, cur, pl => closeStep cur pl (some (6, e))
  | fuel + 1, e, seen, cur, pl =>
    if e ∈ seen then closeStep cur pl (some (6, e)) else
    match x.entryAt ctx e with
    | none => closeStep cur pl (some (6, e))
    | some b =>
      let t := entryOf b
      match opInfo t.op with
      | none => closeStep cur pl (some (1, e))
      | some i =>
        if (t.last && t.next != 0) || cur.any (fun c => ((opInfo c.2.op).map (·.unit)).getD 9 = i.unit) then
          closeStep cur pl (some (1, e))
        else
          let cur' := cur ++ [(e, t)]
          if t.last then closeStep cur' pl none
          else if t.join then planAux x ctx fuel t.next (e :: seen) cur' pl
          else planAux x ctx fuel t.next (e :: seen) [] (closeStep cur' pl none)
where
  /-- Close the step in hand; a fault arises in the cycle its entry would first issue in. -/
  closeStep (cur : List (Nat × Entry)) (pl : Plan) (f : Option (Nat × Nat)) : Plan :=
    let fault := f.map (fun (code, e) => (pl.il, code, e))
    if cur = [] then { pl with fault := fault } else
    let len := (cur.map (fun c => (c.2.rep + 1) * x.interval c.2)).foldl max 0
    { steps := pl.steps ++ [⟨pl.il, len, cur⟩], il := pl.il + len, fault := fault }

/-- The plan of a cue on a core (R128, R133): at most 256 entries, 64 in a bank. -/
def Core.plan (x : Core) (ctx first : Nat) : Plan := planAux x ctx (if ctx = 0 then 256 else 64) first [] [] {}

/-- One issue of a micro-operation. -/
structure Issue where
  n : Nat
  p : Nat
  cue : RunCue
  idx : Nat
  e : Entry
  r : Nat
  cycle : Nat

/-- The issue of opcode `op` that core `n` makes in cycle `c`. -/
def State.issueAt (s : State) (n c op : Nat) : Option Issue :=
  let x := s.core n
  x.cues.findSome? fun q =>
    if c < q.start then none else
    (x.plan q.ctx q.first).steps.findSome? fun st =>
      let o := c - q.start
      if o < st.at_ ∨ st.at_ + st.len ≤ o then none else
      st.ents.findSome? fun (k, e) =>
        let ii := x.interval e
        if e.op = op ∧ (o - st.at_) % ii = 0 ∧ (o - st.at_) / ii ≤ e.rep then
          some ⟨n, (s.partOfCluster (n / 16)).getD 0, q, k, e, (o - st.at_) / ii, c⟩
        else none

/-- The chain fault of a cue of core `n` that is due by cycle `c`. -/
def State.chainFault (s : State) (n c : Nat) : Option (RunCue × Nat × Nat) :=
  let x := s.core n
  x.cues.findSome? fun q =>
    match (x.plan q.ctx q.first).fault with
    | some (o, code, e) => if q.start + o ≤ c then some (q, code, e) else none
    | none => none

/-! ## Operand addresses (R130) -/

/-- OFFSET + r x STRIDE + P of an operand; `flag` is its PA, PB or PD bit. -/
def Entry.addr (e : Entry) (x : Opnd) (flag r param : Nat) : Int :=
  x.off + r * x.stride + (if bit e.ctl flag then (param * 2 ^ bits e.ctl 7 4 : Nat) else 0)

def Issue.addrA (q : Issue) : Int := q.e.addr q.e.a 8 q.r q.cue.param
def Issue.addrB (q : Issue) : Int := q.e.addr q.e.b 9 q.r q.cue.param
def Issue.addrD (q : Issue) : Int := q.e.addr q.e.d 10 q.r q.cue.param

/-- Register index of an operand (R130). -/
def regIdx (i : Int) (space : Nat) : Nat := (i % (spaceSize space : Int)).toNat
def Issue.regA (q : Issue) : Nat := regIdx q.addrA q.e.a.space
def Issue.regB (q : Issue) : Nat := regIdx q.addrB q.e.b.space
def Issue.regD (q : Issue) : Nat := regIdx q.addrD q.e.d.space

abbrev scratchEnd : Nat := 0x180000

/-- Fault of a scratchpad access of `n` bytes: range 0x03, alignment 0x04. -/
def scrFault (a : Int) (n align : Nat) : Option Nat :=
  if a < 0 ∨ scratchEnd < a.toNat + n then some 3 else if a.toNat % align ≠ 0 then some 4 else none

/-! ## What an issue does -/

/-- A conversion's entry in its calibration channel (R206): channel, elements, saturations, non-finite sources, and
the FP32 maximum. -/
structure CalAdd where
  chan : Nat
  elems : Nat
  sat : Nat
  nonfin : Nat
  amax : Nat
deriving DecidableEq, Repr

/-- Result of an issue: a cue fault, or its effects, whether it read poison, and its calibration. -/
inductive OpRes where
  | fault (code : Nat)
  | ok (effs : List Eff) (consumed : Bool) (cal : Option CalAdd)

def OpRes.bind (r : Option Nat) (k : OpRes) : OpRes :=
  match r with
  | some c => .fault c
  | none => k

/-- Mark an effect as poisoned (R137). -/
def Eff.mark (b : Bool) : Eff → Eff
  | .vreg i l p => .vreg i l (p || b)
  | .mask i k v => .mask i k v
  | .tile i t => .tile i { t with poison := t.poison || b }
  | .scratch l p => .scratch l (p || b)

def Core.vreg (x : Core) (i : Nat) : VReg := Sp.get {} x.vregs i
def Core.tile (x : Core) (i : Nat) : Tile := Sp.get {} x.tiles i
def Core.mask (x : Core) (i : Nat) : Nat := Sp.get 0 x.masks i

/-- Scratchpad bytes and poison of a core. -/
def State.scr (s : State) (n a len : Nat) : List Byte := s.load (scratchAddr n a) len
def State.scrPoison (s : State) (n a len : Nat) : Bool := s.poisoned (scratchAddr n a) len

/-- Count on a core and its cluster (R169). -/
def State.countCore (s : State) (n i k : Nat) : State :=
  (s.count R.CNT_CLU (n / 16) i k).updCore n (fun x => { x with live := Sp.set 0 x.live i (Sp.get 0 x.live i + k) })

/-! ## Visibility (R131, R132) -/

/-- An effect becomes visible. -/
def State.landEff (s : State) (n : Nat) : Eff → State
  | .vreg i l p => s.updCore n (fun x =>
      let old := x.vreg i
      let all := l.all Option.isSome
      let v : VReg := ⟨(old.lanes.zip l).map (fun (o, w) => w.getD o), if all then p else p || old.poison⟩
      { x with vregs := Sp.set {} x.vregs i v })
  | .mask i k v => s.updCore n (fun x => { x with masks := Sp.set 0 x.masks i ((x.mask i &&& k) ||| v) })
  | .tile i t => s.updCore n (fun x => { x with tiles := Sp.set {} x.tiles i t })
  | .scratch l p => l.foldl (fun s e => s.save (scratchAddr n e.1) e.2 p) s

/-- Insert by cycle, then unit; equal ones keep their order. -/
def insertPend (e : Pend) : List Pend → List Pend
  | [] => [e]
  | f :: r => if e.due < f.due ∨ (e.due = f.due ∧ e.unit < f.unit) then e :: f :: r else f :: insertPend e r

def Issue.report (q : Issue) (s : State) : Nat := s.posCluster q.p q.cue.word (q.n / 16)

/-- The first fault of a core in a leg attempt goes into its CLU_CORE_FAULT (R158, R166). -/
def State.faultRecord (s : State) (n : Nat) (bf : Bool) (ctx code entry first r param : Nat) : State :=
  let c := n / 16
  let k := n % 16
  if (s.core n).faulted || bit (s.rd R.CLU_CORE_FAULT c k) 63 then s.updCore n (fun x => { x with faulted := true }) else
  (s.wr R.CLU_CORE_FAULT c k (atBits 63 63 1 + atBits 62 62 (b2n bf) + atBits 61 60 ctx + atBits 55 48 code
    + atBits 47 40 entry + atBits 39 32 first + atBits 31 16 r + atBits 9 0 param)).updCore n
    (fun x => { x with faulted := true })

/-- The QUEUED and RUNNING fields of CLU_BF_STATUS follow the hub. -/
def State.syncBf (s : State) (c : Nat) : State :=
  let h := s.hub c
  (List.range 3).foldl (fun s x => s.wrFs R.CLU_BF_STATUS c x
    [(F.CLU_BF_STATUS_QUEUED, (h.queue.filter (fun t => t.ctx = x)).length),
     (F.CLU_BF_STATUS_RUNNING, b2n (h.running.any (fun t => t.ctx = x)))]) s

/-- Post the completion of a backfill task to local queue 1 of its context's function (R167, R451, Table 13-9). -/
def State.bfComplete (s : State) (p : Nat) (t : BfTask) (status : Nat) : State :=
  let b := leBytes 1 3 ++ leBytes 1 (status % 128) ++ leBytes 2 0 ++ leBytes 2 t.tag ++ leBytes 2 0 ++ leBytes 8 0
    ++ leBytes 4 (s.lap p) ++ leBytes 4 0 ++ leBytes 8 (s.ftime % 2 ^ 64)
  let q := s.rdF R.QUE_FN_RANGE F.QUE_FN_RANGE_FIRST 0 t.fn + 1
  { s with store := s.store ++ [{ fn := t.fn, queue := q, bytes := b }] }

/-- A task leaves its cores: its cues end, its requests are dropped (R165). -/
def State.bfRemove (s : State) (c : Nat) (t : BfTask) : State :=
  let s := (List.range 16).foldl (fun s k =>
    if bit t.mask k then s.updCore (16 * c + k) (fun x => { x with cues := x.cues.filter (fun q => q.ctx != t.ctx + 1) }) else s) s
  let s := { s with greqs := s.greqs.filter (fun g => !(g.core / 16 = c && g.ctx = t.ctx + 1)) }
  s.updHub c (fun h => { h with running := h.running.erase t })

/-- End of a backfill task without restart (R166): fault record, event and error completion. -/
def State.bfEnd (s : State) (n : Nat) (cue : RunCue) (code : Option Nat) (entry r : Nat) : State :=
  let c := n / 16
  let p := (s.partOfCluster c).getD 0
  match (s.hub c).running.find? (fun t => t.ctx + 1 = cue.ctx && bit t.mask (n % 16)) with
  | none => s
  | some t =>
    let (k, s) := s.takeFree
    let s := s.faultRecord n true t.ctx (code.getD (Config.bfEndCode k).toNat) entry cue.first r cue.param
    let s := s.eventAs E.BACKFILL_FAULT E.BACKFILL_FAULT.cls.code p (s.posCluster p cue.word c) entry 0 (some t.fn)
    let s := s.bfComplete p t (1 + (Config.bfEndStatus k).toNat % 127)
    (s.bfRemove c t).syncBf c

/-- A cue fault (R158): a primary one is class P; a backfill one ends its task. The core issues nothing more of the
cue. -/
def State.cueFault (s : State) (n : Nat) (cue : RunCue) (code entry r : Nat) : State :=
  let s := s.countCore n 14 1
  if cue.ctx != 0 then s.bfEnd n cue (some code) entry r else
  let p := (s.partOfCluster (n / 16)).getD 0
  let s := s.faultRecord n false 0 code entry cue.first r cue.param
  let s := s.updCore n (fun x => { x with cues := x.cues.erase cue })
  s.raise E.CUE_FAULT p (s.posCluster p cue.word (n / 16)) entry

/-- Arrivals at the receive queues that are due (R155, R156); one at a full queue is discarded, a cue fault 0x09. -/
def State.landArr (s : State) (n c : Nat) : State :=
  let due := (s.core n).arr.filter (fun a => a.1 ≤ c)
  let s := s.updCore n (fun x => { x with arr := x.arr.filter (fun a => c < a.1) })
  due.foldl (fun s a =>
    let q := Sp.get [] (s.core n).rxq a.2.1
    if 64 ≤ q.length then s.cueFault n (((s.core n).cues.head?).getD {}) 9 0 0
    else s.updCore n (fun x => { x with rxq := Sp.set [] x.rxq a.2.1 (q ++ [a.2.2]) })) s

/-- Everything due by cycle `c` on core `n` becomes visible (R131, R132). -/
def State.landTo (s : State) (n c : Nat) : State :=
  let due := (s.core n).pend.filter (fun e => e.due ≤ c)
  let s := s.updCore n (fun x => { x with pend := x.pend.filter (fun e => c < e.due) })
  let l := due.foldl (fun acc e => insertPend e acc) []
  (l.foldl (fun s e => s.landEff n e.eff) s).landArr n c

/-- The partition of core `n`. -/
def State.corePart (s : State) (n : Nat) : Nat := (s.partOfCluster (n / 16)).getD 0

/-- A command of partition `p` names cycle `c`: commands come in the order of their cycles (log 30). -/
def State.seen (s : State) (p c : Nat) : State := s.updPart p (fun x => { x with now := max x.now c })

/-- What an elastic access finds in the scratchpad of core `n`: the writes visible by the latest cycle a command has
named. -/
def State.settle (s : State) (n : Nat) : State := s.landTo n (s.part (s.corePart n)).now

/-! ## Calibration channels (R206, R207, R209) -/

def Chan.add (x : Chan) (a : CalAdd) : Chan :=
  ⟨x.elems + a.elems, x.sat + a.sat, x.nonfin + a.nonfin, max x.amax a.amax⟩

def State.calibrate (s : State) (q : Issue) (a : CalAdd) : State :=
  if q.cue.ctx != 0 then s.count R.CNT_BF_SAT (q.n / 16) (q.cue.ctx - 1) a.sat else
  (s.count R.CNT_SAT (q.n / 16) a.chan a.sat).updCore q.n
    (fun x => { x with chan := Sp.upd {} x.chan a.chan (fun ch => ch.add a) })

/-! ## One issue -/

/-- Regions of a backfill context on its cores (R98, Table 3-2 KIND 3). -/
def State.bfRegion (s : State) (p ctx a n : Nat) : Bool :=
  (s.part p).course.regions.any (fun r => r.kind = 3 && r.ctx = ctx && r.base ≤ a && a + n ≤ r.base + r.size)

/-- The scratchpad ranges an effect writes. -/
def Eff.ranges : Eff → List (Nat × Nat)
  | .scratch l _ => l.map (fun e => (e.1, e.2.length))
  | _ => []

/-- Results of an issue take effect LAT cycles later, with their poison marks (R131, R137). -/
def State.commit (s : State) (q : Issue) (lat : Nat) (effs : List Eff) (consumed : Bool) (cal : Option CalAdd) : State :=
  let s := if consumed then s.countCore q.n 6 1 else s
  let s := match cal with
    | some a => s.calibrate q a
    | none => s
  let u := ((opInfo q.e.op).map (·.unit)).getD 5
  s.updCore q.n (fun x => { x with pend := x.pend ++ effs.map (fun f => ⟨q.cycle + lat, u, q.cue.ctx, q.cue.start, q.idx, q.r, f.mark consumed⟩) })

/-- The hardware errors an issue may meet: 1 a corrected scratchpad error, 2 an uncorrectable one (R136), 3 a parity
error of a core structure (R159). The result says whether the issue goes on. -/
def State.issueErr (s : State) (q : Issue) (err : Nat) (reads : Bool) : State × Bool :=
  match err with
  | 1 => (if reads then s.countCore q.n 4 1 else s, true)
  | 2 => if !reads then (s, true) else
      let s := s.countCore q.n 5 1
      if q.cue.ctx != 0 then (s.bfEnd q.n q.cue none q.idx q.r, false) else (s.coreHwErr E.SCRATCH_UE q.n, false)
  | 3 => (s.coreHwErr E.CORE_PARITY q.n, false)
  | _ => (s, true)

/-- The opcode reads the scratchpad at its issue. -/
def readsScratch (op : Nat) : Bool := op = 0x30 || ((opInfo op).map (·.sa)).getD 7 = 0

/-- The counter of Table 4-12 an issue of opcode `op` counts in: MMA and MMA.S 1, the V unit 2. -/
def opCount (op : Nat) : Option Nat :=
  match (opInfo op).map (·.unit) with
  | some 0 => if op ≤ 2 then some 1 else none
  | some 1 => some 2
  | _ => none

/-- The issue of opcode `op` in cycle `c` on core `n`, by its meaning `f`: results become visible, faults of the chain
and the entry are raised, and the meaning runs (R128 to R133, R136, R158, R159). Where no cue of the core issues the
opcode in that cycle, nothing happens (log 30). -/
def State.coreOp (s : State) (n c op err : Nat) (f : State → Issue → State) : State :=
  let s := (s.seen (s.corePart n) c).landTo n c
  match s.chainFault n c with
  | some (q, code, e) => s.cueFault n q code e 0
  | none =>
    match s.issueAt n c op with
    | none => s
    | some q =>
      match q.e.fault with
      | some code => s.cueFault n q.cue code q.idx q.r
      | none =>
        let s := if q.cue.ctx != 0 && (s.core n).bfCycle != c + 1 then
            (s.countCore n 10 1).updCore n (fun x => { x with bfCycle := c + 1 }) else s
        let (s, go) := s.issueErr q err (readsScratch op)
        if go then f s q else match opCount op with
          | some i => s.countCore q.n i 1
          | none => s

/-- A meaning that only computes results: a fault, or effects after LAT, counted in counter `cnt` of Table 4-12. A
backfill task that writes or reads outside its scratch region ends (R166). -/
def State.computeLat (s : State) (q : Issue) (lat : Nat) (cnt : Option Nat) (reads : List (Nat × Nat)) (res : OpRes) :
    State :=
  match res with
  | .fault code => s.cueFault q.n q.cue code q.idx q.r
  | .ok effs consumed cal =>
    let rs := reads ++ effs.flatMap Eff.ranges
    if q.cue.ctx != 0 && !rs.all (fun r => s.bfRegion q.p (q.cue.ctx - 1) r.1 r.2) then
      s.bfEnd q.n q.cue none q.idx q.r
    else
      let s := match cnt with
        | some i => s.countCore q.n i 1
        | none => s
      s.commit q lat effs consumed cal

/-- The same with the latency of the entry. -/
def State.compute (s : State) (q : Issue) (cnt : Option Nat) (reads : List (Nat × Nat)) (res : OpRes) : State :=
  s.computeLat q ((s.core q.n).latency q.e) cnt reads res

/-! ## Dispatch and rest (R83, R84, R111, R112, R129, R162) -/

/-- The cores of a group of cluster `c` in the course in force. -/
def State.groupCores (s : State) (p c g : Nat) : List Nat :=
  (bitList (((s.part p).course.stages.getD c {}).groups.getD g 0) 16).map (fun k => 16 * c + k)

/-- A core is busy with a primary cue for a slot of cycle `u` (R111, R112, R129). -/
def Core.busy (x : Core) (u : Nat) : Bool := x.cues.any (fun q => q.ctx = 0 && u + 3 < q.start + q.il)

/-- Zero the tiles, vector registers and mask registers of a core, types and poison with them (R161, R162). -/
def Core.zeroRegs (x : Core) : Core := { x with tiles := [], vregs := [], masks := [] }

/-- Preempt a running backfill task of cluster `c`: its state is discarded and it is queued again, before the tasks of
its context that wait (R84, R165). -/
def State.preempt (s : State) (c : Nat) (t : BfTask) : State :=
  let s := s.count R.CNT_CLU c 12 1
  let s := s.bfRemove c t
  (s.updHub c (fun h => { h with queue := { t with at_ := 0 } :: h.queue })).syncBf c

/-- Preempt the tasks that run on core `n`. -/
def State.preemptOn (s : State) (n : Nat) : State :=
  let c := n / 16
  ((s.hub c).running.filter (fun t => bit t.mask (n % 16))).foldl (fun s t => s.preempt c t) s

/-- A rest run of core `n` ends before cycle `u` (R112, R162, R165). -/
def State.endRest (s : State) (n u : Nat) : State :=
  match (s.core n).rest with
  | none => s
  | some (a, b) =>
    let s := ((s.landTo n u).preemptOn n).countCore n 9 (min u b - a)
    s.updCore n (fun x => { x.zeroRegs with rest := none, pend := x.pend.filter (fun e => e.ctx = 0), pair := none })

/-- The last cycle in which an entry of a cue still issues or is in flight, plus one (R160). -/
def Core.cueEnd (x : Core) (q : RunCue) : Nat :=
  (x.plan q.ctx q.first).steps.foldl (fun m st => st.ents.foldl (fun m (_, e) =>
    max m (q.start + st.at_ + e.rep * x.interval e + max 1 (x.latency e))) m) q.start

/-- A DISPATCH slot in cycle `u` from store word `w` (R94, R111, R129). -/
def State.dispatch (s : State) (p c cue g param u w : Nat) : State :=
  let pos := s.posCluster p w c
  let ns := s.groupCores p c g
  let en := ((s.part p).course.stages.getD c {}).enabled
  if !en || ns.any (fun n => ((s.core n).entryAt 0 cue).isNone) then s.raise E.CUE_INVALID p pos cue
  else if ns.any (fun n => (s.core n).busy u) then s.raise E.CUE_OVERLAP p pos cue
  else ns.foldl (fun s n =>
    let s := (s.endRest n u).landTo n u
    let x := s.core n
    let il := (x.plan 0 cue).il
    (s.updCore n (fun x => { x with
      cues := x.cues.filter (fun q => u < max (q.start + q.il) (x.cueEnd q)) ++ [{ first := cue, param := param, start := u + 3, il := il, word := w }] })).countCore
      n 0 1) s

/-- A REST slot in cycle `u` (R112). -/
def State.restSlot (s : State) (p c g len u w : Nat) : State :=
  let ns := s.groupCores p c g
  if ns.any (fun n => (s.core n).busy u) then s.raise E.CUE_OVERLAP p (s.posCluster p w c) 0
  else ns.foldl (fun s n => (s.endRest n u).updCore n (fun x => { x with rest := some (u, u + len) })) s

/-- One cluster slot of a stride word (R110). -/
def State.hubSlot (s : State) (p c v u w : Nat) : State :=
  match slotAct v with
  | .dispatch cue g param => s.dispatch p c cue g param u w
  | .rest g len => s.restSlot p c g len u w
  | _ => s

/-- R160: at the last cycle `last` of a leg's END_LEG word no micro-operation of the partition issues or is in
flight. Stream sends are in flight until they reach their queue. -/
def State.endLegCheck (s : State) (p last : Nat) : State :=
  (bitList (s.rd R.GLB_PART_CLUSTERS 0 p) s.clusterCount).foldl (fun s c =>
    (List.range 16).foldl (fun s k =>
      let n := 16 * c + k
      let x := s.core n
      match x.cues.find? (fun q => q.ctx = 0 && decide (last < x.cueEnd q)) with
      | some q => s.cueFault n q 0x0E q.first 0
      | none =>
        if x.arr.any (fun a => last < a.1) then s.cueFault n ((x.cues.head?).getD {}) 0x0E 0 0 else s) s) s

/-- REST_RUN_END: a rest run of core `n` has passed its last cycle (R162). -/
def State.restRunEnd (s : State) (n : Nat) : State :=
  match (s.core n).rest with
  | none => s
  | some (_, b) => s.endRest n b

end Sys2Proof.Machine
end

