-- ==== Sys2Proof/Machine/Matrix.lean ====
section
/-! DEFINITION. The matrix unit: MMA, MMA.S, MMA.RD and MMA.LD (04_core.md R138 to R144; 05_number_formats.md R177,
R184; 06_quantisation.md R204, R206). -/

namespace Sys2Proof.Machine

/-- Lanes of a list as a sparse map. -/
def lanesOf (l : List Nat) : Sp Nat := (l.zipIdx.filter (fun x => x.1 != 0)).map (fun x => (x.2, x.1))

/-- Values of a codebook slot; none where it is invalid or its FORMAT differs from `fmt` (R151, R174). -/
def Core.cbVals (x : Core) (slot fmt : Nat) : Option (List Num) :=
  match Sp.find slot x.cb with
  | none => none
  | some c => if c.format = fmt then
      some (c.values.map (fun v => match ffmt c.vformat with
        | some f => f.decode v
        | none => .nan))
    else none

/-- Exact value of an element of a floating or codebook format. -/
def elemNum (fmt : Nat) (cb : List Num) (v : Nat) : Num :=
  match ffmt fmt with
  | some f => f.decode v
  | none => cb.getD v .nan

/-- Integer of an element of an integer format (R172). -/
def elemInt (fmt v : Nat) : Int := if fmt = 10 then (v : Int) else sext (fmtWidth fmt) v

def isMmaFloat (f : Nat) : Bool := isFloatFmt f || isCbFmt f
def isMmaInt (f : Nat) : Bool := f = 9 || f = 10 || f = 11

/-- The accumulating tile of issue `q`: zero for the first issue of an entry with ZERO, the result in flight of the
issue before it in chain, else the tile as it stands (R131, R140). -/
def Core.accTile (x : Core) (q : Issue) (i : Nat) : Tile :=
  if q.e.zero && q.r = 0 then {} else
  match x.pend.findSome? (fun e =>
      if e.cueAt = q.cue.start ∧ e.entry = q.idx ∧ e.r + 1 = q.r then
        (match e.eff with
          | .tile j t => if j = i then some t else none
          | _ => none)
      else none) with
  | some t => t
  | none => x.tile i

/-- Rows of a list, `k` of length `n` each. -/
def rowsOf {α : Type} (n : Nat) : Nat → List α → List (List α)
  | 0, _ => []
  | k + 1, l => l.take n :: rowsOf n k (l.drop n)

/-- Floating cells (R140, R143): `sa` and `sb` are the row and column scales. -/
def floatCells (acc : Nat → Nat) (a b : List (List Num)) (sc : Option (List Num × List Num)) : List Nat :=
  (a.zipIdx.map (fun (ra, i) => b.zipIdx.map (fun (cb, j) =>
    let terms := match sc with
      | none => (ra.zip cb).map (fun (x, y) => x.mul y)
      | some (sa, sb) =>
        let s := (sa.getD i .nan).mul (sb.getD j .nan)
        (ra.zip cb).map (fun (x, y) => s.mul (x.mul y))
    toF32 (Num.sum (f32 (acc (32 * i + j)) :: terms))))).flatten

/-- Integer cells, wrapping modulo 2^32 (R141). -/
def intCells (acc : Nat → Nat) (a b : List (List Int)) : List Nat :=
  (a.zipIdx.map (fun (ra, i) => b.zipIdx.map (fun (cb, j) =>
    wrapI 32 ((ra.zip cb).foldl (fun t (x, y) => t + x * y) (i32 (acc (32 * i + j))))))).flatten

/-- Operand bytes and poison of a matrix operand of format `f`: `per` bytes per bit of width. -/
def mmaRange (f per : Nat) : Nat := per * fmtWidth f

/-- The scale block of an MMA.S issue: its offset and its fault (R143, R204). -/
def Issue.scaleAt (q : Issue) : Nat := q.e.imm % 2 ^ 21 + q.r / 2 ^ bits q.e.imm 23 22 * 96

/-- Scratchpad ranges MMA and MMA.S read. -/
def Issue.mmaReads (q : Issue) (scaled : Bool) : List (Nat × Nat) :=
  [(q.addrA.toNat, mmaRange q.e.fmtA 256), (q.addrB.toNat, mmaRange q.e.fmtB 128)]
    ++ (if scaled then [(q.scaleAt, 96)] else [])

/-- Faults of MMA and MMA.S that their formats and addresses fix (R139, R143, R151). -/
def Issue.mmaFault (q : Issue) (x : Core) (scaled : Bool) : Option Nat :=
  let fa := q.e.fmtA
  let fb := q.e.fmtB
  let fmtOk := (isMmaFloat fa && isMmaFloat fb) || (!scaled && isMmaInt fa && isMmaInt fb)
  if scaled && bits q.e.imm 23 22 = 3 then some 1
  else if !fmtOk || (scaled && !isScaleFmt q.e.fmtD) then some 2
  else if scaled && q.e.imm % 2 ^ 21 % 32 != 0 then some 4
  else match scrFault q.addrA (mmaRange fa 256) 16, scrFault q.addrB (mmaRange fb 128) 16 with
    | some c, some d => some (min c d)
    | some c, none | none, some c => some c
    | none, none =>
      if scaled && decide (scratchEnd < q.scaleAt + 96) then some 3
      else if (isCbFmt fa && (x.cbVals (bits q.e.aux 5 0) fa).isNone)
          || (isCbFmt fb && (x.cbVals (bits q.e.aux 13 8) fb).isNone) then some 7
      else none

/-- The result of an MMA or MMA.S issue (R140 to R143). -/
def State.mmaRes (s : State) (q : Issue) (scaled : Bool) : OpRes :=
  let x := s.core q.n
  OpRes.bind (q.mmaFault x scaled) <|
    let i := q.regD
    let fresh := q.e.zero && q.r = 0
    let t := x.accTile q i
    let typ := if isMmaInt q.e.fmtA then 2 else 1
    if !fresh && t.typ != 0 && t.typ != typ then .fault 8 else
    let ra := q.addrA.toNat
    let rb := q.addrB.toNat
    let ea := unpack (fmtWidth q.e.fmtA) 2048 (s.scr q.n ra (mmaRange q.e.fmtA 256))
    let eb := unpack (fmtWidth q.e.fmtB) 1024 (s.scr q.n rb (mmaRange q.e.fmtB 128))
    let acc := fun k => Sp.get 0 t.lanes k
    let lanes :=
      if typ = 2 then
        intCells acc (rowsOf 32 64 (ea.map (elemInt q.e.fmtA))) (rowsOf 32 32 (eb.map (elemInt q.e.fmtB)))
      else
        let va := (x.cbVals (bits q.e.aux 5 0) q.e.fmtA).getD []
        let vb := (x.cbVals (bits q.e.aux 13 8) q.e.fmtB).getD []
        let sc := if scaled then
            let b := (s.scr q.n q.scaleAt 96).map (fun v => scaleNum q.e.fmtD v.toNat)
            some (b.take 64, b.drop 64)
          else none
        floatCells acc (rowsOf 32 64 (ea.map (elemNum q.e.fmtA va))) (rowsOf 32 32 (eb.map (elemNum q.e.fmtB vb))) sc
    let poison := t.poison || (q.mmaReads scaled).any (fun r => s.scrPoison q.n r.1 r.2)
    .ok [.tile i { typ := typ, lanes := lanesOf lanes }] poison none

/-- Value of a tile lane by the tile's type; an untyped tile reads as +0. -/
def Tile.num (t : Tile) (k : Nat) : Num :=
  let v := Sp.get 0 t.lanes k
  if t.typ = 2 then Num.ofInt (i32 v) 0 else f32 v

/-- Magnitude of a finite value as FP32 bits, for AMAX (R206); zero for others. -/
def amaxOf (x : Num) : Nat :=
  match x with
  | .fin _ m e => toF32 (.fin false m e)
  | _ => 0

/-- The largest of a list. -/
def maxOf (l : List Nat) : Nat := l.foldl max 0

/-- Rounding of a conversion by RND, with its draw (R179, R187). -/
def rndOf (rnd draw : Nat) : Rnd := if rnd = 1 then .away else if rnd = 2 then .stoch draw else .even

/-- Convert an exact value to a floating or integer format: code and saturation count. -/
def convNum (fmt : Nat) (r : Rnd) (sat : Bool) (x : Num) : Nat × Bool :=
  match ffmt fmt with
  | some f => f.encode r sat x
  | none => let (i, o) := numToInt fmt r x; (wrapI (fmtWidth fmt) i, o)

/-- Calibration entry of conversions: values presented and saturation flags (R206). -/
def calOf (chan : Nat) (xs : List Num) (sats : List Bool) : CalAdd :=
  ⟨chan, xs.length, (sats.filter id).length, (xs.filter (fun x => !x.isFin)).length, maxOf (xs.map amaxOf)⟩

/-- The result of an MMA.RD issue (R144, R184). -/
def State.mmaRdRes (s : State) (q : Issue) : OpRes :=
  let x := s.core q.n
  let fd := q.e.fmtD
  if q.e.rnd = 2 || !(isFloatFmt fd || isIntFmt fd) then .fault 2 else
  let len := 256 * fmtWidth fd
  OpRes.bind (scrFault q.addrD len 16) <|
    let i := q.regA
    let t := x.tile i
    let nums := (List.range 2048).map t.num
    let sc := f32 q.e.imm
    let cs := nums.map (fun v => convNum fd (rndOf q.e.rnd 0) q.e.sat (if bit q.e.aux 0 then v.mul sc else v))
    let effs := [Eff.scratch [(q.addrD.toNat, pack (fmtWidth fd) (cs.map (·.1)))] false]
      ++ (if q.e.zero then [Eff.tile i {}] else [])
    .ok effs t.poison (some (calOf (bits q.e.aux 15 12) nums (cs.map (·.2))))

/-- The result of an MMA.LD issue (R144). -/
def State.mmaLdRes (s : State) (q : Issue) : OpRes :=
  if q.e.fmtA != 0 && q.e.fmtA != 8 then .fault 2 else
  OpRes.bind (scrFault q.addrA 8192 16) <|
    let b := s.scr q.n q.addrA.toNat 8192
    .ok [.tile q.regD { typ := if q.e.fmtA = 0 then 1 else 2, lanes := lanesOf (unpack 32 2048 b) }]
      (s.scrPoison q.n q.addrA.toNat 8192) none

/-- MMA (R140, R141): `core` issues it in leg cycle `cycle`; `err` is the hardware error it meets. -/
def execMma (core cycle err : Nat) (s : State) : Host.Outcome State Fault Refusal :=
  .next (s.coreOp core cycle 0x01 err (fun s q => s.compute q (some 1) (q.mmaReads false) (s.mmaRes q false)))

/-- MMA.S (R143, R204). -/
def execMmaS (core cycle err : Nat) (s : State) : Host.Outcome State Fault Refusal :=
  .next (s.coreOp core cycle 0x02 err (fun s q => s.compute q (some 1) (q.mmaReads true) (s.mmaRes q true)))

/-- MMA.RD (R144). -/
def execMmaRd (core cycle err : Nat) (s : State) : Host.Outcome State Fault Refusal :=
  .next (s.coreOp core cycle 0x03 err (fun s q => s.compute q none [] (s.mmaRdRes q)))

/-- MMA.LD (R144). -/
def execMmaLd (core cycle err : Nat) (s : State) : Host.Outcome State Fault Refusal :=
  .next (s.coreOp core cycle 0x04 err (fun s q => s.compute q none [(q.addrA.toNat, 8192)] (s.mmaLdRes q)))

end Sys2Proof.Machine
end

