-- ==== Sys2Proof/Machine/Vector.lean ====
section
/-! DEFINITION. The vector and control units (04_core.md R145 to R151, R157, R169; 05_number_formats.md R187 to R191,
R194 to R197; 06_quantisation.md R199 to R203, R568; 14_reproducibility_and_audit.md R426, R427). -/

namespace Sys2Proof.Machine

/-! ## Lanes -/

/-- Source registers of an issue. -/
def State.va (s : State) (q : Issue) : VReg := (s.core q.n).vreg q.regA
def State.vb (s : State) (q : Issue) : VReg := (s.core q.n).vreg q.regB
def State.vd (s : State) (q : Issue) : VReg := (s.core q.n).vreg q.regD

def VReg.lane (v : VReg) (i : Nat) : Nat := v.lanes.getD i 0

/-- Lane `i` takes part: not masked off (Table 4-3). -/
def State.laneOn (s : State) (q : Issue) (i : Nat) : Bool :=
  !q.e.masked || bit ((s.core q.n).mask q.e.auxMask) i

/-- The effect of writing lanes `f 0 .. f 63` to the destination register under the mask. -/
def State.toVreg (s : State) (q : Issue) (f : Nat → Nat) : Eff :=
  .vreg q.regD ((List.range 64).map (fun i => if s.laneOn q i then some (f i % 2 ^ 32) else none)) false

/-- An operation lane by lane on two registers. -/
def State.bin (s : State) (q : Issue) (f : Nat → Nat → Nat) : OpRes :=
  .ok [s.toVreg q (fun i => f ((s.va q).lane i) ((s.vb q).lane i))] ((s.va q).poison || (s.vb q).poison) none

/-- An operation lane by lane on one register. -/
def State.un (s : State) (q : Issue) (f : Nat → Nat) : OpRes :=
  .ok [s.toVreg q (fun i => f ((s.va q).lane i))] (s.va q).poison none

/-- A V-unit issue that reads no scratchpad. -/
def State.vOp (s : State) (n c op err : Nat) (f : State → Issue → OpRes) : State :=
  s.coreOp n c op err (fun s q => s.compute q (some 2) [] (f s q))

/-! ## Draws (R149, R189 to R191) -/

/-- Draw of element `e` of an issue under tag `tag` (Tables 5-8 and 5-9). -/
def State.draw (s : State) (q : Issue) (tag e : Nat) : Nat :=
  let seed := s.rdEff R.SEQ_SEED0 q.p 0
  let rank := s.effF R.SEQ_DRAW_RANK F.SEQ_DRAW_RANK_RANK q.p 0
  let bf := q.cue.ctx != 0
  let sid := (if bf then 2 ^ 31 + (q.cue.ctx - 1) * 2 ^ 26 else 0) + q.n * 2 ^ 16 + tag % 2 ^ 16
  philox (if bf then 0 else s.lap q.p) sid (rank * 2 ^ 16 + (if bf then q.cue.tag else s.leg q.p))
    (q.r * 16 + e / 4) (seed % 2 ^ 32) (seed / 2 ^ 32) (e % 4)

/-! ## Scratchpad destinations under a mask -/

/-- Contiguous runs of `w`-byte pieces from address `a`; a piece of `none` is left as it is. -/
def runsOf (w : Nat) : Nat → List (Option (List Byte)) → List (Nat × List Byte)
  | _, [] => []
  | a, none :: r => runsOf w (a + w) r
  | a, some b :: r => match runsOf w (a + w) r with
    | (a', b') :: t => if a' = a + w then (a, b ++ b') :: t else (a, b) :: (a', b') :: t
    | [] => [(a, b)]

/-- Bytes of lane codes of width `w`, whole or under the mask (R138, R150). -/
def State.laneStore (s : State) (q : Issue) (w : Nat) (codes : List Nat) : Eff :=
  let a := q.addrD.toNat
  if q.e.masked then
    .scratch (runsOf (w / 8) a (codes.zipIdx.map (fun (c, i) =>
      if s.laneOn q i then some (leBytes (w / 8) (c % 2 ^ w)) else none))) false
  else .scratch [(a, pack w codes)] false

/-! ## Loads and stores (R148, R568) -/

/-- A lane's value from an element of a VLD format (R148, R176). -/
def loadLane (fmt v : Nat) : Nat :=
  match ffmt fmt with
  | some f => toF32 (f.decode v)
  | none => if isScaleFmt fmt then toF32 (scaleNum fmt v) else wrapI 32 (elemInt fmt v)

/-- The result of a VLD issue. -/
def State.vldRes (s : State) (q : Issue) : OpRes :=
  let f := q.e.fmtA
  if isCbFmt f || f = 16 then .fault 2 else
  let len := 8 * fmtWidth f
  OpRes.bind (scrFault q.addrA len 16) <|
    let es := unpack (fmtWidth f) 64 (s.scr q.n q.addrA.toNat len)
    .ok [s.toVreg q (fun i => loadLane f (es.getD i 0))] (s.scrPoison q.n q.addrA.toNat len) none

/-- The value a lane presents for conversion to format `fd`: INT32 to an integer format, else FP32 (R148, R206). -/
def storeNum (fd v : Nat) : Num := if isIntFmt fd then f32 (toF32 (Num.ofInt (i32 v) 0)) else f32 v

/-- Code and saturation of one stored lane (R148, R185, R568). -/
def storeLane (fd : Nat) (r : Rnd) (sat : Bool) (v : Nat) : Nat × Bool :=
  if fd = 0 then ((if (f32 v).isNan then nan32 else v % 2 ^ 32), false)
  else if isIntFmt fd then (let (i, o) := clampInt fd (i32 v); (wrapI (fmtWidth fd) i, o))
  else if isScaleFmt fd then scaleStore fd (f32 v)
  else convNum fd r sat (f32 v)

/-- Lanes that are not masked off, with their numbers. -/
def State.onLanes (s : State) (q : Issue) : List Nat := (List.range 64).filter (s.laneOn q)

/-- The result of a VST issue. -/
def State.vstRes (s : State) (q : Issue) : OpRes :=
  let fd := q.e.fmtD
  if isCbFmt fd || fd = 16 || (q.e.rnd = 2 && !isFloatFmt fd) || (q.e.masked && decide (fmtWidth fd < 8)) then .fault 2 else
  let len := 8 * fmtWidth fd
  OpRes.bind (scrFault q.addrD len 16) <|
    let v := s.va q
    let cs := (List.range 64).map (fun i => storeLane fd (rndOf q.e.rnd (s.draw q (q.e.imm / 2 ^ 16) i)) q.e.sat (v.lane i))
    let on := s.onLanes q
    .ok [s.laneStore q (fmtWidth fd) (cs.map (·.1))] v.poison
      (some (calOf q.e.auxSat (on.map (fun i => storeNum fd (v.lane i))) (on.map (fun i => (cs.getD i (0, false)).2))))

/-- The result of a VCVTI issue (R148, R184, R185). -/
def State.vcvtiRes (s : State) (q : Issue) : OpRes :=
  if q.e.rnd = 2 then .fault 2 else
  let v := s.va q
  let r := rndOf q.e.rnd 0
  let conv := fun x => if bit q.e.imm 0 then
      (let (i, o) := numToInt 8 r (f32 x); (wrapI 32 i, o))
    else f32fmt.encode r q.e.sat (Num.ofInt (i32 x) 0)
  let on := s.onLanes q
  let present := fun x => if bit q.e.imm 0 then f32 x else storeNum 8 x
  .ok [s.toVreg q (fun i => (conv (v.lane i)).1)] v.poison
    (some (calOf q.e.auxSat (on.map (fun i => present (v.lane i))) (on.map (fun i => (conv (v.lane i)).2))))

/-- The result of a VRND issue (R148, R181). -/
def State.vrndRes (s : State) (q : Issue) : OpRes :=
  let fd := q.e.fmtD
  if !(isFloatFmt fd || isIntFmt fd) || (q.e.rnd = 2 && isIntFmt fd) then .fault 2 else
  let v := s.va q
  let conv := fun i =>
    let x := f32 (v.lane i)
    let r := rndOf q.e.rnd (s.draw q (q.e.imm / 2 ^ 16) i)
    match ffmt fd with
    | some f => let (c, o) := f.encode r q.e.sat x
      (if fd = 0 then ((if x.isNan then nan32 else v.lane i), false) else (toF32 (f.decode c), o))
    | none => let (k, o) := numToInt fd r x; (toF32 (Num.ofInt k 0), o)
  let on := s.onLanes q
  .ok [s.toVreg q (fun i => (conv i).1)] v.poison
    (some (calOf q.e.auxSat (on.map (fun i => f32 (v.lane i))) (on.map (fun i => (conv i).2))))

/-- The result of a VCBL issue (R151, R174). -/
def State.vcblRes (s : State) (q : Issue) : OpRes :=
  let f := q.e.fmtA
  if !isCbFmt f then .fault 2 else
  let len := 8 * fmtWidth f
  OpRes.bind (scrFault q.addrA len 16) <|
    match (s.core q.n).cbVals q.e.auxSlot f with
    | none => .fault 7
    | some vs =>
      let es := unpack (fmtWidth f) 64 (s.scr q.n q.addrA.toNat len)
      .ok [s.toVreg q (fun i => toF32 (vs.getD (es.getD i 0) .nan))] (s.scrPoison q.n q.addrA.toNat len) none

/-! ## Comparison, selection, integers, permutation, reduction (R147, R150) -/

/-- A comparison by IMM[2:0] (R150). -/
def cmpLane (k : Nat) (x y : Num) : Bool :=
  if x.isNan || y.isNan then k = 1 || k = 6
  else match k with
    | 0 => x.eqv y
    | 1 => !x.eqv y
    | 2 => x.lt y
    | 3 => !y.lt x
    | 4 => y.lt x
    | 5 => !x.lt y
    | _ => false

/-- The result of a VCMP issue: the mask bits of the lanes that take part. -/
def State.vcmpRes (s : State) (q : Issue) : OpRes :=
  let k := bits q.e.imm 2 0
  if k = 7 then .fault 1 else
  let on := s.onLanes q
  let v := on.foldl (fun m i => m + b2n (cmpLane k (f32 ((s.va q).lane i)) (f32 ((s.vb q).lane i))) * 2 ^ i) 0
  let keep := (List.range 64).foldl (fun m i => m + b2n (!s.laneOn q i) * 2 ^ i) 0
  .ok [.mask q.regD keep v] ((s.va q).poison || (s.vb q).poison) none

def State.vselRes (s : State) (q : Issue) : OpRes :=
  let m := (s.core q.n).mask q.e.auxMask
  .ok [s.toVreg q (fun i => if bit m i then (s.va q).lane i else (s.vb q).lane i)] ((s.va q).poison || (s.vb q).poison) none

/-- A VINT operation by IMM[3:0] (R150); none where reserved. -/
def intLane (k a b : Nat) : Nat :=
  match k with
  | 0 => a + b
  | 1 => a + 2 ^ 32 - b
  | 2 => a * b
  | 3 => a &&& b
  | 4 => a ||| b
  | 5 => a ^^^ b
  | 6 => a <<< (b % 32)
  | 7 => a >>> (b % 32)
  | 8 => wrapI 32 (i32 a / (2 ^ (b % 32) : Nat))
  | 9 => if i32 b < i32 a then b else a
  | _ => if i32 a < i32 b then b else a

def State.vintRes (s : State) (q : Issue) : OpRes :=
  if 10 < q.e.imm then .fault 1 else s.bin q (fun a b => intLane q.e.imm a b % 2 ^ 32)

def State.vpermRes (s : State) (q : Issue) : OpRes :=
  s.bin q (fun _ b => (s.va q).lane (b % 64))

/-- max(|a|, |b|), the sign cleared (R147). -/
def fabsmax (a b : Nat) : Nat :=
  let x := a % 2 ^ 31
  let y := b % 2 ^ 31
  if (f32 x).isNan || (f32 y).isNan then nan32 else max x y

/-- Combination of a reduction by IMM[1:0]. -/
def redFn (k : Nat) : Nat → Nat → Nat :=
  if k = 0 then fadd else if k = 1 then fmax else if k = 2 then fmin else fabsmax

/-- One level of R147: lane i with lane i + h. -/
def redLevels (f : Nat → Nat → Nat) : Nat → List Nat → Nat
  | 0, l => l.headD 0
  | n + 1, l =>
    let h := l.length / 2
    redLevels f n ((l.take h).zipWith f (l.drop h))

def State.vreduceRes (s : State) (q : Issue) : OpRes :=
  let v := redLevels (redFn (bits q.e.imm 1 0)) 6 (s.va q).lanes
  .ok [s.toVreg q (fun i => if i = 0 then v else 0)] (s.va q).poison none

/-! ## Quantisation (R199 to R203) -/

def isQuantFmt (f : Nat) : Bool := (decide (1 ≤ f ∧ f ≤ 7)) || f = 9 || f = 10 || f = 11 || isCbFmt f

/-- HSTEP and GSTEP of Table 6-2. -/
def quantSteps (imm w : Nat) : Nat × Nat :=
  if bit imm 6 then (if bit imm 7 then 128 * w else 256 * w, 96) else (4 * w, 1)

/-- Second-level scale: lane 0 of the register IMM[4:0] names, or 1.0. -/
def State.s2Of (s : State) (q : Issue) : VReg × Num :=
  if bit q.e.imm 5 then
    let v := (s.core q.n).vreg (bits q.e.imm 4 0)
    (v, f32 (v.lane 0))
  else ({}, .fin false 1 0)

/-- Largest finite magnitude among values, as a dyadic. -/
def maxFinite (xs : List Num) : Nat × Int :=
  let fs := xs.filter Num.isFin
  let e := fs.foldl (fun a x => min a x.expo) 0
  (fs.foldl (fun a x => max a (x.at_ e).natAbs) 0, e)

/-- Scale code and value of a group under a usable S2 = (m2, e2) (R202). -/
def groupScale (sf fmt : Nat) (vs : List Num) (xs : List Num) (m2 : Nat) (e2 : Int) : Nat :=
  let (a, ea) := maxFinite xs
  let (f, ef) := fmaxOf fmt vs
  if a = 0 ∨ f = 0 then (if sf = 14 then 0x7F else 0x78) else (scaleUp sf a (m2 * f) (ea - e2 - ef)).1

/-- Encode the exact quotient x / (s S2) in an element format (R202). -/
def quantElem (fmt : Nat) (vs : List Num) (r : Rnd) (sat : Bool) (x : Num) (den : Nat) (ed : Int) : Nat × Bool :=
  match x with
  | .fin neg m e =>
    match ffmt fmt with
    | some f => f.encodeQ r sat neg m den (e - ed)
    | none => if isCbFmt fmt then cbEncodeQ vs r neg m den (e - ed) else
      (let (i, o) := clampInt fmt (roundInt r neg m den (e - ed)); (wrapI (fmtWidth fmt) i, o))
  | y => if isCbFmt fmt then cbEncode vs r y else convNum fmt r sat y

/-- Quantise one group: its scale code and its elements with their saturations. `rs` gives each element's rounding. -/
def quantGroup (sf fmt : Nat) (vs : List Num) (sat : Bool) (s2 : Num) (xs : List (Num × Rnd)) : Nat × List (Nat × Bool) :=
  match s2 with
  | .fin false (m2 + 1) e2 =>
    let code := groupScale sf fmt vs (xs.map (·.1)) (m2 + 1) e2
    match scaleNum sf code with
    | .fin _ ms es => (code, xs.map (fun (x, r) => quantElem fmt vs r sat x (ms * (m2 + 1)) (es + e2)))
    | _ => (code, [])
  | _ => (0xFF, xs.map (fun (_, r) => if isCbFmt fmt then cbEncode vs r .nan else convNum fmt r sat .nan))

/-- Faults that VQNT and VDQNT share (R199). -/
def Issue.quantFault (q : Issue) (elem fill rsvd : Nat) : Option Nat :=
  if !isQuantFmt elem || !isScaleFmt q.e.fmtB || fill != 0 || rsvd != 0 || bits q.e.imm 9 8 = 3 || q.e.masked then some 2
  else if bits q.e.imm 9 8 = 2 && q.e.rep % 2 = 0 then some 1
  else none

/-- Addresses of the two halves of an issue's elements. -/
def halfAddrs (a : Int) (step : Nat) : List Int := [a, a + step]

/-- Faults of the element halves, multiples of 8, and of the scale bytes (R200). -/
def quantAddrFault (halves scales : List Int) (len : Nat) : Option Nat :=
  let fs := (halves.map (fun a => scrFault a len 8)).filterMap id ++ (scales.map (fun a => scrFault a 1 1)).filterMap id
  if fs.contains 3 then some 3 else fs.head?

/-- The result of a VQNT issue; `pair` is the even issue of a group of 128 (R200 to R202). -/
def State.vqntRes (s : State) (q : Issue) (pair : Option VReg) : OpRes :=
  let fd := q.e.fmtD
  OpRes.bind (q.quantFault fd q.e.fmtA (bits q.e.imm 15 10)) <|
  if q.e.rnd = 2 && !isFloatFmt fd then .fault 2 else
  let x := s.core q.n
  let vs? := if isCbFmt fd then x.cbVals q.e.auxSlot fd else some []
  let w := fmtWidth fd
  let g := bits q.e.imm 9 8
  let (hs, gs) := quantSteps q.e.imm w
  let rEven := if g = 2 then q.r / 2 * 2 else q.r
  let ob := q.e.addr q.e.b 9 rEven q.cue.param
  let odEven := q.e.addr q.e.d 10 rEven q.cue.param
  let scales := if g = 0 then [ob, ob + gs] else [ob]
  OpRes.bind (quantAddrFault (halfAddrs q.addrD hs) scales (4 * w)) <|
  match vs? with
  | none => .fault 7
  | some vs =>
    let (sv, s2) := s.s2Of q
    let src := fun (v : VReg) (r : Nat) => (List.range 64).map (fun i =>
      (f32 (v.lane i), rndOf q.e.rnd (s.draw { q with r := r } (q.e.imm / 2 ^ 16) i)))
    let v := s.va q
    let half := fun (es : List (Nat × Bool)) (a : Int) =>
      [(a.toNat, pack w ((es.take 32).map (·.1))), ((a + hs).toNat, pack w ((es.drop 32).map (·.1)))]
    let cal := fun (xs : List (Num × Rnd)) (es : List (Nat × Bool)) =>
      some (calOf q.e.auxSat (xs.map (·.1)) (es.map (·.2)))
    if g = 0 then
      let xs := src v q.r
      let (c0, e0) := quantGroup q.e.fmtB fd vs q.e.sat s2 (xs.take 32)
      let (c1, e1) := quantGroup q.e.fmtB fd vs q.e.sat s2 (xs.drop 32)
      .ok [.scratch (half (e0 ++ e1) q.addrD ++ [(ob.toNat, [BitVec.ofNat 8 c0]), ((ob + gs).toNat, [BitVec.ofNat 8 c1])]) false]
        (v.poison || sv.poison) (cal xs (e0 ++ e1))
    else if g = 1 then
      let xs := src v q.r
      let (c, es) := quantGroup q.e.fmtB fd vs q.e.sat s2 xs
      .ok [.scratch (half es q.addrD ++ [(ob.toNat, [BitVec.ofNat 8 c])]) false] (v.poison || sv.poison) (cal xs es)
    else match pair with
      | none => .ok [] v.poison none
      | some u =>
        let xs := src u rEven ++ src v q.r
        let (c, es) := quantGroup q.e.fmtB fd vs q.e.sat s2 xs
        .ok [.scratch (half (es.take 64) odEven ++ half (es.drop 64) q.addrD ++ [(ob.toNat, [BitVec.ofNat 8 c])]) false]
          (u.poison || v.poison || sv.poison) (cal xs es)

/-- VQNT's issue: the even issue of a group of 128 keeps its register, the odd one uses it (R201). -/
def State.vqnt (s : State) (q : Issue) : State :=
  let odd := bits q.e.imm 9 8 = 2 && q.r % 2 = 1
  let even := bits q.e.imm 9 8 = 2 && q.r % 2 = 0
  let pair := if odd then some (match (s.core q.n).pair with
    | some (e, r, v) => if e = q.idx ∧ r + 1 = q.r then v else {}
    | none => {}) else none
  let res := s.vqntRes q pair
  let s := if even then s.updCore q.n (fun x => { x with pair := some (q.idx, q.r, s.va q) }) else s
  s.compute q (some 2) [] res

/-- Scratchpad ranges a VDQNT issue reads. -/
def Issue.vdqntReads (q : Issue) : List (Nat × Nat) :=
  let w := fmtWidth q.e.fmtA
  let (hs, gs) := quantSteps q.e.imm w
  let g := bits q.e.imm 9 8
  let ob := q.e.addr q.e.b 9 (if g = 2 then q.r / 2 * 2 else q.r) q.cue.param
  [(q.addrA.toNat, 4 * w), ((q.addrA + hs).toNat, 4 * w), (ob.toNat, 1)] ++ (if g = 0 then [((ob + gs).toNat, 1)] else [])

/-- The result of a VDQNT issue (R200, R203). -/
def State.vdqntRes (s : State) (q : Issue) : OpRes :=
  let fa := q.e.fmtA
  OpRes.bind (q.quantFault fa q.e.fmtD (bits q.e.imm 31 10)) <|
  if q.e.rnd = 2 then .fault 2 else
  let x := s.core q.n
  let vs? := if isCbFmt fa then x.cbVals q.e.auxSlot fa else some []
  let w := fmtWidth fa
  let g := bits q.e.imm 9 8
  let (hs, gs) := quantSteps q.e.imm w
  let ob := q.e.addr q.e.b 9 (if g = 2 then q.r / 2 * 2 else q.r) q.cue.param
  let scales := if g = 0 then [ob, ob + gs] else [ob]
  OpRes.bind (quantAddrFault (halfAddrs q.addrA hs) scales (4 * w)) <|
  match vs? with
  | none => .fault 7
  | some vs =>
    let (sv, s2) := s.s2Of q
    let es := unpack w 32 (s.scr q.n q.addrA.toNat (4 * w)) ++ unpack w 32 (s.scr q.n (q.addrA + hs).toNat (4 * w))
    let sc := scales.map (fun a => scaleNum q.e.fmtB (s.loadN (scratchAddr q.n a.toNat) 1))
    let lane := fun i =>
      let v := es.getD i 0
      let qv := if isIntFmt fa then Num.ofInt (elemInt fa v) 0 else elemNum fa vs v
      toF32 ((qv.mul (sc.getD (if g = 0 then i / 32 else 0) .nan)).mul s2)
    .ok [s.toVreg q lane] (sv.poison || q.vdqntReads.any (fun r => s.scrPoison q.n r.1 r.2)) none

/-! ## The exact accumulator (R194 to R197) -/

/-- An EXA144 value. -/
structure Exa where
  sum : Nat := 0
  anchor : Nat := 0
  flags : Nat := 0
deriving DecidableEq, Repr

def exaOf (b : List Byte) : Exa := ⟨fieldAt b 0 16, fieldAt b 16 1, fieldAt b 17 1 % 64⟩
def Exa.bytes (a : Exa) : List Byte := leBytes 16 a.sum ++ leBytes 1 a.anchor ++ leBytes 1 a.flags

/-- Set sticky flag `i`: NAN 0, PINF 1, NINF 2, BIG 3, INEXACT 4, POISON 5. -/
def Exa.flag (a : Exa) (i : Nat) : Exa := { a with flags := setBit a.flags i true }

/-- exa_add of an exact value (R195). -/
def Exa.add (a : Exa) (x : Num) (poison : Bool) : Exa :=
  if poison then a.flag 5 else
  match x with
  | .nan => a.flag 0
  | .inf n => a.flag (if n then 2 else 1)
  | .fin neg m e =>
    let l : Int := (a.anchor : Int) - 149
    if m != 0 && decide (l + 111 ≤ ilog2 m 1 + e) then (a.flag 3).flag (if neg then 2 else 1) else
    let n := m * pow2 (e - l)
    let d := pow2 (l - e)
    let r := roundDiv .even n d
    let a := if n % d = 0 then a else a.flag 4
    { a with sum := (if neg then a.sum + 2 ^ 128 - r else a.sum + r) % 2 ^ 128 }

/-- Merge of `b` into `a` (R196): sums add where the anchors agree, flags combine, NAN for unequal anchors. -/
def Exa.merge (a b : Exa) : Exa :=
  if a.anchor = b.anchor then { a with sum := (a.sum + b.sum) % 2 ^ 128, flags := a.flags ||| b.flags }
  else { a with flags := (a.flags ||| b.flags) ||| 1 }

/-- What an accumulator reads as before conversion, and whether |S| passed the guard (R197). -/
def Exa.value (a : Exa) : Num × Bool :=
  let nan := bit a.flags 0
  let pi := bit a.flags 1
  let ni := bit a.flags 2
  if nan || (pi && ni) then (.nan, false)
  else if pi then (.inf false, false)
  else if ni then (.inf true, false)
  else
    let v := sext 128 a.sum
    (if v = 0 then .fin false 0 0 else Num.ofInt v ((a.anchor : Int) - 149), decide (2 ^ 111 ≤ v.natAbs))

/-- exa_read to a floating format: code and saturation count (R197). -/
def Exa.read (a : Exa) (f : FFmt) (r : Rnd) (sat : Bool) : Nat × Bool :=
  let (x, big) := a.value
  if big then (f.signed x.neg? (f.overCode sat), true) else f.encode r sat x

/-- The result of a VXADD issue. -/
def State.vxaddRes (s : State) (q : Issue) : OpRes :=
  OpRes.bind (scrFault q.addrD 1152 16) <|
    let a := q.addrD.toNat
    let v := s.va q
    let accs := (List.range 64).map (fun i =>
      if s.laneOn q i then
        some (((exaOf (s.scr q.n (a + 18 * i) 18)).add (f32 (v.lane i)) v.poison).bytes)
      else none)
    .ok [.scratch (runsOf 18 a accs) false] (v.poison || s.scrPoison q.n a 1152) none

/-- The result of a VXRD issue (R197, R206). -/
def State.vxrdRes (s : State) (q : Issue) : OpRes :=
  if q.e.rnd = 2 then .fault 2 else
  OpRes.bind (scrFault q.addrA 1152 16) <|
    let a := q.addrA.toNat
    let accs := (List.range 64).map (fun i => exaOf (s.scr q.n (a + 18 * i) 18))
    let rs := accs.map (fun x => x.read f32fmt (rndOf q.e.rnd 0) q.e.sat)
    let on := s.onLanes q
    let bad := on.filter (fun i => !((accs.getD i {}).value.1).isFin)
    .ok [(s.toVreg q (fun i => (rs.getD i (0, false)).1)).mark (on.any (fun i => bit (accs.getD i {}).flags 5))]
      (s.scrPoison q.n a 1152)
      (some ⟨q.e.auxSat, on.length, (on.filter (fun i => (rs.getD i (0, false)).2)).length, bad.length, 0⟩)

/-! ## Operations marked V (R9, R426, R427) -/

/-- An issue of an operation marked V: a primary one is counted, and refused in strict mode. -/
def State.variant (s : State) (q : Issue) (f : State → State) : State :=
  if q.cue.ctx != 0 then f s else
  let (s, go) := s.vIssue q.p (s.posCluster q.p q.cue.word (q.n / 16))
  if go then f s else s.updCore q.n (fun x => { x with cues := x.cues.erase q.cue })

/-- VACC.DYN: every inbox entry present, up to 16, added in arrival order (R157). -/
def State.vaccDyn (s : State) (q : Issue) : State :=
  let es := (s.core q.n).inbox.take 16
  let d := s.vd q
  let res : OpRes := .ok [s.toVreg q (fun i => es.foldl (fun a v => fadd a (v.lane i)) (d.lane i))]
    (d.poison || es.any VReg.poison) none
  (s.updCore q.n (fun x => { x with inbox := x.inbox.drop 16 })).compute q (some 2) [] res

/-- Two words into lanes 0 and 1, +0 into the others. -/
def State.twoLanes (s : State) (q : Issue) (v : Nat) : OpRes :=
  .ok [s.toVreg q (fun i => if i = 0 then v % 2 ^ 32 else if i = 1 then v / 2 ^ 32 else 0)] false none

/-! ## The commands -/

/-- NOP (R157, R133): nothing, beside a chain fault that is due. -/
def execNop (core cycle err : Nat) (s : State) : Host.Outcome State Fault Refusal :=
  .next (s.coreOp core cycle 0x00 err (fun s _ => s))
/-- VLD (R148). -/
def execVld (core cycle err : Nat) (s : State) : Host.Outcome State Fault Refusal :=
  .next (s.coreOp core cycle 0x10 err (fun s q =>
    s.compute q (some 2) [(q.addrA.toNat, 8 * fmtWidth q.e.fmtA)] (s.vldRes q)))
/-- VST (R148). -/
def execVst (core cycle err : Nat) (s : State) : Host.Outcome State Fault Refusal :=
  .next (s.vOp core cycle 0x11 err State.vstRes)
/-- VADD (R145). -/
def execVadd (core cycle err : Nat) (s : State) : Host.Outcome State Fault Refusal :=
  .next (s.vOp core cycle 0x12 err (fun s q => s.bin q fadd))
/-- VSUB (R145). -/
def execVsub (core cycle err : Nat) (s : State) : Host.Outcome State Fault Refusal :=
  .next (s.vOp core cycle 0x13 err (fun s q => s.bin q fsub))
/-- VMUL (R145). -/
def execVmul (core cycle err : Nat) (s : State) : Host.Outcome State Fault Refusal :=
  .next (s.vOp core cycle 0x14 err (fun s q => s.bin q fmul))
/-- VFMA (R145): A x B + D with one rounding. -/
def execVfma (core cycle err : Nat) (s : State) : Host.Outcome State Fault Refusal :=
  .next (s.vOp core cycle 0x15 err (fun s q =>
    .ok [s.toVreg q (fun i => ffma ((s.va q).lane i) ((s.vb q).lane i) ((s.vd q).lane i))]
      ((s.va q).poison || (s.vb q).poison || (s.vd q).poison) none))
/-- VMAX (R145). -/
def execVmax (core cycle err : Nat) (s : State) : Host.Outcome State Fault Refusal :=
  .next (s.vOp core cycle 0x16 err (fun s q => s.bin q fmax))
/-- VMIN (R145). -/
def execVmin (core cycle err : Nat) (s : State) : Host.Outcome State Fault Refusal :=
  .next (s.vOp core cycle 0x17 err (fun s q => s.bin q fmin))
/-- VABS (R157); a NaN gives the canonical NaN (R145). -/
def execVabs (core cycle err : Nat) (s : State) : Host.Outcome State Fault Refusal :=
  .next (s.vOp core cycle 0x18 err (fun s q => s.un q (fun a => if (f32 a).isNan then nan32 else a % 2 ^ 31)))
/-- VNEG (R157); a NaN gives the canonical NaN (R145). -/
def execVneg (core cycle err : Nat) (s : State) : Host.Outcome State Fault Refusal :=
  .next (s.vOp core cycle 0x19 err (fun s q => s.un q (fun a => if (f32 a).isNan then nan32 else (a ^^^ 2 ^ 31) % 2 ^ 32)))
/-- VRCP (R146). -/
def execVrcp (core cycle err : Nat) (s : State) : Host.Outcome State Fault Refusal :=
  .next (s.vOp core cycle 0x1A err (fun s q => s.un q frcp))
/-- VRSQRT (R146). -/
def execVrsqrt (core cycle err : Nat) (s : State) : Host.Outcome State Fault Refusal :=
  .next (s.vOp core cycle 0x1B err (fun s q => s.un q frsqrt))
/-- VSQRT (R145, R146). -/
def execVsqrt (core cycle err : Nat) (s : State) : Host.Outcome State Fault Refusal :=
  .next (s.vOp core cycle 0x1C err (fun s q => s.un q fsqrt))
/-- VEXP2 (R146). -/
def execVexp2 (core cycle err : Nat) (s : State) : Host.Outcome State Fault Refusal :=
  .next (s.vOp core cycle 0x1D err (fun s q => s.un q fexp2))
/-- VLOG2 (R146). -/
def execVlog2 (core cycle err : Nat) (s : State) : Host.Outcome State Fault Refusal :=
  .next (s.vOp core cycle 0x1E err (fun s q => s.un q flog2))
/-- VTANH (R146). -/
def execVtanh (core cycle err : Nat) (s : State) : Host.Outcome State Fault Refusal :=
  .next (s.vOp core cycle 0x1F err (fun s q => s.un q ftanh))
/-- VDIV (R145, R146). -/
def execVdiv (core cycle err : Nat) (s : State) : Host.Outcome State Fault Refusal :=
  .next (s.vOp core cycle 0x20 err (fun s q => s.bin q fdiv))
/-- VCMP (R150). -/
def execVcmp (core cycle err : Nat) (s : State) : Host.Outcome State Fault Refusal :=
  .next (s.vOp core cycle 0x21 err State.vcmpRes)
/-- VSEL (R150). -/
def execVsel (core cycle err : Nat) (s : State) : Host.Outcome State Fault Refusal :=
  .next (s.vOp core cycle 0x22 err State.vselRes)
/-- VINT (R150). -/
def execVint (core cycle err : Nat) (s : State) : Host.Outcome State Fault Refusal :=
  .next (s.vOp core cycle 0x23 err State.vintRes)
/-- VCVTI (R148, R184, R185). -/
def execVcvti (core cycle err : Nat) (s : State) : Host.Outcome State Fault Refusal :=
  .next (s.vOp core cycle 0x24 err State.vcvtiRes)
/-- VRND (R148). -/
def execVrnd (core cycle err : Nat) (s : State) : Host.Outcome State Fault Refusal :=
  .next (s.vOp core cycle 0x25 err State.vrndRes)
/-- VREDUCE (R147). -/
def execVreduce (core cycle err : Nat) (s : State) : Host.Outcome State Fault Refusal :=
  .next (s.vOp core cycle 0x2B err State.vreduceRes)
/-- VPERM (R150). -/
def execVperm (core cycle err : Nat) (s : State) : Host.Outcome State Fault Refusal :=
  .next (s.vOp core cycle 0x2C err State.vpermRes)
/-- VCBL (R151, R174, R205). -/
def execVcbl (core cycle err : Nat) (s : State) : Host.Outcome State Fault Refusal :=
  .next (s.coreOp core cycle 0x2D err (fun s q =>
    s.compute q (some 2) [(q.addrA.toNat, 8 * fmtWidth q.e.fmtA)] (s.vcblRes q)))
/-- VQNT (R199 to R202). -/
def execVqnt (core cycle err : Nat) (s : State) : Host.Outcome State Fault Refusal :=
  .next (s.coreOp core cycle 0x2E err State.vqnt)
/-- VDQNT (R199, R200, R203). -/
def execVdqnt (core cycle err : Nat) (s : State) : Host.Outcome State Fault Refusal :=
  .next (s.coreOp core cycle 0x2F err (fun s q =>
    s.computeLat q (if bits q.e.imm 9 8 = 2 ∧ q.r % 2 = 0 then 12 else 10) (some 2) q.vdqntReads (s.vdqntRes q)))
/-- VXADD (R195). -/
def execVxadd (core cycle err : Nat) (s : State) : Host.Outcome State Fault Refusal :=
  .next (s.coreOp core cycle 0x30 err (fun s q => s.compute q (some 2) [(q.addrD.toNat, 1152)] (s.vxaddRes q)))
/-- VXRD (R197). -/
def execVxrd (core cycle err : Nat) (s : State) : Host.Outcome State Fault Refusal :=
  .next (s.coreOp core cycle 0x31 err (fun s q => s.compute q (some 2) [(q.addrA.toNat, 1152)] (s.vxrdRes q)))
/-- VRNG (R149, R191). -/
def execVrng (core cycle err : Nat) (s : State) : Host.Outcome State Fault Refusal :=
  .next (s.vOp core cycle 0x32 err (fun s q => .ok [s.toVreg q (fun i => s.draw q q.e.imm i)] false none))
/-- VACC.DYN (R157). -/
def execVaccDyn (core cycle err : Nat) (s : State) : Host.Outcome State Fault Refusal :=
  .next (s.coreOp core cycle 0x33 err (fun s q => s.variant q (fun s => s.vaccDyn q)))
/-- TSTAMP (R157): fabric time. -/
def execTstamp (core cycle err : Nat) (s : State) : Host.Outcome State Fault Refusal :=
  .next (s.coreOp core cycle 0x60 err (fun s q => s.variant q (fun s =>
    s.compute q none [] (s.twoLanes q (s.ftime % 2 ^ 64)))))
/-- CNTRD (R157, R169): a live counter of the core. -/
def execCntrd (core cycle err : Nat) (s : State) : Host.Outcome State Fault Refusal :=
  .next (s.coreOp core cycle 0x61 err (fun s q => s.variant q (fun s =>
    s.compute q none [] (if 15 ≤ q.e.imm then .fault 1 else s.twoLanes q (Sp.get 0 (s.core q.n).live q.e.imm % 2 ^ 64)))))

end Sys2Proof.Machine
end

