-- ==== Sys2Proof/Machine/Gather.lean ====
section
/-! DEFINITION. The gather/scatter unit: requests, elastic tokens, granule transfers and DSEND (04_core.md R152 to
R154, R571, R572; 15_partitions_and_security.md Table 15-3). -/

namespace Sys2Proof.Machine

/-! ## Tokens of G requests (R152) -/

/-- Token additions due by cycle `c` take effect (R152, R118). -/
def State.applyTok (s : State) (p c : Nat) : State :=
  let due := (s.part p).tokPend.filter (fun t => t.1 ≤ c)
  let s := s.updPart p (fun x => { x with tokPend := x.tokPend.filter (fun t => c < t.1) })
  due.foldl (fun s t => match (s.part p).tokenUp t.2.1 with
    | some y => s.setPart p y
    | none => s.raise E.TOKEN_OVERFLOW p (s.posWord p (s.part p).word) 0) s

/-- A satisfied pace point has awaited the tokens of `mask`: the cores' request-buffer entries (R153), the trigger entries
(R380) and the commands counted in the bindings' queues (R119) are released. -/
def State.releaseHeld (s : State) (p mask : Nat) : State :=
  let s := s.updPart p (fun x => { x with
    trigHeld := x.trigHeld.filter (fun e => !bit mask e.1), queueHeld := x.queueHeld.filter (fun e => !bit mask (e.1 % 32)) })
  (bitList (s.rd R.GLB_PART_CLUSTERS 0 p) s.clusterCount).foldl (fun s c =>
    (List.range 16).foldl (fun s k => s.updCore (16 * c + k) (fun x =>
      { x with held := x.held.filter (fun e => !bit mask e.1) })) s) s

/-- Request-buffer entries a core holds. -/
def Core.heldCount (x : Core) : Nat := (x.held.map (·.2)).sum

/-- A request leaves the buffer: its token counts down, in cycle i + 48 if it completes earlier (R152). -/
def State.reqEnd (s : State) (g : GReq) (cycle : Nat) : State :=
  let s := { s with greqs := s.greqs.filter (fun h => h.id != g.id) }
  if g.ctx != 0 then s else
  let s := (s.seen g.part cycle).applyTok g.part cycle
  let x := s.part g.part
  if x.tokPend.any (fun t => t.2.2 = g.id) then
    s.setPart g.part { x with tokPend := x.tokPend.filter (fun t => t.2.2 != g.id) }
  else if Sp.get 0 x.tokens g.token = 0 then s.cueFault g.core { word := g.word } 0x0B 0 0
  else s.setPart g.part (x.tokenDown g.token)

/-! ## Requesters -/

/-- The requester of a G request (Table 15-3, R471). -/
def State.gReqOf (s : State) (p ctx core : Nat) : Req :=
  if ctx = 0 then s.progReq p .clu (core / 256) core
  else { kind := .backfill (ctx - 1), fn := s.bfFn p (ctx - 1), part := p, blk := Blk.clu.byte, inst := core / 256, core := core }

/-- An access of a request is refused or unmapped (R43, R470, Table 15-3): its class, or the end of the backfill task. -/
def State.gRefuse (s : State) (g : GReq) (res : AccRes) (a : Nat) : State :=
  let rq := s.gReqOf g.part g.ctx g.core
  let s := match res with
    | .unmapped => s.unmappedErr rq a
    | _ => s.refusedErr rq a
  if g.ctx = 0 then s else s.bfEnd g.core { ctx := g.ctx, word := g.word } none g.first 0

/-! ## Granules -/

/-- One granule as a program's read finds it, its checks passed: registers, or memory through its ECC. -/
def State.readGran (s : State) (rq : Req) (a : Nat) : State × List Byte × Bool :=
  match s.regionOf a with
  | .reg => match s.regGranule (a - regBase) with
    | (s, l) => (s, l, false)
  | .scratch k =>
    let s := s.settle k
    (s, s.load a 64, s.poisoned a 64)
  | _ =>
    let s := s.sense a 64 rq.part rq.word
    (s, s.load a 64, s.poisoned a 64)

/-- One granule or less written for a requester, its checks passed: the stride store takes it through its image. -/
def State.writeTo (s : State) (a : Nat) (b : List Byte) (poison : Bool) : State :=
  match s.regionOf a with
  | .stride => s.strideImageWrite a b poison
  | .scratch k => (s.settle k).save a b poison
  | _ => (s.snoop a).save a b poison

/-- The check of a program's access of `n` bytes (Table 15-3): registers may be read in the partition's own views and
are never written. -/
def State.progCheck (s : State) (rq : Req) (a n : Nat) (write : Bool) : AccRes :=
  match s.check { rq with write := write } a n with
  | .ok =>
    if s.regionOf a = .reg then
      (if write || !(List.range (n / 64)).all (fun i => regGranuleOk rq.part (a - regBase + 64 * i)) then .refused else .ok)
    else .ok
  | r => r

/-- Write granules of a request to its core's scratchpad. -/
def State.scrPut (s : State) (n a : Nat) (b : List Byte) (poison : Bool) : State :=
  (s.settle n).save (scratchAddr n a) b poison

/-- Zeros with poison marks in `cnt` granules of a core's scratchpad (R572). -/
def State.scrPoisonZero (s : State) (n a cnt : Nat) : State :=
  (List.range cnt).foldl (fun s i => s.scrPut n (a + 64 * i) (List.replicate 64 0) true) s

/-! ## Issue -/

/-- Granules the IMM of a request names; 0 for the whole row. -/
def Issue.gCount (q : Issue) : Nat := bits q.e.imm 7 0

/-- The scratchpad ranges a request's entry names at issue (R130, R571). -/
def Issue.gRanges (q : Issue) : List (Nat × Nat) :=
  if q.e.op = 0x44 then [] else
  let n := 64 * max 1 q.gCount
  [(q.addrA.toNat, 8), ((if q.e.op = 0x40 ∨ q.e.op = 0x41 then q.addrD else q.addrB).toNat, n)]

/-- Issue checks of a request (R571, Table 4-9): the lowest code that applies. -/
def Issue.gFault (q : Issue) : Option Nat :=
  if (q.e.op = 0x41 ∨ q.e.op = 0x43) ∧ (q.gCount = 0 ∨ 64 < q.gCount) then some 1
  else if q.e.op = 0x42 ∧ 1 < q.e.fmtB then some 2
  else if q.e.op = 0x44 then none
  else match scrFault q.addrA 8 16, scrFault (if q.e.op = 0x40 ∨ q.e.op = 0x41 then q.addrD else q.addrB)
      (64 * max 1 q.gCount) 16 with
    | some 3, _ => some 3
    | _, some 3 => some 3
    | some c, _ => some c
    | none, r => r

/-- The request an issue makes. -/
def State.gMake (s : State) (q : Issue) (entry : Nat) : GReq :=
  { id := s.greqNext, op := q.e.op, core := q.n, part := q.p, ctx := q.cue.ctx, task := q.cue.tag, token := bits q.e.aux 4 0
    issued := q.cycle, entry := entry
    local_ := (if q.e.op = 0x40 ∨ q.e.op = 0x41 then q.addrD else q.addrB).toNat
    first := bits q.e.imm 15 8, count := q.gCount, fmt := q.e.fmtB, word := q.cue.word }

/-- Put a request into the buffer: it counts on its token in cycle i + 48 (R152) and holds an entry (R153). -/
def State.gPush (s : State) (g : GReq) : State :=
  let s := { s with greqs := s.greqs ++ [g], greqNext := s.greqNext + 1 }
  let s := s.countCore g.core 3 1
  if g.ctx != 0 then s else
  (s.updPart g.part (fun x => { x with tokPend := x.tokPend ++ [(g.issued + 48, g.token, g.id)] })).updCore g.core
    (fun x => { x with held := Sp.set 0 x.held g.token (Sp.get 0 x.held g.token + 1) })

/-- A request that completes at its issue (R572, R154). -/
def State.gAtOnce (s : State) (g : GReq) : State := (s.gPush g).reqEnd g g.issued

/-- The issue checks that every request passes: count, format and addresses, the backfill region and SCATTER.G
(R166, R271), and the request buffer (R153). Then `f` makes the request. -/
def State.gIssue (s : State) (q : Issue) (f : State → State) : State :=
  if q.cue.ctx != 0 && q.e.op = 0x42 then s.cueFault q.n q.cue 0x0F q.idx q.r else
  match q.gFault with
  | some code => s.cueFault q.n q.cue code q.idx q.r
  | none =>
    if q.cue.ctx != 0 && !q.gRanges.all (fun r => s.bfRegion q.p (q.cue.ctx - 1) r.1 r.2) then
      s.bfEnd q.n q.cue none q.idx q.r
    else if q.cue.ctx = 0 && decide (1024 ≤ (s.core q.n).heldCount) then s.cueFault q.n q.cue 0x0C q.idx q.r
    else f s

/-- The CLOSE of direction `dir` has issued in this leg attempt (R260). -/
def Part.closed (x : Part) (dir : Nat) : Bool :=
  x.emb.issued.contains (2 + dir) || x.outstanding.any (fun c => c.target = 3 && c.opcode = 1 && c.offset = dir)

/-- A request with an index or address entry (R571, R572). A row request after its direction's CLOSE is class P (R260). -/
def State.gIndexed (s : State) (q : Issue) : State :=
  if q.cue.ctx = 0 && ((q.e.op = 0x40 && (s.part q.p).closed 0) || (q.e.op = 0x42 && (s.part q.p).closed 1)) then
    s.raise E.EMB_COMMAND q.p (s.posCluster q.p q.cue.word (q.n / 16)) 0 else
  let a := q.addrA.toNat
  let entry := leNat (s.scr q.n a 8)
  let g := s.gMake q entry
  if s.scrPoison q.n a 8 then
    let s := s.countCore q.n 6 1
    let s := if q.e.op = 0x40 ∨ q.e.op = 0x41 then s.scrPoisonZero q.n g.local_ (max 1 g.count) else s
    s.gAtOnce g
  else if (q.e.op = 0x41 ∨ q.e.op = 0x43) ∧ (bits entry 63 48 ≠ 0 ∨ entry % 64 ≠ 0) then
    (s.gAtOnce g).gRefuse g .unmapped (bits entry 47 0)
  else if q.e.op = 0x41 ∧ s.regionOf entry = .reg then s.variant q (fun s => s.gPush g)
  else s.gPush g

/-- DSEND (R152, 04_core.md "Dynamic inbox"): the register as it stands goes to the inbox of core IMM[9:0]. A backfill
task reaches its own task's cores only. -/
def State.dsend (s : State) (q : Issue) : State :=
  let dst := q.e.imm
  let v := (s.core q.n).vreg q.regA
  let s := if v.poison then s.countCore q.n 6 1 else s
  let g := { s.gMake q 0 with data := v, entry := dst, local_ := 0, count := 0, first := 0 }
  let own := if q.cue.ctx = 0 then s.partOfCluster (dst / 16) = some q.p else
    (s.hub (q.n / 16)).running.any (fun t => t.ctx + 1 = q.cue.ctx && bit t.mask (q.n % 16) && dst / 16 = q.n / 16 && bit t.mask (dst % 16))
  if s.coreCount ≤ dst then s.gRefuse g .unmapped (scratchAddr dst 0)
  else if !own then s.gRefuse g .refused (scratchAddr dst 0)
  else s.gPush g

/-- One granule of a GATHER.A: read, and written to the scratchpad with its mark. -/
def State.gatherGran (s : State) (g : GReq) (i : Nat) : State :=
  match s.readGran (s.gReqOf g.part g.ctx g.core) (g.entry + 64 * i) with
  | (s, b, p) => s.scrPut g.core (g.local_ + 64 * i) b p

/-- One granule of a SCATTER.A. -/
def State.scatterGran (s : State) (g : GReq) (i : Nat) : State :=
  let s := s.settle g.core
  s.writeTo (g.entry + 64 * i) (s.scr g.core (g.local_ + 64 * i) 64) (s.scrPoison g.core (g.local_ + 64 * i) 64)

/-- A refused program read returns its bytes with poison marks (Table 15-3); their values are free (log 35). -/
def State.gatherRefused (s : State) (g : GReq) : State :=
  let (k, s) := s.takeFree
  (List.range g.count).foldl (fun s i => s.scrPut g.core (g.local_ + 64 * i)
    ((List.range 64).map (fun j => Config.refusedByte k (64 * i + j))) true) s

/-- The move of a GATHER.A, SCATTER.A or DSEND; false while it cannot complete. -/
def State.gMove (s : State) (g : GReq) : State × Bool :=
  match g.op with
  | 0x41 =>
    match s.progCheck (s.gReqOf g.part g.ctx g.core) g.entry (64 * g.count) false with
    | .ok => ((List.range g.count).foldl (fun s i => s.gatherGran g i) s, true)
    | .unmapped => (s.gRefuse g .unmapped g.entry, true)
    | .refused => ((if g.ctx = 0 then s.gatherRefused g else s).gRefuse g .refused g.entry, true)
  | 0x43 =>
    match s.progCheck (s.gReqOf g.part g.ctx g.core) g.entry (64 * g.count) true with
    | .ok => ((List.range g.count).foldl (fun s i => s.scatterGran g i) s, true)
    | r => (s.gRefuse g r g.entry, true)
  | 0x44 =>
    if 16 ≤ (s.core g.entry).inbox.length then (s, false)
    else (s.updCore g.entry (fun x => { x with inbox := x.inbox ++ [g.data] }), true)
  | _ => (s, g.reqDone)

/-- G_REQUEST_COMPLETE: request `id` completes in cycle `cycle` (R152). A row request completes once its slice has
done its part (reqDone); a DSEND waits for room in the inbox. -/
def State.gComplete (s : State) (id cycle : Nat) : State :=
  match s.greqs.find? (fun g => g.id = id) with
  | none => s
  | some g =>
    match s.gMove g with
    | (_, false) => s
    | (t, true) => t.reqEnd g cycle

/-! ## The commands -/

/-- GATHER.R (R571, R572). -/
def execGatherR (core cycle err : Nat) (s : State) : Host.Outcome State Fault Refusal :=
  .next (s.coreOp core cycle 0x40 err (fun s q => s.gIssue q (fun s => s.gIndexed q)))
/-- GATHER.A (R571, R572). -/
def execGatherA (core cycle err : Nat) (s : State) : Host.Outcome State Fault Refusal :=
  .next (s.coreOp core cycle 0x41 err (fun s q => s.gIssue q (fun s => s.gIndexed q)))
/-- SCATTER.G (R571, R572). -/
def execScatterG (core cycle err : Nat) (s : State) : Host.Outcome State Fault Refusal :=
  .next (s.coreOp core cycle 0x42 err (fun s q => s.gIssue q (fun s => s.gIndexed q)))
/-- SCATTER.A (R571, R572). -/
def execScatterA (core cycle err : Nat) (s : State) : Host.Outcome State Fault Refusal :=
  .next (s.coreOp core cycle 0x43 err (fun s q => s.gIssue q (fun s => s.gIndexed q)))
/-- DSEND (R152). -/
def execDsend (core cycle err : Nat) (s : State) : Host.Outcome State Fault Refusal :=
  .next (s.coreOp core cycle 0x44 err (fun s q => s.gIssue q (fun s => s.dsend q)))
/-- G_REQUEST_COMPLETE (R152): `errs` are the memory errors its reads meet. -/
def execGRequestComplete (id cycle : Nat) (errs : List (Nat × Nat)) (s : State) : Host.Outcome State Fault Refusal :=
  .next ((s.plant errs).gComplete id cycle)

/-! ## Stream ports (R155, R156) -/

/-- SEND: 32 bytes reach the destination queue at the end of cycle i + T. -/
def State.send (s : State) (q : Issue) : State :=
  if q.cue.ctx != 0 then s.cueFault q.n q.cue 0x0D q.idx q.r else
  match scrFault q.addrA 32 16 with
  | some code => s.cueFault q.n q.cue code q.idx q.r
  | none =>
    match (s.part q.p).course.routes.find? (fun r => r.srcC = q.n / 16 && r.srcK = q.n % 16 && r.srcPort = q.e.d.off % 4) with
    | none => s.cueFault q.n q.cue 0x0D q.idx q.r
    | some r =>
      let p := s.scrPoison q.n q.addrA.toNat 32
      let s := if p then s.countCore q.n 6 1 else s
      let b := s.scr q.n q.addrA.toNat 32
      s.updCore (16 * r.dstC + r.dstK) (fun x => { x with arr := x.arr ++ [(q.cycle + r.latency + 1, r.dstPort, b, p)] })

/-- RECV: 32 bytes from the head of the queue. -/
def State.recv (s : State) (q : Issue) : State :=
  if q.cue.ctx != 0 then s.cueFault q.n q.cue 0x0D q.idx q.r else
  match scrFault q.addrD 32 16 with
  | some code => s.cueFault q.n q.cue code q.idx q.r
  | none =>
    let port := q.e.a.off % 4
    match Sp.get [] (s.core q.n).rxq port with
    | [] => s.cueFault q.n q.cue 0x0A q.idx q.r
    | (b, p) :: rest =>
      (s.updCore q.n (fun x => { x with rxq := Sp.set [] x.rxq port rest })).compute q none []
        (.ok [.scratch [(q.addrD.toNat, b)] p] p none)

/-- SEND (R155). -/
def execSend (core cycle err : Nat) (s : State) : Host.Outcome State Fault Refusal :=
  .next (s.coreOp core cycle 0x50 err State.send)
/-- RECV (R156). -/
def execRecv (core cycle err : Nat) (s : State) : Host.Outcome State Fault Refusal :=
  .next (s.coreOp core cycle 0x51 err State.recv)

end Sys2Proof.Machine
end

