-- ==== Sys2Proof/Machine/Memory.lean ====
section
/-! DEFINITION. MEM and BULK streams, refresh, patrol scrub and page attributes (07_memory_tiers.md R217 to R231). -/

namespace Sys2Proof.Machine

/-! ## MEM and BULK commands -/

/-- A MEM or BULK descriptor (Table 7-3). -/
structure MemDesc where
  base : Nat
  scr : Nat
  core : Nat
  span : Nat
  block : Nat
  blocks : Nat
  stride : Int
  scrStride : Nat
deriving DecidableEq, Repr

def memDesc (b : List Byte) : MemDesc :=
  { base := fieldAt b 0 8, scr := fieldAt b 8 4, core := fieldAt b 0xC 2, span := fieldAt b 0xE 2, block := fieldAt b 0x10 4
    blocks := fieldAt b 0x14 4, stride := sext 64 (fieldAt b 0x18 8), scrStride := fieldAt b 0x20 4 }

/-- Number of blocks of a command (R221). -/
def MemDesc.n (d : MemDesc) (c : EngCmd) : Nat := if c.count = 0 then d.blocks else c.count

/-- Memory address, core and scratchpad offset of block `i` (R221). -/
def MemDesc.mem (d : MemDesc) (c : EngCmd) (i : Nat) : Int := (d.base + c.offset : Nat) + i * d.stride
def MemDesc.coreOf (d : MemDesc) (i : Nat) : Nat := d.core + i % d.span
def MemDesc.scrOf (d : MemDesc) (i : Nat) : Nat := d.scr + i / d.span * d.scrStride

/-- The address range of the binding's stack slot, or of its channel's installed capacity (R222). -/
def State.memRange (s : State) (target inst : Nat) : Nat × Nat :=
  if target = 1 then (inst * hbmStackBytes, (inst + 1) * hbmStackBytes)
  else (bulkBase + inst * bulkSlot, bulkBase + inst * bulkSlot +
    (if s.rdF R.BLK_STATUS F.BLK_STATUS_PRESENT inst 0 = 1 then s.rdF R.BLK_STATUS F.BLK_STATUS_CAPACITY_GIB inst 0 * 2 ^ 30 else 0))

/-- The checks of R222 at descriptor fetch; the block addresses are linear, so their ends decide. -/
def State.memBad (s : State) (c : EngCmd) (inst : Nat) (b : List Byte) : Bool :=
  let d := memDesc b
  let n := d.n c
  let (lo, hi) := s.memRange c.target inst
  let off (i : Nat) : Bool := decide (d.mem c i < lo) || decide ((hi : Int) < d.mem c i + d.block)
  decide (2 ^ 48 ≤ d.base) || d.base % 64 != 0 || decide (2 ^ 21 ≤ d.scr) || d.scr % 64 != 0 || decide (2 ^ 10 ≤ d.core)
    || decide (2 ^ 11 ≤ d.span) || d.span = 0 || decide (1024 < d.span) || d.block % 64 != 0 || d.block = 0
    || decide (scratchEnd < d.block) || d.blocks = 0 || d.stride % 64 != 0 || d.scrStride % 64 != 0
    || fieldAt b 0x24 28 != 0 || c.offset % 64 != 0 || off 0 || off (n - 1)
    || decide (s.coreCount < d.core + d.span) || (c.opcode != 3 && decide (scratchEnd < d.scrOf (n - 1) + d.block))

/-- A command is refused under R222. -/
def State.memRefuse (s : State) (c : EngCmd) (inst a : Nat) : State :=
  (s.count (if c.target = 1 then R.CNT_HBM else R.CNT_BLK) inst 5 1).raise E.MEM_DESC c.part c.pos a

/-- One granule of a block: `g` counts them from 0. -/
def State.memGran (s : State) (rq : Req) (c : EngCmd) (d : MemDesc) (i g : Nat) : State :=
  let m := (d.mem c i).toNat + 64 * g
  let n := d.coreOf i
  let a := d.scrOf i + 64 * g
  if c.opcode = 1 then
    match s.readGran rq m with
    | (s, b, p) => s.scrPut n a b p
  else if c.opcode = 2 then
    let s := s.settle n
    (s.snoop m).save m (s.scr n a 64) (s.scrPoison n a 64)
  else (s.snoop m).save m (List.replicate 64 0)

/-- First refused access of a command's blocks: pages of the memory range and the partition's own scratchpads
(R222, Table 15-3). -/
def State.memFirstBad (s : State) (rq : Req) (c : EngCmd) (d : MemDesc) : Option (AccRes × Nat) :=
  (List.range (d.n c)).findSome? fun i =>
    let m := (d.mem c i).toNat
    match s.check { rq with write := c.opcode != 1 } m d.block with
    | .ok =>
      if c.opcode = 3 then none else
      let a := scratchAddr (d.coreOf i) (d.scrOf i)
      (match s.check { rq with write := c.opcode = 1 } a d.block with
        | .ok => none
        | r => some (r, a))
    | r => some (r, m)

/-- The engine of binding `b` of partition `p` takes its next command, where that is a MEM (target 1) or BULK (2)
command of opcode `op`, or one of a reserved opcode (R221 to R223). -/
def State.memCmd (s : State) (p b target op : Nat) : State :=
  match s.engNext p b with
  | none => s
  | some c =>
    let bd := s.bindingOf c
    let a := bd.base + 64 * c.desc
    if c.target != target then s
    else if c.opcode = 0 ∨ 3 < c.opcode then (s.engStart c).memRefuse c bd.inst a
    else if c.opcode != op then s
    else
      let s := s.engStart c
      let bk := if target = 1 then Blk.hbm else Blk.blk
      match s.fetchDesc c bd bk with
      | (s, none) => s
      | (s, some bytes) =>
        if s.poisoned a 64 || s.memBad c bd.inst bytes then s.memRefuse c bd.inst a else
        let d := memDesc bytes
        let rq := s.progReq p bk bd.inst
        match s.memFirstBad rq c d with
        | some (.unmapped, x) => s.unmappedErr rq x
        | some (_, x) => s.refusedErr rq x
        | none => (List.range (d.n c)).foldl (fun s i =>
            (List.range (d.block / 64)).foldl (fun s g => s.memGran rq c d i g) s) s

/-- A started MEM or BULK command completes (R223). -/
def State.memComplete (s : State) (p id : Nat) : State :=
  match (s.part p).outstanding.find? (fun c => c.id = id && c.started && (c.target = 1 || c.target = 2)) with
  | some c => s.cmdDone c
  | none => s

/-! ## Refresh (R219, R224) -/

/-- A bank of stack `k` is refreshed at a DRAM temperature of `temp` degrees (R219): nothing but the rate changes. -/
def State.hbmRefresh (s : State) (k temp : Nat) : State :=
  let x2 := s.rdF R.HBM_STATUS F.HBM_STATUS_REFRESH_2X k 0
  let s := s.wrF R.HBM_STATUS F.HBM_STATUS_TEMP_C k 0 temp
  if x2 = 0 ∧ 85 < temp then (s.wrF R.HBM_STATUS F.HBM_STATUS_REFRESH_2X k 0 1).event E.HBM_REFRESH_2X 0 k temp
  else if x2 = 1 ∧ temp < 80 then s.wrF R.HBM_STATUS F.HBM_STATUS_REFRESH_2X k 0 0
  else s

/-! ## Patrol scrub (R231) -/

/-- The card with the scrub fields of unit `u`: stack `u`, or channel `u - 12`. -/
def scrubCard (u : Nat) : Card := if u < 12 then R.HBM_SCRUB else R.BLK_CTRL
def scrubInst (u : Nat) : Nat := if u < 12 then u else u - 12

/-- First byte and size of a unit. -/
def State.scrubRange (s : State) (u : Nat) : Nat × Nat :=
  let (lo, hi) := s.memRange (if u < 12 then 1 else 2) (scrubInst u)
  (lo, hi - lo)

def State.setScrubActive (s : State) (u v : Nat) : State :=
  if u < 12 then s.wrF R.HBM_STATUS F.HBM_STATUS_SCRUB_ACTIVE u 0 v else s.wrF R.BLK_STATUS F.BLK_STATUS_SCRUB_ACTIVE (u - 12) 0 v

/-- Patrol scrub of a unit runs: in READY, RUNNING, FENCED, HELD and DETACHED, on a trained unit, with SCRUB_HOURS
not 0. -/
def State.scrubRuns (s : State) (u : Nat) : Bool :=
  decide (stReady ≤ s.chipState ∧ s.chipState ≤ stFenced)
    && F.BLK_CTRL_SCRUB_HOURS.get (s.rd (scrubCard u) (scrubInst u) 0) != 0
    && (if u < 12 then s.rdF R.HBM_STATUS F.HBM_STATUS_TRAINED u 0 = 1 else s.rdF R.BLK_STATUS F.BLK_STATUS_TRAINED (u - 12) 0 = 1)

/-- Queue a DRAM row for post-package repair at the next bring-up. -/
def State.queueRepair (s : State) (u row : Nat) : State :=
  if (u, row) ∈ s.repair then s else
  let s := { s with repair := s.repair ++ [(u, row)] }
  let n := (s.repair.filter (fun e => e.1 = u)).length
  if u < 12 then s.wrF R.HBM_STATUS F.HBM_STATUS_REPAIR_QUEUED u 0 n
  else s.wrF R.BLK_STATUS F.BLK_STATUS_REPAIR_QUEUED (u - 12) 0 n

/-- A corrected error in DRAM row `row` of unit `u` in this pass. -/
def State.scrubRow (s : State) (u row : Nat) : State :=
  let thr := match F.BLK_CTRL_REPAIR_THRESHOLD.get (s.rd (scrubCard u) (scrubInst u) 0) with
    | 0 => 4
    | n => n
  let k := u * 2 ^ 48 + row
  let n := Sp.get 0 s.scrubRows k + 1
  let s := { s with scrubRows := Sp.set 0 s.scrubRows k n }
  if thr ≤ n then s.queueRepair u row else s

/-- Scrub reads the next granule of unit `u`: `err` is what its ECC finds, 1 corrected, 2 uncorrectable, and `row` the
DRAM row it lies in (R231). -/
def State.patrolScrub (s : State) (u err row : Nat) : State :=
  if !s.scrubRuns u then s.setScrubActive u 0 else
  let s := s.setScrubActive u 1
  let (lo, size) := s.scrubRange u
  let pos := Sp.get 0 s.scrubPos u
  let a := lo + 64 * pos
  let card := if u < 12 then R.CNT_HBM else R.CNT_BLK
  let i := scrubInst u
  let found := max err (s.granAt a).latent
  let s := match found with
    | 0 => s
    | 1 => ({ (s.count card i 2 1) with gran := Sp.upd {} s.gran (a / 64) (fun g => { g with latent := 0 }) }).scrubRow u row
    | _ =>
      let rq : Req := { kind := .mgmt, blk := if u < 12 then Blk.hbm.byte else Blk.blk.byte, inst := i }
      ({ (s.count card i 3 1) with gran := Sp.upd {} s.gran (a / 64) (fun g => { g with latent := 0, poison := true }) }).event
        E.SCRUB_UE 0 a rq.word
  let wrap := size ≤ 64 * (pos + 1)
  { s with
    scrubPos := Sp.set 0 s.scrubPos u (if wrap then 0 else pos + 1)
    scrubRows := if wrap then s.scrubRows.filter (fun e => e.1 / 2 ^ 48 != u) else s.scrubRows }

/-! ## Page attributes (R226, R227) -/

/-- A write of GLB_PAGE_ATTR: BASE and ENABLE become pending; APPLY in BRINGUP or READY puts them in force at once. -/
def State.pageAttrWrite (s : State) (v : Nat) : State :=
  let s := s.wr R.GLB_PAGE_ATTR 0 0 (atBits 47 21 (bits v 47 21) + bits v 0 0)
  if F.GLB_PAGE_ATTR_APPLY.get v = 1 && s.calm then
    s.applyReg R.GLB_PAGE_ATTR 0 0 .rwl
  else s

/-! ## The commands -/

/-- MEM_READ (R221). -/
def execMemRead (part binding : Nat) (errs : List (Nat × Nat)) (s : State) : Host.Outcome State Fault Refusal :=
  .next ((s.plant errs).memCmd part binding 1 1)
/-- MEM_WRITE (R221). -/
def execMemWrite (part binding : Nat) (errs : List (Nat × Nat)) (s : State) : Host.Outcome State Fault Refusal :=
  .next ((s.plant errs).memCmd part binding 1 2)
/-- MEM_FILL_ZERO (R221). -/
def execMemFillZero (part binding : Nat) (errs : List (Nat × Nat)) (s : State) : Host.Outcome State Fault Refusal :=
  .next ((s.plant errs).memCmd part binding 1 3)
/-- BULK_READ (R221). -/
def execBulkRead (part binding : Nat) (errs : List (Nat × Nat)) (s : State) : Host.Outcome State Fault Refusal :=
  .next ((s.plant errs).memCmd part binding 2 1)
/-- BULK_WRITE (R221). -/
def execBulkWrite (part binding : Nat) (errs : List (Nat × Nat)) (s : State) : Host.Outcome State Fault Refusal :=
  .next ((s.plant errs).memCmd part binding 2 2)
/-- BULK_FILL_ZERO (R221). -/
def execBulkFillZero (part binding : Nat) (errs : List (Nat × Nat)) (s : State) : Host.Outcome State Fault Refusal :=
  .next ((s.plant errs).memCmd part binding 2 3)
/-- MEM_CMD_COMPLETE (R223). -/
def execMemCmdComplete (part id : Nat) (s : State) : Host.Outcome State Fault Refusal := .next (s.memComplete part id)
/-- HBM_REFRESH (R219). -/
def execHbmRefresh (stack temp : Nat) (s : State) : Host.Outcome State Fault Refusal := .next (s.hbmRefresh stack temp)
/-- BULK_REFRESH (R224): it delays accesses only. -/
def execBulkRefresh (_channel : Nat) (s : State) : Host.Outcome State Fault Refusal := .next s
/-- PATROL_SCRUB (R231). -/
def execPatrolScrub (unit err row : Nat) (s : State) : Host.Outcome State Fault Refusal :=
  .next (s.patrolScrub unit err row)
/-- PAGE_ATTR_APPLY (R227). -/
def execPageAttrApply (value : Nat) (s : State) : Host.Outcome State Fault Refusal := .next (s.pageAttrWrite value)

end Sys2Proof.Machine
end

