-- ==== Sys2Proof/Machine/Table.lean ====
section
/-! DEFINITION. Embedding table descriptors, ownership and placement descriptors (08_embedding_tables.md R246 to R254;
07_memory_tiers.md R232, R233). -/

namespace Sys2Proof.Machine

/-! ## Table descriptors -/

/-- A table descriptor (Table 8-1). -/
structure Table where
  num : Nat
  placeable : Bool
  grad : Bool
  hot : Bool
  mode : Nat
  elems : Nat
  efmt : Nat
  sfmt : Nat
  group : Nat
  s2 : Bool
  state : Nat
  rows : Nat
  place : Nat
  rankFirst : Nat
  rankCount : Nat
  key : Nat
  home : Nat
  ledgerStack : Nat
  hotBase : Nat
  hotCount : Nat
  ledger : Nat
  replica : Nat
deriving DecidableEq, Repr

def tableOf (t : Nat) (b : List Byte) : Table :=
  let f := fieldAt b 0 1
  { num := t, placeable := bit f 1, grad := bit f 2, hot := bit f 3, mode := fieldAt b 1 1, elems := fieldAt b 2 2
    efmt := fieldAt b 4 1, sfmt := fieldAt b 5 1, group := fieldAt b 6 1 % 4, s2 := bit (fieldAt b 6 1) 2
    state := fieldAt b 7 1, rows := fieldAt b 8 6, place := fieldAt b 0xE 2, rankFirst := fieldAt b 0x10 4
    rankCount := fieldAt b 0x14 4, key := fieldAt b 0x18 8, home := fieldAt b 0x20 6, ledgerStack := fieldAt b 0x26 1
    hotBase := fieldAt b 0x28 6, hotCount := fieldAt b 0x30 4, ledger := fieldAt b 0x34 4, replica := fieldAt b 0x38 6 }

/-- Elements per group scale; 0 for none. -/
def Table.groupSize (d : Table) : Nat := match d.group with | 0 => 0 | 1 => 32 | 2 => 64 | _ => 128

/-- Value granules, data granules and record granules of a row (R247). -/
def Table.valGran (d : Table) : Nat := cdiv (d.elems * fmtWidth d.efmt) 512
def Table.dataGran (d : Table) : Nat := d.valGran + b2n (d.group != 0 || d.s2)
def Table.rowGran (d : Table) : Nat := d.dataGran + d.state
def Table.rowBytes (d : Table) : Nat := 64 * d.rowGran

/-- A descriptor that names no table (R246, R247). -/
def Table.bad (d : Table) : Bool :=
  decide (2 < d.mode) || d.rankCount = 0 || decide (65536 < d.rankCount)
    || !(decide (d.efmt ≤ 7) || decide (9 ≤ d.efmt ∧ d.efmt ≤ 13))
    || (if d.group = 0 then d.sfmt != 0 else d.sfmt != 14 && d.sfmt != 15)
    || decide (d.elems < 16) || decide (1024 < d.elems) || d.elems % 16 != 0 || decide (256 < d.rowGran)
    || (d.group != 0 && d.elems % d.groupSize != 0)

/-- Address of table descriptor `t` of partition `p`. -/
def State.tableAddr (s : State) (p t : Nat) : Nat := s.effF R.EMB_TABLE_BASE F.EMB_TABLE_BASE_BASE p 0 * 64 + 64 * t

/-- Table `t` as partition `p`'s effective descriptors give it; none where `t` names no table (R246). -/
def State.table (s : State) (p t : Nat) : Option Table :=
  if s.effF R.EMB_TABLE_BASE F.EMB_TABLE_BASE_ENABLE p 0 = 0 then none
  else if s.effF R.EMB_TABLE_BASE F.EMB_TABLE_BASE_LAST p 0 < t then none
  else
    let a := s.tableAddr p t
    let b := s.load a 64
    let d := tableOf t b
    if !bit (fieldAt b 0 1) 0 || s.poisoned a 64 || d.bad then none else some d

/-- The tables of partition `p` in rising order. -/
def State.tables (s : State) (p : Nat) : List Table :=
  (List.range (s.effF R.EMB_TABLE_BASE F.EMB_TABLE_BASE_LAST p 0 + 1)).filterMap (s.table p)

/-! ## Ownership (R250, R251) -/

/-- Chip ID of rank `k`. -/
def State.rankChip (s : State) (p k : Nat) : Nat := s.loadN (s.effF R.EMB_RANK_MAP F.EMB_RANK_MAP_BASE p 0 * 4096 + 2 * k) 2

def State.myRank (s : State) (p : Nat) : Nat := s.effF R.SEQ_DRAW_RANK F.SEQ_DRAW_RANK_RANK p 0
def State.myChip (s : State) : Nat := s.rdF R.RLY_FABRIC_COORD F.RLY_FABRIC_COORD_CHIP_ID 0 0
def State.ranks (s : State) (p : Nat) : Nat := s.effF R.EMB_CTRL F.EMB_CTRL_RANKS p 0

/-- Rank within the table and local index of a row (R251). -/
def Table.ownRank (d : Table) (row : Nat) : Nat × Nat :=
  let n := d.rankCount
  match d.mode with
  | 0 => (row % n, row / n)
  | 1 => let b := cdiv d.rows n; (row / b, row % b)
  | _ => let r := row / n; ((row % n + mix64 (r ^^^ d.key) % n) % n, r)

/-- Owner chip and local index (R251). -/
def State.own (s : State) (p : Nat) (d : Table) (row : Nat) : Nat × Nat :=
  let (k, r) := d.ownRank row
  (s.rankChip p (d.rankFirst + k), r)

/-- The global row at local index `r` of this chip's shard; none outside the shard. -/
def State.globalRow (s : State) (p : Nat) (d : Table) (r : Nat) : Option Nat :=
  let me := s.myRank p
  if me < d.rankFirst ∨ d.rankFirst + d.rankCount ≤ me then none else
  let k := me - d.rankFirst
  let n := d.rankCount
  let row := match d.mode with
    | 0 => r * n + k
    | 1 => let b := cdiv d.rows n; if r < b then b * k + r else d.rows
    | _ => r * n + (k + n - mix64 (r ^^^ d.key) % n) % n
  if row < d.rows then some row else none

/-- The checks when a rank map takes effect (R250). -/
def State.rankMapOk (s : State) (p : Nat) : Bool :=
  s.effF R.EMB_TABLE_BASE F.EMB_TABLE_BASE_ENABLE p 0 = 0 ||
    (s.rankChip p (s.myRank p) = s.myChip &&
      (s.tables p).all (fun d => decide (d.rankFirst + d.rankCount ≤ s.ranks p)))

/-! ## Hot directories (R253, R254) -/

/-- Row and slot of directory entry `i`. -/
def State.hotEntry (s : State) (d : Table) (i : Nat) : Nat × Nat :=
  (s.loadN (d.hotBase + 16 * i) 6, s.loadN (d.hotBase + 16 * i + 8) 4)

/-- Binary search of a sorted directory: `lo` entries below, `n` candidates. -/
def State.hotSearch (s : State) (d : Table) (row : Nat) : Nat → Nat → Nat → Option Nat
  | 0, _, _ => none
  | fuel + 1, lo, hi =>
    if hi ≤ lo then none else
    let m := (lo + hi) / 2
    let (r, k) := s.hotEntry d m
    if r = row then some k else if r < row then s.hotSearch d row fuel (m + 1) hi else s.hotSearch d row fuel lo m

/-- Replica slot of a row that another chip owns. -/
def State.hotSlot (s : State) (d : Table) (row : Nat) : Option Nat :=
  if d.hot then s.hotSearch d row 32 0 d.hotCount else none

/-- Every directory is strictly ascending (R253). -/
def State.hotOk (s : State) (p : Nat) : Bool :=
  (s.tables p).all (fun d => !d.hot || (List.range (d.hotCount - 1)).all (fun i =>
    decide ((s.hotEntry d i).1 < (s.hotEntry d (i + 1)).1)))

/-- Address of replica slot `k` (R254). -/
def Table.replicaAddr (d : Table) (k : Nat) : Nat := d.replica + k * (1 + d.dataGran) * 64

/-- HASH of a row's data under EMB_REPLICA_KEY (R254). -/
def State.rowHash (s : State) (p : Nat) (d : Table) (row : Nat) (data : List Byte) : Nat :=
  sipHash (s.rdEff R.EMB_REPLICA_KEY p 0) (s.rdEff R.EMB_REPLICA_KEY p 1)
    (leBytes 2 d.num ++ leBytes 6 row ++ List.replicate 6 0 ++ data)

/-! ## Placement descriptors (R232) -/

/-- A placement descriptor (Table 7-5). -/
structure PlaceD where
  valid : Bool
  frozen : Bool
  table : Nat
  stack : Nat
  channel : Nat
  gran : Nat
  slotBase : Nat
  moveLimit : Nat
  bulkBase : Nat
  slots : Nat
  near : Nat
  mapBase : Nat
  countBase : Nat
  ownerBase : Nat
  candMax : Nat
  hyst : Nat
  decay : Nat
deriving DecidableEq, Repr

def placeOf (b : List Byte) : PlaceD :=
  { valid := bit (fieldAt b 0 1) 0, frozen := bit (fieldAt b 0 1) 1, table := fieldAt b 2 2, stack := fieldAt b 4 1
    channel := fieldAt b 5 1, gran := fieldAt b 6 2, slotBase := fieldAt b 8 6, moveLimit := fieldAt b 0xE 2
    bulkBase := fieldAt b 0x10 6, slots := fieldAt b 0x18 4, near := fieldAt b 0x1C 4, mapBase := fieldAt b 0x20 6
    countBase := fieldAt b 0x28 6, ownerBase := fieldAt b 0x30 6, candMax := fieldAt b 0x38 4, hyst := fieldAt b 0x3C 1
    decay := fieldAt b 0x3D 1 }

def State.placeAddr (s : State) (p k : Nat) : Nat := s.effF R.EMB_PLACE_TABLE F.EMB_PLACE_TABLE_BASE p 0 * 64 + 64 * k

/-- Placement descriptor `k` of partition `p`. -/
def State.place (s : State) (p k : Nat) : PlaceD := placeOf (s.load (s.placeAddr p k) 64)

/-- First byte of the candidate list: the 64-byte boundary after the owner array. -/
def PlaceD.candBase (d : PlaceD) : Nat := alignUp (d.ownerBase + 4 * d.slots) 64

/-- The descriptor obeys R232 and the ranges of Table 7-5. -/
def State.placeOk (s : State) (p k : Nat) : Bool :=
  let b := s.load (s.placeAddr p k) 64
  let d := placeOf b
  let (lo, hi) := s.memRange 1 d.stack
  let (bl, bh) := s.memRange 2 d.channel
  let inS (a n : Nat) : Bool := a % 64 = 0 && decide (lo ≤ a) && decide (a + n ≤ hi)
  !s.poisoned (s.placeAddr p k) 64
    && decide (d.stack < 12) && decide (d.channel < 8) && d.stack / 3 = d.channel / 2 && decide (1 ≤ d.gran ∧ d.gran ≤ 256)
    && decide (d.slots < 2 ^ 31) && decide (1 ≤ d.near ∧ d.near < 2 ^ 31) && decide (d.decay ≤ 15)
    && bits (fieldAt b 0 1) 7 2 = 0 && fieldAt b 1 1 = 0 && fieldAt b 0x16 2 = 0 && fieldAt b 0x26 2 = 0
    && fieldAt b 0x2E 2 = 0 && fieldAt b 0x36 2 = 0 && fieldAt b 0x3E 2 = 0
    && inS d.slotBase (d.slots * d.gran * 64) && inS d.mapBase (4 * d.near) && inS d.countBase (4 * d.near)
    && inS d.ownerBase (4 * d.slots) && inS d.candBase (8 * d.candMax)
    && d.bulkBase % 64 = 0 && decide (bl ≤ d.bulkBase) && decide (d.bulkBase + d.near * d.gran * 64 ≤ bh)

/-- Placement descriptor of a placeable table, where it is valid. -/
def State.placeFor (s : State) (p : Nat) (d : Table) : Option PlaceD :=
  let k := d.place
  let pd := s.place p k
  if d.placeable && pd.valid && s.placeOk p k && decide (k < s.effF R.EMB_PLACE_CTRL F.EMB_PLACE_CTRL_COUNT p 0)
    && pd.table = d.num then some pd else none

def State.mapEntry (s : State) (d : PlaceD) (r : Nat) : Nat := s.loadN (d.mapBase + 4 * r) 4
def State.ownerEntry (s : State) (d : PlaceD) (k : Nat) : Nat := s.loadN (d.ownerBase + 4 * k) 4
def PlaceD.slotAddr (d : PlaceD) (k : Nat) : Nat := d.slotBase + k * d.gran * 64
def PlaceD.homeAddr (d : PlaceD) (r : Nat) : Nat := d.bulkBase + r * d.gran * 64

/-! ## Where a local row lives -/

/-- Where a row of this chip's shard is found (R252). -/
inductive RowAt where
  | addr (a : Nat) (bulk : Bool)
  | slot (a : Nat)
  | missing (die : Nat)
  | bad
deriving DecidableEq, Repr

/-- Address of the far staging slot `k` of die `d` (Table 7-6). -/
def State.farSlot (s : State) (p d k : Nat) : Nat :=
  s.effF R.EMB_FAR_AREA F.EMB_FAR_AREA_BASE p d * 4096 + k * 64 * s.effF R.EMB_FAR_AREA F.EMB_FAR_AREA_SLOT_GRANULES p d

/-- Staging slot of a far row. -/
def State.farFind (s : State) (p die item : Nat) : Option Nat :=
  ((s.part p).farIdx.find? (fun e => e.1 = die && e.2.1 = item)).map (·.2.2)

/-- Find local row `r` of table `d` (R252). -/
def State.rowAt (s : State) (p : Nat) (d : Table) (r : Nat) : RowAt :=
  if !d.placeable then
    let a := d.home + r * d.rowBytes
    .addr a (decide (bulkBase ≤ a))
  else match s.placeFor p d with
    | none => .bad
    | some pd =>
      if pd.near ≤ r then
        let die := pd.stack / 3
        match s.farFind p die (d.num * 2 ^ 48 + r) with
        | some k => .slot (s.farSlot p die k + 64)
        | none => .missing die
      else
        let m := s.mapEntry pd r
        if bit m 31 then .addr (pd.slotAddr (m % 2 ^ 31)) false else .addr (pd.homeAddr r) true

end Sys2Proof.Machine
end

