-- ==== Sys2Proof/Machine/Place.lean ====
section
/-! DEFINITION. The placement governor: counting, planning and moving rows between bulk homes and HBM slots
(07_memory_tiers.md R233 to R240). -/

namespace Sys2Proof.Machine

/-- Insert by a strict order. -/
def insertBy {α : Type} (lt : α → α → Bool) (x : α) : List α → List α
  | [] => [x]
  | y :: r => if lt x y then x :: y :: r else y :: insertBy lt x r

def sortBy {α : Type} (lt : α → α → Bool) (l : List α) : List α := l.foldl (fun acc x => insertBy lt x acc) []

def State.epoch (s : State) (p : Nat) : Nat := s.rdF R.EMB_PLACE_EPOCH F.EMB_PLACE_EPOCH_EPOCH p 0

/-- Effective count of a count entry at epoch `e` (R233). -/
def effCount (decay e entry : Nat) : Nat :=
  bits entry 15 0 >>> min 16 (decay * ((e % 65536 + 65536 - bits entry 31 16) % 65536))

def State.countAt (s : State) (d : PlaceD) (r : Nat) : Nat := s.loadN (d.countBase + 4 * r) 4
def State.eff (s : State) (p : Nat) (d : PlaceD) (r : Nat) : Nat := effCount d.decay (s.epoch p) (s.countAt d r)

/-- Placement is on, and so is counting (EMB_PLACE_CTRL). -/
def State.placePeriod (s : State) (p : Nat) : Nat := s.effF R.EMB_PLACE_CTRL F.EMB_PLACE_CTRL_PERIOD p 0
def State.placeCount (s : State) (p : Nat) : Nat := s.effF R.EMB_PLACE_CTRL F.EMB_PLACE_CTRL_COUNT p 0

/-- Owe `n` increments to near row `r` of table `d` (R234): they go to the working count segment. -/
def State.owe (s : State) (p : Nat) (d : Table) (r n : Nat) : State :=
  if n = 0 || s.placePeriod p = 0 || s.legKind p != 2 then s else
  match s.placeFor p d with
  | none => s
  | some pd => if pd.near ≤ r then s else
      s.updPart p (fun x => { x with placeWork := Sp.upd 0 x.placeWork (d.place * 2 ^ 48 + r) (· + n) })

/-- The candidate list as memory holds it: 8 bytes a row (log 37). -/
def State.candSave (s : State) (p k : Nat) : State :=
  let d := s.place p k
  ((Sp.get [] (s.part p).cand k).zipIdx).foldl (fun s e => s.saveN (d.candBase + 8 * e.2) 8 e.1) s

/-- A row enters the candidate list; the highest index beyond CAND_MAX is left out and counted (R235). -/
def State.candAdd (s : State) (p k r : Nat) : State :=
  let d := s.place p k
  let l := insertBy (fun a b => decide (a < b)) r (Sp.get [] (s.part p).cand k)
  let s := if d.candMax < l.length then s.count R.CNT_EMB p 1 1 else s
  (s.updPart p (fun x => { x with cand := Sp.set [] x.cand k (l.take d.candMax) })).candSave p k

/-- Fold one row's total into the count array (R234). -/
def State.foldRow (s : State) (p k r w : Nat) : State :=
  let d := s.place p k
  let e := s.epoch p % 65536
  let old := s.countAt d r
  let s := s.saveN (d.countBase + 4 * r) 4 (min 65535 (s.eff p d r + w) + 65536 * e)
  if bits old 31 16 != e && !bit (s.mapEntry d r) 31 then s.candAdd p k r else s

/-- The fold of a completion boundary (R234). -/
def State.placeFold (s : State) (p : Nat) : State :=
  ((s.part p).placeWork.foldl (fun s e => s.foldRow p (e.1 / 2 ^ 48) (e.1 % 2 ^ 48) e.2) s).updPart p
    (fun x => { x with placeWork := [] })

/-- A planned move: row `inRow` enters `slot`, from which `outRow` leaves, if any (R236). -/
structure Move where
  inRow : Nat
  slot : Nat
  outRow : Option Nat
deriving DecidableEq, Repr

/-- The planning loop of R236 over the hot rows with their counts. -/
def planMoves (hyst : Nat) : Nat → List (Nat × Nat) → List Nat → List (Nat × Nat × Nat) → List Move
  | 0, _, _, _ => []
  | _, [], _, _ => []
  | n + 1, (h, _) :: hot, k :: free, cold => ⟨h, k, none⟩ :: planMoves hyst n hot free cold
  | n + 1, (h, c) :: hot, [], (r, k, cc) :: cold =>
    if c ≤ cc + hyst then [] else ⟨h, k, some r⟩ :: planMoves hyst n hot [] cold
  | _ + 1, _ :: _, [], [] => []

/-- The moves of descriptor `k` at a placement boundary (R236). -/
def State.planFor (s : State) (p k : Nat) : List Move :=
  let d := s.place p k
  let slots := List.range d.slots
  let used := slots.filter (fun j => bit (s.ownerEntry d j) 31)
  let free := slots.filter (fun j => !bit (s.ownerEntry d j) 31)
  let cold := sortBy (fun (a b : Nat × Nat × Nat) => decide (a.2.2 < b.2.2) || (a.2.2 = b.2.2 && decide (b.1 < a.1)))
    (used.map (fun j => let r := s.ownerEntry d j % 2 ^ 31; (r, j, s.eff p d r)))
  let hot := sortBy (fun (a b : Nat × Nat) => decide (b.2 < a.2) || (a.2 = b.2 && decide (a.1 < b.1)))
    (((Sp.get [] (s.part p).cand k).filter (fun r => !bit (s.mapEntry d r) 31 && decide (0 < s.eff p d r))).map
      (fun r => (r, s.eff p d r)))
  planMoves d.hyst d.moveLimit hot free cold

/-- Owner and map entries of descriptor `d` agree (R239). -/
def State.placeAgrees (s : State) (d : PlaceD) : Bool :=
  (List.range d.slots).all (fun j =>
    let o := s.ownerEntry d j
    !bit o 31 || (decide (o % 2 ^ 31 < d.near) && s.mapEntry d (o % 2 ^ 31) = 2 ^ 31 + j))
  && (List.range d.near).all (fun r =>
    let m := s.mapEntry d r
    !bit m 31 || (decide (m % 2 ^ 31 < d.slots) && s.ownerEntry d (m % 2 ^ 31) = 2 ^ 31 + r))

/-- Carry out a move (R237). -/
def State.doMove (s : State) (d : PlaceD) (m : Move) : State :=
  let s := match m.outRow with
    | some c => (s.copyGran (d.homeAddr c) (d.slotAddr m.slot) d.gran).saveN (d.mapBase + 4 * c) 4 0
    | none => s
  ((s.copyGran (d.slotAddr m.slot) (d.homeAddr m.inRow) d.gran).saveN (d.mapBase + 4 * m.inRow) 4 (2 ^ 31 + m.slot)).saveN
    (d.ownerBase + 4 * m.slot) 4 (2 ^ 31 + m.inRow)

/-- Normalise count entry `r` (R236). -/
def State.normalise (s : State) (p : Nat) (d : PlaceD) (r : Nat) : State :=
  s.saveN (d.countBase + 4 * r) 4 (s.eff p d r + 65536 * (s.epoch p % 65536))

/-- The placement boundary of descriptor `k`: its moves, an empty candidate list, and the normalisation of its share of
the count entries. The number of moves made is returned (R236, R237, R239). -/
def State.placeBoundary (s : State) (p k : Nat) : State × Nat :=
  let d := s.place p k
  if !d.valid then (s, 0)
  else if !s.placeOk p k || !s.placeAgrees d then (s.raise E.PLACE_INVALID p k 0, 0)
  else
    let l := if d.frozen || d.moveLimit = 0 then [] else s.planFor p k
    let s := l.foldl (fun s m => s.doMove d m) s
    let s := s.updPart p (fun x => { x with cand := Sp.set [] x.cand k [] })
    let kk := cdiv d.near 4096
    let j := s.epoch p % 4096
    (((List.range kk).filter (fun i => decide (j * kk + i < d.near))).foldl (fun s i => s.normalise p d (j * kk + i)) s, l.length)

/-- The lap boundary of lap `lap` is a placement boundary. -/
def State.isPlaceBoundary (s : State) (p lap : Nat) : Bool :=
  let per := s.placePeriod p
  per != 0 && lap % per = per - 1

/-- All descriptors in index order; then E advances by one (R237). -/
def State.placeAll (s : State) (p : Nat) : State :=
  let (s, n) := (List.range (s.placeCount p)).foldl (fun (a : State × Nat) k =>
    let (s, m) := a.1.placeBoundary p k
    (s, a.2 + m)) (s, 0)
  (s.count R.CNT_EMB p 0 n).wrFs R.EMB_PLACE_EPOCH p 0
    [(F.EMB_PLACE_EPOCH_LAST_MOVES, n), (F.EMB_PLACE_EPOCH_EPOCH, (s.epoch p + 1) % 2 ^ 32)]

/-- The (table, row) pairs that the planned moves of this boundary touch (R237: they wait for unfinished sweeps). -/
def State.plannedRows (s : State) (p : Nat) : List (Nat × Nat) :=
  (List.range (s.placeCount p)).flatMap (fun k =>
    let d := s.place p k
    if !d.valid || d.frozen || !s.placeOk p k then [] else
    (s.planFor p k).flatMap (fun m => (d.table, m.inRow) :: (m.outRow.toList.map (fun c => (d.table, c)))))

end Sys2Proof.Machine
end

