-- ==== Sys2Proof/Machine/Far.lean ====
section
/-! DEFINITION. The far tier: staging slots, doorbells and the far ring (07_memory_tiers.md R241 to R243, Tables 7-6
and 7-7). -/

namespace Sys2Proof.Machine

/-- Put a record of 32 bytes before the far ring (Table 7-7). -/
def State.farRecord (s : State) (p kind reason die item slot : Nat) : State :=
  let b := leBytes 1 kind ++ leBytes 1 reason ++ leBytes 1 die ++ leBytes 1 0 ++ leBytes 4 (s.lap p) ++ leBytes 8 item
    ++ leBytes 4 slot ++ leBytes 4 0 ++ leBytes 8 (s.ftime % 2 ^ 64)
  s.updPart p (fun x => { x with farWait := x.farWait ++ [b] })

/-- Write the oldest waiting record into the ring (EMB_FAR_RING). A full ring is reported once per episode. -/
def State.farPost (s : State) (p : Nat) : State :=
  match (s.part p).farWait with
  | [] => s
  | b :: rest =>
    -- after host loss no request goes to the host (R419)
    if s.rdF R.HST_ATTACH F.HST_ATTACH_ATTACHED 0 0 = 0 && hostBase ≤ F.EMB_FAR_RING_BASE.get (s.rd R.EMB_FAR_RING p 0) * 32 then s else
    let ring := s.rd R.EMB_FAR_RING p 0
    let n := 2 ^ F.EMB_FAR_RING_LOG2_ENTRIES.get ring
    let prod := s.rdF R.EMB_FAR_RING_PTR F.EMB_FAR_RING_PTR_PRODUCER p 0
    let cons := s.rdF R.EMB_FAR_RING_PTR F.EMB_FAR_RING_PTR_CONSUMER p 0
    if n ≤ (prod + 2 ^ 32 - cons) % 2 ^ 32 then
      if (s.part p).farFull then s
      else (s.updPart p (fun x => { x with farFull := true })).event E.FAR_RING_FULL p 0 0
    else
      let s := s.save (F.EMB_FAR_RING_BASE.get ring * 32 + 32 * (prod % n)) b
      let s := (s.updPart p (fun x => { x with farWait := rest, farFull := false })).wrF R.EMB_FAR_RING_PTR
        F.EMB_FAR_RING_PTR_PRODUCER p 0 (prod + 1)
      if prod = cons then s.event E.FAR_RECORD p 0 0 else s

/-- Announce a far row that is not staged, once per lap (R242). `kind` is 1 for a look-up, 2 for an update. -/
def State.farMiss (s : State) (p kind die item : Nat) : State :=
  if (s.part p).farAnn.any (fun e => e.2 = item) then s else
  ((s.updPart p (fun x => { x with farAnn := (kind, item) :: x.farAnn })).farRecord p kind 0 die item 0xFFFFFFFF).count
    R.CNT_EMB p 2 1

/-- Slots of die `d`. -/
def State.farSlots (s : State) (p d : Nat) : Nat := s.effF R.EMB_FAR_SIZE F.EMB_FAR_SIZE_SLOTS p d

/-- Placement descriptor on die `die` that serves table number `t`. -/
def State.farPlace (s : State) (p die t : Nat) : Option (Table × PlaceD) :=
  match s.table p t with
  | none => none
  | some d => match s.placeFor p d with
    | some pd => if pd.stack / 3 = die then some (d, pd) else none
    | none => none

/-- Reason to refuse a STAGE of slot `k` on die `die`; 0 to accept (R241, Table 7-7). -/
def State.stageReason (s : State) (p die k : Nat) : Nat :=
  if 3 < die || decide (s.farSlots p die ≤ k) then 7 else
  let a := s.farSlot p die k
  let item := s.loadN a 8
  let t := bits item 63 48
  let row := bits item 47 0
  if s.loadN (a + 0x0C) 1 != 0 then 1 else
  match s.farPlace p die t with
  | none => 2
  | some (d, pd) =>
    if s.loadN (a + 0x10) 2 != d.rowGran || s.loadN (a + 0x10) 2 != pd.gran then 2
    else if row < pd.near || (s.globalRow p d row).isNone then 3
    else if (s.farFind p die item).isSome then 4
    else 0

/-- A STAGE doorbell (R241). -/
def State.stage (s : State) (p die k : Nat) : State :=
  let reason := s.stageReason p die k
  let item := if reason = 7 then 0 else s.loadN (s.farSlot p die k) 8
  if reason = 0 then
    ((s.saveN (s.farSlot p die k + 0x0C) 1 1).updPart p (fun x => { x with farIdx := x.farIdx ++ [(die, item, k)] })).farRecord
      p 0x10 0 die item k
  else (s.count R.CNT_EMB p 3 1).farRecord p 0x11 reason die item k

/-- A RELEASE doorbell waits for the next lap boundary; one written while 256 wait is discarded (R243). -/
def State.release (s : State) (p die k lap : Nat) : State :=
  if 256 ≤ (s.part p).farQ.length then s.count R.CNT_EMB p 4 1
  else s.updPart p (fun x => { x with farQ := x.farQ ++ [(die, k, lap)] })

/-- ITEM of every gradient entry of a REVERSE body (R263): 16-byte heads, each followed by GRANULES x 64 bytes. -/
def reverseHeads : Nat → List Byte → List (List Byte)
  | 0, _ => []
  | n + 1, b => if b.length < 16 then [] else
      (b.take (16 + 64 * fieldAt b 0x0A 1)) :: reverseHeads n (b.drop (16 + 64 * fieldAt b 0x0A 1))

/-- A deferred contribution to global row `row` of table `t` waits (R75, R243). -/
def Part.deferredRow (x : Part) (t row : Nat) : Bool :=
  x.emb.deferred.any (fun f => f.segs.any (fun seg =>
    (reverseHeads 512 (seg.drop 64)).any (fun e => fieldAt e 0 8 = t * 2 ^ 48 + row)))

/-- The decision on one RELEASE (R243). -/
def State.releaseOne (s : State) (p die k lap : Nat) : State :=
  if 3 < die || decide (s.farSlots p die ≤ k) then (s.count R.CNT_EMB p 3 1).farRecord p 0x21 7 die 0 k else
  let a := s.farSlot p die k
  let item := s.loadN a 8
  let st := s.loadN (a + 0x0C) 1
  let global := match s.table p (bits item 63 48) with
    | some d => (s.globalRow p d (bits item 47 0)).getD 0
    | none => 0
  if (st != 1 && st != 2) || s.loadN (a + 8) 4 != lap then (s.count R.CNT_EMB p 3 1).farRecord p 0x21 5 die item k
  else if (s.part p).deferredRow (bits item 63 48) global then (s.count R.CNT_EMB p 3 1).farRecord p 0x21 6 die item k
  else
    ((s.saveN (a + 0x0C) 1 0).updPart p (fun x => { x with
      farIdx := x.farIdx.filter (fun e => !(e.1 = die && e.2.2 = k)) })).farRecord p 0x20 0 die item k

/-- The waiting RELEASE doorbells, in the order written (R243, R54 step 5). -/
def State.releaseAll (s : State) (p : Nat) : State :=
  ((s.part p).farQ.foldl (fun s e => s.releaseOne p e.1 e.2.1 e.2.2) s).updPart p (fun x => { x with farQ := [] })

/-- FAR_RECORD_POST (R242). -/
def execFarRecordPost (part : Nat) (s : State) : Host.Outcome State Fault Refusal := .next (s.farPost part)
/-- RELEASE (R243). -/
def execRelease (part die slot lap : Nat) (s : State) : Host.Outcome State Fault Refusal :=
  .next (s.release part die slot lap)

end Sys2Proof.Machine
end

