-- ==== Sys2Proof/Machine/Ledger.lean ====
section
/-! DEFINITION. Gradient ledgers: entries, exact addition, fold, discard and freeing (09_update_engines.md R276 to
R282). -/

namespace Sys2Proof.Machine

/-- A ledger descriptor (Table 9-2) with its address and stack. -/
structure Led where
  addr : Nat
  stack : Nat
  anchor : Nat
  table : Nat
  elems : Nat
  pool : Nat
  n : Nat
  log2 : Nat
  bucket : Nat
deriving DecidableEq, Repr

def ledOf (addr stack : Nat) (b : List Byte) : Led :=
  { addr := addr, stack := stack, anchor := fieldAt b 1 1, table := fieldAt b 2 2, elems := fieldAt b 4 2
    pool := fieldAt b 8 6, n := fieldAt b 0x10 4, log2 := fieldAt b 0x14 1, bucket := fieldAt b 0x18 6 }

/-- Bytes of an entry (R277), and the address of entry `i`. -/
def Led.eb (l : Led) : Nat := 64 + 64 * cdiv (18 * l.elems) 64
def Led.at_ (l : Led) (i : Nat) : Nat := l.pool + i * l.eb

/-- The stack whose engines update the local shard of a table (R276). -/
def State.shardStack (s : State) (p : Nat) (d : Table) : Option Nat :=
  if d.placeable then (s.placeFor p d).map (·.stack)
  else match s.regionOf d.home with
    | .hbm k => some k
    | .bulk b => if d.ledgerStack < 12 && d.ledgerStack / 3 = b / 2 then some d.ledgerStack else none
    | _ => none

/-- The ledger of a table's local shard, where it is valid (R276). -/
def State.ledgerFor (s : State) (p : Nat) (d : Table) : Option Led :=
  match s.shardStack p d with
  | none => none
  | some k =>
    if s.effF R.AKC_LEDGER_TABLE F.AKC_LEDGER_TABLE_COUNT k 0 ≤ d.ledger then none else
    let a := s.effF R.AKC_LEDGER_TABLE F.AKC_LEDGER_TABLE_BASE k 0 * 64 + 64 * d.ledger
    let b := s.load a 64
    let l := ledOf a k b
    let (lo, hi) := s.memRange 1 k
    if bit (fieldAt b 0 1) 0 && !s.poisoned a 64 && l.table = d.num && l.elems = d.elems && l.pool % 64 = 0
        && decide (lo ≤ l.pool) && decide (l.pool + l.n * l.eb ≤ hi) && decide (1 ≤ l.n) && decide (l.n ≤ 2 ^ 32 - 2)
        && decide (4 ≤ l.log2) && decide (l.log2 ≤ 30) && l.bucket % 64 = 0 && decide (lo ≤ l.bucket)
        && decide (l.bucket + 4 * 2 ^ l.log2 ≤ hi) then some l
    else none

/-! ## Entries -/

def State.ldLocal (s : State) (l : Led) (i : Nat) : Nat := s.loadN (l.at_ i) 6
def State.ldRow (s : State) (l : Led) (i : Nat) : Nat := s.loadN (l.at_ i + 8) 6
def State.ldState (s : State) (l : Led) (i : Nat) : Nat := s.loadN (l.at_ i + 0x10) 1 % 8
def State.ldSwept (s : State) (l : Led) (i : Nat) : Bool := bit (s.loadN (l.at_ i + 0x10) 1) 3
def State.ldLeg (s : State) (l : Led) (i : Nat) : Nat := s.loadN (l.at_ i + 0x11) 1
def State.ldLap (s : State) (l : Led) (i : Nat) : Nat := s.loadN (l.at_ i + 0x14) 4
def State.ldNext (s : State) (l : Led) (i : Nat) : Nat := s.loadN (l.at_ i + 0x18) 4

/-- Write STATE with SWEPT, and TAG_LAP. -/
def State.ldMark (s : State) (l : Led) (i st lap : Nat) : State :=
  (s.saveN (l.at_ i + 0x10) 1 st).saveN (l.at_ i + 0x14) 4 lap

def State.inUse (s : State) (l : Led) : Nat := s.loadN (l.addr + 0x20) 4

/-- Change IN_USE, and PEAK with it. -/
def State.setInUse (s : State) (l : Led) (n : Nat) : State :=
  let s := s.saveN (l.addr + 0x20) 4 n
  if s.loadN (l.addr + 0x24) 4 < n then s.saveN (l.addr + 0x24) 4 n else s

/-- The entries of a ledger that are not FREE, in rising order. -/
def State.ldUsed (s : State) (l : Led) : List Nat := (List.range l.n).filter (fun i => s.ldState l i != 0)

/-- Bucket address of local row `r`. -/
def Led.bucketOf (l : Led) (r : Nat) : Nat := l.bucket + 4 * (mix64 r % 2 ^ l.log2)

abbrev ldEnd : Nat := 0xFFFFFFFF

/-- First entry of a chain, from index `i`, that `f` accepts; `fuel` bounds the chain. -/
def State.ldChain (s : State) (l : Led) (f : Nat → Bool) : Nat → Nat → Option Nat
  | 0, _ => none
  | n + 1, i => if i = ldEnd ∨ l.n ≤ i then none else if f i then some i else s.ldChain l f n (s.ldNext l i)

/-- First entry of row `r` in a state that `f` accepts. -/
def State.ldFind (s : State) (l : Led) (r : Nat) (f : Nat → Bool) : Option Nat :=
  s.ldChain l (fun i => s.ldLocal l i = r && f i) l.n (s.loadN (l.bucketOf r) 4)

/-- Take entry `i` out of its chain: the link that names it, at address `a` and below, is set to its NEXT. -/
def State.ldUnlink (s : State) (l : Led) (i : Nat) : Nat → Nat → State
  | 0, _ => s
  | n + 1, a =>
    let j := s.loadN a 4
    if j = i then s.saveN a 4 (s.ldNext l i)
    else if j = ldEnd ∨ l.n ≤ j then s
    else s.ldUnlink l i n (l.at_ j + 0x18)

/-- Free an entry. -/
def State.ldFree (s : State) (l : Led) (i : Nat) : State :=
  let s := s.ldUnlink l i (l.n + 1) (l.bucketOf (s.ldLocal l i))
  (s.save (l.at_ i) (List.replicate 64 0)).setInUse l (s.inUse l - 1)

/-- Accumulators of an entry; one on a poisoned granule carries POISON. -/
def State.ldAccs (s : State) (l : Led) (i : Nat) : List Exa :=
  (List.range l.elems).map (fun k =>
    let a := l.at_ i + 64 + 18 * k
    let x := exaOf (s.load a 18)
    if s.poisoned a 18 then x.flag 5 else x)

/-- Write the accumulators of an entry, all its granules. -/
def State.ldSetAccs (s : State) (l : Led) (i : Nat) (xs : List Exa) : State :=
  s.save (l.at_ i + 64) (sliceB (xs.flatMap Exa.bytes) 0 (l.eb - 64))

/-! ## Adding (R279) -/

/-- A gradient format: FP32 or BF16 (R263). -/
def gradNum (fmt v : Nat) : Num := if fmt = 0 then f32 v else elemNum 1 [] v

/-- Elements of gradient granules: element index, value, poison. -/
def gradElems (fmt first : Nat) (data : List Byte) (mask : Nat) : List (Nat × Num × Bool) :=
  let w := if fmt = 0 then 4 else 2
  let per := 64 / w
  (List.range (data.length / w)).map (fun k => (first * per + k, gradNum fmt (fieldAt data (w * k) w), bit mask (k / per)))

/-- Add one element, and say whether it set INEXACT and BIG. -/
def addOne (x : Exa) (v : Num) (poison : Bool) : Exa × Nat × Nat :=
  let y := ({ x with flags := 0 }).add v poison
  (x.add v poison, b2n (bit y.flags 4), b2n (bit y.flags 3))

/-- Add a list of elements to the accumulators of an entry. -/
def addElems (xs : List Exa) : List (Nat × Num × Bool) → List Exa × Nat × Nat
  | [] => (xs, 0, 0)
  | (j, v, po) :: r =>
    match xs[j]? with
    | none => addElems xs r
    | some x =>
      let (y, a, b) := addOne x v po
      let (zs, c, d) := addElems (xs.set j y) r
      (zs, a + c, b + d)

/-- A FREE entry taken for row `r`, of WORK state in lap `lap` and leg `leg`; none where the pool is full. -/
def State.ldTake (s : State) (l : Led) (r row lap leg : Nat) : Option (State × Nat) :=
  match (List.range l.n).find? (fun i => s.ldState l i = 0) with
  | none => none
  | some i =>
    let head := s.loadN (l.bucketOf r) 4
    let h := leBytes 8 r ++ leBytes 8 row ++ leBytes 1 1 ++ leBytes 1 leg ++ leBytes 2 0 ++ leBytes 4 lap ++ leBytes 4 head
      ++ List.replicate 36 0
    let s := (s.save (l.at_ i) h).saveN (l.bucketOf r) 4 i
    some ((s.setInUse l (s.inUse l + 1)).ldSetAccs l i (List.replicate l.elems { anchor := l.anchor }), i)

/-- ledger_add for the current leg (R279). A table without a valid ledger is EV_LEDGER_INVALID (R276). -/
def State.ledgerAdd (s : State) (p : Nat) (d : Table) (r row first fmt : Nat) (data : List Byte) (mask : Nat) : State :=
  match s.ledgerFor p d with
  | none => s.raise E.LEDGER_INVALID p d.num 0
  | some l =>
    let lap := s.lap p
    let leg := s.leg p
    let e := match s.ldFind l r (fun i => s.ldState l i = 1 && s.ldLap l i = lap && s.ldLeg l i = leg) with
      | some i => some (s, i)
      | none => s.ldTake l r row lap leg
    match e with
    | none => s.raise E.LEDGER_FULL p d.num 0
    | some (s, i) =>
      let (xs, inex, big) := addElems (s.ldAccs l i) (gradElems fmt first data mask)
      ((s.ldSetAccs l i xs).count R.CNT_HBM l.stack 12 inex).count R.CNT_HBM l.stack 13 big

/-! ## Fold, discard and freeing -/

/-- The ledgers of a partition. -/
def State.ledgers (s : State) (p : Nat) : List Led := ((s.tables p).filterMap (s.ledgerFor p)).eraseDups

/-- Fold one WORK entry (R280, R282). -/
def State.foldEntry (s : State) (p : Nat) (l : Led) (i : Nat) : State :=
  let s := s.count R.CNT_HBM l.stack 14 1
  match s.ldFind l (s.ldLocal l i) (fun j => s.ldState l j = 2) with
  | none => s.saveN (l.at_ i + 0x10) 1 2
  | some t =>
    let a := s.ldAccs l t
    let b := s.ldAccs l i
    let s := if (a.zip b).any (fun (x, y) => x.anchor != y.anchor) then s.raise E.LEDGER_ANCHOR p l.table 0 else s
    (s.ldSetAccs l t ((a.zip b).map (fun (x, y) => x.merge y))).ldFree l i

/-- WORK entries of a lap and leg. -/
def State.workOf (s : State) (l : Led) (lap leg : Nat) : List Nat :=
  (s.ldUsed l).filter (fun i => s.ldState l i = 1 && s.ldLap l i = lap && s.ldLeg l i = leg)

/-- The fold of the ending leg (R280). -/
def State.ledgerFold (s : State) (p : Nat) : State :=
  (s.ledgers p).foldl (fun s l => (s.workOf l (s.lap p) (s.leg p)).foldl (fun s i => s.foldEntry p l i) s) s

/-- The discard of a repeat boundary (R280). -/
def State.ledgerDiscard (s : State) (p : Nat) : State :=
  (s.ledgers p).foldl (fun s l => (s.workOf l (s.lap p) (s.leg p)).foldl (fun s i => s.ldFree l i) s) s

/-- Freeing at the boundary that ends lap `lap` (R281). -/
def State.ledgerLapFree (s : State) (p lap : Nat) : State :=
  (s.ledgers p).foldl (fun s l =>
    ((s.ldUsed l).filter (fun i => s.ldState l i = 4 || (s.ldState l i = 3 && s.ldLap l i = (lap + 2 ^ 32 - 1) % 2 ^ 32))).foldl
      (fun s i => s.ldFree l i) s) s

/-- A row of table number `t` at local index `r` is under pending sweep (R298). -/
def State.sweepPending (s : State) (p t r : Nat) : Bool :=
  match s.table p t with
  | none => false
  | some d => match s.ledgerFor p d with
    | none => false
    | some l => (s.ldFind l r (fun i => s.ldState l i = 3 && !s.ldSwept l i)).isSome

end Sys2Proof.Machine
end

