-- ==== Sys2Proof/Machine/AkcMath.lean ====
section
/-! DEFINITION. What an Akcel update computes: parameters, rules, moments and row encodings (09_update_engines.md R286
to R292, R573). -/

namespace Sys2Proof.Machine

/-- A unit descriptor (Table 9-5). -/
structure UnitD where
  kind : Nat
  priv : Bool
  digest : Bool
  state8 : Bool
  rule : Nat
  wfmt : Nat
  gfmt : Nat
  rnd : Nat
  srnd : Nat
  sat : Bool
  id : Nat
  wbase : Nat
  gbase : Nat
  sbase : Nat
  elems : Nat
  param : Nat
deriving DecidableEq, Repr

def unitOf (b : List Byte) : UnitD :=
  let f := fieldAt b 0 1
  let r := fieldAt b 4 1
  { kind := b2n (bit f 1), priv := bit f 2, digest := bit f 3, state8 := bit f 4, rule := fieldAt b 1 1 % 16
    wfmt := fieldAt b 2 1 % 32, gfmt := fieldAt b 3 1 % 32, rnd := bits r 1 0, srnd := bits r 3 2, sat := bit r 4
    id := fieldAt b 6 2, wbase := fieldAt b 8 6, gbase := fieldAt b 0x10 6, sbase := fieldAt b 0x18 6
    elems := fieldAt b 0x20 5, param := fieldAt b 0x28 6 }

/-- Reserved fields of a unit descriptor are zero and its codes are defined. -/
def unitForm (b : List Byte) : Bool :=
  let u := unitOf b
  bit (fieldAt b 0 1) 0 && bits (fieldAt b 0 1) 7 5 = 0 && bits (fieldAt b 1 1) 7 4 = 0 && decide (u.rule ≤ 5)
    && bits (fieldAt b 2 1) 7 5 = 0 && bits (fieldAt b 3 1) 7 5 = 0 && u.rnd != 3 && u.srnd != 3 && bits (fieldAt b 4 1) 7 5 = 0
    && fieldAt b 5 1 = 0 && fieldAt b 0xE 2 = 0 && fieldAt b 0x16 2 = 0 && fieldAt b 0x1E 2 = 0 && fieldAt b 0x25 3 = 0
    && fieldAt b 0x2E 2 = 0 && bits (fieldAt b 0x34 1) 7 2 = 0 && fieldAt b 0x35 3 = 0 && fieldAt b 0x3C 4 = 0
    && u.param % 64 = 0
    && (if u.kind = 0 then decide (u.wfmt ≤ 2) && decide (u.gfmt ≤ 1) && decide (1 ≤ u.elems) && u.wbase % 64 = 0
          && u.gbase % 64 = 0 && u.sbase % 64 = 0 && u.rule != 3
        else u.wfmt = 0 && u.gfmt = 0)

/-- Moments a rule keeps (Table 9-7). -/
def hasM (rule : Nat) : Bool := rule = 1 || rule = 4 || rule = 5
def hasV (rule : Nat) : Bool := rule = 2 || rule = 4

/-- Bytes of state that a rule needs for a row of `e` elements (R289). -/
def rowState (u : UnitD) (e : Nat) : Nat :=
  let one := if u.state8 then e + cdiv e 32 else 4 * e
  if u.rule = 3 then 4 else one * (b2n (hasM u.rule) + b2n (hasV u.rule))

/-! ## Parameters (R286, R290, R291) -/

def par (b : List Byte) (o : Nat) : Nat := fieldAt b o 4
abbrev pLr := 0x00
abbrev pB1 := 0x04
abbrev pOmb1 := 0x08
abbrev pB2 := 0x0C
abbrev pOmb2 := 0x10
abbrev pEps := 0x14
abbrev pGscale := 0x18
abbrev pWd := 0x1C
def clipMode (b : List Byte) : Nat := fieldAt b 0x20 1
def knots (b : List Byte) : Nat := fieldAt b 0x30 1
def knotLap (b : List Byte) (k : Nat) : Nat := par b (0x40 + 8 * k)
def knotRate (b : List Byte) (k : Nat) : Nat := par b (0x44 + 8 * k)

/-- The checks on a parameter block (R286, R290, R291). -/
def parOk (u : UnitD) (b : List Byte) : Bool :=
  decide (clipMode b ≤ 3) && decide (knots b ≤ 16)
    && (List.range (knots b - 1)).all (fun k => decide (knotLap b k < knotLap b (k + 1)))
    && (u.priv || ((f32 (par b pWd)).isZero && clipMode b = 0 && knots b = 0))
    && (u.kind = 1 || clipMode b != 2)

/-- A rate between two knots: a + (c - a) n / d, exact and rounded once. -/
def lerp (a c n d : Nat) : Nat :=
  match f32 a, f32 c with
  | x@(.fin _ _ _), y@(.fin _ _ _) =>
    let e := min x.expo y.expo
    let v := x.at_ e * ((d : Int) - n) + y.at_ e * n
    ratF32 (decide (v < 0)) v.natAbs d e
  | x, y => toF32 (Num.sum [x, (Num.sum [y, x.negate]).mul (.fin false n 0)])

/-- schedule(λ) (R291). -/
def schedule (b : List Byte) (lap : Nat) : Nat :=
  let n := knots b
  if lap ≤ knotLap b 0 then knotRate b 0
  else if knotLap b (n - 1) ≤ lap then knotRate b (n - 1)
  else match (List.range (n - 1)).find? (fun j => knotLap b j ≤ lap && decide (lap < knotLap b (j + 1))) with
    | none => knotRate b 0
    | some j => lerp (knotRate b j) (knotRate b (j + 1)) (lap - knotLap b j) (knotLap b (j + 1) - knotLap b j)

def learnRate (b : List Byte) (lap : Nat) : Nat := if knots b = 0 then par b pLr else schedule b lap

/-! ## Elements -/

/-- An element of a chunk or row: gradient, weight and moments as FP32 bits, and whether an input is poisoned. -/
structure Elem where
  g : Nat
  w : Nat
  m : Nat := 0
  v : Nat := 0
  po : Bool := false
deriving DecidableEq, Repr

def fneg (a : Nat) : Nat := a ^^^ 0x80000000

/-- Sum over a row of rounded squares, exact and rounded once. -/
def sumSq (l : List Nat) : Nat := toF32 (Num.sum (l.map (fun g => f32 (fmul g g))))

/-- The common steps on the gradients of a chunk or row (R290). -/
def prepGrads (b : List Byte) (factor : Nat) (gs : List Nat) : List Nat :=
  let gs := gs.map (fun g => fmul g (par b pGscale))
  match clipMode b with
  | 1 => gs.map (fun g => fmin (fmax g (fneg (par b 0x24))) (par b 0x24))
  | 2 =>
    let n2 := sumSq gs
    let c := par b 0x24
    if (f32 (fmul c c)).lt (f32 n2) then
      let f := fdiv c (fsqrt n2)
      gs.map (fun g => fmul g f)
    else gs
  | 3 => gs.map (fun g => fmul g factor)
  | _ => gs

/-- sign(c) of LION. -/
def fsign (c : Nat) : Nat :=
  match f32 c with
  | .nan => nan32
  | .inf n => if n then 0xBF800000 else 0x3F800000
  | .fin n m _ => if m = 0 then 0 else if n then 0xBF800000 else 0x3F800000

/-- The rule of one element (Table 9-7); `d` is ROW_ADAGRAD's denominator. -/
def ruleStep (rule : Nat) (b : List Byte) (lr d : Nat) (x : Elem) : Elem :=
  let n := fneg lr
  match rule with
  | 0 => { x with w := ffma n x.g x.w }
  | 1 =>
    let m := ffma (par b pB1) x.m x.g
    { x with m := m, w := ffma n m x.w }
  | 2 =>
    let v := fadd x.v (fmul x.g x.g)
    let u := fdiv x.g (fadd (fsqrt v) (par b pEps))
    { x with v := v, w := ffma n u x.w }
  | 3 => { x with w := ffma n (fdiv x.g d) x.w }
  | 4 =>
    let m := ffma (par b pB1) x.m (fmul (par b pOmb1) x.g)
    let v := ffma (par b pB2) x.v (fmul (par b pOmb2) (fmul x.g x.g))
    let u := fdiv m (fadd (fsqrt v) (par b pEps))
    { x with m := m, v := v, w := ffma n u x.w }
  | _ =>
    let c := ffma (par b pB1) x.m (fmul (par b pOmb1) x.g)
    { x with m := ffma (par b pB2) x.m (fmul (par b pOmb2) x.g), w := ffma n (fsign c) x.w }

/-- Everything an update computes over the elements of a chunk or row, with ROW_ADAGRAD's accumulator `a` (R290). -/
def updateAll (u : UnitD) (b : List Byte) (lap factor a : Nat) (l : List Elem) : List Elem × Nat :=
  let gs := prepGrads b factor (l.map (·.g))
  let lr := learnRate b lap
  let dec (w : Nat) : Nat := if (f32 (par b pWd)).isZero then w else ffma (fneg (fmul lr (par b pWd))) w w
  let a' := if u.rule = 3 then fadd a (fdiv (sumSq gs) (toF32 (.fin false l.length 0))) else a
  let d := fadd (fsqrt a') (par b pEps)
  let all := (u.rule = 3 || clipMode b = 2) && l.any (·.po)
  ((l.zip gs).map (fun (x, g) => ruleStep u.rule b lr d { x with g := g, w := dec x.w, po := x.po || all }), a')

/-! ## Draws (R292) -/

/-- Akcel draw for purpose 0 weight, 1 first moment, 2 second moment; the scope bit is 0 for a table, 1 for a dense
unit. -/
def akcDraw (seed lap : Nat) (u : UnitD) (purpose pos e : Nat) : Nat :=
  philox lap (2 ^ 30 + purpose * 2 ^ 28 + (1 - u.kind) * 2 ^ 27 + u.id) (pos / 65536 % 2 ^ 32) (pos % 65536 * 65536 + e / 4)
    (seed % 2 ^ 32) (seed / 2 ^ 32) (e % 4)

/-! ## Moments in 8 bits (R289) -/

/-- Split a list in pieces of `n`. -/
def blocksOf {α : Type} (n : Nat) : Nat → List α → List (List α)
  | 0, _ => []
  | _, [] => []
  | f + 1, l => l.take n :: blocksOf n f (l.drop n)

/-- Encode moments in blocks of 32: value bytes, scale bytes, saturations. `sf` and `ef` are the scale and element
formats. -/
def encBlocks (sf ef : Nat) (xs : List (Num × Rnd)) : List Nat × List Nat × Nat :=
  let rs := (blocksOf 32 xs.length xs).map (fun g => quantGroup sf ef [] false (.fin false 1 0) g)
  (rs.flatMap (fun r => r.2.map (·.1)), rs.map (·.1), (rs.flatMap (fun r => r.2.map (·.2))).countP id)

/-- Read an 8-bit first moment and second moment. -/
def readM (q s : Nat) : Nat := toF32 ((elemNum 3 [] q).mul (scaleNum 14 s))
def readV (q s : Nat) : Nat :=
  let r := toF32 ((Num.ofInt (q : Int) 0).mul (scaleNum 15 s))
  fmul r r

/-! ## Table rows (R198, R202) -/

/-- Value of a table element under its scales, rounded once. -/
def rowElem (efmt q : Nat) (s s2 : Num) : Nat :=
  toF32 (((if isIntFmt efmt then Num.ofInt (elemInt efmt q) 0 else elemNum efmt [] q).mul s).mul s2)

/-- Encode row weights: element codes, scale codes, saturations. -/
def encRow (d : Table) (sat : Bool) (s2 : Num) (xs : List (Num × Rnd)) : List Nat × List Nat × Nat :=
  if d.group != 0 then
    let rs := (blocksOf d.groupSize xs.length xs).map (fun g => quantGroup d.sfmt d.efmt [] sat s2 g)
    (rs.flatMap (fun r => r.2.map (·.1)), rs.map (·.1), (rs.flatMap (fun r => r.2.map (·.2))).countP id)
  else
    let rs : List (Nat × Bool) := match s2 with
      | .fin false (m + 1) e => xs.map (fun (x, r) => quantElem d.efmt [] r sat x (m + 1) e)
      | _ => xs.map (fun (_, r) => convNum d.efmt r sat .nan)
    (rs.map (·.1), [], (rs.map (·.2)).countP id)

end Sys2Proof.Machine
end

