-- ==== Sys2Proof/Machine/Akcel.lean ====
section
/-! DEFINITION. Akcel engines, pools, sweeps and the weight digest (09_update_engines.md R273 to R275, R283 to R307). -/

namespace Sys2Proof.Machine

/-! ## Granule buffers -/

/-- Whole granules of memory with their poison marks. -/
structure Buf where
  base : Nat
  bytes : List Byte
  po : List Bool
deriving DecidableEq, Repr

/-- The granules that hold `n` bytes from `a`, a multiple of 64. -/
def State.buf (s : State) (a n : Nat) : Buf :=
  let k := cdiv n 64
  ⟨a, s.load a (64 * k), (List.range k).map (fun i => s.poisoned (a + 64 * i) 64)⟩

/-- A byte range of the buffer touches a poisoned granule. -/
def Buf.bad (b : Buf) (o n : Nat) : Bool :=
  (List.range (if n = 0 then 0 else (o + n - 1) / 64 - o / 64 + 1)).any (fun i => b.po.getD (o / 64 + i) false)

/-- Replace bytes. -/
def Buf.put (b : Buf) (o : Nat) (l : List Byte) : Buf := { b with bytes := b.bytes.take o ++ l ++ b.bytes.drop (o + l.length) }

/-- Mark the granules of a byte range. -/
def Buf.mark (b : Buf) (o n : Nat) : Buf :=
  if n = 0 then b else { b with po := b.po.zipIdx.map (fun (x, i) => x || (decide (o / 64 ≤ i) && decide (i ≤ (o + n - 1) / 64))) }

def Buf.marks (b : Buf) (l : List (Nat × Nat)) : Buf := l.foldl (fun b r => b.mark r.1 r.2) b

/-- Write a buffer back, granule by granule. -/
def State.saveBuf (s : State) (b : Buf) : State :=
  b.po.zipIdx.foldl (fun s (p, i) => (s.snoop (b.base + 64 * i)).save (b.base + 64 * i) (sliceB b.bytes (64 * i) 64) p) s

/-- Bytes as the row hash takes them (R301): poisoned granules as 0xFF. -/
def Buf.hashed (b : Buf) (n : Nat) : List Byte :=
  (b.po.zipIdx.flatMap (fun (p, i) => if p then List.replicate 64 255 else sliceB b.bytes (64 * i) 64)).take n

/-! ## The weight digest (R304, R305) -/

/-- Hash of a digest row under lane `j` (R304). `kind` is 0 for a table row and 1 for a dense chunk. -/
def State.laneHash (s : State) (p j kind id idx : Nat) (data : List Byte) : Nat :=
  sipHash (s.rd R.GLB_DIGEST_KEY p (2 * j)) (s.rd R.GLB_DIGEST_KEY p (2 * j + 1))
    (leBytes 1 kind ++ leBytes 1 0 ++ leBytes 2 id ++ leBytes 6 idx ++ List.replicate 6 0 ++ data)

/-- Add to the four lanes: the main lanes, or the delta lanes of a capture lap (R305). -/
def State.addLanes (s : State) (p : Nat) (sweep : Option Nat) (d : List Nat) : State :=
  match sweep with
  | none => (List.range 4).foldl (fun s j =>
      s.wr R.GLB_WEIGHT_DIGEST p j ((s.rd R.GLB_WEIGHT_DIGEST p j + d.getD j 0) % 2 ^ 64)) s
  | some lap => s.updPart p (fun x =>
      let old := (x.delta.find? (fun e => e.1 = lap)).map (·.2) |>.getD [0, 0, 0, 0]
      { x with delta := x.delta.filter (fun e => e.1 != lap)
                ++ [(lap, (List.range 4).map (fun j => (old.getD j 0 + d.getD j 0) % 2 ^ 64))] })

/-- Replace a digest row's hash. -/
def State.rehash (s : State) (p : Nat) (sweep : Option Nat) (kind id idx : Nat) (old new : List Byte) : State :=
  s.addLanes p sweep ((List.range 4).map (fun j =>
    (s.laneHash p j kind id idx new + 2 ^ 64 - s.laneHash p j kind id idx old) % 2 ^ 64))

/-- At the boundary that ends lap `lap`, the delta lanes of lap `lap` - 1 join the main lanes (R305). -/
def State.foldDelta (s : State) (p lap : Nat) : State :=
  let l := (lap + 2 ^ 32 - 1) % 2 ^ 32
  match (s.part p).delta.find? (fun e => e.1 = l) with
  | none => s
  | some (_, d) => (s.addLanes p none d).updPart p (fun x => { x with delta := x.delta.filter (fun e => e.1 != l) })

/-! ## Engines (R273, R302, R303) -/

def poolSize (pool : Nat) : Nat := if pool = 0 then 34 else 5
def poolCap (pool : Nat) : Nat := if pool = 0 then 32 else 4
def poolFld (pool : Nat) : Fld := if pool = 0 then F.AKC_ENGINES_STD_FENCED else F.AKC_ENGINES_PRIV_FENCED
def poolCnt (pool : Nat) : Fld := if pool = 0 then F.AKC_ENGINES_STD_ACTIVE else F.AKC_ENGINES_PRIV_ACTIVE

def State.akcFenced (s : State) (k pool : Nat) : Nat := s.rdF R.AKC_ENGINES (poolFld pool) k 0

/-- The lowest-numbered healthy engines, as many as the pool works with. -/
def lowestHealthy (pool fenced : Nat) : Nat :=
  (((List.range (poolSize pool)).filter (fun i => !bit fenced i)).take (poolCap pool)).foldl (fun m i => m + 2 ^ i) 0

/-- The active set. -/
def State.akcActive (s : State) (k pool : Nat) : Nat :=
  match Sp.get 0 s.phys.akc (2 * k + pool) with
  | 0 => lowestHealthy pool (s.akcFenced k pool)
  | m + 1 => m

def State.setActive (s : State) (k pool m : Nat) : State :=
  { s with phys := { s.phys with akc := Sp.set 0 s.phys.akc (2 * k + pool) (m + 1) } }.wrF R.AKC_ENGINES (poolCnt pool) k 0
    (popCount m 34)

/-- Spares join at a leg boundary (R273). -/
def State.akcJoin (s : State) : State :=
  (List.range 24).foldl (fun s i => s.setActive (i / 2) (i % 2) (lowestHealthy (i % 2) (s.akcFenced (i / 2) (i % 2)))) s

def engineWord (k pool e : Nat) : Nat := unitWord (6 + pool) k e 0 0xFFFF

/-- Fence an engine: it leaves its pool at once (R273, R302); a pool without a spare left is degraded (R303). -/
def State.fenceEngine (s : State) (k pool e : Nat) : State :=
  let f := s.akcFenced k pool
  if poolSize pool ≤ e || bit f e then s else
  let act := s.akcActive k pool
  let f' := setBit f e true
  let s := s.wrF R.AKC_ENGINES (poolFld pool) k 0 f'
  let s := s.wrF R.AKC_ENGINE_FENCE (if pool = 0 then F.AKC_ENGINE_FENCE_STD else F.AKC_ENGINE_FENCE_PRIV) k 0 f'
  let s := (s.setActive k pool (setBit act e false)).event E.UNIT_FENCED 0 (engineWord k pool e) 0
  if popCount f' 34 + poolCap pool > poolSize pool then s.event E.AKC_DEGRADED 0 (engineWord k pool e) 0 else s

/-! ## Commands at their engine (R283 to R286) -/

def State.pool (s : State) (k pool : Nat) : List AkcJob := Sp.get [] s.pools (2 * k + pool)
def State.setPool (s : State) (k pool : Nat) (l : List AkcJob) : State := { s with pools := Sp.set [] s.pools (2 * k + pool) l }

/-- A command refused under R283. -/
def State.akcRefuse (s : State) (c : EngCmd) (a : Nat) : State := s.raise E.AKC_COMMAND c.part c.pos a

/-- Chunks of a dense unit. -/
def UnitD.chunks (u : UnitD) : Nat := cdiv u.elems 4096

/-- Byte ranges of a dense unit: weights, gradients and state (R284, R289). -/
def UnitD.ranges (u : UnitD) : List (Nat × Nat) :=
  let one := if u.state8 then u.elems else 4 * u.elems
  let sc := if u.state8 then alignUp (cdiv u.elems 32) 64 else 0
  let mom := alignUp one 64 + sc
  [(u.wbase, u.elems * fmtWidth u.wfmt / 8), (u.gbase, u.elems * fmtWidth u.gfmt / 8)]
    ++ (if hasM u.rule || hasV u.rule then [(u.sbase, mom * (b2n (hasM u.rule) + b2n (hasV u.rule)))] else [])

/-- A unit fits stack `k` of partition `p` (R284, R285). -/
def State.unitFits (s : State) (p k : Nat) (u : UnitD) : Bool :=
  let (lo, hi) := s.memRange 1 k
  let inS (r : Nat × Nat) : Bool := decide (lo ≤ r.1) && decide (r.1 + r.2 ≤ hi)
  inS (u.param, 192) &&
  (if u.kind = 0 then u.ranges.all inS else
    match s.table p u.id with
    | none => false
    | some d => d.grad && !isCbFmt d.efmt && decide (rowState u d.elems ≤ 64 * d.state)
        && s.shardStack p d = some k && (s.ledgerFor p d).isSome)

/-- The command is refused by the fields of its slot or its descriptor (R283). -/
def State.akcBad (s : State) (c : EngCmd) (b : List Byte) : Bool :=
  let bd := s.bindingOf c
  let u := unitOf b
  c.count != 0 || c.offset != 0 || decide (1 < bd.queue) || decide (11 < bd.inst)
    || (c.opcode != 3 && (!unitForm b || u.priv != (bd.queue = 1) || !s.unitFits c.part bd.inst u
        || (c.opcode = 2 && u.kind = 0)))

/-- First refused page of a dense unit. -/
def State.unitPages (s : State) (p k : Nat) (u : UnitD) : Option (AccRes × Nat) :=
  let rq := s.progReq p .hbm k
  ((u.param, 192) :: (if u.kind = 0 then u.ranges else [])).findSome? (fun r =>
    match s.check { rq with write := r.1 != u.param && r.1 != u.gbase } r.1 r.2 with
    | .ok => none
    | e => some (e, r.1))

/-! ## Taking a command (R275, R286, R293) -/

/-- Unfinished sweeps of a stack (R297). -/
def State.sweepsOf (s : State) (k : Nat) : List Sweep := Sp.get [] s.sweeps k
def State.setSweeps (s : State) (k : Nat) (l : List Sweep) : State :=
  let s := { s with sweeps := Sp.set [] s.sweeps k l }
  s.wrF R.AKC_SWEEP_STATUS F.AKC_SWEEP_STATUS_PENDING k 0 ((l.map (fun x => x.todo.length)).sum)

/-- A row of the local shard is bulk-resident (R296). -/
def State.bulkRow (s : State) (p : Nat) (d : Table) (r : Nat) : Bool :=
  match s.rowAt p d r with
  | .addr _ b => b
  | _ => false

/-- TOTAL entries of a unit's ledger whose rows are, or are not, bulk-resident. -/
def State.totals (s : State) (p : Nat) (d : Table) (l : Led) (bulk : Bool) : List Nat :=
  (s.ldUsed l).filter (fun i => s.ldState l i = 2 && s.bulkRow p d (s.ldLocal l i) = bulk)

/-- Parameters of a command, read once; none where the read is refused or the block fails a check (R286, R290). -/
def State.readParams (s : State) (p k : Nat) (u : UnitD) : State × Option (List Byte × Nat) :=
  let rq := s.progReq p .hbm k
  match s.check rq u.param 192 with
  | .ok =>
    let s := s.sense u.param 192 p rq.word
    let b := s.load u.param 192
    if s.poisoned u.param 192 || !parOk u b then (s, none)
    else if clipMode b = 3 then
      let a := fieldAt b 0x28 6
      (match s.check rq a 4, s.regionOf a with
        | .ok, .hbm _ =>
          let s := s.sense a 4 p rq.word
          if s.poisoned a 4 || a % 4 != 0 then (s, none) else (s, some (b, s.loadN a 4))
        | _, _ => (s, none))
    else (s, some (b, 0))
  | _ => (s, none)

/-- Drop the head of a pool that a class P error has ended. -/
def State.poolDrop (s : State) (k pool : Nat) : State := s.setPool k pool ((s.pool k pool).drop 1)

/-- The pool takes its head UPDATE (R286, R293). -/
def State.takeUpdate (s : State) (k pool : Nat) (j : AkcJob) : State :=
  let p := j.cmd.part
  let u := unitOf (s.load j.desc 64)
  let lap := s.lap p
  let rec_ := s.loadN (j.desc + 0x30) 4
  let st := s.loadN (j.desc + 0x34) 1 % 4
  let rest := (s.pool k pool).drop 1
  if rec_ = lap ∧ st = 2 then
    (s.count R.CNT_HBM k 7 1).setPool k pool ({ j with taken := true, skip := true } :: rest)
  else
    let resume := decide (rec_ = lap) && decide (st = 1)
    let s := if resume then s else
      ((s.saveN (j.desc + 0x30) 4 lap).saveN (j.desc + 0x34) 1 1).saveN (j.desc + 0x38) 4 0
    match s.readParams p k u with
    | (s, none) => (s.poolDrop k pool).akcRefuse j.cmd j.desc
    | (s, some (b, f)) =>
      let todo := if u.kind = 0 then [] else match s.table p u.id with
        | none => []
        | some d => match s.ledgerFor p d with
          | none => []
          | some l => s.totals p d l false
      s.setPool k pool ({ j with
        taken := true, lap := lap, params := b, factor := f, todo := todo
        next := if u.kind = 0 && resume then s.loadN (j.desc + 0x38) 4 else 0
        total := if u.kind = 0 then u.chunks else todo.length } :: rest)

/-- The pool takes its head SWEEP once no sweep of an earlier lap is unfinished (R297). -/
def State.takeSweep (s : State) (k pool : Nat) (j : AkcJob) : State :=
  let p := j.cmd.part
  let u := unitOf (s.load j.desc 64)
  let lap := s.lap p
  if (s.sweepsOf k).any (fun w => w.lap != lap) then s else
  let done := { j with taken := true, skip := true }
  let rest := (s.pool k pool).drop 1
  match s.table p u.id with
  | none => s
  | some d => match s.ledgerFor p d with
    | none => s
    | some l =>
      let again := (s.ldUsed l).any (fun i => s.ldState l i = 3 && s.ldLap l i = lap)
      let todo := if again then [] else s.totals p d l true
      if todo = [] then s.setPool k pool (done :: rest) else
      match s.readParams p k u with
      | (s, none) => (s.poolDrop k pool).akcRefuse j.cmd j.desc
      | (s, some (b, f)) =>
        let s := todo.foldl (fun s i => s.ldMark l i 3 lap) s
        let s := s.setSweeps k (s.sweepsOf k ++ [{ part := p, desc := j.desc, lap := lap, todo := todo, params := b, factor := f, pos := j.cmd.pos }])
        (s.wrF R.AKC_SWEEP_STATUS F.AKC_SWEEP_STATUS_CAPTURE_LAP k 0 lap).setPool k pool (done :: rest)

/-- The pool takes the command at its head, where it can (R275). A pool without an active engine refuses it (R303). -/
def State.poolTake (s : State) (k pool : Nat) : State :=
  match s.pool k pool with
  | [] => s
  | j :: rest =>
    if j.taken then s
    else if s.akcActive k pool = 0 then
      (s.setPool k pool rest).raise E.AKC_NO_POOL j.cmd.part (engineWord k pool 0) 0
    else if j.cmd.opcode = 1 then s.takeUpdate k pool j
    else if j.cmd.opcode = 2 then s.takeSweep k pool j
    else if s.sweepsOf k = [] then s.setPool k pool ({ j with taken := true, skip := true } :: rest)
    else s

/-- The engine of binding `b` takes its next command, where that is an AKC command of opcode `op`, or one of a reserved
opcode (R283). -/
def State.akcCmd (s : State) (p b op : Nat) : State :=
  match s.engNext p b with
  | none => s
  | some c =>
    let bd := s.bindingOf c
    let a := bd.base + 64 * c.desc
    if c.target != 5 then s
    else if c.opcode = 0 ∨ 3 < c.opcode then (s.engStart c).akcRefuse c a
    else if c.opcode != op then s
    else
      let s := s.engStart c
      match s.fetchDesc c bd .hbm with
      | (s, none) => s
      | (s, some b) =>
        if s.poisoned a 64 || s.akcBad c b then s.akcRefuse c a else
        let go (s : State) : State :=
          let s := s.setPool bd.inst bd.queue (s.pool bd.inst bd.queue ++ [{ cmd := c, desc := a }])
          s.poolTake bd.inst bd.queue
        if c.opcode = 3 then go s else
        match s.unitPages p bd.inst (unitOf b) with
        | some (.unmapped, x) => s.unmappedErr (s.progReq p .hbm bd.inst) x
        | some (_, x) => s.refusedErr (s.progReq p .hbm bd.inst) x
        | none => go s

/-! ## Counting (R300, R301) -/

def nonfinKey (lap stack scope id : Nat) : Nat := ((lap * 16 + stack) * 2 + scope) * 65536 + id

/-- Count non-finite weights of a unit. A stack keeps the 1,023 lowest pairs of a lap, and adds the rest into
(scope, 0xFFFF). -/
def State.addNonfin (s : State) (p k lap : Nat) (u : UnitD) (n : Nat) : State :=
  if n = 0 then s else
  let s := s.count R.CNT_HBM k 8 n
  let scope := 1 - u.kind
  s.updPart p (fun x =>
    let m := Sp.upd 0 x.nonfin (nonfinKey lap k scope u.id) (· + n)
    let mine := (m.filter (fun e => e.1 / 131072 = lap * 16 + k && e.1 % 65536 != 0xFFFF)).drop 1023
    { x with nonfin := mine.foldl (fun m e =>
        Sp.upd 0 (Sp.del e.1 m) (nonfinKey lap k (e.1 / 65536 % 2) 0xFFFF) (· + e.2)) m })

/-! ## A chunk of a dense unit -/

def rndsOf (seed lap : Nat) (u : UnitD) (rnd purpose : Nat) (pe : Nat → Nat × Nat) (n : Nat) : List Rnd :=
  (List.range n).map (fun i => rndOf rnd (akcDraw seed lap u purpose (pe i).1 (pe i).2))

/-- Byte ranges of moment `i` of element `k`: its value, its scale and its whole block. -/
def momentMarks (u : UnitD) (vo so n k : Nat) : List (Nat × Nat) :=
  if u.state8 then [(vo + k / 32 * 32, min 32 (n - k / 32 * 32)), (so + k / 32, 1)] else [(vo + 4 * k, 4)]

/-- Moment values of `n` elements from a buffer: value offset, scale offset (R289). -/
def momentRead (u : UnitD) (b : Buf) (vo so n : Nat) (f : Nat → Nat → Nat) : List Nat :=
  (List.range n).map (fun k => if u.state8 then f (fieldAt b.bytes (vo + k) 1) (fieldAt b.bytes (so + k / 32) 1)
    else fieldAt b.bytes (vo + 4 * k) 4)

/-- Write moments back: the buffer and the saturations. -/
def momentWrite (u : UnitD) (b : Buf) (vo so sf ef : Nat) (xs : List Nat) (rs : List Rnd) : Buf × Nat :=
  if u.state8 then
    let (q, sc, n) := encBlocks sf ef ((xs.map (fun x => f32 (if ef = 10 then fsqrt x else x))).zip rs)
    ((b.put vo (pack 8 q)).put so (pack 8 sc), n)
  else (b.put vo (pack 32 xs), 0)

/-- Count, report and log what a chunk or entry did. `at_` is the address of EV_AKC_POISON. -/
def State.akcCounts (s : State) (p k lap : Nat) (u : UnitD) (at_ : Nat) (out : List Elem) (sats : Nat) : State :=
  let s := (s.count R.CNT_HBM k 6 out.length).count R.CNT_HBM k 9 sats
  let s := s.addNonfin p k lap u (out.countP (fun x => !(f32 x.w).isFin))
  let po := out.countP (·.po)
  if po = 0 then s else (s.count R.CNT_HBM k 10 po).raise E.AKC_POISON p at_ (s.progReq p .hbm k).word

/-- Update chunk `i` of a dense unit on stack `k` (R287 to R292, R301, R305). -/
def State.doChunk (s : State) (p k : Nat) (j : AkcJob) (i : Nat) : State :=
  let u := unitOf (s.load j.desc 64)
  let n := min 4096 (u.elems - 4096 * i)
  let ww := fmtWidth u.wfmt / 8
  let gw := fmtWidth u.gfmt / 8
  let rq := (s.progReq p .hbm k).word
  let wa := u.wbase + 4096 * i * ww
  let ga := u.gbase + 4096 * i * gw
  let mw := if u.state8 then 1 else 4
  let sects (first : Bool) : Nat × Nat :=
    let one := alignUp (u.elems * mw) 64
    let sc := if u.state8 then alignUp (cdiv u.elems 32) 64 else 0
    let b := u.sbase + (if first then 0 else one + sc)
    (b + 4096 * i * mw, b + one + 128 * i)
  let (ma, msa) := sects true
  let (va, vsa) := sects (!hasM u.rule)
  let mn := if hasM u.rule then n * mw else 0
  let vn := if hasV u.rule then n * mw else 0
  let ms := if hasM u.rule && u.state8 then cdiv n 32 else 0
  let vs := if hasV u.rule && u.state8 then cdiv n 32 else 0
  let s := [(wa, n * ww), (ga, n * gw), (ma, mn), (msa, ms), (va, vn), (vsa, vs)].foldl (fun s r => s.sense r.1 r.2 p rq) s
  let wb := s.buf wa (n * ww)
  let gb := s.buf ga (n * gw)
  -- one buffer for values and scales of a moment: scales follow the values' granules
  let two (a na b nb : Nat) : Buf × Buf := (s.buf a na, s.buf b nb)
  let (mb, msb) := two ma mn msa ms
  let (vb, vsb) := two va vn vsa vs
  let join (x y : Buf) : Buf := ⟨x.base, x.bytes ++ y.bytes, x.po ++ y.po⟩
  let mj := join mb msb
  let vj := join vb vsb
  let mso := mb.bytes.length
  let vso := vb.bytes.length
  let mVals := if hasM u.rule then momentRead u mj 0 mso n readM else List.replicate n 0
  let vVals := if hasV u.rule then momentRead u vj 0 vso n readV else List.replicate n 0
  let marksM (e : Nat) := if hasM u.rule then momentMarks u 0 mso n e else []
  let marksV (e : Nat) := if hasV u.rule then momentMarks u 0 vso n e else []
  let badAt (b : Buf) (l : List (Nat × Nat)) : Bool := l.any (fun r => b.bad r.1 r.2)
  let ins := (List.range n).map (fun e =>
    ({ g := toF32 (elemNum u.gfmt [] (fieldAt gb.bytes (gw * e) gw)), w := toF32 (elemNum u.wfmt [] (fieldAt wb.bytes (ww * e) ww))
       m := mVals.getD e 0, v := vVals.getD e 0
       po := gb.bad (gw * e) gw || wb.bad (ww * e) ww || badAt mj (if u.state8 then [(e, 1), (mso + e / 32, 1)].filter (fun _ => hasM u.rule) else marksM e)
         || badAt vj (if u.state8 then [(e, 1), (vso + e / 32, 1)].filter (fun _ => hasV u.rule) else marksV e) } : Elem))
  let (out, _) := updateAll u j.params j.lap j.factor 0 ins
  let seed := s.rdEff R.SEQ_SEED1 p 0
  let pe (e : Nat) : Nat × Nat := let q := 4096 * i + e; (q / 1024, q % 1024)
  let enc := (out.zip (rndsOf seed j.lap u u.rnd 0 pe n)).map (fun (x, r) => convNum u.wfmt r u.sat (f32 x.w))
  let bads := (List.range n).filter (fun e => (out.getD e { g := 0, w := 0 }).po)
  let wb' := (wb.put 0 (pack (8 * ww) (enc.map (·.1)))).marks (bads.map (fun e => (ww * e, ww)))
  let (mj', sm) := if hasM u.rule then
      momentWrite u mj 0 mso 14 3 (out.map (·.m)) (rndsOf seed j.lap u u.srnd 1 pe n) else (mj, 0)
  let (vj', sv) := if hasV u.rule then
      momentWrite u vj 0 vso 15 10 (out.map (·.v)) (rndsOf seed j.lap u u.srnd 2 pe n) else (vj, 0)
  let mj' := mj'.marks (bads.flatMap marksM)
  let vj' := vj'.marks (bads.flatMap marksV)
  let cut (b : Buf) (x : Buf) (o : Nat) : Buf := ⟨x.base, sliceB b.bytes o x.bytes.length, (b.po.drop (o / 64)).take x.po.length⟩
  let s := [wb', cut mj' mb 0, cut mj' msb mso, cut vj' vb 0, cut vj' vsb vso].foldl (fun s b => s.saveBuf b) s
  let s := if u.digest then s.rehash p none 1 u.id i (wb.hashed (n * ww)) (wb'.hashed (n * ww)) else s
  s.akcCounts p k j.lap u wa out ((enc.countP (·.2)) + sm + sv)

/-! ## An entry of a table unit -/

/-- Update the row of ledger entry `i`, whose record lies at `a` (R287 to R292, R301, R305). -/
def State.doRow (s : State) (p k : Nat) (u : UnitD) (lap factor : Nat) (params : List Byte) (sweep : Option Nat) (d : Table) (l : Led)
    (i a : Nat) : State :=
  let n := d.elems
  let w := fmtWidth d.efmt
  let rq := (s.progReq p .hbm k).word
  let need := 64 * d.dataGran + rowState u n
  let s := s.sense a need p rq
  let s := s.sense (l.at_ i) l.eb p rq
  let b := s.buf a need
  let accs := s.ldAccs l i
  let row := s.ldRow l i
  let so := 64 * d.dataGran
  let sc := 64 * d.valGran
  let codes := unpack w n (b.bytes.take (64 * d.valGran))
  let s2 := if d.s2 then f32 (fieldAt b.bytes (sc + 60) 4) else .fin false 1 0
  let scaleOf (e : Nat) : Num := if d.group = 0 then .fin false 1 0 else scaleNum d.sfmt (fieldAt b.bytes (sc + e / d.groupSize) 1)
  let one := if u.state8 then n + cdiv n 32 else 4 * n
  let mo := so
  let vo := so + (if hasM u.rule then one else 0)
  let mVals := if hasM u.rule then momentRead u b mo (mo + n) n readM else List.replicate n 0
  let vVals := if hasV u.rule then momentRead u b vo (vo + n) n readV else List.replicate n 0
  let a0 := if u.rule = 3 then fieldAt b.bytes so 4 else 0
  let hasSc := d.group != 0 || d.s2
  let momIn (o e : Nat) : Bool := if u.state8 then b.bad (o + e) 1 || b.bad (o + n + e / 32) 1 else b.bad (o + 4 * e) 4
  let wBytes (e : Nat) : Nat × Nat := (w * e / 8, (w * e + w - 1) / 8 - w * e / 8 + 1)
  let ins := (List.range n).map (fun e =>
    let x := accs.getD e {}
    ({ g := (x.read f32fmt .even false).1, w := rowElem d.efmt (codes.getD e 0) (scaleOf e) s2
       m := mVals.getD e 0, v := vVals.getD e 0
       po := bit x.flags 5 || b.bad (wBytes e).1 (wBytes e).2 || (hasSc && b.bad sc 64)
         || (hasM u.rule && momIn mo e) || (hasV u.rule && momIn vo e) || (u.rule = 3 && b.bad so 4) } : Elem))
  let (out, a1) := updateAll u params lap factor a0 ins
  let seed := s.rdEff R.SEQ_SEED1 p 0
  let pe (e : Nat) : Nat × Nat := (row, e)
  let (q, scs, sw) := encRow d u.sat s2 ((out.map (fun x => f32 x.w)).zip (rndsOf seed lap u u.rnd 0 pe n))
  let bads := (List.range n).filter (fun e => (out.getD e { g := 0, w := 0 }).po)
  let b' := (b.put 0 (sliceB (pack w q) 0 (64 * d.valGran))).put sc (pack 8 scs)
  let (b', sm) := if hasM u.rule then momentWrite u b' mo (mo + n) 14 3 (out.map (·.m)) (rndsOf seed lap u u.srnd 1 pe n) else (b', 0)
  let (b', sv) := if hasV u.rule then momentWrite u b' vo (vo + n) 15 10 (out.map (·.v)) (rndsOf seed lap u u.srnd 2 pe n) else (b', 0)
  let b' := if u.rule = 3 then b'.put so (leBytes 4 a1) else b'
  let grp (e : Nat) : List (Nat × Nat) :=
    if d.group = 0 then [wBytes e]
    else [(w * (e / d.groupSize * d.groupSize) / 8, w * d.groupSize / 8), (sc, 64)]
  let b' := b'.marks (bads.flatMap (fun e => grp e
    ++ (if hasM u.rule then momentMarks u mo (mo + n) n e else []) ++ (if hasV u.rule then momentMarks u vo (vo + n) n e else [])
    ++ (if u.rule = 3 then [(so, 4)] else [])))
  let s := s.saveBuf b'
  let dn := 64 * d.dataGran
  let s := if u.digest then s.rehash p sweep 0 d.num row (b.hashed dn) (b'.hashed dn) else s
  s.akcCounts p k lap u a out (sw + sm + sv)

/-- Update one TOTAL entry of a table unit; false where its far row is not staged (R242, R294). -/
def State.doEntry (s : State) (p k : Nat) (j : AkcJob) (i : Nat) : State × Bool :=
  let u := unitOf (s.load j.desc 64)
  match s.table p u.id with
  | none => (s, true)
  | some d => match s.ledgerFor p d with
    | none => (s, true)
    | some l =>
      let r := s.ldLocal l i
      let rq := s.progReq p .hbm k
      let go (a : Nat) : State :=
        match s.check { rq with write := true } a d.rowBytes with
        | .ok => (s.doRow p k u j.lap j.factor j.params none d l i a).ldMark l i 4 j.lap
        | .unmapped => s.unmappedErr rq a
        | .refused => s.refusedErr rq a
      match s.rowAt p d r with
      | .addr a false => (go a, true)
      | .slot a => (((go a).saveN (a - 64 + 8) 4 j.lap).saveN (a - 64 + 0x0C) 1 2, true)
      | .missing die => (s.farMiss p 2 die (d.num * 2 ^ 48 + r), false)
      | _ => (s, true)

/-! ## Engines at work (R275, R302) -/

/-- The pool's last active engine has gone: every command of the pool is refused (R303). -/
def State.poolLost (s : State) (k pool e : Nat) : State :=
  if s.akcActive k pool != 0 then s else
  let l := s.pool k pool
  let s := s.setPool k pool []
  l.foldl (fun s j => s.raise E.AKC_NO_POOL j.cmd.part (engineWord k pool e) 0) s

/-- An engine's check fails: nothing is written, the engine is fenced, and the chunk or entry is dealt again (R302). -/
def State.engineFail (s : State) (k pool e : Nat) : State :=
  let s := (s.count R.CNT_HBM k 11 1).raise E.AKC_ENGINE_ERR 0 (engineWord k pool e) 0
  (s.fenceEngine k pool e).poolLost k pool e

/-- The head command has dealt everything. -/
def AkcJob.isOver (j : AkcJob) : Bool := j.taken && (j.skip || decide (j.total ≤ j.next))

/-- AKC_CHUNK_DONE: engine `e` of a pool ends the next chunk or entry of the pool's command (R275). -/
def State.chunkDone (s : State) (k pool e : Nat) (fail : Bool) : State :=
  match s.pool k pool with
  | [] => s
  | j :: rest =>
    if !j.taken || j.isOver || !bit (s.akcActive k pool) e then s
    else if fail then s.engineFail k pool e
    else
      let p := j.cmd.part
      let (s, ok) := if (unitOf (s.load j.desc 64)).kind = 0 then
          ((s.doChunk p k j j.next).saveN (j.desc + 0x38) 4 (j.next + 1), true)
        else s.doEntry p k j (j.todo.getD j.next 0)
      if !ok then s else
      let j := { j with next := j.next + 1 }
      let s := s.setPool k pool (j :: rest)
      if j.isOver then s.saveN (j.desc + 0x34) 1 2 else s

/-- AKC_CMD_COMPLETE: the head command completes, and the next is taken (R283). -/
def State.akcComplete (s : State) (k pool : Nat) : State :=
  match s.pool k pool with
  | [] => s
  | j :: rest =>
    if !j.isOver then s.poolTake k pool else
    let s := if j.skip then s else s.saveN (j.desc + 0x34) 1 2
    ((s.setPool k pool rest).cmdDone j.cmd).poolTake k pool

/-- The drain of a repeat boundary: chunks and entries dealt are complete, and DONE tells them (R294). Commands of
partition `p` leave their pools. -/
def State.akcDrain (s : State) (p : Nat) : State :=
  (List.range 24).foldl (fun s i =>
    let k := i / 2
    let l := s.pool k (i % 2)
    let s := l.foldl (fun s j => if j.cmd.part = p && j.taken && !j.skip && (unitOf (s.load j.desc 64)).kind = 0 && !j.isOver then
      s.saveN (j.desc + 0x38) 4 j.next else s) s
    (s.setPool k (i % 2) (l.filter (fun j => j.cmd.part != p))).poolTake k (i % 2)) s

/-! ## The bulk sweep (R297, R298) -/

/-- The oldest captured row of stack `k` is updated and written back (R297). `fail` is a failed check of engine `e`. -/
def State.sweepRow (s : State) (k pool e : Nat) (fail : Bool) : State :=
  match s.sweepsOf k with
  | [] => s
  | w :: rest =>
    match w.todo with
    | [] => s.setSweeps k rest
    | i :: more =>
      let u := unitOf (s.load w.desc 64)
      if b2n u.priv != pool || !bit (s.akcActive k pool) e then s
      else if fail then s.engineFail k pool e
      else
        let p := w.part
        let fin (s : State) : State :=
          let s := s.setSweeps k (if more = [] then rest else { w with todo := more } :: rest)
          let s := s.count R.CNT_HBM k 15 1
          if more = [] then (s.poolTake k 0).poolTake k 1 else s
        match s.table p u.id with
        | none => fin s
        | some d => match s.ledgerFor p d with
          | none => fin s
          | some l =>
            let rq := s.progReq p .hbm k
            match s.rowAt p d (s.ldLocal l i) with
            | .addr a true =>
              (match s.check { rq with write := true } a d.rowBytes with
                | .ok => fin ((s.doRow p k u w.lap w.factor w.params (some w.lap) d l i a).ldMark l i (3 + 8) w.lap)
                | .unmapped => s.unmappedErr rq a
                | .refused => s.refusedErr rq a)
            | _ => fin s

/-- A sweep that partition `p` captured before lap `lap` is unfinished (R298). -/
def State.sweepsBefore (s : State) (p lap : Nat) : Bool :=
  (List.range 12).any (fun k => (s.sweepsOf k).any (fun w => w.part = p && w.lap != lap))

/-! ## AKCs_HASH_CTRL (R306) -/

/-- A GO of the hash operation. -/
def State.hashGo (s : State) (k v : Nat) : State :=
  if 12 ≤ k then s else
  if s.rdF R.AKC_HASH_CTRL F.AKC_HASH_CTRL_BUSY k 0 = 1 then s.regErr else
  let s := s.wrFs R.AKC_HASH_CTRL k 0 [(F.AKC_HASH_CTRL_DONE, 0), (F.AKC_HASH_CTRL_ERROR, 0),
    (F.AKC_HASH_CTRL_SUBTRACT, F.AKC_HASH_CTRL_SUBTRACT.get v)]
  if !s.inReady then
    s.wrFs R.AKC_HASH_CTRL k 0 [(F.AKC_HASH_CTRL_ERROR, 2), (F.AKC_HASH_CTRL_DONE, 1)]
  else s.wrF R.AKC_HASH_CTRL F.AKC_HASH_CTRL_BUSY k 0 1

/-- Near digest rows of a unit: kind, index, address and bytes. -/
def State.digestRows (s : State) (p : Nat) (u : UnitD) : List (Nat × Nat × Nat) :=
  if u.kind = 0 then
    let ww := fmtWidth u.wfmt / 8
    (List.range u.chunks).map (fun i => (i, u.wbase + 4096 * i * ww, min 4096 (u.elems - 4096 * i) * ww))
  else match s.table p u.id with
    | none => []
    | some d =>
      let near := match s.placeFor p d with
        | some pd => pd.near
        | none => d.rows
      (List.range near).filterMap (fun r => match s.globalRow p d r, s.rowAt p d r with
        | some row, .addr a _ => some (row, a, 64 * d.dataGran)
        | _, _ => none)

/-- The hash operation ends (R306): the unit is of the partition whose binding tenants its stack's descriptor page. -/
def State.hashEnd (s : State) (k p : Nat) : State :=
  if 12 ≤ k ∨ s.rdF R.AKC_HASH_CTRL F.AKC_HASH_CTRL_BUSY k 0 = 0 then s else
  let fin (s : State) (e : Nat) : State :=
    s.wrFs R.AKC_HASH_CTRL k 0 [(F.AKC_HASH_CTRL_ERROR, e), (F.AKC_HASH_CTRL_DONE, 1), (F.AKC_HASH_CTRL_BUSY, 0)]
  let a := s.rdF R.AKC_HASH_SRC F.AKC_HASH_SRC_DESC k 0 * 64
  let rq := s.progReq p .hbm k
  if s.check rq a 64 != .ok then fin s 3 else
  let s := s.sense a 64 p rq.word
  let b := s.load a 64
  let u := unitOf b
  if s.poisoned a 64 then fin s 3
  else if !unitForm b || !s.unitFits p k u then fin s 1
  else
    let rows := s.digestRows p u
    if rows.any (fun r => s.check rq r.2.1 r.2.2 != .ok) then fin s 3 else
    let sub := s.rdF R.AKC_HASH_CTRL F.AKC_HASH_CTRL_SUBTRACT k 0 = 1
    let s := rows.foldl (fun s r =>
      let s := s.sense r.2.1 r.2.2 p rq.word
      let h := (s.buf r.2.1 r.2.2).hashed r.2.2
      s.addLanes p none ((List.range 4).map (fun j =>
        let x := s.laneHash p j (1 - u.kind) u.id r.1 h
        if sub then 2 ^ 64 - x else x))) s
    fin s 0

/-! ## The commands -/

/-- UPDATE (R283, R293). -/
def execUpdate (part binding : Nat) (errs : List (Nat × Nat)) (s : State) : Host.Outcome State Fault Refusal :=
  .next ((s.plant errs).akcCmd part binding 1)
/-- SWEEP (R297). -/
def execSweep (part binding : Nat) (errs : List (Nat × Nat)) (s : State) : Host.Outcome State Fault Refusal :=
  .next ((s.plant errs).akcCmd part binding 2)
/-- DRAIN (R299). -/
def execDrain (part binding : Nat) (errs : List (Nat × Nat)) (s : State) : Host.Outcome State Fault Refusal :=
  .next ((s.plant errs).akcCmd part binding 3)
/-- AKC_CHUNK_DONE (R275, R302). -/
def execAkcChunkDone (stack pool engine : Nat) (fail : Bool) (errs : List (Nat × Nat)) (s : State) :
    Host.Outcome State Fault Refusal := .next ((s.plant errs).chunkDone stack pool engine fail)
/-- AKC_CMD_COMPLETE (R283). -/
def execAkcCmdComplete (stack pool : Nat) (s : State) : Host.Outcome State Fault Refusal := .next (s.akcComplete stack pool)
/-- A write of AKCs_ENGINE_FENCE. -/
def State.writeEngineFence (s : State) (k v : Nat) : State :=
  (List.range 39).foldl (fun s i =>
    if !bit v i then s
    else if i < 34 then (s.fenceEngine k 0 i).poolLost k 0 i
    else (s.fenceEngine k 1 (i - 34)).poolLost k 1 (i - 34)) s

/-- AKC_ENGINE_FENCE_WRITE (R302): a W1S write fences engines without a retry. -/
def execAkcEngineFenceWrite (stack value : Nat) (s : State) : Host.Outcome State Fault Refusal :=
  .next (if stack < 12 then s.writeEngineFence stack value else s)
/-- HASH_GO (R306). -/
def execHashGo (stack value : Nat) (s : State) : Host.Outcome State Fault Refusal := .next (s.hashGo stack value)
/-- HASH_END (R306): `part` is the partition whose unit the descriptor describes. -/
def execHashEnd (stack part : Nat) (errs : List (Nat × Nat)) (s : State) : Host.Outcome State Fault Refusal :=
  .next ((s.plant errs).hashEnd stack part)

end Sys2Proof.Machine
end

