-- ==== Sys2Proof/Machine/Backfill.lean ====
section
/-! DEFINITION. Backfill banks and tasks (04_core.md R163 to R168, 02_laps_and_legs.md R83 to R86). -/

namespace Sys2Proof.Machine

/-- Address of a cluster's CNT_BF_REJECT. -/
def State.bfReject (s : State) (c : Nat) : State := s.count R.CNT_CLU c 13 1

/-- A task image is refused: queue full, LENGTH 0 or CORE_MASK 0 (R168). -/
def State.bfTaskBad (s : State) (c x v : Nat) : Bool :=
  F.CLU_BF_TASK_LENGTH.get v = 0 || F.CLU_BF_TASK_CORE_MASK.get v = 0
    || decide (16 ≤ ((s.hub c).queue.filter (fun t => t.ctx = x)).length)

/-- A write to CLU_BF_TASK x of cluster `c` (R168). -/
def State.bfTaskWrite (s : State) (c x v : Nat) : State :=
  if s.bfTaskBad c x v then s.bfReject c else
  let p := (s.partOfCluster c).getD 0
  let t : BfTask := { ctx := x, mask := F.CLU_BF_TASK_CORE_MASK.get v, tag := F.CLU_BF_TASK_TAG.get v
                      cue := F.CLU_BF_TASK_CUE.get v, param := F.CLU_BF_TASK_PARAM.get v
                      len := F.CLU_BF_TASK_LENGTH.get v, fn := s.bfFn p x }
  (s.updHub c (fun h => { h with queue := h.queue ++ [t] })).syncBf c

/-- A task of context `x` is queued or runs on a core of `mask` (R163). -/
def Hub.bankBusy (h : Hub) (x mask : Nat) : Bool :=
  (h.queue ++ h.running).any (fun t => t.ctx = x && t.mask &&& mask != 0)

/-- End of a bank load with its ERROR. -/
def State.bfLoadDone (s : State) (c x err : Nat) : State :=
  (s.wrFs R.CLU_BF_STATUS c x [(F.CLU_BF_STATUS_ERROR, err), (F.CLU_BF_STATUS_DONE, 1), (F.CLU_BF_STATUS_BUSY, 0)]).updHub c
    (fun h => { h with load := Sp.del x h.load })

/-- A GO to CLU_BF_LOAD_CTRL x with image `v` (R163): ignored while busy. -/
def State.bfLoadGo (s : State) (c x v : Nat) : State :=
  if s.rdF R.CLU_BF_STATUS F.CLU_BF_STATUS_BUSY c x = 1 then s.regErr else
  let mask := F.CLU_BF_LOAD_CTRL_CORE_MASK.get v
  let first := F.CLU_BF_LOAD_CTRL_FIRST.get v
  let cnt := F.CLU_BF_LOAD_CTRL_COUNT.get v
  let s := s.wr R.CLU_BF_LOAD_CTRL c x (atBits 47 32 mask + atBits 21 16 first + atBits 14 8 cnt)
  let s := s.wrFs R.CLU_BF_STATUS c x [(F.CLU_BF_STATUS_DONE, 0), (F.CLU_BF_STATUS_ERROR, 0)]
  if cnt = 0 ∨ 64 < first + cnt then s.bfLoadDone c x 1
  else if (s.hub c).bankBusy x mask then s.bfLoadDone c x 2
  else
    let src := bits (s.rd R.CLU_BF_LOAD_SRC c x) 47 5 * 32
    (s.wrF R.CLU_BF_STATUS F.CLU_BF_STATUS_BUSY c x 1).updHub c
      (fun h => { h with load := Sp.put x (src, mask, first, cnt) h.load })

/-- The requester of a bank load: the context's function (DEDUCED, log 36). -/
def State.bfLoadReq (s : State) (c x : Nat) : Req :=
  let p := (s.partOfCluster c).getD 0
  { kind := .command, fn := s.bfFn p x, part := p, blk := Blk.clu.byte, inst := c / 16 }

/-- The bank load of context `x` of cluster `c` reads its entries and ends (R163); the ERROR comes with the state. -/
def State.bfLoadEnd (s : State) (c x : Nat) : State :=
  match Sp.find x (s.hub c).load with
  | none => s
  | some (src, mask, first, cnt) =>
    let rq := s.bfLoadReq c x
    if (s.hub c).bankBusy x mask then s.bfLoadDone c x 2 else
    match s.check rq src (32 * cnt) with
    | .unmapped => (s.unmappedErr rq src).bfLoadDone c x 3
    | .refused => (s.refusedErr rq src).bfLoadDone c x 3
    | .ok =>
      let s := s.sense src (32 * cnt) rq.part rq.word
      if s.poisoned src (32 * cnt) then s.bfLoadDone c x 3 else
      let ents := (List.range cnt).map (fun i => (64 * x + first + i, s.load (src + 32 * i) 32))
      let s := (bitList mask 16).foldl (fun s k => s.updCore (16 * c + k) (fun y =>
        { y with bank := ents.foldl (fun b e => Sp.put e.1 e.2 b) y.bank })) s
      s.bfLoadDone c x 0

/-- A core may take part of a task in cycle `h` (R164): in a rest run with LENGTH cycles left from h + 3, and free of
another task. -/
def State.bfCoreFree (s : State) (c k h len : Nat) : Bool :=
  (match (s.core (16 * c + k)).rest with
    | some (a, b) => a ≤ h && h + 3 + len ≤ b
    | none => false) && !(s.hub c).running.any (fun t => bit t.mask k)

/-- The task the hub takes in cycle `h` (R83, R164): the first context in turn whose oldest task fits. -/
def State.bfPick (s : State) (c h : Nat) : Option BfTask :=
  let hb := s.hub c
  (List.range 3).findSome? fun i =>
    match hb.queue.find? (fun t => t.ctx = (hb.next + i) % 3) with
    | some t => if (bitList t.mask 16).all (fun k => s.bfCoreFree c k h t.len) then some t else none
    | none => none

/-- Dispatch of a backfill task by the hub of cluster `c` in cycle `h` (R83, R164). -/
def State.bfDispatch (s : State) (c h : Nat) : State :=
  match s.bfPick c h with
  | none => s
  | some t =>
    let s := s.updHub c (fun hb => { hb with queue := hb.queue.erase t, running := hb.running ++ [{ t with at_ := h }], next := (t.ctx + 1) % 3 })
    let s := (bitList t.mask 16).foldl (fun s k =>
      let n := 16 * c + k
      let il := ((s.core n).plan (t.ctx + 1) t.cue).il
      s.updCore n (fun x => { x with cues := x.cues ++ [{ ctx := t.ctx + 1, first := t.cue, param := t.param, start := h + 3, il := il, tag := t.tag }] })) s
    (s.count R.CNT_CLU c 11 1).syncBf c

/-- Every entry of the task has issued by cycle `cy`, and its G requests have completed (R164). -/
def State.bfFinished (s : State) (c cy : Nat) (t : BfTask) : Bool :=
  (bitList t.mask 16).all (fun k => (s.core (16 * c + k)).cues.all (fun q => q.ctx != t.ctx + 1 || q.start + q.il ≤ cy))
    && !s.greqs.any (fun g => g.core / 16 = c && g.ctx = t.ctx + 1 && bit t.mask (g.core % 16))

/-- A running task of context `x` with TAG `tag` ends on cluster `c` by cycle `cy` of its own progress (R167). -/
def State.bfTaskComplete (s : State) (c x tag cy : Nat) : State :=
  match (s.hub c).running.find? (fun t => t.ctx = x && t.tag = tag && s.bfFinished c cy t) with
  | none => s
  | some t => (((s.bfComplete ((s.partOfCluster c).getD 0) t 0).bfRemove c t)).syncBf c

/-- BF_TASK_WRITE (R168). -/
def execBfTaskWrite (cluster ctx value : Nat) (s : State) : Host.Outcome State Fault Refusal :=
  .next (s.bfTaskWrite cluster ctx value)
/-- BF_LOAD_GO (R163). -/
def execBfLoadGo (cluster ctx value : Nat) (s : State) : Host.Outcome State Fault Refusal :=
  .next (s.bfLoadGo cluster ctx value)
/-- BACKFILL_DISPATCH (R83, R164). -/
def execBackfillDispatch (cluster cycle : Nat) (s : State) : Host.Outcome State Fault Refusal :=
  .next (s.bfDispatch cluster cycle)
/-- BACKFILL_TASK_COMPLETE (R167). -/
def execBackfillTaskComplete (cluster ctx tag cycle : Nat) (s : State) : Host.Outcome State Fault Refusal :=
  .next (s.bfTaskComplete cluster ctx tag cycle)
/-- REST_RUN_END (R162). -/
def execRestRunEnd (core : Nat) (s : State) : Host.Outcome State Fault Refusal := .next (s.restRunEnd core)

end Sys2Proof.Machine
end

