-- ==== Sys2Proof/Machine/Calib.lean ====
section
/-! DEFINITION. Delayed scaling: the fold of the calibration channels and the calibration step (06_quantisation.md R208 to
R216). -/

namespace Sys2Proof.Machine

/-- Two channels combined (Table 6-4). -/
def Chan.join (a b : Chan) : Chan :=
  { elems := (a.elems + b.elems) % 2 ^ 64, sat := (a.sat + b.sat) % 2 ^ 64, nonfin := (a.nonfin + b.nonfin) % 2 ^ 64
    amax := max a.amax b.amax }

/-- The channels of core `n` join their tensors' accumulators and are cleared (R208). -/
def State.calFoldCore (s : State) (p n : Nat) : State :=
  let s := (s.core n).chan.foldl (fun s e =>
    let v := s.rdEff R.CLU_CAL_BIND (n / 16) e.1
    if F.CLU_CAL_BIND_ENABLE.get v = 0 then s
    else s.updPart p (fun x => { x with cal := Sp.upd {} x.cal (F.CLU_CAL_BIND_TENSOR.get v) (fun c => c.join e.2) })) s
  s.updCore n (fun x => { x with chan := [] })

/-- A descriptor the step refuses (R211). -/
def calBad (b : List Byte) : Bool :=
  let ctl := fieldAt b 0 1
  let tf := fieldAt b 1 1
  bits ctl 2 1 = 3 || bits ctl 7 4 != 0 || bits tf 7 5 != 0
    || !(decide (1 ≤ tf ∧ tf ≤ 7) || decide (9 ≤ tf ∧ tf ≤ 11))
    || fieldAt b 4 2 = 0 || decide (1024 < fieldAt b 4 2) || fieldAt b 0xE 2 != 0
    || bits (fieldAt b 0x3C 1) 7 4 != 0 || fieldAt b 0x3E 2 != 0

/-- Derived scales for algorithm `algo`, target format `tf`, headroom `margin` and maximum m 2^e (R212): INV_SCALE and
SCALE. -/
def calScales (algo tf : Nat) (margin : Int) (m : Nat) (e : Int) : Nat × Nat :=
  let (a, b) := fmaxOf tf []
  let clampF (v : Nat) : Nat := max 0x00800000 (min 0x7F7FFFFF v)
  if algo = 1 then
    (clampF (ratF32 false a m (b - e - margin)), clampF (ratF32 false m a (e - b + margin)))
  else
    let k : Int := max (-126) (min 127 (ilog2 a m + b - e - margin))
    (ratF32 false 1 1 k, ratF32 false 1 1 (-k))

/-- `n` history entries from `base` may be read, and carry no poison (R216). -/
def State.calHistOk (s : State) (p base n : Nat) : Bool :=
  n = 0 || (decide (s.check (s.progReq p .seq 0) base (4 * n) = .ok) && !s.poisoned base (4 * n))

/-- One descriptor of the calibration step (R211 to R213). -/
def State.calOne (s : State) (p t : Nat) : State :=
  let a := F.SEQ_CAL_TABLE_BASE.get (s.rdEff R.SEQ_CAL_TABLE p 0) * 64 + 64 * t
  let rq := s.progReq p .seq 0
  let lap := s.lap p
  let refuse (s : State) : State := s.raise E.CAL_POISON p t 0
  match s.check rq a 64 with
  | .unmapped => refuse (s.unmappedErr rq a)
  | .refused => refuse s
  | .ok =>
    let s := s.sense a 64 p rq.word
    if s.poisoned a 64 then refuse s else
    let b := s.load a 64
    if !bit (fieldAt b 0 1) 0 then s
    else if calBad b then s.event E.CAL_INVALID p t 0
    else
      let f (o n : Nat) : Nat := fieldAt b o n
      let put (b : List Byte) (o n v : Nat) : List Byte := b.take o ++ leBytes n v ++ b.drop (o + n)
      let acc := Sp.get {} (s.part p).cal t
      let reset := bit (f 0 1) 3
      let b := put b 0 1 (setBits (f 0 1) 3 3 0)
      let count := if reset then 0 else f 0x18 2
      let cursor := if reset then 0 else f 0x1A 2
      let b := put (put (put (put (put b 0x1C 4 acc.amax) 0x20 8 acc.elems) 0x28 8 acc.sat) 0x30 8 acc.nonfin) 0x38 4 lap
      let cond := f 0x3C 1
      if acc.elems = 0 then s.save a (put (put (put b 0x18 2 count) 0x1A 2 cursor) 0x3C 1 (setBits cond 3 3 1)) else
      let hist := f 8 6
      let len := f 4 2
      let count' := min (count + 1) len
      if !s.calHistOk p hist count' || !s.calHistOk p (hist + 4 * cursor) 1 then refuse s else
        let s := s.saveN (hist + 4 * cursor) 4 acc.amax
        let h := (List.range count').map (fun i => s.loadN (hist + 4 * i) 4)
        let m := h.foldl fmax 0
        let algo := bits (f 0 1) 2 1
        let (inv, sc) := match f32 m with
          | .fin false mm e => if algo != 0 && mm != 0 then calScales algo (f 1 1) (sext 8 (f 2 1)) mm e else (f 0x10 4, f 0x14 4)
          | _ => (f 0x10 4, f 0x14 4)
        let (fa, fb) := fmaxOf (f 1 1) []
        let satC := f 3 1 != 0 && decide (acc.elems < acc.sat * 2 ^ f 3 1)
        let lowC := f 6 1 != 0 && ((f32 acc.amax).mul (f32 (f 0x10 4))).lt (.fin false fa (fb - (f 6 1 : Nat)))
        let d := satC || lowC
        let drift := bit cond 2
        let run := if d != drift then min (f 0x3D 1 + 1) 255 else 0
        let turn := decide (max (f 7 1) 1 ≤ run)
        let drift' := if turn then d else drift
        let cond := setBits (setBits (setBits (setBits cond 3 3 0) 2 2 (b2n drift')) 1 1 (b2n lowC)) 0 0 (b2n satC)
        let b := put (put (put (put b 0x10 4 inv) 0x14 4 sc) 0x18 2 count') 0x1A 2 ((cursor + 1) % len)
        let s := s.save a (put (put b 0x3C 1 cond) 0x3D 1 (if turn then 0 else run))
        if turn && d then s.event E.CAL_DRIFT p t lap else s

/-- The calibration step of the lap just ended (R211): every descriptor, then an end to every accumulator. -/
def State.calStep (s : State) (p : Nat) : State :=
  let v := s.rdEff R.SEQ_CAL_TABLE p 0
  let n := F.SEQ_CAL_TABLE_COUNT.get v
  let s := (List.range n).foldl (fun s t => s.calOne p t) s
  let base := F.SEQ_CAL_TABLE_BASE.get v * 64
  let drifting := ((List.range n).filter (fun t => bit (s.rawN (base + 64 * t) 1) 0 && bit (s.rawN (base + 64 * t + 0x3C) 1) 2)).length
  let s := s.updPart p (fun x => { x with cal := [] })
  if n = 0 then s else s.wrFs R.SEQ_CAL_STATUS p 0 [(F.SEQ_CAL_STATUS_LAP, s.lap p), (F.SEQ_CAL_STATUS_DRIFTING, drifting)]

end Sys2Proof.Machine
end

