-- ==== Sys2Proof/Machine/Packet.lean ====
section
/-! DEFINITION. Fabric packets: the header, PCRC, virtual channels, routing and the queues packets leave by
(11_rilvi_fabric.md R345 to R356; 15_partitions_and_security.md R454). -/

namespace Sys2Proof.Machine

/-! ## The header (Table 11-10) -/

def pkKind (b : List Byte) : Nat := fieldAt b 0 1
def pkFlags (b : List Byte) : Nat := fieldAt b 1 1
def pkSrc (b : List Byte) : Nat := fieldAt b 2 2
def pkDst (b : List Byte) : Nat := fieldAt b 4 2
def pkGen (b : List Byte) : Nat := fieldAt b 6 2
def pkEpoch (b : List Byte) : Nat := fieldAt b 8 1
def pkVc (b : List Byte) : Nat := fieldAt b 9 1 % 64
def pkHops (b : List Byte) : Nat := fieldAt b 0x0A 1
def pkQp (b : List Byte) : Nat := fieldAt b 0x0C 2
def pkLen (b : List Byte) : Nat := fieldAt b 0x0E 2
def pkSeq (b : List Byte) : Nat := fieldAt b 0x14 3
def pkOpaque (b : List Byte) : Nat := fieldAt b 0x18 4
def pkClass (b : List Byte) : Nat := pkFlags b % 4
def pkTimed (b : List Byte) : Bool := bit (pkFlags b) 6
def pkBody (b : List Byte) : List Byte := sliceB b 32 (pkLen b)

/-- Flit slots of a packet (R329). -/
def pkFlits (b : List Byte) : Nat := cdiv (32 + pkLen b) 64

/-- PCRC of a packet (R346). -/
def pcrc (b : List Byte) : Nat :=
  crc32c (putField (putField (putField (b.take (32 + pkLen b)) 1 1 0) 0x0A 1 0) 0x1C 4 0)

/-! ## Coordinates (R350) -/

/-- Coordinate on physical axis 0 X, 1 Y, 2 Z of a chip ID, and the axis's size. -/
def coordOf (id a : Nat) : Nat := if a = 0 then id / 1024 else if a = 1 then id / 32 % 32 else id % 32
def State.dim (s : State) (a : Nat) : Nat :=
  let v := s.rd R.RLY_FABRIC_DIMS 0 0
  1 + (if a = 0 then bits v 5 0 else if a = 1 then bits v 10 6 else bits v 15 11)
def chipOf (x y z : Nat) : Nat := (x * 1024 + y * 32 + z) % 65536

/-- `id` with its coordinate on axis `a` replaced. -/
def withCoord (id a c : Nat) : Nat :=
  chipOf (if a = 0 then c else coordOf id 0) (if a = 1 then c else coordOf id 1) (if a = 2 then c else coordOf id 2)

/-- The neighbour along axis `a`, direction 0 +, 1 -. -/
def State.neighbour (s : State) (id a dir : Nat) : Nat :=
  let k := s.dim a
  withCoord id a ((coordOf id a + (if dir = 0 then 1 else k - 1)) % k)

/-! ## Ports -/

def State.port (s : State) (q : Nat) : Port := Sp.get {} s.ports q
def State.setPort (s : State) (q : Nat) (x : Port) : State := { s with ports := Sp.set {} s.ports q x }
def State.updPort (s : State) (q : Nat) (f : Port → Port) : State := s.setPort q (f (s.port q))

def State.portState (s : State) (q : Nat) : Nat := s.rdF R.FAB_LINK_STATUS F.FAB_LINK_STATUS_STATE q 0
/-- A port that routing may use: UP, and not held by R351. -/
def State.portUp (s : State) (q : Nat) : Bool :=
  s.portState q = 4 && s.rdF R.FAB_LINK_STATUS F.FAB_LINK_STATUS_CONFLICT q 0 = 0
def State.role (s : State) (q : Nat) : Nat := s.rdF R.FAB_ROLE F.FAB_ROLE_ROLE q 0
def State.peerChip (s : State) (q : Nat) : Nat := s.rdF R.FAB_PEER F.FAB_PEER_CHIP q 0

/-- Unit word of a port (R471). -/
def portWord (q : Nat) : Nat := unitWord 0x09 q 0 0 0xFFFF

/-- A wildcard stands in for torus port `t`, whose neighbour is `n` (R353, R355): the state carries the report of one
that faces another chip. -/
def State.standin (s : State) (t n : Nat) : State × Option Nat :=
  [6, 7].foldl (fun (a : State × Option Nat) q =>
    let s := a.1
    if a.2.isSome || !s.portUp q || s.role q != 2 || s.rdF R.FAB_ROLE F.FAB_ROLE_FOR q 0 != t
      || (s.rdF R.FAB_ROLE F.FAB_ROLE_FORCE q 0 = 0 && s.portUp t) then a
    else if s.peerChip q != n then (s.event E.STANDIN_PEER 0 (portWord q) 0, none)
    else (s, some q)) (s, none)

/-- usable(a, dir) of R353. -/
def State.usable (s : State) (a dir : Nat) : State × Option Nat :=
  let t := 2 * a + dir
  match s.standin t (s.neighbour s.myChip a dir) with
  | (s, some q) => (s, some q)
  | (s, none) => (s, if s.portUp t then some t else none)

/-- An express wildcard that leads to `dst`. -/
def State.expressTo (s : State) (dst : Nat) : Option Nat :=
  [6, 7].find? (fun q => s.portUp q && s.role q = 3 && s.peerChip q = dst)

/-- The packet with FLAGS' routing bits and one hop more. -/
def pkHop (b : List Byte) (axis dir cls : Nat) : List Byte :=
  let f := setBits (setBits (setBits (pkFlags b) 4 3 axis) 2 2 dir) 1 0 cls
  putField (putField b 1 1 f) 0x0A 1 (pkHops b + 1)

/-- Queue a packet that arrived as `orig` on a port; port 8 stands for this chip's own destination side. -/
def State.queueOn (s : State) (q : Nat) (orig b : List Byte) : State :=
  if q = 8 then s.updPort 8 (fun x => { x with rxq := x.rxq ++ [b] })
  else (s.updPort q (fun x => { x with txq := x.txq ++ [⟨x.pktNo, orig, b⟩], pktNo := x.pktNo + 1 })).emit (.packet q b)

/-- An unroutable packet is discarded (R356). -/
def State.unroutable (s : State) (b : List Byte) (port : Nat) : State :=
  (s.count R.CNT_RLY 0 2 1).event E.FAB_UNROUTABLE 0 (pkDst b) port

/-- A packet leaves along axis `a`, direction `dir`, on port `q`: the dateline sets CLASS[0] (R353, R354). -/
def State.hopOn (s : State) (b : List Byte) (a dir cls q : Nat) : State :=
  let c := coordOf s.myChip a
  let cross := if dir = 0 then c = s.dim a - 1 else c = 0
  let s := if q = 2 * a + dir then s else s.count R.CNT_RLY 0 3 1
  s.queueOn q b (pkHop b a dir (if cross then setBits cls 0 0 1 else cls))

/-- route(pkt) of R353. -/
def State.route (s : State) (b : List Byte) : State :=
  let me := s.myChip
  let dst := pkDst b
  if dst = me then s.queueOn 8 b b else
  let a := if coordOf dst 0 != coordOf me 0 then 0 else if coordOf dst 1 != coordOf me 1 then 1 else 2
  let f := pkFlags b
  let entering := bits f 4 3 != a
  let k := s.dim a
  let up := (coordOf dst a + k - coordOf me a % k) % k
  let dir := if entering then (if up ≤ k - up then 0 else 1) else bits f 2 2
  let cls := if entering then 0 else f % 4
  let need := 2 * a + dir
  if pkHops b = 255 || (List.range 3).any (fun x => decide (s.dim x ≤ coordOf dst x)) then s.unroutable b need else
  match (if bit f 5 then s.expressTo dst else none) with
  | some w => s.queueOn w b (putField b 0x0A 1 (pkHops b + 1))
  | none =>
    match s.usable a dir with
    | (s, some q) => s.hopOn b a dir cls q
    | (s, none) =>
      if bit cls 1 then s.unroutable b need else
      let s := s.count R.CNT_RLY 0 4 1
      match s.usable a (1 - dir) with
      | (s, some q) => s.hopOn b a (1 - dir) 2 q
      | (s, none) => s.unroutable b need

/-! ## Sending -/

/-- VC of a queue pair's packets, in its partition's range (R342, R454). -/
def State.vcOf (s : State) (p qp : Nat) : Nat :=
  let lo := s.rdF R.GLB_PART_CONFIG F.GLB_PART_CONFIG_VC_FIRST 0 p
  let hi := s.rdF R.GLB_PART_CONFIG F.GLB_PART_CONFIG_VC_LAST 0 p
  lo + Config.qpVc qp % (hi + 1 - lo)

/-- Physical axis and direction of a course's AXES byte; none where unbound (R97). -/
def axisOf (v : Nat) : Option (Nat × Nat) := if v % 4 = 3 then none else some (v % 4, bits v 2 2)

/-- EXPRESS may be set towards `dst` (R355, R367): the course allows it on the first axis to travel, and an express
wildcard leads there. -/
def State.mayExpress (s : State) (p dst : Nat) : Bool :=
  let me := s.myChip
  match (List.range 3).find? (fun a => coordOf dst a != coordOf me a) with
  | none => false
  | some a => (s.part p).course.axes.any (fun v => v % 4 = a && bit v 3) && (s.expressTo dst).isSome

/-- Build and route a packet on virtual channel `vc` (R345, R346). -/
def State.sendVc (s : State) (p vc dst qp kind tag tgen seq op : Nat) (express timed : Bool) (body : List Byte) : State :=
  let f := 3 * 8 + 32 * b2n express + 64 * b2n timed
  let h := leBytes 1 kind ++ leBytes 1 f ++ leBytes 2 s.myChip ++ leBytes 2 dst ++ leBytes 2 (s.gen p)
    ++ leBytes 1 (s.lap p) ++ leBytes 1 vc ++ leBytes 2 0 ++ leBytes 2 qp ++ leBytes 2 body.length
    ++ leBytes 4 (atBits 13 0 tag + atBits 19 16 tgen) ++ leBytes 4 (seq % 2 ^ 24) ++ leBytes 4 op ++ leBytes 4 0
  let b := h ++ body
  s.route (putField b 0x1C 4 (pcrc b))

/-- A packet of partition `p`'s queue pair. -/
def State.sendPkt (s : State) (p dst qp kind tag tgen seq op : Nat) (body : List Byte) : State :=
  s.sendVc p (s.vcOf p qp) dst qp kind tag tgen seq op (s.mayExpress p dst) (kind != 1) body

/-! ## Queue pairs -/

/-- A binding of `l` covers queue pair `qp`: a caravan queue exactly, a relay's block of up to 64 (R96, R373). -/
def bindsQp (l : List Binding) (qp : Nat) : Bool :=
  l.any (fun b => (b.target = 3 && b.queue = qp) || (b.target = 4 && decide (b.queue ≤ qp ∧ qp < b.queue + 64)))

/-- The partition that owns a queue pair: the first whose course binds it or whose digest relay uses it. -/
def State.qpOwner (s : State) (qp : Nat) : Option Nat :=
  s.enabledParts.find? (fun p => bindsQp (s.part p).course.binds qp
    || (s.effF R.RLY_JOB F.RLY_JOB_CHIPS p 0 != 0 && s.effF R.RLY_JOB F.RLY_JOB_QP p 0 = qp))

/-- Data form P (R471). -/
def formP (peer qp seq : Nat) : Nat := atBits 15 0 peer + atBits 31 16 qp + atBits 55 32 seq

end Sys2Proof.Machine
end

