-- ==== Sys2Proof/Machine/Gun.lean ====
section
/-! DEFINITION. Snapshots and the start gun (18_management_and_telemetry.md R531 to R536). -/

namespace Sys2Proof.Machine

/-! ## Fabric time as the gun sees it (R358) -/

/-- Time `a` is before time `b`, modulo 2^64; false both ways for times 2^63 apart. -/
def timeBefore (a b : Nat) : Bool :=
  let d := (b % 2 ^ 64 + 2 ^ 64 - a % 2 ^ 64) % 2 ^ 64
  decide (1 ≤ d ∧ d < 2 ^ 63)

/-- The chip's time STATE is SYNCED or HOLDOVER. -/
def State.timeOk (s : State) : Bool :=
  let t := s.rdF R.RLY_TIME_STATUS F.RLY_TIME_STATUS_STATE 0 0
  t = 1 || t = 2

/-! ## Fires -/

/-- Copy every live counter and SEQ_POSITION into its snapshot register (R531, R532). -/
def State.snapshot (s : State) : State :=
  let isLive (e : Nat × Nat) : Bool := e.1 % 0x100000 < imageOff
    && (match regAt e.1 with | some r => r.card.hasSnap | none => false)
  let isSnap (e : Nat × Nat) : Bool := imageOff ≤ e.1 % 0x100000
    && (match regAt (e.1 - imageOff) with | some r => r.card.hasSnap && !r.card.shadowed | none => false)
  let kept := s.regs.filter (fun e => !isSnap e)
  { s with regs := (s.regs.filter isLive).foldl (fun m e => Sp.put (e.1 + imageOff) e.2 m) kept }

/-- A fire that does not happen (R534, R536). -/
def State.gunMissed (s : State) (target seq : Nat) : State :=
  ((s.wrF R.TEL_GUN_STATUS F.TEL_GUN_STATUS_MISSED 0 0 1).count R.CNT_TEL 0 1 1).event E.GUN_MISSED 0 target seq

def State.gunTarget (s : State) : Nat := s.rd R.TEL_GUN_TARGET 0 0
def State.gunArmed (s : State) : Bool := s.rdF R.TEL_GUN_STATUS F.TEL_GUN_STATUS_ARMED 0 0 = 1

/-- The fire tick (R532): counters copied, FIRE_TIME, SEQ and FIRED set, the TIME source disarmed, SNAP_OUT pulsed. -/
def State.gunFire (s : State) : State :=
  let s := s.snapshot
  let n := (s.rdF R.TEL_GUN_STATUS F.TEL_GUN_STATUS_SEQ 0 0 + 1) % 65536
  let s := s.wr R.TEL_GUN_FIRE_TIME 0 0 s.ftime
  let s := s.wrFs R.TEL_GUN_STATUS 0 0
    [(F.TEL_GUN_STATUS_SEQ, n), (F.TEL_GUN_STATUS_FIRED, 1), (F.TEL_GUN_STATUS_ARMED, 0)]
  let s := if s.rdF R.TEL_GUN_CTRL F.TEL_GUN_CTRL_SNAP_OUT_EN 0 0 = 1 then s.emit (.pin "SNAP_OUT" 1) else s
  s.event E.GUN_FIRED 0 (s.ftime % 2 ^ 64) n

/-- What one FTCLK tick does with the sources that are due at it: `pin` and `now` beside TIME (R533, R534). A TIME
source that cannot fire is disarmed, since only the first such tick counts. -/
def State.gunTick (s : State) (pin now : Bool) : State :=
  let due := s.gunArmed && !timeBefore s.ftime s.gunTarget
  if !due && !pin && !now then s else
  let lock := s.rdF R.TEL_GUN_CTRL F.TEL_GUN_CTRL_LOCK 0 0 = 1
  let target := s.gunTarget
  let disarm (s : State) : State := if due then s.wrF R.TEL_GUN_STATUS F.TEL_GUN_STATUS_ARMED 0 0 0 else s
  if lock then (disarm s).gunMissed target s.chip.gunSeq
  else
    let s := if due && !s.timeOk then (disarm s).gunMissed target s.chip.gunSeq else s
    if pin || now || s.gunArmed && due then s.gunFire else s

/-- The gun's part of an FTCLK tick: edges of SNAP_IN come closer, NOW becomes due. -/
def State.gunStep (s : State) : State :=
  let pin := s.chip.gunPins.any (· ≤ 1)
  let now := s.chip.gunNow
  let s := { s with chip := { s.chip with gunPins := (s.chip.gunPins.filter (1 < ·)).map (· - 1), gunNow := false } }
  s.gunTick pin now

/-! ## Arming and spreading (R535, R536) -/

/-- Send the GUN of `stage` to the + neighbour of its axis, unless that chip has the origin's coordinate there. -/
def State.gunSend (s : State) (target seq origin stage : Nat) : State :=
  let dst := s.peerChip (2 * stage)
  if coordOf dst stage = coordOf origin stage then s else
  s.sendVc 0 0 dst 0 7 0 0 0 0 false true
    (leBytes 8 target ++ leBytes 2 seq ++ leBytes 1 stage ++ leBytes 1 0 ++ leBytes 2 origin ++ List.replicate 18 0)

/-- Stages from `stage` on. -/
def State.gunSpread (s : State) (target seq origin stage : Nat) : State :=
  ((List.range 3).filter (stage ≤ ·)).foldl (fun s k => s.gunSend target seq origin k) s

/-- ARM = 1 (R533, R535). -/
def State.gunArm (s : State) : State :=
  let spread := s.rdF R.TEL_GUN_CTRL F.TEL_GUN_CTRL_SPREAD 0 0 = 1
  let seq := if spread then (s.rdF R.TEL_GUN_STATUS F.TEL_GUN_STATUS_SEQ_OUT 0 0 + 1) % 65536 else 0
  let s := { s with chip := { s.chip with gunSeq := seq } }
  let s := s.wrF R.TEL_GUN_STATUS F.TEL_GUN_STATUS_ARMED 0 0 1
  if spread then (s.wrF R.TEL_GUN_STATUS F.TEL_GUN_STATUS_SEQ_OUT 0 0 seq).gunSpread s.gunTarget seq s.myChip 0 else s

/-- A write of TEL_GUN_CTRL. -/
def State.writeGunCtrl (s : State) (v : Nat) : State :=
  let s := s.wr R.TEL_GUN_CTRL 0 0 (setBits (setBits (setBits (v % 2 ^ 8) 7 7 0) 5 5 0) 0 0 0)
  let s := if bit v 7 then { s with chip := { s.chip with gunNow := true } } else s
  if bit v 5 then s.gunArm else s

/-- A GUN packet has arrived (R536). -/
def State.gunPacket (s : State) (body : List Byte) : State :=
  let target := fieldAt body 0 8
  let seq := fieldAt body 8 2
  let stage := fieldAt body 0x0A 1 % 4
  let origin := fieldAt body 0x0C 2
  if !serialNewer 16 seq (s.rdF R.TEL_GUN_STATUS F.TEL_GUN_STATUS_SEQ_IN 0 0) then s else
  let s := s.wrF R.TEL_GUN_STATUS F.TEL_GUN_STATUS_SEQ_IN 0 0 seq
  let s :=
    if s.rdF R.TEL_GUN_CTRL F.TEL_GUN_CTRL_GUN_RX_EN 0 0 = 0 then s
    else if timeBefore target s.ftime then s.gunMissed target seq
    else
      let s := { s with chip := { s.chip with gunSeq := seq } }
      (s.wr R.TEL_GUN_TARGET 0 0 target).wrF R.TEL_GUN_STATUS F.TEL_GUN_STATUS_ARMED 0 0 1
  s.gunSpread target seq origin stage

/-! ## Commands -/

/-- GUN_ARM: a write of TEL_GUN_CTRL with ARM = 1 (R535). -/
def execGunArm (value : Nat) (s : State) : Host.Outcome State Fault Refusal := .next (s.writeGunCtrl (setBit value 5 true))

/-- GUN_FIRE_NOW: a write of TEL_GUN_CTRL with FIRE = 1; the fire falls on the next FTCLK tick (R533). -/
def execGunFireNow (value : Nat) (s : State) : Host.Outcome State Fault Refusal :=
  .next (s.writeGunCtrl (setBit value 7 true))

/-- SNAP_IN: a rising edge of the pin (R533). -/
def execSnapIn (s : State) : Host.Outcome State Fault Refusal :=
  .next (if s.rdF R.TEL_GUN_CTRL F.TEL_GUN_CTRL_PIN_EN 0 0 = 1 then
    { s with chip := { s.chip with gunPins := s.chip.gunPins ++ [2] } } else s)

/-- GUN_FIRE: fabric time has reached the TARGET of an armed TIME source (R532 to R534). -/
def execGunFire (s : State) : Host.Outcome State Fault Refusal := .next (s.gunTick false false)

/-- GUN: a GUN packet reaches this chip (R536). -/
def execGun (body : List Byte) (s : State) : Host.Outcome State Fault Refusal := .next (s.gunPacket body)

end Sys2Proof.Machine
end

