-- ==== Sys2Proof/Machine/Emb.lean ====
section
/-! DEFINITION. The caravan engine: look-up, replicas, caravans and convoys, the owner's side, stragglers and the
refresh leg (08_embedding_tables.md R246 to R271, R574). -/

namespace Sys2Proof.Machine

/-! ## Names and state -/

def State.emb (s : State) (p : Nat) : EmbSt := (s.part p).emb
def State.updEmb (s : State) (p : Nat) (f : EmbSt → EmbSt) : State := s.updPart p (fun x => { x with emb := f x.emb })

/-- CONVOY of a lap and leg (R257). -/
def convoyOf (lap leg : Nat) : Nat := lap % 2 ^ 19 * 32 + leg
def State.convoy (s : State) (p : Nat) : Nat := convoyOf (s.lap p) (s.leg p)

/-- Lap of origin of a CONVOY seen in lap `now`. -/
def convoyLap (now conv : Nat) : Nat := (now + 2 ^ 32 - (now % 2 ^ 19 + 2 ^ 19 - conv / 32) % 2 ^ 19) % 2 ^ 32

/-- The other chips of the rank map. -/
def State.peers (s : State) (p : Nat) : List Nat :=
  ((List.range (s.ranks p)).map (s.rankChip p)).filter (· != s.myChip)

/-- Queue pair of this partition's caravans: the queue of its course's first EMB binding. -/
def State.embQp (s : State) (p : Nat) : Nat :=
  (((s.part p).course.binds.find? (fun b => b.target = 3)).map (·.queue)).getD 0

/-- Deferred area in use, in bytes (R268). -/
def EmbSt.deferBytes (e : EmbSt) : Nat := (e.deferred.map (fun d => (d.segs.map (·.length)).sum)).sum

/-- EMB_STATUS. -/
def State.embStatus (s : State) (p : Nat) : State :=
  s.wrFs R.EMB_STATUS p 0 [(⟨63, 32⟩, cdiv (s.emb p).deferBytes 1024), (⟨23, 0⟩, s.convoy p)]

/-! ## The inbound journal (R77, R80) -/

/-- A payload of `n` bytes enters the leg's journal. -/
def State.journalAdd (s : State) (p n : Nat) : State :=
  let x := s.part p
  let size := ((x.course.regions.find? (fun r => r.kind = 1)).map (·.size)).getD 0
  let s := s.setPart p { x with journalUsed := x.journalUsed + n }
  if x.journalOverflow || decide (x.journalUsed + n ≤ size) then s
  else ((s.updPart p (fun x => { x with journalOverflow := true })).count R.CNT_SEQ p 6 1).event E.JOURNAL_OVERFLOW p
    (s.posWord p x.word) 0

/-! ## Segments (Table 8-4) -/

/-- A caravan segment. -/
structure Seg where
  kind : Nat
  last : Bool := false
  countable : Bool := false
  grad : Bool := false
  src : Nat := 0
  dst : Nat := 0
  attempt : Nat := 0
  slice : Nat := 0
  convoy : Nat := 0
  index : Nat := 0
  tag : Nat := 0
  gen : Nat := 0
  num : Nat := 0
  entries : Nat := 0
  firstEntry : Nat := 0
  firstGran : Nat := 0
  grans : Nat := 0
  mask : Nat := 0
  caravans : Nat := 0
  result : Nat := 0
  body : List Byte := []
deriving DecidableEq, Repr

/-- Header and body. -/
def Seg.bytes (g : Seg) : List Byte :=
  leBytes 1 g.kind ++ leBytes 1 (b2n g.last + 2 * b2n g.countable + 4 * b2n (g.mask != 0) + 8 * b2n g.grad)
    ++ leBytes 2 g.src ++ leBytes 2 g.dst ++ leBytes 1 g.attempt ++ leBytes 1 g.slice ++ leBytes 4 g.convoy
    ++ leBytes 4 g.index ++ leBytes 4 (atBits 13 0 g.tag + atBits 19 16 g.gen) ++ leBytes 2 g.num ++ leBytes 2 g.entries
    ++ leBytes 2 g.firstEntry ++ leBytes 1 g.firstGran ++ leBytes 1 g.grans ++ leBytes 2 g.body.length ++ leBytes 2 0
    ++ leBytes 8 g.mask ++ leBytes 4 g.caravans ++ leBytes 1 g.result ++ List.replicate 19 0 ++ g.body

def segOf (b : List Byte) : Seg :=
  let f := fieldAt b 1 1
  { kind := fieldAt b 0 1, last := bit f 0, countable := bit f 1, grad := bit f 3, src := fieldAt b 2 2, dst := fieldAt b 4 2
    attempt := fieldAt b 6 1 % 4, slice := fieldAt b 7 1 % 4, convoy := fieldAt b 8 3, index := fieldAt b 0xC 3
    tag := fieldAt b 0x10 2 % 2 ^ 14, gen := fieldAt b 0x12 1 % 16, num := fieldAt b 0x14 2, entries := fieldAt b 0x16 2
    firstEntry := fieldAt b 0x18 2, firstGran := fieldAt b 0x1A 1, grans := fieldAt b 0x1B 1, mask := fieldAt b 0x20 8
    caravans := fieldAt b 0x28 3, result := fieldAt b 0x2C 1, body := sliceB b 64 (fieldAt b 0x1C 2) }

/-- Send a segment on queue pair `qp`. -/
def State.sendSeg (s : State) (p qp : Nat) (g : Seg) : State :=
  let g := { g with src := s.myChip }
  s.sendPkt p g.dst qp 1 g.tag g.gen g.convoy 0 g.bytes

/-! ## Requests in the pending table -/

def State.updReq (s : State) (id : Nat) (f : GReq → GReq) : State :=
  { s with greqs := s.greqs.map (fun g => if g.id = id then f g else g) }

/-- The request's data is in place: it completes at its G_REQUEST_COMPLETE. -/
def State.reqReady (s : State) (id : Nat) : State := s.updReq id (fun g => { g with reqDone := true })
/-- An error has stopped the request. -/
def State.reqDead (s : State) (id : Nat) : State := s.updReq id (fun g => { g with wait := 9 })

def GReq.table (g : GReq) : Nat := bits g.entry 63 48
def GReq.row (g : GReq) : Nat := bits g.entry 47 0

/-- EV_TABLE_INVALID of a request or entry, with the chip concerned (R248, R263, R574). -/
def State.tableInvalid (s : State) (p item chip : Nat) : State := s.raise E.TABLE_INVALID p item chip

/-- EV_ROW_RANGE of a request (R248). -/
def State.rowRange (s : State) (p item : Nat) : State :=
  (s.count R.CNT_EMB p 16 1).raise E.ROW_RANGE p item s.myChip

/-- A count-0 request's scratchpad range runs past the scratchpad, or leaves a backfill task's region (R571, R166). -/
def State.scratchRange (s : State) (g : GReq) (n : Nat) : Option State :=
  if g.count != 0 then none
  else if scratchEnd < g.local_ + 64 * n then some ((s.gRefuse g .unmapped (scratchAddr g.core g.local_)).reqDead g.id)
  else if g.ctx != 0 && !s.bfRegion g.part (g.ctx - 1) g.local_ (64 * n) then
    some (s.bfEnd g.core { ctx := g.ctx, word := g.word } none g.first 0)
  else none

/-! ## Replicas (R254, R255) -/

abbrev rowKey (t row : Nat) : Nat := t * 2 ^ 48 + row

def State.replicaState (s : State) (d : Table) (k : Nat) : Nat := s.loadN (d.replicaAddr k + 0x0C) 1

/-- The replica's data, hashed, match its stored HASH and no granule of the slot is poisoned. -/
def State.replicaGood (s : State) (p : Nat) (d : Table) (row k : Nat) : Bool :=
  let a := d.replicaAddr k
  let n := 64 * d.dataGran
  !s.poisoned a (64 + n) && s.rowHash p d row (s.load (a + 64) n) = s.loadN a 8

/-- A replica is found divergent: its STATE, event and counter (R255). -/
def State.replicaBad (s : State) (p : Nat) (d : Table) (row k : Nat) : State :=
  let s := s.saveN (d.replicaAddr k + 0x0C) 1 2
  ((s.updEmb p (fun e => { e with diverged := Sp.set 0 e.diverged (rowKey d.num row) 1 })).count R.CNT_EMB p 7 1).event
    E.REPLICA_DIVERGED p (rowKey d.num row) (s.own p d row).1

/-- Verify a replica once per lap (R255); the result says whether it may be served. -/
def State.replicaCheck (s : State) (p : Nat) (d : Table) (row k : Nat) : State × Bool :=
  let key := d.num * 2 ^ 32 + k
  if (s.emb p).verified.contains key then (s, true) else
  let s := s.sense (d.replicaAddr k) (64 * (1 + d.dataGran)) p (s.progReq p .emb 0).word
  if s.replicaGood p d row k then (s.updEmb p (fun e => { e with verified := e.verified ++ [key] }), true)
  else (s.replicaBad p d row k, false)

/-- The replica a request may be served from (R252, R255): requests of a divergent row are counted as redirected. -/
def State.replicaFor (s : State) (p : Nat) (d : Table) (row : Nat) : State × Option Nat :=
  match s.hotSlot d row with
  | none => (s, none)
  | some k =>
    let redirect (s : State) : State × Option Nat :=
      (s.updEmb p (fun e => { e with diverged := Sp.upd 0 e.diverged (rowKey d.num row) (· + 1) }), none)
    if Sp.get 0 (s.emb p).diverged (rowKey d.num row) != 0 then redirect s
    else if s.replicaState d k != 1 then (s, none)
    else match s.replicaCheck p d row k with
      | (s, true) => (s, some k)
      | (s, false) => redirect s

/-! ## Serving on this chip -/

/-- Where a local row may be read now (R252, R242, R270). -/
inductive Found where
  | at_ (a : Nat)
  | far (die : Nat)
  | sweep
  | bad
deriving DecidableEq, Repr

def State.findRow (s : State) (p : Nat) (d : Table) (r : Nat) : Found :=
  match s.rowAt p d r with
  | .addr a bulk => if bulk && s.sweepPending p d.num r then .sweep else .at_ a
  | .slot a => .at_ (a)
  | .missing die => .far die
  | .bad => .bad

/-- Write granules of memory from `a` to a request's destination. -/
def State.deliverRow (s : State) (g : GReq) (rq : Req) (a n : Nat) : State :=
  (List.range n).foldl (fun s i => match s.readGran rq (a + 64 * i) with
    | (s, b, po) => s.scrPut g.core (g.local_ + 64 * i) b po) s

/-- Serve `n` granules at `a` to a request, after the checks of Table 15-3. -/
def State.serveLocal (s : State) (g : GReq) (a n : Nat) : State :=
  let rq := s.gReqOf g.part g.ctx g.core
  match s.check rq a (64 * n) with
  | .ok => (s.deliverRow g rq a n).reqReady g.id
  | r => (s.gRefuse g r a).reqDead g.id

/-- The leg's requests earn counts: KIND 2 and the primary program (R234). -/
def State.countable (s : State) (p : Nat) (g : GReq) : Bool := s.legKind p = 2 && g.ctx = 0

/-- A request that would need a caravan ends a backfill task (R271). -/
def State.backfillFar (s : State) (g : GReq) : State :=
  s.cueFault g.core { ctx := g.ctx, word := g.word } 0x0F g.first 0

/-! ## Caravans at the sender (R256 to R258) -/

/-- Put an entry into the open caravan of its owner; a full one closes. `merge` joins a request to an equal entry. -/
def State.caravanPut (s : State) (p slice owner dir : Nat) (refresh countable : Bool) (e : CarEntry) : State :=
  let cars := (s.emb p).cars
  let isOpen (c : Caravan) : Bool :=
    c.stage = 0 && c.slice = slice && c.owner = owner && c.dir = dir && c.refresh = refresh && c.countable = countable
  let same (f : CarEntry) : Bool :=
    f.table = e.table && f.row = e.row && f.first = e.first && f.grans = e.grans && decide (f.mult < 65535)
  let merging := dir = 0 && !refresh && s.effF R.EMB_CTRL F.EMB_CTRL_MERGE p 0 = 1
  if merging && cars.any (fun c => isOpen c && c.entries.any same) then
    (s.updEmb p (fun x => { x with cars := x.cars.map (fun c => if isOpen c && c.entries.any same then
        { c with entries := c.entries.map (fun f => if same f then { f with mult := f.mult + 1, reqs := f.reqs ++ e.reqs } else f) }
      else c) })).count R.CNT_EMB p 8 1
  else
    let shut (c : Caravan) : Caravan := if 512 ≤ c.entries.length then { c with stage := 1 } else c
    if cars.any isOpen then
      s.updEmb p (fun x => { x with cars := x.cars.map (fun c => if isOpen c then shut { c with entries := c.entries ++ [e] } else c) })
    else s.updEmb p (fun x => { x with cars := x.cars ++ [{ slice := slice, owner := owner, dir := dir, refresh := refresh
                                                            convoy := s.convoy p, attempt := s.attempt p
                                                            countable := countable, entries := [e] }] })

/-! ## Resolving (R252) -/

/-- Serve zeros to a pad entry (R154). -/
def State.resolvePad (s : State) (g : GReq) : State :=
  let zeros (n : Nat) : State :=
    match s.scratchRange g n with
    | some s => s
    | none => ((List.range n).foldl (fun s i => s.scrPut g.core (g.local_ + 64 * i) (List.replicate 64 0) false) s).reqReady g.id
  if g.count != 0 then zeros g.count else
  match s.table g.part g.table with
  | none => (s.tableInvalid g.part g.entry s.myChip).reqDead g.id
  | some d => if 64 < d.dataGran then (s.tableInvalid g.part g.entry s.myChip).reqDead g.id else zeros d.dataGran

/-- Serve a row of this chip's shard, or leave the request waiting (R242, R252, R270). -/
def State.resolveHome (s : State) (g : GReq) (d : Table) (r n : Nat) : State :=
  let p := g.part
  match s.findRow p d r with
  | .at_ a =>
    let s := (s.count R.CNT_EMB p 5 n).owe p d r (b2n (s.countable p g))
    s.serveLocal g (a + 64 * g.first) n
  | .sweep =>
    let s := if g.wait = 2 then s else s.count R.CNT_EMB p 15 1
    s.updReq g.id (fun h => { h with wait := 2 })
  | .far die => (s.farMiss p 1 die (rowKey d.num r)).updReq g.id (fun h => { h with wait := 1 })
  | .bad => (s.raise E.PLACE_INVALID p d.place 0).reqDead g.id

/-- A GATHER.R entry (R252). -/
def State.resolveGather (s : State) (g : GReq) : State :=
  let p := g.part
  if g.row = 2 ^ 48 - 1 then s.resolvePad g else
  match s.table p g.table with
  | none => (s.tableInvalid p g.entry s.myChip).reqDead g.id
  | some d =>
    let n := if g.count = 0 then d.dataGran - g.first else g.count
    let isOver := if g.count = 0 then decide (64 < d.dataGran) || g.first != 0 else decide (d.dataGran < g.first + g.count)
    if isOver then (s.tableInvalid p g.entry s.myChip).reqDead g.id else
    match s.scratchRange g n with
    | some s => s
    | none =>
      if d.rows ≤ g.row then ((s.rowRange p g.entry).scrPoisonZero g.core g.local_ n).reqReady g.id else
      let (chip, r) := s.own p d g.row
      if chip = s.myChip then s.resolveHome g d r n else
      match s.replicaFor p d g.row with
      | (s, some k) => (s.count R.CNT_EMB p 6 1).serveLocal g (d.replicaAddr k + 64 * (1 + g.first)) n
      | (s, none) =>
        if g.ctx != 0 then s.backfillFar g else
        (s.caravanPut p (g.core / 256) chip 0 false (s.countable p g)
          { table := d.num, row := g.row, first := g.first, grans := n, mult := 1, reqs := [g.id] }).updReq g.id
          (fun h => { h with wait := 3 })

/-- A SCATTER.G entry (R252, R248, R571). -/
def State.resolveScatter (s : State) (g : GReq) : State :=
  let p := g.part
  if g.row = 2 ^ 48 - 1 then s.reqReady g.id else
  match s.table p g.table with
  | none => (s.tableInvalid p g.entry s.myChip).reqDead g.id
  | some d =>
    let tot := cdiv d.elems (if g.fmt = 0 then 16 else 32)
    let n := if g.count = 0 then tot else g.count
    if decide (tot < g.first + n) then (s.tableInvalid p g.entry s.myChip).reqDead g.id else
    match s.scratchRange g n with
    | some s => s
    | none =>
      if d.rows ≤ g.row then (s.rowRange p g.entry).reqReady g.id else
      let s := s.settle g.core
      let data := s.scr g.core g.local_ (64 * n)
      let mask := ((List.range n).map (fun i => b2n (s.scrPoison g.core (g.local_ + 64 * i) 64) * 2 ^ i)).sum
      let (chip, r) := s.own p d g.row
      if chip = s.myChip then
        if !d.grad then (s.tableInvalid p g.entry s.myChip).reqDead g.id
        else (s.ledgerAdd p d r g.row g.first g.fmt data mask).reqReady g.id
      else (s.caravanPut p (g.core / 256) chip 1 false false
        { table := d.num, row := g.row, first := g.first, grans := n, fmt := g.fmt, data := data, mask := mask }).reqReady g.id

/-- Resolve one request that is new or waits on its row. -/
def State.resolve (s : State) (id : Nat) : State :=
  match s.greqs.find? (fun g => g.id = id && (g.op = 0x40 || g.op = 0x42) && decide (g.wait < 3) && !g.reqDone) with
  | none => s
  | some g => if g.op = 0x40 then s.resolveGather g else s.resolveScatter g

/-- All requests of partition `p` that wait with a code in `w`. -/
def State.resolveAll (s : State) (p : Nat) (w : List Nat) : State :=
  (s.greqs.filter (fun g => g.part = p && w.contains g.wait)).foldl (fun s g => s.resolve g.id) s

/-! ## Sending caravans (R257, R258, R261 to R263) -/

/-- A tag's current generation, and its release (R387). -/
def State.tagGenOf (s : State) (t : Nat) : Nat := Sp.get 0 s.tagGen t
def State.tagRelease (s : State) (t : Nat) : State :=
  { s with tagUse := s.tagUse.filter (· != t), tagGen := Sp.set 0 s.tagGen t ((s.tagGenOf t + 1) % 16) }
def State.tagTake (s : State) (t : Nat) : State := { s with tagUse := s.tagUse ++ [t] }
def State.tagFree (s : State) (t : Nat) : Bool := decide (t < 16384) && !s.tagUse.contains t

/-- Bytes of a request entry (R262) and of a gradient entry (R263). -/
def CarEntry.reqBytes (e : CarEntry) : List Byte :=
  leBytes 6 e.row ++ leBytes 2 e.table ++ leBytes 1 e.first ++ leBytes 1 e.grans ++ leBytes 2 e.mult ++ leBytes 4 0
def CarEntry.gradBytes (e : CarEntry) : List Byte :=
  leBytes 6 e.row ++ leBytes 2 e.table ++ leBytes 1 e.fmt ++ leBytes 1 e.first ++ leBytes 1 e.grans ++ leBytes 5 0 ++ e.data

/-- Bodies of a reverse caravan: entries, poison mask and body of each segment, greedily filled (R263). -/
def packRev : List CarEntry → List (Nat × Nat × Nat × List Byte)
  | [] => []
  | e :: rest =>
    match packRev rest with
    | (n, k, m, b) :: more =>
      if k + e.grans ≤ 64 ∧ b.length + 16 + 64 * e.grans ≤ 4112 then
        (n + 1, k + e.grans, e.mask + m * 2 ^ e.grans, e.gradBytes ++ b) :: more
      else (1, e.grans, e.mask, e.gradBytes) :: (n, k, m, b) :: more
    | [] => [(1, e.grans, e.mask, e.gradBytes)]

/-- The segments of a caravan. -/
def Caravan.segs (c : Caravan) : List Seg :=
  let base : Seg := { kind := if c.dir = 1 then 3 else if c.refresh then 6 else 1, dst := c.owner, attempt := c.attempt
                      slice := c.slice, convoy := c.convoy, index := c.index, tag := c.tag, gen := c.gen
                      countable := c.countable }
  let l := if c.dir = 1 then (packRev c.entries).map (fun (n, _, m, b) => { base with entries := n, mask := m, body := b })
    else (chunks 256 (c.entries.length / 256 + 1) c.entries).map (fun es =>
      { base with entries := es.length, body := es.flatMap CarEntry.reqBytes })
  l.zipIdx.map (fun (g, i) => { g with num := i, last := i + 1 = l.length })

def State.sendCaravan (s : State) (p : Nat) (c : Caravan) : State :=
  (c.segs.foldl (fun s g => s.sendSeg p (s.embQp p) g) s)

def State.sendClosing (s : State) (p : Nat) (o : OutConvoy) : State :=
  s.sendSeg p (s.embQp p) { kind := 4, dst := o.owner, attempt := o.attempt, grad := o.dir = 1, convoy := o.convoy
                            caravans := o.cars }

def isOut (owner dir convoy : Nat) (o : OutConvoy) : Bool := o.owner = owner && o.dir = dir && o.convoy = convoy

/-- The outgoing convoy to `owner` of the current leg exists. -/
def State.outEnsure (s : State) (p owner dir : Nat) : State :=
  let conv := s.convoy p
  if (s.emb p).outs.any (isOut owner dir conv) then s
  else s.updEmb p (fun e => { e with outs := e.outs ++ [{ owner := owner, dir := dir, convoy := conv, attempt := s.attempt p }] })

/-- Send the closing message once its CLOSE has issued and the convoy's last caravan is sent (R260). -/
def State.closeDue (s : State) (p owner dir : Nat) : State :=
  let e := s.emb p
  match e.outs.find? (isOut owner dir (s.convoy p)) with
  | none => s
  | some o =>
    if !o.due || o.closed || e.cars.any (fun c => c.owner = owner && c.dir = dir && decide (c.stage < 2)) then s else
    (s.updEmb p (fun e => { e with outs := e.outs.map (fun x => if isOut owner dir o.convoy x then { x with closed := true } else x) })).sendClosing p o

/-- CARAVAN_SEND: the oldest closed caravan of a slice, owner and direction leaves under read tag `tag` (requests). -/
def State.caravanSend (s : State) (p slice owner dir tag : Nat) : State :=
  let e := s.emb p
  let mine (c : Caravan) : Bool := c.slice = slice && c.owner = owner && c.dir = dir
  match e.cars.find? (fun c => mine c && c.stage = 1) with
  | none => s
  | some c =>
    let out := (e.cars.filter (fun c => mine c && c.stage = 2)).length
    if dir = 0 && (decide (s.effF R.EMB_CTRL F.EMB_CTRL_WINDOW p 0 ≤ out) || !s.tagFree tag) then s else
    let s := s.outEnsure p owner dir
    let idx := (((s.emb p).outs.find? (isOut owner dir (s.convoy p))).map (·.cars)).getD 0
    let c' := { c with index := idx, stage := 2, tag := if dir = 0 then tag else 0, gen := if dir = 0 then s.tagGenOf tag else 0 }
    let s := if dir = 0 then s.tagTake tag else s
    let s := s.updEmb p (fun e => { e with
      cars := (e.cars.foldl (fun (a : List Caravan × Bool) x => if !a.2 && x = c then (a.1 ++ [c'], true) else (a.1 ++ [x], a.2)) ([], false)).1
      outs := e.outs.map (fun x => if isOut owner dir c.convoy x then { x with cars := x.cars + 1 } else x) })
    ((s.sendCaravan p c').count R.CNT_EMB p 9 1).closeDue p owner dir

/-! ## Engine commands (R259, R260, R269) -/

/-- Close every open caravan of a direction and make the closings due. -/
def State.closeDir (s : State) (p dir : Nat) : State :=
  let s := s.updEmb p (fun e => { e with cars := e.cars.map (fun c => if c.dir = dir && c.stage = 0 then { c with stage := 1 } else c) })
  (s.peers p).foldl (fun s o =>
    ((s.outEnsure p o dir).updEmb p (fun e => { e with outs := e.outs.map (fun x =>
      if isOut o dir (s.convoy p) x then { x with due := true } else x) })).closeDue p o dir) s

/-- Refresh one directory entry: the check of its replica, and entries for its owner (R269). -/
def State.refreshRow (s : State) (p : Nat) (d : Table) (row k : Nat) : State :=
  let (chip, _) := s.own p d row
  if chip = s.myChip then s else
  let st := s.replicaState d k
  let s := if (st = 1 || st = 2) && Sp.get 0 (s.emb p).diverged (rowKey d.num row) = 0 then
      let s := s.sense (d.replicaAddr k) (64 * (1 + d.dataGran)) p (s.progReq p .emb 0).word
      if s.replicaGood p d row k then s else s.replicaBad p d row k
    else s
  let n := cdiv d.dataGran 64
  let s := s.updEmb p (fun e => { e with refreshLeft := Sp.set 0 e.refreshLeft (rowKey d.num row) n })
  (List.range n).foldl (fun s i => s.caravanPut p 0 chip 0 true false
    { table := d.num, row := row, first := 64 * i, grans := min 64 (d.dataGran - 64 * i) }) s

/-- The stale decision of a reverse convoy is made elsewhere; the deadline has passed for this leg. -/
def recMatch (conv : Nat) (src : Nat) (types : List Nat) (e : RecEntry) : Bool :=
  types.contains e.typ && e.source = src && e.item = conv

/-! ## The owner's side (R264 to R268, R574) -/

/-- Whether a request entry is one R574 answers with zeros. -/
def State.entryBad (s : State) (p t row first n : Nat) : Bool :=
  match s.table p t with
  | none => true
  | some d => (s.own p d row).1 != s.myChip || decide (d.rows ≤ row) || decide (d.dataGran < first + n)

/-- Bytes and poison of one granule of a served row. -/
abbrev Granule := List Byte × Bool

/-- Serve one request entry (R264, R269, R574); none while its row must be waited for. -/
def State.serveEntry (s : State) (p : Nat) (sv : Serve) (b : List Byte) : State × Option (List Granule) :=
  let g := segOf sv.head
  let t := fieldAt b 6 2
  let row := fieldAt b 0 6
  let first := fieldAt b 8 1
  let n := fieldAt b 9 1
  let pre := b2n sv.refresh
  if s.entryBad p t row first n then
    ((s.count R.CNT_EMB p 16 1).tableInvalid p (rowKey t row) g.src,
      some (List.replicate (n + pre) (List.replicate 64 0, true)))
  else match s.table p t with
    | none => (s, none)
    | some d =>
      let r := (s.own p d row).2
      let rq : Req := { kind := .serve, fn := s.primary p, part := p, blk := Blk.emb.byte, inst := g.slice }
      match s.findRow p d r with
      | .at_ a =>
        (match s.check rq a (64 * d.dataGran) with
          | .ok =>
            let s := s.sense (if sv.refresh then a else a + 64 * first) (64 * (if sv.refresh then d.dataGran else n)) p rq.word
            let hash := if sv.refresh then [(leBytes 8 (s.rowHash p d row (s.load a (64 * d.dataGran))) ++ List.replicate 56 0, false)] else []
            (s.count R.CNT_EMB p 5 n, some (hash ++ (List.range n).map (fun i =>
              (s.load (a + 64 * (first + i)) 64, s.poisoned (a + 64 * (first + i)) 64))))
          | .unmapped => (s.unmappedErr rq a, some (List.replicate (n + pre) (List.replicate 64 0, true)))
          | .refused => (s.refusedErr rq a, some (List.replicate (n + pre) (List.replicate 64 0, true))))
      | .sweep => (if sv.waited then s else s.count R.CNT_EMB p 15 1, none)
      | .far die => (s.farMiss p 1 die (rowKey t r), none)
      | .bad => (s.raise E.PLACE_INVALID p d.place 0, some (List.replicate (n + pre) (List.replicate 64 0, true)))

/-- A granule to return: its entry, its number in the entry's run, its bytes and mark. -/
abbrev RetItem := Nat × Nat × Granule

/-- Serve entries in order from `sv.next` until one must wait; `fuel` bounds them. -/
def State.serveRun (s : State) (p : Nat) (sv : Serve) : Nat → List RetItem → State × Serve × List RetItem
  | 0, acc => (s, sv, acc)
  | fuel + 1, acc =>
    match sv.entries[sv.next]? with
    | none => (s, sv, acc)
    | some b =>
      match s.serveEntry p sv b with
      | (s, none) => (s, { sv with waited := true }, acc)
      | (s, some l) => s.serveRun p { sv with next := sv.next + 1, waited := false } fuel
          (acc ++ l.zipIdx.map (fun (x, i) => (sv.next, i, x)))

/-- Send the returned granules, at most 64 a segment (R263). -/
def State.sendReturns (s : State) (p : Nat) (sv : Serve) (items : List RetItem) : State × Serve :=
  let g := segOf sv.head
  let done := sv.last && sv.next = sv.entries.length
  let l := chunks 64 (items.length / 64 + 1) items
  let s := l.zipIdx.foldl (fun s (c, i) =>
    let (fe, fg) := match c with
      | x :: _ => (x.1, x.2.1)
      | [] => (0, 0)
    s.sendSeg p sv.qp { kind := if sv.refresh then 7 else 2, last := done && i + 1 = l.length, dst := g.src, attempt := g.attempt
                        slice := g.slice, convoy := g.convoy, index := g.index, tag := g.tag, gen := g.gen, num := sv.seg + i
                        entries := (c.filter (fun x => x.2.1 = 0)).length, firstEntry := fe, firstGran := fg, grans := c.length
                        mask := (c.zipIdx.map (fun (x, j) => b2n x.2.2.2 * 2 ^ j)).sum, body := c.flatMap (fun x => x.2.2.1) }) s
  (s, { sv with seg := sv.seg + l.length })

/-- Serve what a caravan allows now; none once it is answered whole. -/
def State.serveOne (s : State) (p : Nat) (sv : Serve) : State × Option Serve :=
  match s.serveRun p sv (sv.entries.length + 1) [] with
  | (s, sv, items) =>
    let (s, sv) := if items = [] then (s, sv) else s.sendReturns p sv items
    (s, if sv.last && sv.next = sv.entries.length then none else some sv)

/-- Serve every inbound caravan in progress. -/
def State.serveAll (s : State) (p : Nat) : State :=
  let (s, keep) := (s.emb p).serves.foldl (fun (a : State × List Serve) sv =>
    match a.1.serveOne p sv with
    | (s, some sv) => (s, a.2 ++ [sv])
    | (s, none) => (s, a.2)) (s, [])
  s.updEmb p (fun e => { e with serves := keep })

/-- Requests and served caravans that waited on a row proceed (R241, R297). -/
def State.embResume (s : State) (p : Nat) : State := (s.resolveAll p [1, 2]).serveAll p

/-- A segment's entries join the caravan being served, in segment order (R262). -/
def Serve.take (sv : Serve) : Nat → Serve
  | 0 => sv
  | fuel + 1 =>
    match sv.early.find? (fun b => (segOf b).num = sv.nseg) with
    | none => sv
    | some b =>
      let g := segOf b
      let sv := { sv with early := sv.early.filter (fun x => (segOf x).num != sv.nseg), nseg := sv.nseg + 1, last := sv.last || g.last
                          entries := sv.entries ++ (List.range g.entries).map (fun i => sliceB g.body (16 * i) 16) }
      sv.take fuel

/-- A REQUEST or REFRESH segment reaches its owner: its entries are served as soon as they arrive (R264, R269). -/
def State.serveSeg (s : State) (p qp : Nat) (b : List Byte) : State :=
  let g := segOf b
  let same (sv : Serve) : Bool :=
    let h := segOf sv.head
    h.src = g.src && h.tag = g.tag && h.gen = g.gen && h.convoy = g.convoy && h.index = g.index && h.attempt = g.attempt
  let new : Serve := ⟨qp, b.take 64, g.kind = 6, 0, false, [], 0, 0, [], false⟩
  let s := if (s.emb p).serves.any same then s else s.updEmb p (fun e => { e with serves := e.serves ++ [new] })
  (s.updEmb p (fun e => { e with serves := e.serves.map (fun sv => if same sv then
      ({ sv with early := sv.early ++ [b] } : Serve).take (sv.early.length + 1) else sv) })).serveAll p

/-! ## Convoys received -/

/-- Every segment of the caravan is here. -/
def InCar.full (c : InCar) : Bool :=
  c.last && (List.range c.segs.length).all (fun i => c.segs.any (fun b => (segOf b).num = i))
    && c.segs.any (fun b => (segOf b).last && (segOf b).num + 1 = c.segs.length)

/-- The closing message and all CARAVANS caravans are here. -/
def InConvoy.ready (c : InConvoy) : Bool :=
  match c.closing with
  | some n => (List.range n).all (fun i => c.cars.any (fun k => k.index = i && k.full))
  | none => false

def isIn (src dir convoy : Nat) (c : InConvoy) : Bool := c.src = src && c.dir = dir && c.convoy = convoy

def State.setIn (s : State) (p : Nat) (c : InConvoy) : State :=
  s.updEmb p (fun e =>
    let l := if e.ins.any (isIn c.src c.dir c.convoy) then e.ins.map (fun x => if isIn c.src c.dir c.convoy x then c else x)
      else e.ins ++ [c]
    { e with ins := l })

/-- CLOSE_ACK (R261). -/
def State.sendAck (s : State) (p : Nat) (c : InConvoy) (result : Nat) : State :=
  s.sendSeg p c.qp { kind := 5, dst := c.src, attempt := c.attempt, grad := c.dir = 1, convoy := c.convoy
                     caravans := c.closing.getD 0, result := result }

/-- Counts of a complete request convoy (R264). -/
def State.creditConvoy (s : State) (p : Nat) (c : InConvoy) : State :=
  c.cars.foldl (fun s k => k.segs.foldl (fun s b =>
    let g := segOf b
    if g.kind != 1 || !g.countable then s else
    (List.range g.entries).foldl (fun s i =>
      let e := sliceB g.body (16 * i) 16
      let t := fieldAt e 6 2
      let row := fieldAt e 0 6
      if s.entryBad p t row (fieldAt e 8 1) (fieldAt e 9 1) then s else
      match s.table p t with
      | none => s
      | some d => s.owe p d (s.own p d row).2 (fieldAt e 0xA 2)) s) s) s

/-- Add the entries of one REVERSE segment into the ledgers (R263, R265). -/
def State.applyRev (s : State) (p : Nat) (b : List Byte) : State :=
  let g := segOf b
  ((reverseHeads 512 g.body).foldl (fun (a : State × Nat) e =>
    let s := a.1
    let t := fieldAt e 6 2
    let row := fieldAt e 0 6
    let fmt := fieldAt e 8 1 % 32
    let first := fieldAt e 9 1
    let n := fieldAt e 0xA 1
    let mask := bits g.mask (a.2 + n - 1) a.2
    let s := match s.table p t with
      | none => s.tableInvalid p (rowKey t row) g.src
      | some d =>
        if !d.grad || decide (1 < fmt) || decide (cdiv d.elems (if fmt = 0 then 16 else 32) < first + n) || decide (d.rows ≤ row)
          || (s.own p d row).1 != s.myChip then s.tableInvalid p (rowKey t row) g.src
        else s.ledgerAdd p d (s.own p d row).2 row first fmt (e.drop 16) mask
    (s, a.2 + n)) (s, 0)).1

/-- Lap-record entry of a late convoy (Table 2-8). -/
def State.lateRec (s : State) (p typ src conv : Nat) : State :=
  s.addRec p { typ := typ, leg := s.leg p, source := src, item := conv, value := convoyLap (s.lap p) conv }

/-- The leg in progress is the lap's first exchange leg. -/
def State.firstExchange (s : State) (p : Nat) : Bool :=
  s.legKind p = 3 && !(List.range (s.leg p)).any (fun j =>
    legRuns (s.legEff p j) (s.lap p) && F.SEQ_LEG_TABLE_KIND.get (s.legEff p j) = 3)

/-- The replayed record holds one of `types` for a convoy (R76, R268). -/
def State.recorded (s : State) (p src conv : Nat) (types : List Nat) : Bool :=
  (s.part p).replayed.any (recMatch conv src types)

/-- Apply the deferred convoy `f` in this leg, and record it (R268). -/
def State.applyDeferred (s : State) (p : Nat) (f : Deferred) : State :=
  let s := f.segs.foldl (fun s b => s.applyRev p b) s
  ((s.updEmb p (fun e => { e with deferred := e.deferred.filter (fun x => !(x.src = f.src && x.item = f.item)) })).lateRec p 4
    f.src f.item).embStatus p

/-- A late convoy under add-later is complete: it goes to the deferred area, or is dropped where that is full (R268). -/
def State.deferConvoy (s : State) (p : Nat) (c : InConvoy) : State :=
  let segs := c.cars.flatMap (·.segs)
  let n := (segs.map (·.length)).sum
  let area := s.effF R.EMB_DEFER_AREA F.EMB_DEFER_AREA_SIZE_MIB p 0 * 2 ^ 20
  if area < (s.emb p).deferBytes + n then
    (((s.count R.CNT_EMB p 14 1).lateRec p 3 c.src c.convoy).setIn p { c with stage := 5, cars := [] }).sendAck p c 2
  else
    let f : Deferred := ⟨c.src, c.convoy, convoyLap (s.lap p) c.convoy, segs⟩
    let s := ((s.updEmb p (fun e => { e with deferred := e.deferred ++ [f] })).setIn p { c with stage := 4, cars := [] }).embStatus p
    let s := s.sendAck p c 1
    if f.lap != s.lap p && s.firstExchange p
      && (if s.replayOn p then s.recorded p c.src c.convoy [4] else !(s.part p).deadline) then s.applyDeferred p f else s

/-- What a complete convoy does, by what has been decided of it (R264, R265, R268). -/
def State.takeConvoy (s : State) (p : Nat) (c : InConvoy) : State :=
  if !c.ready then s else
  match c.stage with
  | 0 =>
    if c.convoy != s.convoy p then s
    else if c.dir = 0 then ((s.creditConvoy p c).setIn p { c with stage := 1 }).sendAck p c 0
    else if s.replayOn p && s.recorded p c.src c.convoy [1, 2] then s
    else
      let s := c.cars.foldl (fun s k => k.segs.foldl (fun s b => s.applyRev p b) s) s
      (s.setIn p { c with stage := 1 }).sendAck p c 0
  | 2 => ((s.count R.CNT_EMB p 13 1).setIn p { c with stage := 5, cars := [] }).sendAck p c 2
  | 3 => s.deferConvoy p c
  | _ => s

/-- Insert a segment into its caravan; false where it is already there. -/
def InConvoy.addSeg (c : InConvoy) (b : List Byte) : InConvoy × Bool :=
  let g := segOf b
  match c.cars.find? (fun k => k.index = g.index) with
  | none => ({ c with cars := c.cars ++ [{ index := g.index, segs := [b], last := g.last }] }, true)
  | some k =>
    if k.segs.any (fun x => (segOf x).num = g.num) then (c, false)
    else ({ c with cars := c.cars.map (fun y => if y.index = g.index then
      { y with segs := insertBy (fun a d => decide ((segOf a).num < (segOf d).num)) b y.segs, last := y.last || g.last } else y) }, true)

/-- A REQUEST, REFRESH, REVERSE or CLOSE segment is entered in its convoy (R264, R265). -/
def State.inSeg (s : State) (p qp dir : Nat) (b : List Byte) : State :=
  let g := segOf b
  let closing := g.kind = 4
  let dup (s : State) : State := if closing || g.last then s.count R.CNT_EMB p 12 1 else s
  let c0 : InConvoy := ((s.emb p).ins.find? (isIn g.src dir g.convoy)).getD { src := g.src, dir := dir, convoy := g.convoy, attempt := g.attempt, qp := qp }
  let known := (s.emb p).ins.any (isIn g.src dir g.convoy)
  let reAck (s : State) (c : InConvoy) (r : Nat) : State :=
    if closing then s.sendAck p { c with closing := some g.caravans, qp := qp, attempt := g.attempt } r else s
  if !known && serialNewer 24 (s.convoy p) g.convoy then reAck (dup s) c0 0
  else if c0.stage = 1 || c0.stage = 4 || c0.stage = 5 then
    reAck (dup s) c0 (match c0.stage with | 1 => 0 | 4 => 1 | _ => 2)
  else if g.attempt < c0.attempt then dup s
  else
    let s := if c0.attempt < g.attempt then s.count R.CNT_EMB p 12 (c0.cars.length + b2n c0.closing.isSome) else s
    let c := if c0.attempt < g.attempt then { c0 with attempt := g.attempt, cars := [], closing := none } else c0
    let c := { c with qp := qp }
    if closing then
      if c.closing.isSome then (dup s).setIn p c else
      let c := { c with closing := some g.caravans }
      (s.setIn p c).takeConvoy p c
    else match c.addSeg b with
      | (c, false) => (dup s).setIn p c
      | (c, true) => (s.setIn p c).takeConvoy p c

/-! ## Decisions of paced mode and of replay (R268) -/

/-- The owner decides a convoy of the current leg late: `typ` 1 add later, 2 drop. -/
def State.decideLate (s : State) (p src typ : Nat) : State :=
  let conv := s.convoy p
  let c := ((s.emb p).ins.find? (isIn src 1 conv)).getD { src := src, dir := 1, convoy := conv, attempt := 0, qp := s.embQp p }
  if c.stage != 0 then s else
  let c := { c with stage := if typ = 1 then 3 else 2 }
  ((s.lateRec p typ src conv).setIn p c).takeConvoy p c

/-- The leg uses the gradient direction: its CLOSE has been taken, or a reverse convoy has come. -/
def State.gradUsed (s : State) (p : Nat) : Bool :=
  (s.emb p).issued.contains 3 || (s.emb p).ins.any (fun c => c.dir = 1 && c.convoy = s.convoy p)

/-- A deferred convoy of the previous lap that is still incomplete is dropped (R268). -/
def State.overdue (s : State) (p : Nat) : State :=
  ((s.emb p).ins.filter (fun c => c.stage = 3 && c.convoy != s.convoy p && convoyLap (s.lap p) c.convoy != s.lap p)).foldl
    (fun s c => (s.lateRec p 3 c.src c.convoy).setIn p { c with stage := 2 }) s

/-- Late decisions of the reverse convoys of this leg once its deadline has passed. -/
def State.embLate (s : State) (p : Nat) : State :=
  if !(s.part p).deadline || !s.pacedLeg p || s.replayOn p || !s.gradUsed p then s else
  let typ := if s.effF R.SEQ_LAP_CONFIG F.SEQ_LAP_CONFIG_LATE_ACTION p 0 = 0 then 1 else 2
  (s.peers p).foldl (fun s src => s.decideLate p src typ) s

/-- The owner's deadline passes (R268). -/
def State.embDeadline (s : State) (p : Nat) : State :=
  let s := if s.firstExchange p && !s.replayOn p then s.overdue p else s
  s.embLate p

/-- The recorded late decisions of a replayed leg, taken when its gradients would otherwise be complete (R76). -/
def State.embReplayLate (s : State) (p : Nat) : State :=
  if !s.replayOn p then s else
  (s.peers p).foldl (fun s src =>
    if s.recorded p src (s.convoy p) [1] then s.decideLate p src 1
    else if s.recorded p src (s.convoy p) [2] then s.decideLate p src 2 else s) s

/-! ## CLOSE and REFRESH -/

/-- The engine of binding `b` takes its next EMB command of opcode `op` (R259, R260, R269). -/
def State.embCmd (s : State) (p b op : Nat) : State :=
  match s.engNext p b with
  | none => s
  | some c =>
    let bd := s.bindingOf c
    if c.target != 3 then s else
    let key := 2 * c.opcode + c.offset % 2
    let bad := c.opcode = 0 || decide (2 < c.opcode) || bd.inst != 0 || decide (1 < c.offset) || (c.opcode = 2 && c.offset != 0)
      || (s.emb p).issued.contains key
    if bad then (s.engStart c).raise E.EMB_COMMAND p c.pos 0
    else if c.opcode != op then s
    else
      let s := (s.engStart c).updEmb p (fun e => { e with issued := e.issued ++ [key] })
      if op = 2 then
        let s := (s.tables p).foldl (fun s d => if !d.hot then s else
          (List.range d.hotCount).foldl (fun s i => let (row, k) := s.hotEntry d i; s.refreshRow p d row k) s) s
        s.closeDir p 0
      else
        let s := ((s.resolveAll p [0]).closeDir p c.offset)
        if c.offset = 1 then s.embLate p else s

/-- Everything R260 waits for in a direction has happened. -/
def State.dirDone (s : State) (p dir : Nat) : Bool :=
  let e := s.emb p
  let conv := s.convoy p
  (s.peers p).all (fun o =>
    e.outs.any (fun x => isOut o dir conv x && x.acked)
    && (e.ins.any (fun c => isIn o dir conv c && c.stage != 0)
      || (dir = 1 && s.replayOn p && s.recorded p o conv [1, 2])))
  && (dir = 1 || (!e.cars.any (fun c => c.dir = 0) && !e.serves.any (fun sv => (segOf sv.head).convoy = conv)))
  && (dir = 0 || !s.replayOn p || !s.firstExchange p
    || (s.part p).replayed.all (fun r => !(r.typ = 4 && bits r.item 63 56 = 0)
      || (s.part p).record.any (fun x => x.typ = 4 && x.source = r.source && x.item = r.item)))

/-- CLOSE_COMPLETE: the CLOSE or REFRESH of a direction completes (R260). -/
def State.closeComplete (s : State) (p dir : Nat) : State :=
  match (s.part p).outstanding.find? (fun c => c.started && c.target = 3 &&
      ((c.opcode = 1 && c.offset = dir) || (c.opcode = 2 && dir = 0))) with
  | none => s
  | some c =>
    if !s.dirDone p dir then s else
    let s := if dir = 1 then s.embReplayLate p else s
    s.cmdDone c

/-! ## Returns (R263, R267, R269) -/

/-- A request entry has all its granules: every requester's copy is written. -/
def State.entryDone (s : State) (p : Nat) (c : Caravan) (e : CarEntry) : State :=
  if !c.refresh then e.reqs.foldl (fun s id => s.reqReady id) s else
  let key := rowKey e.table e.row
  let left := Sp.get 0 (s.emb p).refreshLeft key - 1
  let s := s.updEmb p (fun x => { x with refreshLeft := Sp.set 0 x.refreshLeft key left })
  if left != 0 then s else
  match s.table p e.table with
  | none => s
  | some d => match s.hotSlot d e.row with
    | none => s
    | some k =>
      let a := d.replicaAddr k
      let poisoned := (s.emb p).refreshPoison.contains key
      let hash := Sp.get 0 (s.emb p).refreshHash key
      let s := s.updEmb p (fun x => { x with refreshPoison := x.refreshPoison.filter (· != key), refreshHash := Sp.set 0 x.refreshHash key 0 })
      if poisoned then (s.save a (List.replicate 64 0)).raise E.REPLICA_HOME_POISON p key c.owner
      else s.save a (leBytes 8 hash ++ leBytes 4 (s.lap p) ++ leBytes 1 1 ++ List.replicate 51 0)

/-- One returned granule: number `j` of the run of entry `e` (R263, R269). -/
def State.retGran (s : State) (p : Nat) (c : Caravan) (e : CarEntry) (j : Nat) (b : List Byte) (po : Bool) : State :=
  if !c.refresh then
    e.reqs.foldl (fun s id => match s.greqs.find? (fun g => g.id = id) with
      | some g => s.scrPut g.core (g.local_ + 64 * j) b po
      | none => s) s
  else
    let key := rowKey e.table e.row
    let s := if po then s.updEmb p (fun x => { x with refreshPoison := x.refreshPoison.filter (· != key) ++ [key] }) else s
    if j = 0 then s.updEmb p (fun x => { x with refreshHash := Sp.set 0 x.refreshHash key (fieldAt b 0 8) }) else
    match s.table p e.table with
    | none => s
    | some d => match s.hotSlot d e.row with
      | none => s
      | some k => s.save (d.replicaAddr k + 64 * (1 + e.first + (j - 1))) b po

/-- Granules of an entry's returned run. -/
def Caravan.run (c : Caravan) (e : CarEntry) : Nat := e.grans + b2n c.refresh

/-- Position of the `i`-th granule after (entry, granule). -/
def Caravan.locate (c : Caravan) : List CarEntry → Nat → Nat → Option (Nat × Nat)
  | [], _, _ => none
  | e :: r, n, i => if i < c.run e then some (n, i) else Caravan.locate c r (n + 1) (i - c.run e)

/-- A RETURN or REFRESH_RET segment (R263, R267, R387). -/
def State.retSeg (s : State) (p : Nat) (b : List Byte) : State :=
  let g := segOf b
  let late := s.count R.CNT_RLY 0 8 1
  match (s.emb p).cars.find? (fun c => c.stage = 2 && c.dir = 0 && c.tag = g.tag && c.gen = g.gen && s.tagUse.contains g.tag) with
  | none => late
  | some c =>
    let step (a : State × Caravan) (i : Nat) : State × Caravan :=
      let (s, c) := a
      match c.locate (c.entries.drop g.firstEntry) g.firstEntry (g.firstGran + i) with
      | none => (s, c)
      | some (n, j) => match c.entries[n]? with
        | none => (s, c)
        | some e =>
          if c.got.contains (n, j) then (s, c) else
          let s := s.retGran p c e j (sliceB g.body (64 * i) 64) (bit g.mask i)
          let c := { c with got := c.got ++ [(n, j)] }
          (if (c.got.filter (fun x => x.1 = n)).length = c.run e then s.entryDone p c e else s, c)
    let (s, c') := (List.range g.grans).foldl step (s, c)
    let done := c'.got.length = (c'.entries.map c'.run).sum
    let mine (x : Caravan) : Bool := x.stage = 2 && x.dir = 0 && x.tag = c.tag && x.gen = c.gen
    let s := s.updEmb p (fun e =>
      let l := if done then e.cars.filter (fun x => !mine x) else e.cars.map (fun x => if mine x then c' else x)
      { e with cars := l })
    if done then s.tagRelease c.tag else s

/-- A CLOSE_ACK segment (R260). -/
def State.ackSeg (s : State) (p : Nat) (b : List Byte) : State :=
  let g := segOf b
  let dir := b2n g.grad
  s.updEmb p (fun e =>
    if e.outs.any (fun o => isOut g.src dir g.convoy o && o.attempt = g.attempt && o.closed) then
      { e with
        outs := e.outs.map (fun o => if isOut g.src dir g.convoy o && o.attempt = g.attempt then { o with acked := true, result := g.result } else o)
        cars := if dir = 1 then e.cars.filter (fun c => !(c.owner = g.src && c.dir = 1 && c.convoy = g.convoy)) else e.cars }
    else e)

/-- A segment delivered to queue pair `qp` of partition `p` (R261): discarded in a failed partition (R467). -/
def State.embSegment (s : State) (p qp : Nat) (b : List Byte) : State :=
  let g := segOf b
  if s.pState p = stFailed || s.chip.fatal then s.count R.CNT_GLB 0 19 1
  else if g.kind = 0 || decide (7 < g.kind) then s.count R.CNT_RLY 0 16 1
  else
    let s := s.journalAdd p b.length
    let inCar (s : State) : State := if g.last then s.count R.CNT_EMB p 10 1 else s
    match g.kind with
    | 1 => ((inCar s).serveSeg p qp b).inSeg p qp 0 b
    | 2 => s.retSeg p b
    | 3 => (inCar s).inSeg p qp 1 b
    | 4 => s.inSeg p qp (b2n g.grad) b
    | 5 => s.ackSeg p b
    | 6 => ((inCar s).serveSeg p qp b).inSeg p qp 0 b
    | _ => s.retSeg p b

/-! ## Timeouts (R267) -/

/-- EMB_TIMEOUT.RETRIES. -/
def State.embRetries (s : State) (p : Nat) : Nat := s.effF R.EMB_TIMEOUT F.EMB_TIMEOUT_RETRIES p 0

/-- A request caravan under tag `tag` is unanswered: it goes out again under tag `fresh`. -/
def State.carTimeout (s : State) (p tag fresh : Nat) : State :=
  match (s.emb p).cars.find? (fun c => c.stage = 2 && c.dir = 0 && c.tag = tag) with
  | none => s
  | some c =>
    let s := s.tagRelease tag
    if s.embRetries p ≤ c.tries then s.raise E.CARAVAN_TIMEOUT p (formP c.owner (s.embQp p) c.convoy) 0
    else if !s.tagFree fresh then s.tagTake tag
    else
      let c' := { c with tag := fresh, gen := s.tagGenOf fresh, tries := c.tries + 1 }
      let s := (s.tagTake fresh).updEmb p (fun e => { e with cars := e.cars.map (fun x => if x = c then c' else x) })
      (s.sendCaravan p c').count R.CNT_EMB p 11 1

/-- A closing message, or a reverse convoy with its closing, is unacknowledged: it goes out again. -/
def State.convoyTimeout (s : State) (p owner dir : Nat) : State :=
  match (s.emb p).outs.find? (fun o => isOut owner dir (s.convoy p) o && o.closed && !o.acked) with
  | none => s
  | some o =>
    if s.embRetries p ≤ o.tries then s.raise E.CARAVAN_TIMEOUT p (formP owner (s.embQp p) o.convoy) 0 else
    let s := s.updEmb p (fun e => { e with outs := e.outs.map (fun x => if isOut owner dir o.convoy x then { x with tries := x.tries + 1 } else x) })
    let s := if dir = 1 then
        (((s.emb p).cars.filter (fun c => c.owner = owner && c.dir = 1 && c.stage = 2)).foldl
          (fun s c => (s.sendCaravan p c).count R.CNT_EMB p 11 1) s) else s
    s.sendClosing p o

/-! ## Boundaries -/

/-- The repeat boundary (R266): what the abandoned attempt sent is forgotten, and convoys received are taken again. -/
def State.embRepeat (s : State) (p : Nat) : State :=
  let s := ((s.emb p).cars.filter (fun c => c.stage = 2 && c.dir = 0)).foldl (fun s c => s.tagRelease c.tag) s
  let conv := s.convoy p
  s.updEmb p (fun e => { e with
    cars := [], outs := e.outs.filter (fun o => o.convoy != conv), issued := [], refreshLeft := [], refreshPoison := []
    refreshHash := [], ins := e.ins.map (fun c => if c.convoy = conv && c.stage = 1 then { c with stage := 0 } else c) })

/-- A leg begins: convoys of it that have come are taken, and the first exchange leg of a lap applies the deferred ones. -/
def State.embLegBegin (s : State) (p : Nat) : State :=
  let s := s.embStatus p
  let s := if !s.firstExchange p then s else
    ((s.emb p).deferred.filter (fun f => f.lap != s.lap p)).foldl (fun s f =>
      if !s.replayOn p || s.recorded p f.src f.item [4] then s.applyDeferred p f
      else if s.recorded p f.src f.item [3] then
        ((s.updEmb p (fun e => { e with deferred := e.deferred.filter (fun x => !(x.src = f.src && x.item = f.item)) })).lateRec p 3 f.src f.item).embStatus p
      else s) s
  ((s.emb p).ins.filter (fun c => c.convoy = s.convoy p)).foldl (fun s c => s.takeConvoy p c) s

/-- A completion boundary ends the leg: the journal is released, and a deferred convoy that the lap's first exchange leg
did not receive is overdue. -/
def State.embLegEnd (s : State) (p : Nat) : State :=
  let conv := s.convoy p
  let s := if s.firstExchange p then s.overdue p else s
  s.updEmb p (fun e => { e with
    cars := [], outs := e.outs.filter (fun o => o.convoy != conv), issued := []
    ins := e.ins.map (fun c => if c.convoy = conv && c.stage = 1 then { c with cars := [] } else c) })

/-- The lap-scoped part: REPLICA_READ entries, written before the record closes (R255). -/
def State.embReplicaRead (s : State) (p : Nat) : State :=
  ((s.emb p).diverged.foldl (fun s e => s.addRec p { typ := 0x10, leg := s.leg p, item := e.1, value := e.2 - 1 }) s)

/-- What the end of lap `lap` drops: verifications, old marks, and deferred convoys older than one lap (R75). -/
def State.embLapEnd (s : State) (p : Nat) : State :=
  let lap := s.lap p
  s.updEmb p (fun e => { e with
    verified := [], diverged := []
    ins := e.ins.filter (fun c => convoyLap lap c.convoy = lap || c.stage = 3 || serialNewer 24 c.convoy (convoyOf lap 31)) })

/-! ## The commands -/

/-- STAGE (R241): look-ups that wait for the row proceed (R242). -/
def execStage (part die slot : Nat) (s : State) : Host.Outcome State Fault Refusal :=
  .next ((s.stage part die slot).embResume part)
/-- SWEEP_ROW_DONE (R297): look-ups that wait on the row proceed (R270). -/
def execSweepRowDone (stack pool engine : Nat) (fail : Bool) (errs : List (Nat × Nat)) (s : State) :
    Host.Outcome State Fault Refusal :=
  .next (let s := (s.plant errs).sweepRow stack pool engine fail
         s.enabledParts.foldl (fun s p => s.embResume p) s)
/-- CLOSE (R260). -/
def execClose (part binding : Nat) (errs : List (Nat × Nat)) (s : State) : Host.Outcome State Fault Refusal :=
  .next ((s.plant errs).embCmd part binding 1)
/-- REFRESH (R269). -/
def execRefresh (part binding : Nat) (errs : List (Nat × Nat)) (s : State) : Host.Outcome State Fault Refusal :=
  .next ((s.plant errs).embCmd part binding 2)
/-- CLOSE_COMPLETE (R260). -/
def execCloseComplete (part dir : Nat) (s : State) : Host.Outcome State Fault Refusal := .next (s.closeComplete part dir)
/-- ROW_REQUEST_RESOLVE (R252): `id` names the request. -/
def execRowRequestResolve (id : Nat) (errs : List (Nat × Nat)) (s : State) : Host.Outcome State Fault Refusal :=
  .next ((s.plant errs).resolve id)
/-- CARAVAN_SEND (R258): `tag` is the read tag the engine allots. -/
def execCaravanSend (part slice owner dir tag : Nat) (s : State) : Host.Outcome State Fault Refusal :=
  .next (s.caravanSend part slice owner dir tag)
/-- REQUEST_SEGMENT (R264). -/
def execRequestSegment (part qp : Nat) (seg : List Byte) (errs : List (Nat × Nat)) (s : State) : Host.Outcome State Fault Refusal :=
  .next (if (segOf seg).kind = 1 then (s.plant errs).embSegment part qp seg else s)
/-- RETURN_SEGMENT (R263). -/
def execReturnSegment (part qp : Nat) (seg : List Byte) (s : State) : Host.Outcome State Fault Refusal :=
  .next (if (segOf seg).kind = 2 then s.embSegment part qp seg else s)
/-- REVERSE_SEGMENT (R265). -/
def execReverseSegment (part qp : Nat) (seg : List Byte) (s : State) : Host.Outcome State Fault Refusal :=
  .next (if (segOf seg).kind = 3 then s.embSegment part qp seg else s)
/-- CLOSE_SEGMENT (R264, R265). -/
def execCloseSegment (part qp : Nat) (seg : List Byte) (s : State) : Host.Outcome State Fault Refusal :=
  .next (if (segOf seg).kind = 4 then s.embSegment part qp seg else s)
/-- CLOSE_ACK_SEGMENT (R260). -/
def execCloseAckSegment (part qp : Nat) (seg : List Byte) (s : State) : Host.Outcome State Fault Refusal :=
  .next (if (segOf seg).kind = 5 then s.embSegment part qp seg else s)
/-- REFRESH_SEGMENT (R269). -/
def execRefreshSegment (part qp : Nat) (seg : List Byte) (errs : List (Nat × Nat)) (s : State) : Host.Outcome State Fault Refusal :=
  .next (if (segOf seg).kind = 6 then (s.plant errs).embSegment part qp seg else s)
/-- REFRESH_RET_SEGMENT (R269). -/
def execRefreshRetSegment (part qp : Nat) (seg : List Byte) (s : State) : Host.Outcome State Fault Refusal :=
  .next (if (segOf seg).kind = 7 then s.embSegment part qp seg else s)
/-- UNKNOWN_SEGMENT (R261). -/
def execUnknownSegment (part qp : Nat) (seg : List Byte) (s : State) : Host.Outcome State Fault Refusal :=
  .next (if (segOf seg).kind = 0 || decide (7 < (segOf seg).kind) then s.embSegment part qp seg else s)
/-- CARAVAN_TIMEOUT (R267): `kind` 0 names a request caravan by its tag `key`, sent again under `fresh`; 1 and 2 name
the request and gradient convoy to owner `key`. -/
def execCaravanTimeout (part kind key fresh : Nat) (s : State) : Host.Outcome State Fault Refusal :=
  .next (if kind = 0 then s.carTimeout part key fresh else if kind ≤ 2 then s.convoyTimeout part key (kind - 1) else s)

end Sys2Proof.Machine
end

