-- ==== Sys2Proof/Machine/Relay.lean ====
section
/-! DEFINITION. The relay engine: communicators, collectives, waystations, triggers, stragglers and the digest relay's
packets (12_relays_and_collectives.md). -/

namespace Sys2Proof.Machine

def State.rly (s : State) (p : Nat) : RlySt := (s.part p).rly
def State.updRly (s : State) (p : Nat) (f : RlySt → RlySt) : State := s.updPart p (fun x => { x with rly := f x.rly })

/-! ## Descriptors (Tables 12-1 and 12-2) -/

/-- A collective descriptor. -/
structure CollD where
  kind : Nat
  op : Nat
  dtype : Nat
  comm : Nat
  axes : List Nat
  baton : Nat
  qpCount : Nat
  slots : Nat
  src : Nat
  dst : Nat
  count : Nat
  core : Nat
  id : Nat
  wayOff : Nat
  doneCtr : Nat
  roots : List Nat
deriving DecidableEq, Repr

def collOf (b : List Byte) : CollD :=
  let a := fieldAt b 4 1
  { kind := bits (fieldAt b 0 1) 2 1, op := fieldAt b 1 1 % 4, dtype := bits (fieldAt b 1 1) 3 2, comm := fieldAt b 2 2
    axes := ([a % 4, bits a 3 2, bits a 5 4]).take (bits a 7 6), baton := 1024 * 2 ^ (fieldAt b 5 1 % 4)
    qpCount := fieldAt b 6 1, slots := fieldAt b 7 1, src := fieldAt b 8 6, dst := fieldAt b 0x10 6, count := fieldAt b 0x18 5
    core := fieldAt b 0x20 2, id := fieldAt b 0x22 2, wayOff := fieldAt b 0x24 4, doneCtr := fieldAt b 0x28 2
    roots := [fieldAt b 0x2A 1, fieldAt b 0x2B 1, fieldAt b 0x2C 1] }

def CollD.width (d : CollD) : Nat := match d.dtype with | 0 => 4 | 1 => 2 | 2 => 4 | _ => 8
def CollD.bytes (d : CollD) : Nat := d.count * d.width
def CollD.naxes (d : CollD) : Nat := d.axes.length
def CollD.phases (d : CollD) : Nat := if d.kind = 0 then 2 * d.naxes else d.naxes
/-- Bytes of one slot set. -/
def CollD.setBytes (d : CollD) : Nat := d.slots * (d.baton + 64)

/-- Fields that must be zero or in range (R368). -/
def collForm (b : List Byte) : Bool :=
  let d := collOf b
  let red := d.kind ≤ 1
  bits (fieldAt b 0 1) 7 3 = 0 && bits (fieldAt b 1 1) 7 4 = 0 && bit (fieldAt b 0 1) 0 && fieldAt b 5 1 < 3
    && fieldAt b 0xE 2 = 0 && fieldAt b 0x16 2 = 0 && fieldAt b 0x1D 3 = 0 && d.core < 1024 && d.wayOff < 2 ^ 21
    && fieldAt b 0x2D 19 = 0 && decide (1 ≤ d.qpCount ∧ d.qpCount ≤ 64) && decide (2 ≤ d.slots ∧ d.slots ≤ 64)
    && d.src % 64 = 0 && d.dst % 64 = 0 && d.bytes % 64 = 0 && d.wayOff % 64 = 0
    && decide (1 ≤ d.naxes) && d.axes.all (fun a => decide (a < 3)) && d.axes.eraseDups.length = d.naxes
    && (!red || (d.op != 3 && (d.dtype != 3 || d.op = 0)))
    && decide (d.wayOff + d.qpCount * d.setBytes ≤ scratchEnd)

/-- Member count and first coordinate of logical axis `a` of communicator `c`. -/
def State.commAxis (s : State) (p c a : Nat) : Nat × Nat :=
  let at_ := s.effF R.RLY_COMM_TABLE F.RLY_COMM_TABLE_BASE p 0 * 64 + 64 * c
  (s.loadN (at_ + 4 + 2 * a) 1, s.loadN (at_ + 5 + 2 * a) 1)

/-- Communicator `c` is in use and its descriptor well formed. -/
def State.commOk (s : State) (p c : Nat) : Bool :=
  let at_ := s.effF R.RLY_COMM_TABLE F.RLY_COMM_TABLE_BASE p 0 * 64 + 64 * c
  decide (c < s.effF R.RLY_COMM_TABLE F.RLY_COMM_TABLE_COUNT p 0) && s.loadN at_ 1 = 1 && s.loadN (at_ + 1) 3 = 0
    && s.loadN (at_ + 10) 54 = 0 && !s.poisoned at_ 64
    && (List.range 3).all (fun a => decide (1 ≤ (s.commAxis p c a).1 ∧ (s.commAxis p c a).1 ≤ 64))

/-- A ring on this chip: members, own position, first coordinate, physical axis and direction (R366, R367). -/
structure Ring where
  k : Nat
  pos : Nat
  first : Nat
  phys : Nat
  dir : Nat
deriving DecidableEq, Repr

/-- The ring of logical axis `a` of communicator `c`; none where the chip is no member of it (R366). -/
def State.ring (s : State) (p c a : Nat) : Option Ring :=
  let (k, first) := s.commAxis p c a
  match axisOf ((s.part p).course.axes.getD a 3) with
  | none => none
  | some (phys, dir) =>
    let n := s.dim phys
    let pos := (coordOf s.myChip phys + n - first % n) % n
    if k ≤ pos ∨ n < k then none else some ⟨k, pos, first, phys, dir⟩

/-- Chip at position `i` of a ring. -/
def State.ringChip (s : State) (r : Ring) (i : Nat) : Nat := withCoord s.myChip r.phys ((r.first + i) % s.dim r.phys)
/-- `t` successor steps on from position `i`, and back. -/
def Ring.ahead (r : Ring) (i t : Nat) : Nat := (if r.dir = 0 then i + t else i + r.k - t % r.k) % r.k
def Ring.back (r : Ring) (i t : Nat) : Nat := (if r.dir = 0 then i + r.k - t % r.k else i + t) % r.k
def State.succ (s : State) (r : Ring) : Nat := s.ringChip r (r.ahead r.pos 1)
def State.pred (s : State) (r : Ring) : Nat := s.ringChip r (r.back r.pos 1)

/-- Granules of shard `j` of the region `[lo, hi)` (R369). -/
def shard (lo hi k j : Nat) : Nat × Nat := (lo + j * (hi - lo) / k, lo + (j + 1) * (hi - lo) / k)

/-! ## Phases (R370, R372) -/

/-- What a phase is on this chip: kind 0 reduce-scatter, 1 all-gather, 2 gather; its ring; the granules it works on;
whether the chip takes part; for a gather, granules of a block and the origin of the ring's blocks. -/
structure Phase where
  kind : Nat
  ring : Ring
  lo : Nat := 0
  hi : Nat := 0
  block : Nat := 0
  stride : Nat := 0
  root : Nat := 0
  on : Bool := true
deriving DecidableEq, Repr

/-- The region held after reduce-scatter on the first `m` axes. -/
def State.heldRegion (s : State) (p : Nat) (d : CollD) : Nat → Nat × Nat
  | 0 => (0, d.bytes / 64)
  | m + 1 =>
    let (lo, hi) := s.heldRegion p d m
    match s.ring p d.comm (d.axes.getD m 0) with
    | none => (lo, hi)
    | some r => shard lo hi r.k (r.ahead r.pos 1)

/-- Members on the first `m` axes and this chip's block index among them, for GATHER. -/
def State.gatherBase (s : State) (p : Nat) (d : CollD) (m : Nat) : Nat × List Nat × List Nat :=
  let rs := (List.range d.naxes).map (fun j => s.ring p d.comm (d.axes.getD j 0))
  let ks := rs.map (fun r => (r.map (·.k)).getD 1)
  let ps := rs.map (fun r => (r.map (·.pos)).getD 0)
  ((ks.take m).foldl (· * ·) 1, ks, ps)

/-- Phase `ph` of a collective. -/
def State.phase (s : State) (p : Nat) (d : CollD) (ph : Nat) : Option Phase :=
  let n := d.naxes
  if d.phases ≤ ph then none
  else if d.kind = 3 then
    (s.ring p d.comm (d.axes.getD ph 0)).map (fun r =>
      let (mult, ks, ps) := s.gatherBase p d ph
      let blk := d.bytes / 64 * mult
      let on := (List.range ph).all (fun j => ps.getD j 0 = d.roots.getD j 0)
      -- blocks of the ring start where position 0 on this axis and the later axes' positions put them
      let later := ((List.range n).filter (fun j => decide (ph < j))).foldl
        (fun a j => a + ps.getD j 0 * (ks.take j).foldl (· * ·) 1) 0
      { kind := 2, ring := r, lo := d.bytes / 64 * later, block := blk, stride := blk, root := d.roots.getD ph 0, on := on })
  else
    let rs := d.kind = 1 || (d.kind = 0 && decide (ph < n))
    let m := if rs then ph else if d.kind = 0 then 2 * n - 1 - ph else n - 1 - ph
    (s.ring p d.comm (d.axes.getD m 0)).map (fun r =>
      let (lo, hi) := s.heldRegion p d m
      { kind := if rs then 0 else 1, ring := r, lo := lo, hi := hi })

/-- Batons of `g` granules. -/
def CollD.batons (d : CollD) (g : Nat) : Nat := cdiv g (d.baton / 64)

/-- The granules this chip sends at step `t`, and those it receives at step `t`. -/
def Phase.outAt (f : Phase) (t : Nat) : Nat × Nat :=
  let r := f.ring
  match f.kind with
  | 0 => shard f.lo f.hi r.k (r.back r.pos t)
  | 1 => shard f.lo f.hi r.k (r.back (r.ahead r.pos 1) t)
  | _ => let i := r.back r.pos t; (f.lo + i * f.stride, f.lo + i * f.stride + f.block)
def Phase.inAt (f : Phase) (t : Nat) : Nat × Nat := f.outAt (t + 1)

/-- Successor steps from this chip to a gather's root. -/
def Phase.dist (f : Phase) : Nat :=
  let r := f.ring
  ((List.range r.k).find? (fun t => r.ahead r.pos t = f.root)).getD 0

/-- Steps this chip sends at and receives at. -/
def Phase.outSteps (f : Phase) : Nat :=
  if !f.on then 0 else if f.kind < 2 then f.ring.k - 1 else if f.dist = 0 then 0 else f.ring.k - f.dist
def Phase.inSteps (f : Phase) : Nat :=
  if !f.on then 0 else if f.kind < 2 then f.ring.k - 1 else f.ring.k - 1 - f.dist

def Phase.outTotal (f : Phase) (d : CollD) : Nat :=
  ((List.range f.outSteps).map (fun t => d.batons ((f.outAt t).2 - (f.outAt t).1))).sum
def Phase.inTotal (f : Phase) (d : CollD) : Nat :=
  ((List.range f.inSteps).map (fun t => d.batons ((f.inAt t).2 - (f.inAt t).1))).sum

/-! ## Arithmetic (R371) -/

/-- a ⊕ b on one element. -/
def combineEl (op dtype a b : Nat) : Nat :=
  let f (x y : Nat) : Nat := if op = 0 then fadd x y else if op = 1 then fmax x y else fmin x y
  match dtype with
  | 0 => f a b
  | 1 => (convNum 1 .even false (f32 (f (a * 65536) (b * 65536)))).1
  | 2 => if op = 0 then (a + b) % 2 ^ 32 else if op = 1 then (if sext 32 a < sext 32 b then b else a)
      else (if sext 32 b < sext 32 a then b else a)
  | _ => (a + b) % 2 ^ 64

/-- a ⊕ b on data of equal length. -/
def combineData (d : CollD) (a b : List Byte) : List Byte :=
  let w := d.width
  ((List.range (a.length / w)).map (fun i => leBytes w (combineEl d.op d.dtype (fieldAt a (w * i) w) (fieldAt b (w * i) w)))).flatten

/-- The value of an element no member contributed to. -/
def CollD.emptyEl (d : CollD) : Nat :=
  if d.op = 0 then 0 else
  match d.dtype with
  | 0 => if d.op = 1 then 0xFF800000 else 0x7F800000
  | 1 => if d.op = 1 then 0xFF80 else 0x7F80
  | _ => if d.op = 1 then 0x80000000 else 0x7FFFFFFF
def CollD.emptyData (d : CollD) (n : Nat) : List Byte := (List.replicate (n / d.width) (leBytes d.width d.emptyEl)).flatten

/-- Marks as a mask, bit `i` for item `i`. -/
def maskOf (l : List Bool) : Nat := (l.zipIdx.map (fun (b, i) => b2n b * 2 ^ i)).sum

/-! ## Packets (Table 12-5) -/

/-- A relay body header. -/
structure RlyHead where
  comm : Nat
  id : Nat
  phase : Nat
  step : Nat := 0
  flags : Nat := 0
  index : Nat := 0
  bytes : Nat := 0
  poison : Nat := 0
  absent : Nat := 0
  applied : Nat := 0
  overdue : Nat := 0
  binding : Nat := 0
  desc : Nat := 0
deriving DecidableEq, Repr

def RlyHead.enc (h : RlyHead) : List Byte :=
  leBytes 2 h.comm ++ leBytes 2 h.id ++ leBytes 1 h.phase ++ leBytes 1 h.step ++ leBytes 2 h.flags ++ leBytes 4 h.index
    ++ leBytes 4 h.bytes ++ leBytes 8 h.poison ++ leBytes 8 h.absent ++ leBytes 8 h.applied ++ leBytes 8 h.overdue
    ++ leBytes 1 h.binding ++ leBytes 3 h.desc ++ List.replicate 12 0

def rlyHeadOf (b : List Byte) : RlyHead :=
  { comm := fieldAt b 0 2, id := fieldAt b 2 2, phase := fieldAt b 4 1, step := fieldAt b 5 1, flags := fieldAt b 6 1
    index := fieldAt b 8 4, bytes := fieldAt b 0xC 2, poison := fieldAt b 0x10 8, absent := fieldAt b 0x18 8
    applied := fieldAt b 0x20 8, overdue := fieldAt b 0x28 8, binding := fieldAt b 0x30 1 % 64, desc := fieldAt b 0x31 3 }

def State.sendRly (s : State) (p dst kind : Nat) (c : Coll) (op : Nat) (h : RlyHead) (data : List Byte) : State :=
  s.sendPkt p dst c.qp kind 0 0 c.seq op ({ h with comm := c.comm, id := c.id }.enc ++ data)

/-- BSEQ counts the batons sent on the queue pair to one successor (R374): those of the phases before `ph`. -/
def State.outBase (s : State) (p : Nat) (d : CollD) (f : Phase) (ph : Nat) : Nat :=
  ((List.range ph).map (fun i => match s.phase p d i with
    | some g => if s.succ g.ring = s.succ f.ring then g.outTotal d else 0
    | none => 0)).sum
/-- Batons received from the same predecessor in the phases before `ph`. -/
def State.inBase (s : State) (p : Nat) (d : CollD) (f : Phase) (ph : Nat) : Nat :=
  ((List.range ph).map (fun i => match s.phase p d i with
    | some g => if s.pred g.ring = s.pred f.ring then g.inTotal d else 0
    | none => 0)).sum

/-- WAYCREDIT to the predecessor of phase `ph`. -/
def State.wayCredit (s : State) (p : Nat) (c : Coll) (f : Phase) (ph grant ack flags : Nat) : State :=
  s.sendRly p (s.pred f.ring) 3 c 0 { comm := 0, id := 0, phase := ph, flags := flags, index := s.inBase p (collOf c.d) f ph + ack, bytes := grant } []

/-! ## Collectives on this chip -/

def sameColl (c x : Coll) : Bool := x.comm = c.comm && x.seq = c.seq

def State.setColl (s : State) (p : Nat) (c : Coll) : State :=
  s.updRly p (fun r => { r with colls := r.colls.map (fun x => if sameColl c x then c else x) })

/-- The collective as the state holds it now. -/
def State.collNow (s : State) (p : Nat) (c : Coll) : Coll := ((s.rly p).colls.find? (sameColl c)).getD c

def Coll.run? (c : Coll) (ph : Nat) : Option PhaseRun := c.runs.find? (fun r => r.phase = ph)
def Coll.setRun (c : Coll) (r : PhaseRun) : Coll :=
  if c.runs.any (fun x => x.phase = r.phase) then { c with runs := c.runs.map (fun x => if x.phase = r.phase then r else x) }
  else { c with runs := c.runs ++ [r] }

def Coll.n (c : Coll) : Nat := c.seq % 65536

/-- The phase is one that paced mode decides members of (R382). -/
def State.pacedPhase (s : State) (p : Nat) (f : Phase) : Bool := s.pacedLeg p && f.kind = 0 && decide (1 < f.ring.k)

/-- Deferred values of this collective's phase. -/
def State.deferredFor (s : State) (p : Nat) (c : Coll) (ph : Nat) : Option Deferred :=
  (s.rly p).deferred.find? (fun f => f.src = c.comm && f.item = c.n * 8 + ph && f.lap != s.lap p)

def State.dropDeferred (s : State) (p : Nat) (f : Deferred) : State :=
  s.updRly p (fun r => { r with deferred := r.deferred.filter (· != f) })

/-- Keep a contribution for the next lap (R383). -/
def State.rlyDefer (s : State) (p : Nat) (c : Coll) (x : Capture) : State :=
  if s.effF R.SEQ_LAP_CONFIG F.SEQ_LAP_CONFIG_LATE_ACTION p 0 != 0 then s else
  let f : Deferred := ⟨c.comm, c.n * 8 + x.phase, s.lap p, [x.bytes, x.marks]⟩
  let others := (s.rly p).deferred.filter (fun g => !(g.src = f.src && g.item = f.item && g.lap = f.lap))
  let used := (others.map (fun g => (g.segs.getD 0 []).length)).sum
  if s.effF R.RLY_DEFER_AREA F.RLY_DEFER_AREA_SIZE_MIB p 0 * 2 ^ 20 < used + x.bytes.length then s.count R.CNT_RLY 0 17 1
  else s.updRly p (fun r => { r with deferred := others ++ [f] })

/-- Address of granule `g` as phase `ph` reads it: SRC in the first phase, DST later (R370). -/
def CollD.readAt (d : CollD) (f : Phase) (ph g : Nat) : Nat :=
  if ph != 0 then d.dst + 64 * g else if f.kind = 2 then d.src + 64 * (g - (f.lo + f.ring.pos * f.stride)) else d.src + 64 * g

/-- `n` granules of this chip's own contribution from granule `g`, with marks, deferred values added (R371, R383). -/
def State.ownData (s : State) (p : Nat) (d : CollD) (f : Phase) (r : PhaseRun) (g n : Nat) : State × List Byte × List Bool :=
  let a := d.readAt f r.phase g
  let s := s.sense a (64 * n) p (s.progReq p .rly 0).word
  let b := s.load a (64 * n)
  let m := (List.range n).map (fun i => s.poisoned (a + 64 * i) 64)
  match r.addend with
  | [x, y] =>
    (s, combineData d b (sliceB x (64 * (g - f.lo)) (64 * n)), m.zipIdx.map (fun (e, i) => e || (y.getD (g - f.lo + i) 0) != 0))
  | _ => (s, b, m)

/-- Write granules to DST with their marks. -/
def State.putDst (s : State) (d : CollD) (g : Nat) (b : List Byte) (marks : List Bool) : State :=
  marks.zipIdx.foldl (fun s (m, i) => (s.snoop (d.dst + 64 * (g + i))).save (d.dst + 64 * (g + i)) (sliceB b (64 * i) 64) m) s

/-- Write finished granules of phase `ph`: to DST, or to the capture of the next phase where the chip has joined that
phase as absent (R382, R383). -/
def State.finish (s : State) (p : Nat) (c : Coll) (d : CollD) (ph g : Nat) (b : List Byte) (marks : List Bool) : State :=
  match c.capture.find? (fun x => x.phase = ph + 1) with
  | none => s.putDst d g b marks
  | some x =>
    match s.phase p d (ph + 1) with
    | none => s
    | some f =>
      let o := g - f.lo
      let x' := { x with bytes := x.bytes.take (64 * o) ++ b ++ x.bytes.drop (64 * o + b.length)
                         marks := x.marks.take o ++ marks.map (fun m => if m then 1 else 0) ++ x.marks.drop (o + marks.length) }
      s.setColl p { s.collNow p c with capture := c.capture.map (fun y => if y.phase = ph + 1 then x' else y) }

/-! ## Sending batons (R374) -/

/-- Send what credits allow of phase `ph`; `fuel` bounds the batons. -/
def State.pump (s : State) (p : Nat) (c : Coll) (f : Phase) (ph : Nat) : Nat → State
  | 0 => s
  | fuel + 1 =>
    let c := s.collNow p c
    match c.run? ph with
    | none => s
    | some r =>
      match r.outq with
      | [] => s
      | x :: rest =>
        let seq := if x.bseq = 0 then r.bOut + 1 else x.bseq
        let free := seq ≤ r.resyncAck
        if r.lead < 2 || (!free && r.credits = 0) then s else
        let again := x.bseq != 0
        let x := { x with bseq := seq }
        let r := { r with outq := rest, unacked := r.unacked ++ [x], bOut := max r.bOut seq, credits := if free then r.credits else r.credits - 1 }
        let s := (s.setColl p (c.setRun r)).count R.CNT_RLY 0 (if again then 11 else 9) 1
        let s := s.sendRly p (s.succ f.ring) 2 c (s.outBase p (collOf c.d) f ph + seq)
          { comm := 0, id := 0, phase := ph, step := x.step, flags := b2n x.empty, index := x.index, bytes := x.data.length
            poison := x.poison, absent := r.absents } x.data
        s.pump p c f ph fuel

/-- Queue a baton and send what credits allow. -/
def State.pushBaton (s : State) (p : Nat) (c : Coll) (f : Phase) (ph : Nat) (x : Baton) : State :=
  let c := s.collNow p c
  match c.run? ph with
  | none => s
  | some r => if r.succDone then s.setColl p (c.setRun { r with bOut := r.bOut + 1 })
    else (s.setColl p (c.setRun { r with outq := r.outq ++ [x] })).pump p c f ph (r.outq.length + 1)

/-- Cut `n` granules from `g` into batons: index, first granule, granules (R369). -/
def CollD.cut (d : CollD) (g n : Nat) : List (Nat × Nat × Nat) :=
  let b := d.baton / 64
  (List.range (d.batons n)).map (fun i => (i, g + b * i, min b (n - b * i)))

/-- Push this chip's own contribution to phase `ph`, once (R371, R372). -/
def State.pushOwn (s : State) (p : Nat) (c : Coll) (ph : Nat) : State :=
  let c := s.collNow p c
  let d := collOf c.d
  match s.phase p d ph, c.run? ph with
  | some f, some r =>
    if r.pushed || r.lead < 2 then s else
    let r := { r with pushed := true }
    let s := s.setColl p (c.setRun r)
    if !f.on then s else
    let (lo, hi) := f.outAt 0
    -- what stays on this chip: its own part of DST
    let keep := match f.kind with
      | 0 => f.ring.k = 1 && ph = 0
      | 1 => ph = 0
      | _ => ph = 0 && f.dist = 0
    let s := if keep && d.readAt f ph lo != d.dst + 64 * lo then
        match s.ownData p d f r lo (hi - lo) with
        | (s, b, m) => s.putDst d lo b m
      else s
    if f.outSteps = 0 then s else
    (d.cut lo (hi - lo)).foldl (fun s (i, g, n) =>
      if r.absent then s.pushBaton p c f ph { step := 0, index := i, empty := true }
      else match s.ownData p d f r g n with
        | (s, b, m) => s.pushBaton p c f ph { step := 0, index := i, data := b, poison := maskOf m }) s
  | _, _ => s

/-! ## Membership (R382 to R384) -/

/-- Lap-record ITEM of a relay decision. -/
def Coll.item (c : Coll) : Nat := 2 ^ 56 + c.seq

/-- A membership entry, written once. -/
def State.relayRec (s : State) (p : Nat) (c : Coll) (typ chip lap : Nat) : State :=
  if (s.part p).record.any (fun e => e.typ = typ && e.source = chip && e.item = c.item && e.leg = s.leg p) then s
  else s.addRec p { typ := typ, leg := s.leg p, source := chip, item := c.item, value := lap }

/-- The second circuit has passed: entries, and what becomes of this chip's deferred values (R383). -/
def State.leadPassed (s : State) (p : Nat) (c : Coll) (f : Phase) (ph : Nat) : State :=
  let c := s.collNow p c
  match c.run? ph with
  | none => s
  | some r =>
    let prev := (s.lap p + 2 ^ 32 - 1) % 2 ^ 32
    let late := if s.effF R.SEQ_LAP_CONFIG F.SEQ_LAP_CONFIG_LATE_ACTION p 0 = 0 then 1 else 2
    let recs (s : State) (w typ lap : Nat) : State := (bitList w f.ring.k).foldl (fun s i => s.relayRec p c typ (s.ringChip f.ring i) lap) s
    let s := recs (recs (recs s r.absents late (s.lap p)) r.applied 4 prev) r.overdue 3 prev
    match s.deferredFor p c ph with
    | none => s.setColl p (c.setRun { r with lead := 2 })
    | some x =>
      if bit r.applied f.ring.pos then (s.dropDeferred p x).setColl p (c.setRun { r with lead := 2, addend := x.segs })
      else if bit r.overdue f.ring.pos then (s.dropDeferred p x).setColl p (c.setRun { r with lead := 2 })
      else s.setColl p (c.setRun { r with lead := 2 })

/-- The LEAD of a circuit to the successor. -/
def State.sendLead (s : State) (p : Nat) (c : Coll) (f : Phase) (ph : Nat) (r : PhaseRun) (circuit2 : Bool) : State :=
  s.sendRly p (s.succ f.ring) 4 c 0 { comm := 0, id := 0, phase := ph, flags := 8 * b2n circuit2, absent := r.absents
                                      applied := r.applied, overdue := r.overdue, binding := c.bind, desc := c.desc } []

/-- The replayed record holds one of `types` for this chip and collective (R384). -/
def State.relayRecorded (s : State) (p : Nat) (c : Coll) (types : List Nat) : Bool :=
  (s.part p).replayed.any (fun e => types.contains e.typ && e.source = s.myChip && e.item = c.item)

/-- OR this chip's bits into the words of a run (R382, R384). -/
def State.ownBits (s : State) (p : Nat) (c : Coll) (f : Phase) (r : PhaseRun) (absent : Bool) : PhaseRun :=
  let me := 2 ^ f.ring.pos
  let on (w : Nat) (b : Bool) : Nat := if b then w ||| me else w
  if s.replayOn p then
    { r with absents := on r.absents (s.relayRecorded p c [1, 2]), applied := on r.applied (s.relayRecorded p c [4])
             overdue := on r.overdue (s.relayRecorded p c [3]) }
  else
    let has := (s.deferredFor p c r.phase).isSome
    { r with absents := on r.absents absent, applied := on r.applied (!absent && has), overdue := on r.overdue (absent && has) }

/-! ## Entering phases -/

/-- Credits and resynchronisation on entering phase `ph` (R374, R381). -/
def State.greet (s : State) (p : Nat) (c : Coll) (d : CollD) (f : Phase) (ph : Nat) : State :=
  let s := if c.resync && decide (0 < f.outTotal d) then
      s.sendRly p (s.succ f.ring) 5 c 0 { comm := 0, id := 0, phase := ph } [] else s
  if f.inTotal d = 0 then s else s.wayCredit p c f ph d.slots 0 (if c.resync then 2 else 0)

/-- The contribution to phase `ph` as it stands (R383). -/
def State.captureOf (s : State) (d : CollD) (f : Phase) (ph : Nat) : Capture :=
  let a := d.readAt f ph f.lo
  ⟨ph, s.load a (64 * (f.hi - f.lo)), (List.range (f.hi - f.lo)).map (fun i => if s.poisoned (a + 64 * i) 64 then 1 else 0)⟩

/-- This chip enters phase `ph` as a present member, or in a replay as the absent one the record says (R370, R382,
R384). -/
def State.enterPhase (s : State) (p : Nat) (c : Coll) (ph : Nat) : State :=
  let c := s.collNow p c
  let d := collOf c.d
  match s.phase p d ph with
  | none => s
  | some f =>
    match c.run? ph with
    | some _ => s
    | none =>
      let paced := s.pacedPhase p f
      let out := paced && s.replayOn p && s.relayRecorded p c [1, 2]
      let r : PhaseRun := { phase := ph, started := true, absent := out, lead := if paced then 0 else 2 }
      let s := (s.setColl p (c.setRun r)).greet p c d f ph
      let s := if out then (s.count R.CNT_RLY 0 14 1).rlyDefer p c (s.captureOf d f ph) else s
      if paced && f.ring.pos = 0 then
        let r := { s.ownBits p c f r out with lead := 1 }
        (s.setColl p ((s.collNow p c).setRun r)).sendLead p c f ph r false
      else s.pushOwn p c ph

/-- This chip joins phase `ph` as an absent member (R382). -/
def State.joinAbsent (s : State) (p : Nat) (c : Coll) (ph : Nat) : State :=
  let c := s.collNow p c
  let d := collOf c.d
  match s.phase p d ph with
  | none => s
  | some f =>
    let r : PhaseRun := { phase := ph, absent := true }
    let cap : List Capture := if ph = 0 then [] else [s.captureOf d f ph]
    let c := { c.setRun r with capture := c.capture ++ cap, captured := c.captured && ph != 0 }
    ((s.setColl p c).count R.CNT_RLY 0 14 1).greet p c d f ph

/-- The run's part of the phase is complete: all received, all sent. -/
def runOver (d : CollD) (f : Phase) (r : PhaseRun) : Bool :=
  r.pushed && r.bIn = f.inTotal d && r.outq = [] && (r.succDone || r.bOut = f.outTotal d)

/-- The phase the collective is in: the first that is not over. -/
def Coll.cur (c : Coll) : Nat := ((List.range 7).find? (fun ph => !c.runs.any (fun r => r.phase = ph && r.isOver))).getD 7

/-- Move a collective on where its phase is complete (R370); false where nothing moves. -/
def State.advance (s : State) (p : Nat) (c : Coll) : State × Bool :=
  let c := s.collNow p c
  let d := collOf c.d
  let ph := c.cur
  match s.phase p d ph, c.run? ph with
  | some f, some r =>
    if !runOver d f r then (s, false) else
    let c := c.setRun { r with isOver := true }
    let s := s.setColl p c
    match c.capture.find? (fun x => x.phase = ph + 1) with
    | some x => ((s.setColl p { c with capture := c.capture.filter (fun y => y.phase != ph + 1) }).rlyDefer p c x, true)
    | none => (s.enterPhase p c (ph + 1), true)
  | _, _ => (s, false)

/-! ## Receiving -/

/-- A relay packet out of order: discarded and class P (R376). -/
def State.collOrder (s : State) (p : Nat) (b : List Byte) : State :=
  let h := rlyHeadOf (pkBody b)
  (s.count R.CNT_RLY 0 15 1).raise E.COLL_ORDER p (formP (pkSrc b) (pkQp b) (pkSeq b)) (h.comm + 65536 * h.id)

/-- A baton accepted in order is reduced or copied (R371, R372); `grant` slots are returned. -/
def State.acceptBaton (s : State) (p : Nat) (c : Coll) (f : Phase) (r : PhaseRun) (b : List Byte) (grant : Nat) : State :=
  let d := collOf c.d
  let h := rlyHeadOf (pkBody b)
  let ph := r.phase
  let data := sliceB (pkBody b) 64 h.bytes
  let r := { r with bIn := r.bIn + 1 }
  let s := (s.setColl p (c.setRun r)).count R.CNT_RLY 0 10 1
  -- the waystation slot
  let slot := d.wayOff + c.set * d.setBytes + (r.bIn - 1) % d.slots * (d.baton + 64)
  let s := s.scrPut d.core slot ((pkBody b).take 64) false
  let s := (List.range (h.bytes / 64)).foldl (fun s i => s.scrPut d.core (slot + 64 * (i + 1)) (sliceB data (64 * i) 64) (bit h.poison i)) s
  let (lo, hi) := f.inAt h.step
  let g := lo + d.baton / 64 * h.index
  let n := min (d.baton / 64) (hi - g)
  let marks := (List.range n).map (bit h.poison)
  let lastStep := h.step + 1 = f.inSteps && f.kind < 2
  let s := if f.kind = 0 then
      let (s, e, v, m) :=
        if r.absent then (s, bit h.flags 0, data, marks)
        else match s.ownData p d f r g n with
          | (s, own, mo) =>
            if bit h.flags 0 then (s, false, own, mo)
            else (s, false, combineData d data own, (marks.zip mo).map (fun (x, y) => x || y))
      if lastStep then s.finish p (s.collNow p c) d ph g (if e then d.emptyData (64 * n) else v) (if e then marks.map (fun _ => false) else m)
      else s.pushBaton p c f ph { step := h.step + 1, index := h.index, empty := e, data := v, poison := maskOf m }
    else
      let s := if f.kind = 1 || f.dist = 0 then s.putDst d g data marks else s
      if lastStep || (f.kind = 2 && f.dist = 0) then s
      else s.pushBaton p c f ph { step := h.step + 1, index := h.index, data := data, poison := h.poison }
  s.wayCredit p c f ph grant r.bIn 0

/-- What a packet does: it is done with, or it waits. -/
abbrev RlyRes := State × Bool

/-- BATON (R371, R374). -/
def State.onBaton (s : State) (p : Nat) (c : Coll) (f : Phase) (ph : Nat) (b : List Byte) (grant : Nat) : RlyRes :=
  match c.run? ph with
  | none => (s, false)
  | some r =>
    let q := pkOpaque b - s.inBase p (collOf c.d) f ph
    if q ≤ r.bIn then ((s.count R.CNT_EMB p 12 1).wayCredit p c f ph 0 r.bIn 0, true)
    else if q != r.bIn + 1 then (s, true)
    else if r.lead < 2 then (s, false)
    else (s.acceptBaton p c f r b grant, true)

/-- WAYCREDIT (R374, R381). -/
def State.onCredit (s : State) (p : Nat) (c : Coll) (f : Phase) (ph : Nat) (b : List Byte) : RlyRes :=
  let h := rlyHeadOf (pkBody b)
  match c.run? ph with
  | none => (s, false)
  | some r =>
    if bit h.flags 2 then (s.setColl p (c.setRun { r with outq := [], unacked := [], succDone := true }), true)
    else if bit h.flags 1 then
      let r := { r with credits := h.bytes, outq := r.unacked ++ r.outq, unacked := [] }
      ((s.setColl p (c.setRun r)).pump p c f ph (r.outq.length + 1), true)
    else
      let un := r.unacked.filter (fun x => decide (h.index < s.outBase p (collOf c.d) f ph + x.bseq))
      let c := if un.length < r.unacked.length then { c with tries := 0 } else c
      let r := { r with credits := r.credits + h.bytes, unacked := un, resyncAck := max r.resyncAck (if c.resync then h.index - s.outBase p (collOf c.d) f ph else 0) }
      ((s.setColl p (c.setRun r)).pump p c f ph (r.outq.length + 1), true)

/-- RESYNC from a restarting predecessor (R381). -/
def State.onResync (s : State) (p : Nat) (c : Coll) (f : Phase) (ph : Nat) : RlyRes :=
  if c.stage = 2 then (s.wayCredit p c f ph 0 0 4, true) else
  match c.run? ph with
  | none => (s, true)
  | some r => (s.wayCredit p c f ph (collOf c.d).slots r.bIn 0, true)

/-- LEAD (R382). -/
def State.onLead (s : State) (p : Nat) (c : Coll) (f : Phase) (ph : Nat) (b : List Byte) : RlyRes :=
  let h := rlyHeadOf (pkBody b)
  match c.run? ph with
  | none =>
    let out := if s.replayOn p then s.relayRecorded p c [1, 2] else (s.part p).deadline
    if out then (s.joinAbsent p c ph, false) else (s, false)
  | some r =>
    if bit h.flags 3 then
      if f.ring.pos = 0 ∨ r.lead = 2 then (s, true) else
      let r := { r with lead := 1, absents := h.absent, applied := h.applied, overdue := h.overdue }
      let s := (s.setColl p (c.setRun r)).leadPassed p c f ph
      ((s.sendLead p c f ph r true).pushOwn p c ph, true)
    else if f.ring.pos = 0 then
      if r.lead != 1 then (s, true) else
      let r := { r with absents := h.absent, applied := h.applied, overdue := h.overdue }
      let s := ((s.setColl p (c.setRun r)).sendLead p c f ph r true).leadPassed p c f ph
      (s.pushOwn p c ph, true)
    else if r.lead != 0 then (s, true)
    else
      let r := s.ownBits p c f { r with absents := h.absent, applied := h.applied, overdue := h.overdue } r.absent
      let r := { r with lead := 1 }
      ((s.setColl p (c.setRun r)).sendLead p c f ph r false, true)

/-- An absent chip joins a collective it has not started: its engine reads the descriptor that the lead names and
reserves the queue pair (R382). -/
def State.joinColl (s : State) (p : Nat) (b : List Byte) : State :=
  let h := rlyHeadOf (pkBody b)
  let bd := (s.part p).course.binds.getD h.binding {}
  let d := s.load (bd.base + 64 * h.desc) 64
  let x := collOf d
  let n := pkSeq b % 65536
  let c : Coll := { comm := h.comm, id := h.id, seq := pkSeq b, qp := pkQp b, set := n % max 1 x.qpCount, bind := h.binding
                    desc := h.desc, d := d, stage := 1, absent := true, resync := (s.rly p).begun.contains (h.comm, pkSeq b) }
  s.updRly p (fun r => { r with colls := r.colls ++ [c] })

/-- The collective a packet belongs to has not begun here: a LEAD after the deadline makes the chip join it absent. -/
def State.notBegun (s : State) (p : Nat) (b : List Byte) : RlyRes :=
  if pkKind b = 5 then (s, true)
  else if pkKind b = 4 && s.pacedLeg p
    && (if s.replayOn p then (s.part p).replayed.any (fun e => (e.typ = 1 || e.typ = 2) && e.source = s.myChip && e.item = 2 ^ 56 + pkSeq b)
      else (s.part p).deadline)
    && !(s.rly p).colls.any (fun c => c.qp = pkQp b && (c.stage = 1 || c.seq = pkSeq b)) then (s.joinColl p b, false)
  else (s, false)

/-- One relay packet for the collective it names (R376); false where it waits. -/
def State.rlyTry (s : State) (p : Nat) (b : List Byte) (grant : Nat) : RlyRes :=
  let h := rlyHeadOf (pkBody b)
  let l := (s.rly p).colls.filter (fun c => c.qp = pkQp b && decide (1 ≤ c.stage))
  match l.find? (fun c => c.seq = pkSeq b) with
  | some c =>
    if c.id != h.id then (s.collOrder p b, true) else
    let d := collOf c.d
    (match s.phase p d h.phase with
      | none => (s.collOrder p b, true)
      | some f =>
        if pkSrc b != (if pkKind b = 3 then s.succ f.ring else s.pred f.ring) then (s.collOrder p b, true) else
        match pkKind b with
        | 2 => s.onBaton p c f h.phase b grant
        | 3 => s.onCredit p c f h.phase b
        | 4 => s.onLead p c f h.phase b
        | _ => s.onResync p c f h.phase)
  | none =>
    match l.getLast? with
    | none =>
      if serialNewer 8 (s.lap p) (pkSeq b / 65536) then (s.count R.CNT_EMB p 12 1, true) else s.notBegun p b
    | some c =>
      if serialNewer 24 (pkSeq b) c.seq then s.notBegun p b
      else if pkSeq b + (collOf c.d).qpCount = c.seq then (s.count R.CNT_EMB p 12 1, true)
      else (s.collOrder p b, true)

/-- Try the packets of a list in order, keeping those that wait. -/
def State.rlyRetry (s : State) (p grant : Nat) (l : List (List Byte)) : State × List (List Byte) :=
  l.foldl (fun (a : State × List (List Byte)) b => match a.1.rlyTry p b grant with
    | (s, true) => (s, a.2)
    | (s, false) => (s, a.2 ++ [b])) (s, [])

/-- Let everything that can proceed do so; `fuel` bounds the rounds. -/
def State.rlyRun (s : State) (p : Nat) : Nat → State
  | 0 => s
  | fuel + 1 =>
    let (s, moved) := ((s.rly p).colls.filter (fun c => c.stage = 1)).foldl (fun (a : State × Bool) c =>
      match a.1.advance p c with
      | (s, m) => (s, a.2 || m)) (s, false)
    let n := (s.rly p).replay.length + (s.rly p).early.length
    let (s, rep) := s.rlyRetry p 0 (s.rly p).replay
    let s := s.updRly p (fun r => { r with replay := rep })
    let (s, ear) := s.rlyRetry p 1 (s.rly p).early
    let s := s.updRly p (fun r => { r with early := ear })
    if moved || rep.length + ear.length != n then s.rlyRun p fuel else s

/-- Rounds that any progress of partition `p` can take. -/
def State.rlyFuel (s : State) (p : Nat) : Nat :=
  2 + 8 * (s.rly p).colls.length + 2 * ((s.rly p).early.length + (s.rly p).replay.length)
def State.rlyGo (s : State) (p : Nat) : State := s.rlyRun p (s.rlyFuel p)

/-! ## The digest relay's packets (R388) -/

/-- Combine two digest records (Table 12-6): digests as 256-bit numbers, byte 0 first. -/
def digestCombine (a b : List Byte) : List Byte :=
  let dg (o : Nat) (lt : Bool) : List Byte :=
    let x := sliceB a o 32
    let y := sliceB b o 32
    if (decide (beNat x < beNat y)) = lt then x else y
  dg 0 true ++ dg 0x20 false ++ dg 0x40 true ++ dg 0x60 false
    ++ ((List.range 5).map (fun j => leBytes 8 ((fieldAt a (0x80 + 8 * j) 8 + fieldAt b (0x80 + 8 * j) 8) % 2 ^ 64))).flatten
    ++ leBytes 8 (max (fieldAt a 0xA8 8) (fieldAt b 0xA8 8)) ++ List.replicate 16 0

/-- The digest relay as a collective of one granule over the job communicator. -/
def State.digestD (s : State) (p : Nat) : CollD :=
  let c := s.effF R.RLY_JOB F.RLY_JOB_COMM p 0
  { kind := 0, op := 0, dtype := 3, comm := c, axes := (List.range 3).filter (fun a => decide (1 < (s.commAxis p c a).1))
    baton := 1024, qpCount := 1, slots := 2, src := 0, dst := 0, count := 8, core := 0, id := 0, wayOff := 0, doneCtr := 0xFFFF
    roots := [] }

def State.digestSeq (s : State) (p : Nat) : Nat := s.lap p % 256 * 65536

def State.sendDigest (s : State) (p : Nat) (f : Phase) (ph step : Nat) (r : List Byte) : State :=
  let d := s.digestD p
  s.sendPkt p (s.succ f.ring) (s.effF R.RLY_JOB F.RLY_JOB_QP p 0) 6 0 0 (s.digestSeq p) 0
    (({ comm := d.comm, id := 0, phase := ph, step := step } : RlyHead).enc ++ r)

/-- The one granule's shard passes this chip at step `t`: sent, or received. -/
def hasOut (f : Phase) (t : Nat) : Bool := decide (t < f.outSteps) && decide ((f.outAt t).1 < (f.outAt t).2)
def hasIn (f : Phase) (t : Nat) : Bool := decide (t < f.inSteps) && decide ((f.inAt t).1 < (f.inAt t).2)

/-- Move the digest relay on through phases that ask nothing more of this chip; `fuel` bounds them. -/
def State.digestRun (s : State) (p : Nat) : Nat → State
  | 0 => s
  | fuel + 1 =>
    match (s.rly p).digest with
    | none => s
    | some r =>
      let d := s.digestD p
      match s.phase p d r.phase with
      | none => s.updRly p (fun x => { x with digest := some { r with done := true } })
      | some f =>
        let next (s : State) : State :=
          (s.updRly p (fun x => { x with digest := (x.digest.map (fun y => { y with phase := r.phase + 1, sent := false })) })).digestRun p fuel
        let waits := (List.range f.inSteps).any (hasIn f)
        if hasOut f 0 && !r.sent then
          let s := (s.updRly p (fun x => { x with digest := some { r with sent := true } })).sendDigest p f r.phase 0 r.acc
          if waits then s else next s
        else if waits then s else next s

/-- A DIGEST packet of this lap; false while its phase has not begun here. -/
def State.digestTry (s : State) (p : Nat) (b : List Byte) : RlyRes :=
  let h := rlyHeadOf (pkBody b)
  let lap := pkSeq b / 65536
  if serialNewer 8 lap (s.lap p) then (s, false)
  else if serialNewer 8 (s.lap p) lap then (s.count R.CNT_EMB p 12 1, true)
  else
    let d := s.digestD p
    match s.phase p d h.phase with
    | none => (s.collOrder p b, true)
    | some f =>
      if pkSrc b != s.pred f.ring || h.comm != d.comm || h.id != 0 then (s.collOrder p b, true) else
      match (s.rly p).digest with
      | none => (s, false)
      | some r =>
        if h.phase < r.phase then (s.count R.CNT_EMB p 12 1, true)
        else if r.phase < h.phase then (s, false)
        else
          let got := sliceB (pkBody b) 64 192
          let acc := if f.kind = 0 then digestCombine got r.acc else got
          let s := s.updRly p (fun x => { x with digest := some { r with acc := acc } })
          let s := if hasOut f (h.step + 1) then s.sendDigest p f r.phase (h.step + 1) acc else s
          let s := s.updRly p (fun x => { x with digest := (x.digest.map (fun y => { y with phase := r.phase + 1, sent := false })) })
          (s.digestRun p 7, true)

/-- Try the DIGEST packets that wait; `fuel` bounds the rounds. -/
def State.digestRetry (s : State) (p : Nat) : Nat → State
  | 0 => s
  | fuel + 1 =>
    let l := (s.rly p).earlyDigest
    let (s, keep) := l.foldl (fun (a : State × List (List Byte)) b => match a.1.digestTry p b with
      | (s, true) => (s, a.2)
      | (s, false) => (s, a.2 ++ [b])) (s, [])
    let s := s.updRly p (fun r => { r with earlyDigest := keep })
    if keep.length < l.length then s.digestRetry p fuel else s

/-- Start the digest relay with this chip's record (R388). -/
def State.digestStart (s : State) (p : Nat) (rec : List Byte) : State :=
  ((s.updRly p (fun r => { r with digest := some { acc := rec } })).digestRun p 7).digestRetry p 8

/-! ## Packets delivered to the relay engine -/

/-- A relay packet delivered to partition `p` (R374, R376, R381, R382, R388): discarded in a failed partition (R467). -/
def State.rlyPacket (s : State) (p : Nat) (b : List Byte) : State :=
  if s.pState p = stFailed || s.chip.fatal then s.count R.CNT_GLB 0 19 1
  else
    let s := s.journalAdd p (pkLen b)
    if pkKind b = 6 then (s.updRly p (fun r => { r with earlyDigest := r.earlyDigest ++ [b] })).digestRetry p 8
    else
      let s := if pkKind b = 2 || pkKind b = 4 then s.updPart p (fun x => { x with journal := x.journal ++ [b] }) else s
      (s.updRly p (fun r => { r with early := r.early ++ [b] })).rlyGo p

/-! ## Engine commands (R377) -/

/-- A refused RLY command. -/
def State.rlyDesc (s : State) (c : EngCmd) (a : Nat) : State := s.raise E.RLY_DESC c.part c.pos a

/-- A trigger counter lies in partition `p`'s range (Table 15-3). -/
def State.trigOk (s : State) (p ctr : Nat) : Bool :=
  decide (ctr < 4096) && decide (s.rdF R.GLB_PART_SHARE F.GLB_PART_SHARE_TRIG_FIRST 0 p ≤ ctr / 64)
    && decide (ctr / 64 ≤ s.rdF R.GLB_PART_SHARE F.GLB_PART_SHARE_TRIG_LAST 0 p)

/-- A counter outside the range: class P (Table 15-3). -/
def State.trigRefuse (s : State) (p ctr : Nat) : State :=
  s.refusedErr (s.progReq p .rly 0) (regBase + R.RLY_TRIGGER.addr 0 (ctr % 4096))

/-- A partition's program may use `n` bytes at `a` in HBM. -/
def State.rlyRange (s : State) (p a n : Nat) (write : Bool) : Bool :=
  n = 0 || (match s.regionOf a, s.regionOf (a + n - 1) with
    | .hbm i, .hbm j => decide (i ≤ j) && s.check { s.progReq p .rly 0 with write := write } a n = .ok
    | _, _ => false)

/-- The checks of a collective descriptor at START (R366, R368, R373). -/
def State.collOk (s : State) (p b : Nat) (bytes : List Byte) : Bool :=
  let d := collOf bytes
  let gather := d.kind = 3
  let collects := gather && (match s.phase p d 0 with
    | some f => f.dist = 0
    | none => false)
  let n := d.bytes
  let total := n * ((List.range d.naxes).map (fun j => (s.commAxis p d.comm (d.axes.getD j 0)).1)).foldl (· * ·) 1
  let dn := if gather then (if collects then total else 0) else n
  collForm bytes && s.commOk p d.comm && d.axes.all (fun a => (s.ring p d.comm a).isSome)
    && decide (d.core < s.coreCount) && s.partOfCluster (d.core / 16) = some p
    && s.rlyRange p d.src n false && s.rlyRange p d.dst dn true
    && (d.src = d.dst || decide (d.src + n ≤ d.dst) || decide (d.dst + dn ≤ d.src))
    && (s.rly p).colls.all (fun c => !(c.comm = d.comm && decide (Sp.get 0 (s.rly p).legStart d.comm ≤ c.n))
      || (c.bind = b && (collOf c.d).qpCount = d.qpCount))

/-- A START of a collective this chip was absent from: its contribution is captured or discarded (R383). -/
def State.absentStart (s : State) (p : Nat) (c : Coll) (cmd : Nat) : State :=
  let d := collOf c.d
  let s := (s.sense d.src d.bytes p (s.progReq p .rly 0).word).setColl p { c with cmd := some cmd, captured := true }
  match s.phase p d 0 with
  | some f => s.rlyDefer p c (s.captureOf d f 0)
  | none => s

/-- A START queues its collective (R373). -/
def State.collStart (s : State) (c : EngCmd) (bd : Binding) (bytes : List Byte) : State :=
  let p := c.part
  let d := collOf bytes
  let n := Sp.get 0 (s.rly p).started d.comm
  let seq := s.lap p % 256 * 65536 + n % 65536
  let s := s.updRly p (fun r => { r with started := Sp.set 0 r.started d.comm (n + 1) })
  match (s.rly p).colls.find? (fun x => x.comm = d.comm && x.seq = seq) with
  | some x => (s.absentStart p x c.id).rlyGo p
  | none =>
    let x : Coll := { comm := d.comm, id := d.id, seq := seq, qp := bd.queue + n % d.qpCount, set := n % d.qpCount, bind := c.binding
                      desc := c.desc, d := bytes, cmd := some c.id, resync := (s.rly p).begun.contains (d.comm, seq) }
    s.updRly p (fun r => { r with colls := r.colls ++ [x] })

/-- Register a trigger (R379): the command it fires, its counters and threshold; none where the descriptor is refused. -/
def trigOf (c : EngCmd) (b : List Byte) : Option Trig :=
  let v := fieldAt b 0 12
  match slotCmd c.part c.pos v with
  | none => none
  | some x =>
    if bits v 79 77 != 0 || x.token != c.token || !(x.target = 1 || x.target = 2 || x.target = 4 || x.target = 5 || x.target = 6)
      || fieldAt b 0x10 4 = 0 || fieldAt b 0x14 12 != 0 then none
    else some { cmd := { x with trig := true, nextCtr := fieldAt b 0xE 2 }, ctr := fieldAt b 0xC 2, next := fieldAt b 0xE 2
                threshold := fieldAt b 0x10 4 }

/-- The engine of binding `b` takes its next RLY command of opcode `op` (R377). -/
def State.rlyCmd (s : State) (p b op : Nat) : State :=
  match s.engNext p b with
  | none => s
  | some c =>
    let bd := s.bindingOf c
    if c.target != 4 then s
    else if c.opcode = 0 ∨ 3 < c.opcode then (s.engStart c).rlyDesc c (bd.base + 64 * c.desc)
    else if c.opcode != op then s
    else
      let s := s.engStart c
      if op = 3 then
        if c.desc != 0 || c.count = 0 || decide (65535 < c.count) || decide (4096 ≤ c.offset) then s.rlyDesc c 0
        else if !s.trigOk p c.offset then s.trigRefuse p c.offset
        else (s.trigInc p c.offset c.count).cmdDone c
      else if c.count != 0 || c.offset != 0 then s.rlyDesc c (bd.base + 64 * c.desc)
      else match s.fetchDesc c bd .rly with
        | (s, none) => s
        | (s, some bytes) =>
          let a := bd.base + 64 * c.desc
          if s.poisoned a 64 then s.rlyDesc c a
          else if op = 1 then
            let d := collOf bytes
            if !s.collOk p c.binding bytes then s.rlyDesc c a
            else if d.doneCtr != 0xFFFF && !s.trigOk p d.doneCtr then s.trigRefuse p d.doneCtr
            else s.collStart c bd bytes
          else match trigOf c (bytes.take 32) with
            | none => s.rlyDesc c a
            | some t =>
              if (s.bindingOf t.cmd).target != t.cmd.target then s.raise E.BINDING_MISMATCH p c.pos 0
              else if !s.trigOk p t.ctr then s.trigRefuse p t.ctr
              else if 64 ≤ (s.part p).queueCount t.cmd.binding then s.raise E.ENGINE_QFULL p c.pos 0
              else if t.next != 0xFFFF && !s.trigOk p t.next then s.trigRefuse p t.next
              else
                -- the ARM has no completion of its own: its token counts for the fired command (R379)
                (s.updPart p (fun x => { x with outstanding := x.outstanding.filter (fun e => e.id != c.id), trigs := x.trigs ++ [t]
                                                queueHeld := Sp.upd 0 x.queueHeld (32 * t.cmd.binding + t.cmd.token) (· + 1) })).fireTrigs p

/-- Fabric time allows collectives to start (R362). -/
def State.timeGood (s : State) : Bool :=
  let v := s.rdF R.RLY_TIME_STATUS ⟨2, 0⟩ 0 0
  v = 1 || v = 2

/-- COLLECTIVE_BEGIN: the oldest queued collective of communicator `comm` begins once its queue pair is free (R373). -/
def State.collBegin (s : State) (p comm : Nat) : State :=
  match (s.rly p).colls.find? (fun c => c.comm = comm && c.stage = 0) with
  | none => s
  | some c =>
    if !s.timeGood || (s.rly p).colls.any (fun x => x.qp = c.qp && x.stage = 1) then s else
    let c := { c with stage := 1 }
    ((s.setColl p c).enterPhase p c 0).rlyGo p

/-- Everything R375 asks of a collective holds. -/
def Coll.complete (c : Coll) : Bool :=
  c.stage = 1 && c.cmd.isSome && c.captured && decide ((collOf c.d).phases ≤ c.cur) && c.runs.all (fun r => r.unacked = [])

/-- COLLECTIVE_COMPLETE on queue pair `qp` (R375). -/
def State.collComplete (s : State) (p qp : Nat) : State :=
  match (s.rly p).colls.find? (fun c => c.qp = qp && c.complete) with
  | none => s
  | some c =>
    let s := (s.setColl p { c with stage := 2 }).count R.CNT_RLY 0 12 1
    let s := match (s.part p).outstanding.find? (fun x => some x.id = c.cmd) with
      | some x => s.cmdDone x
      | none => s
    let d := collOf c.d
    if d.doneCtr = 0xFFFF then s else s.trigInc p d.doneCtr 1

/-- BATON_TIMEOUT on queue pair `qp` (R374). -/
def State.batonTimeout (s : State) (p qp : Nat) : State :=
  match (s.rly p).colls.find? (fun c => c.qp = qp && c.stage = 1 && c.runs.any (fun r => r.unacked != [])) with
  | none => s
  | some c =>
    let d := collOf c.d
    let dst := ((c.runs.find? (fun r => r.unacked != [])).bind (fun r => s.phase p d r.phase)).map (fun f => s.succ f.ring)
    if s.effF R.RLY_CTRL F.RLY_CTRL_RETRIES p 0 ≤ c.tries then
      s.raise E.RELAY_TIMEOUT p (formP (dst.getD 0) qp c.seq) (c.comm + 65536 * c.id)
    else
      let s := s.setColl p { c with tries := c.tries + 1 }
      c.runs.foldl (fun s r => match s.phase p d r.phase with
        | none => s
        | some f => r.unacked.foldl (fun s x => (s.count R.CNT_RLY 0 11 1).sendRly p (s.succ f.ring) 2 c (s.outBase p d f r.phase + x.bseq)
            { comm := 0, id := 0, phase := r.phase, step := x.step, flags := b2n x.empty, index := x.index, bytes := x.data.length
              poison := x.poison, absent := r.absents } x.data) s) s

/-- TRIGGER_STALL: the final pace point waits on a trigger for longer than STALL_MS (R380). -/
def State.trigStall (s : State) (p : Nat) : State :=
  match (s.part p).trigs with
  | [] => s
  | t :: _ =>
    if s.effF R.RLY_CTRL F.RLY_CTRL_STALL_MS p 0 = 0 || !(match (s.part p).pace with
      | some w => w.endLeg
      | none => false) then s
    else s.raise E.TRIGGER_STUCK p t.ctr 0

/-! ## Boundaries -/

/-- The leg's deadline passes: leads held for this chip are decided (R382). -/
def State.rlyDeadline (s : State) (p : Nat) : State := s.rlyGo p

/-- Offset `a` holds a trigger counter from `lo` up to `hi`. -/
def trigBetween (lo hi a : Nat) : Bool :=
  let c := R.RLY_TRIGGER
  decide (c.addr 0 lo ≤ a) && decide (a < c.addr 0 (min hi c.count)) && decide ((a - c.addr 0 0) % c.stride = 0)

/-- Zero the partition's trigger counters (R378). -/
def State.trigZero (s : State) (p : Nat) : State :=
  let lo := 64 * s.rdF R.GLB_PART_SHARE F.GLB_PART_SHARE_TRIG_FIRST 0 p
  let hi := 64 * (s.rdF R.GLB_PART_SHARE F.GLB_PART_SHARE_TRIG_LAST 0 p + 1)
  { s with regs := s.regs.filter (fun e => !(trigBetween lo hi e.1)) }

/-- The repeat boundary (R381): armed triggers and collectives are discarded, values taken for this attempt are put
back, and the journal's batons and leads are to be delivered again. What waits for a collective the attempt had not begun
goes on waiting (R376). -/
def State.rlyRepeat (s : State) (p : Nat) : State :=
  let back := (s.rly p).colls.flatMap (fun c => c.runs.filterMap (fun r =>
    if r.addend = [] then none else some (⟨c.comm, c.n * 8 + r.phase, (s.lap p + 2 ^ 32 - 1) % 2 ^ 32, r.addend⟩ : Deferred)))
  let j := (s.part p).journal
  (s.updPart p (fun x => { x with trigs := [], trigHeld := [], queueHeld := [] })).updRly p (fun r => { r with
    started := r.legStart, colls := r.colls.filter (fun c => decide (c.n < Sp.get 0 r.legStart c.comm)), replay := j
    begun := r.begun ++ (r.colls.filter (fun c => decide (1 ≤ c.stage))).map (fun c => (c.comm, c.seq))
    early := r.early.filter (fun b => !r.colls.any (fun c => decide (1 ≤ c.stage) && c.qp = pkQp b && c.seq = pkSeq b))
    deferred := r.deferred ++ back })

/-- A leg begins: sequence numbers of its start. -/
def State.rlyLegBegin (s : State) (p : Nat) : State := s.updRly p (fun r => { r with legStart := r.started })

/-- A lap ends: its collectives and counts, and contributions deferred before it (R373, R383). -/
def State.rlyLapEnd (s : State) (p : Nat) : State :=
  s.updRly p (fun r => { r with
    colls := [], started := [], legStart := [], digest := none, replay := []
    deferred := r.deferred.filter (fun f => f.lap = s.lap p) })

/-! ## The commands -/

/-- COLLECTIVE_START (R373). -/
def execCollectiveStart (part binding : Nat) (errs : List (Nat × Nat)) (s : State) : Host.Outcome State Fault Refusal :=
  .next ((s.plant errs).rlyCmd part binding 1)
/-- COLLECTIVE_BEGIN (R373). -/
def execCollectiveBegin (part comm : Nat) (errs : List (Nat × Nat)) (s : State) : Host.Outcome State Fault Refusal :=
  .next ((s.plant errs).collBegin part comm)
/-- ARM (R379). -/
def execArm (part binding : Nat) (errs : List (Nat × Nat)) (s : State) : Host.Outcome State Fault Refusal :=
  .next ((s.plant errs).rlyCmd part binding 2)
/-- INC (R378). -/
def execInc (part binding : Nat) (s : State) : Host.Outcome State Fault Refusal := .next (s.rlyCmd part binding 3)
/-- BATON (R371): `pkt` is the packet delivered. -/
def execBaton (part : Nat) (pkt : List Byte) (errs : List (Nat × Nat)) (s : State) : Host.Outcome State Fault Refusal :=
  .next (if pkKind pkt = 2 then (s.plant errs).rlyPacket part pkt else s)
/-- WAYCREDIT (R374). -/
def execWaycredit (part : Nat) (pkt : List Byte) (errs : List (Nat × Nat)) (s : State) : Host.Outcome State Fault Refusal :=
  .next (if pkKind pkt = 3 then (s.plant errs).rlyPacket part pkt else s)
/-- LEAD (R382). -/
def execLead (part : Nat) (pkt : List Byte) (errs : List (Nat × Nat)) (s : State) : Host.Outcome State Fault Refusal :=
  .next (if pkKind pkt = 4 then (s.plant errs).rlyPacket part pkt else s)
/-- RESYNC (R381). -/
def execResync (part : Nat) (pkt : List Byte) (s : State) : Host.Outcome State Fault Refusal :=
  .next (if pkKind pkt = 5 then s.rlyPacket part pkt else s)
/-- DIGEST (R388). -/
def execDigest (part : Nat) (pkt : List Byte) (s : State) : Host.Outcome State Fault Refusal :=
  .next (if pkKind pkt = 6 then s.rlyPacket part pkt else s)
/-- PACKET_KIND_RESERVED (R385). -/
def execPacketKindReserved (kind : Nat) (s : State) : Host.Outcome State Fault Refusal :=
  .next (if kind = 0 || decide (7 < kind) then s.count R.CNT_RLY 0 16 1 else s)
/-- BATON_TIMEOUT (R374). -/
def execBatonTimeout (part qp : Nat) (s : State) : Host.Outcome State Fault Refusal := .next (s.batonTimeout part qp)
/-- COLLECTIVE_COMPLETE (R375). -/
def execCollectiveComplete (part qp : Nat) (s : State) : Host.Outcome State Fault Refusal := .next (s.collComplete part qp)
/-- TRIGGER_STALL (R380). -/
def execTriggerStall (part : Nat) (s : State) : Host.Outcome State Fault Refusal := .next (s.trigStall part)

end Sys2Proof.Machine
end

