-- ==== Sys2Proof/Machine/Fabric.lean ====
section
/-! DEFINITION. Rilvi ports: frames, acknowledgement and replay, the spare wavelength, link states, discovery, fabric
time, and packets at their destination (11_rilvi_fabric.md R324 to R364; 02_laps_and_legs.md R51, R55). -/

namespace Sys2Proof.Machine

/-! ## Port states (R338, Table 11-8) -/

abbrev psOff : Nat := 0
abbrev psLock : Nat := 1
abbrev psTrain : Nat := 2
abbrev psParam : Nat := 3
abbrev psUp : Nat := 4
abbrev psRetrain : Nat := 5
abbrev psDown : Nat := 6
abbrev psParked : Nat := 7

/-- Optical engine of a port (Table 11-1). -/
def engineOf (q : Nat) : Nat := if q < 4 then q % 2 else 2 + q % 2
def portsOfEngine (e : Nat) : List Nat := (List.range 8).filter (fun q => engineOf q = e)

def State.linkF (s : State) (f : Fld) (q : Nat) : Nat := s.rdF R.FAB_LINK_STATUS f q 0
def State.setLinkF (s : State) (f : Fld) (q x : Nat) : State := s.wrF R.FAB_LINK_STATUS f q 0 x

def State.laserOk (s : State) (q : Nat) : Bool := s.linkF F.FAB_LINK_STATUS_LASER_OK q = 1
def State.portEnabled (s : State) (q : Nat) : Bool := s.rdF R.FAB_LINK_CTRL F.FAB_LINK_CTRL_ENABLE q 0 = 1

/-- Freshness of every port (R362). -/
def State.freshAll (s : State) : State :=
  (List.range 8).foldl (fun s q =>
    s.setLinkF F.FAB_LINK_STATUS_FRESH q (b2n (s.timeOk && s.portState q = psUp && (s.port q).goodExch))) s

/-- Set a port's state; light follows it (R341). -/
def State.setPort4 (s : State) (q st : Nat) : State :=
  let s := s.setLinkF F.FAB_LINK_STATUS_STATE q st
  let lit := if st = psOff || st = psDown || st = psParked then 0 else 0x1FF
  let s := s.wrF R.FAB_LANE_STATUS F.FAB_LANE_STATUS_TX_ACTIVE q 0 lit
  let s := if st = psOff || st = psDown || st = psParked then s.wrF R.FAB_LANE_STATUS F.FAB_LANE_STATUS_RX_LOCKED q 0 0 else s
  if st = psUp then s else (s.updPort q (fun x => { x with goodExch := false, t1s := [] })).freshAll

/-- Packets whose flits the port still owes, in order: those of unacknowledged frames and the one in transmission. -/
def Port.owed (x : Port) : List TxPkt :=
  let l := (x.replay.map (·.pkts)).flatten ++ (if x.cur = [] then [] else [x.curPkt])
  (l.foldl (fun a p => if a.any (fun e => e.no = p.no) then a else p :: a) []).reverse

/-- R340: the part-received packet is discarded, owed packets are routed again and counted, and those not begun are
routed again. The port's credits return to the reserved grants (log 44). -/
def State.reinject (s : State) (q : Nat) : State :=
  let x := s.port q
  let counted := (x.replay.map (·.pkts)).flatten
  let n := (x.owed.filter (fun p => counted.any (fun e => e.no = p.no))).length
  let again := x.owed.map (·.orig) ++ x.txq.map (·.orig)
  let s := s.setPort q { x with
    txq := [], ctrl := [], cur := [], replay := [], resend := none, rx := [], rxNeed := 0, credits := []
    nakDue := false, gapSeen := false, parkDue := false }
  let s := s.count R.CNT_FAB q 11 n
  again.foldl (fun s b => s.route b) s

/-- A port enters DOWN with a cause (R338, R340). -/
def State.portDown (s : State) (q cause : Nat) : State :=
  let s := ((s.setPort4 q psDown).setLinkF F.FAB_LINK_STATUS_DOWN_CAUSE q cause).count R.CNT_FAB q 10 1
  s.reinject q

/-- A port enters LOCK; `saved` trains from saved settings. -/
def State.portLock (s : State) (q : Nat) (saved : Bool) : State :=
  (s.updPort q (fun x => { x with saved := saved, retrainFails := 0 })).setPort4 q psLock

/-- A port in UP enters RETRAIN (R338): packets not begun are routed as for a port that is not UP (R340). -/
def State.portRetrain (s : State) (q : Nat) : State :=
  let x := s.port q
  let again := x.txq.map (·.orig)
  let s := s.setPort q { x with txq := [], saved := true, retrainFails := 0, resend := none, spareReq := 15, good := 0 }
  let s := (s.setPort4 q psRetrain).count R.CNT_FAB q 9 1
  again.foldl (fun s b => s.route b) s

/-! ## Flits -/

def flit (l : List Byte) : List Byte := (l ++ List.replicate 64 0).take 64

/-- Queue a control flit on a port. -/
def State.ctrlFlit (s : State) (q : Nat) (f : List Byte) : State :=
  (s.updPort q (fun x => { x with ctrl := x.ctrl ++ [f] })).emit (.flit q f)

/-- LINK_INFO (Table 11-6). -/
def State.linkInfoFlit (s : State) (q : Nat) (park : Bool) : List Byte :=
  let x := s.port q
  let healthy := bits (s.rdF R.FAB_LANE_STATUS F.FAB_LANE_STATUS_RX_LOCKED q 0) 7 0
  flit (leBytes 8 0x81 ++ leBytes 8 Config.deviceUid.toNat ++ leBytes 1 q ++ leBytes 1 (s.rd R.FAB_ROLE q 0)
    ++ leBytes 2 s.myChip
    ++ leBytes 1 (s.rdF R.RLY_FABRIC_COORD F.RLY_FABRIC_COORD_VALID 0 0 + 2 * b2n park + 4 * b2n x.width4)
    ++ leBytes 1 healthy ++ leBytes 2 x.expect)

/-- COORD (Table 11-6). -/
def State.coordFlit (s : State) : List Byte :=
  flit (leBytes 8 0x84 ++ leBytes 2 s.myChip ++ leBytes 4 (s.rd R.RLY_FABRIC_DIMS 0 0 % 65536) ++ leBytes 2 0
    ++ leBytes 8 (s.chip.origin.getD 0))

def State.hasCoords (s : State) : Bool := s.rdF R.RLY_FABRIC_COORD F.RLY_FABRIC_COORD_VALID 0 0 = 1

/-- COORD on every UP torus port (R350). -/
def State.sendCoords (s : State) : State :=
  ((List.range 6).filter (fun q => s.portState q = psUp)).foldl (fun s q => s.ctrlFlit q s.coordFlit) s

/-- Credits of a (VC, class) pair on a port. -/
def Port.credit (x : Port) (k : Nat) : Nat := Sp.get 67 x.credits k

/-- Give back the flits of a packet that left port `q`'s receive buffer (R343). -/
def State.giveBack (s : State) (q : Nat) (b : List Byte) : State :=
  if q = 8 || s.portState q != psUp then s
  else s.ctrlFlit q (flit (leBytes 1 0x80 ++ leBytes 3 1
    ++ leBytes 4 (atBits 5 0 (pkVc b) + atBits 7 6 (pkClass b) + atBits 23 8 (pkFlits b))))

/-! ## Packets at their destination (R346, R347, R454) -/

/-- Partition whose VC range a packet lies in, for reports about packets that no queue pair owns. -/
def State.partOfVc (s : State) (vc : Nat) : Nat :=
  (s.enabledParts.find? (fun p =>
    decide (s.rdF R.GLB_PART_CONFIG F.GLB_PART_CONFIG_VC_FIRST 0 p ≤ vc
      ∧ vc ≤ s.rdF R.GLB_PART_CONFIG F.GLB_PART_CONFIG_VC_LAST 0 p))).getD 0

/-- Hold a packet under its queue's credits (R51, R55). -/
def State.holdPkt (s : State) (q : Nat) (b : List Byte) : State := { s with heldPkts := s.heldPkts ++ [(q, b)] }

/-- A discard under Table 11-11, counted in CNT_RLY `i` and reported once a lap (R347). -/
def State.rejectPkt (s : State) (p i : Nat) (b : List Byte) : State :=
  let s := s.count R.CNT_RLY 0 i 1
  if (s.part p).cfgSeen then s
  else (s.updPart p (fun x => { x with cfgSeen := true })).event E.CFG_GEN_MISMATCH p (formP (pkSrc b) (pkQp b) (pkSeq b)) 0

/-- A packet addressed to this chip, arrived on port `q`; 8 for its own. A queue pair that nothing binds is checked as
the partition's whose virtual channels hold the packet's, and held only after the checks of Table 11-11 (R51, R347;
log 103). -/
def State.deliverLocal (s : State) (q : Nat) (b : List Byte) : State :=
  let kind := pkKind b
  let form := formP (pkSrc b) (pkQp b) (pkSeq b)
  let owner := s.qpOwner (pkQp b)
  if pcrc b != fieldAt b 0x1C 4 then
    (s.count R.CNT_RLY 0 5 1).event E.FAB_PKT_CRC (owner.getD (s.partOfVc (pkVc b))) form 0
  else if kind = 7 then s.gunPacket (pkBody b)
  else if kind = 0 || 7 < kind then s.count R.CNT_RLY 0 16 1
  else if s.chip.fatal then s.count R.CNT_GLB 0 19 1
  else if s.enabledParts = [] then s.holdPkt q b
  else
    let p := owner.getD (s.partOfVc (pkVc b))
    let lo := s.rdF R.GLB_PART_CONFIG F.GLB_PART_CONFIG_VC_FIRST 0 p
    let hi := s.rdF R.GLB_PART_CONFIG F.GLB_PART_CONFIG_VC_LAST 0 p
    if s.pState p = stFailed then s.count R.CNT_GLB 0 19 1
    else if pkVc b < lo || hi < pkVc b then
      let s := s.count R.CNT_GLB 0 1 1
      if (s.part p).tenantSeen then s
      else (s.updPart p (fun x => { x with tenantSeen := true })).event E.FABRIC_TENANT p form 0
    else if s.pState p = stHeld || s.pState p = stDetached then s.holdPkt q b
    else
      let g := s.gen p
      let e := (pkEpoch b + 256 - s.lap p % 256) % 256
      if pkGen b = g then
        if e = 255 || e ≤ 1 then
          if owner.isNone then s.holdPkt q b
          else if kind = 1 then s.embSegment p (pkQp b) (pkBody b) else s.rlyPacket p b
        else s.rejectPkt p 1 b
      else if pkGen b = (g + 1) % 65536 && e = 1 then s.holdPkt q b
      else s.rejectPkt p 0 b

/-- Try every held packet again, at a boundary (R51, R55, R65). -/
def State.retryHeld (s : State) : State :=
  s.heldPkts.foldl (fun s e => s.deliverLocal e.1 e.2) { s with heldPkts := [] }

/-- Packets of partition `p` still unbound at the end of a lap boundary are discarded (R51). -/
def State.dropUnbound (s : State) (p : Nat) : State :=
  let gone := s.heldPkts.filter (fun e => (s.qpOwner (pkQp e.2)).isNone && s.partOfVc (pkVc e.2) = p)
  let s := { s with heldPkts := s.heldPkts.filter (fun e => !((s.qpOwner (pkQp e.2)).isNone && s.partOfVc (pkVc e.2) = p)) }
  gone.foldl (fun s e => (s.count R.CNT_RLY 0 18 1).event E.QP_UNBOUND p
    (formP (pkSrc e.2) (pkQp e.2) (pkSeq e.2)) 0) s

/-- Whether port `q` may pass a packet on: a TIMED one waits for freshness (R362). -/
def State.mayPass (s : State) (q : Nat) (b : List Byte) : Bool :=
  q = 8 || !pkTimed b || s.linkF F.FAB_LINK_STATUS_FRESH q = 1

/-- The oldest packet of port `q` that may pass is delivered or routed. -/
def State.routeNext (s : State) (q : Nat) : State :=
  let l := (s.port q).rxq
  match l.findIdx? (s.mayPass q) with
  | none => s
  | some i =>
    match l[i]? with
    | none => s
    | some b =>
      let s := (s.updPort q (fun x => { x with rxq := x.rxq.eraseIdx i })).giveBack q b
      if pkDst b = s.myChip then s.deliverLocal q b else s.route b

/-! ## Transmission (R330, R332, R334) -/

/-- Flits of a packet. -/
def pktFlits (b : List Byte) : List (List Byte) :=
  (List.range (pkFlits b)).map (fun i => flit (sliceB b (64 * i) (min 64 (32 + pkLen b - 64 * i))))

/-- The first packet that may start: it has credits for all its flits, and no packet before it waits in its VC and
class. -/
def Port.startable (x : Port) : List TxPkt → List Nat → Option TxPkt
  | [], _ => none
  | p :: r, blocked =>
    let k := pkVc p.sent * 4 + pkClass p.sent
    if blocked.contains k then x.startable r blocked
    else if pkFlits p.sent ≤ x.credit k then some p
    else x.startable r (k :: blocked)

/-- The next flit to send at fabric time `now`, with the port after it; none where only IDLE is left. TIME flits take
their stamps here (R359). -/
def Port.nextFlit (x : Port) (now : Nat) : Option (List Byte × Option TxPkt × Port) :=
  match x.cur with
  | f :: r => some (f, some x.curPkt, { x with cur := r })
  | [] =>
    match x.ctrl with
    | f :: r =>
      let x := { x with ctrl := r }
      if fieldAt f 0 1 = 0x82 then some (f, none, { x with t1s := x.t1s ++ [(fieldAt f 8 2, now)] })
      else if fieldAt f 0 1 = 0x83 then some (putField f 24 8 now, none, x)
      else some (f, none, x)
    | [] =>
      match x.startable x.txq [] with
      | none => none
      | some p =>
        let k := pkVc p.sent * 4 + pkClass p.sent
        match pktFlits p.sent with
        | [] => none
        | f :: r =>
          some (f, some p, { x with
            cur := r, curPkt := p, txq := x.txq.filter (fun e => e.no != p.no)
            credits := Sp.set 67 x.credits k (x.credit k - pkFlits p.sent) })

/-- Fill `n` flit slots: the slots, the packets with a flit among them, and the port. -/
def fillSlots : Nat → Nat → Port → List Byte × List TxPkt × Port
  | 0, _, x => ([], [], x)
  | n + 1, now, x =>
    match x.nextFlit now with
    | none => (List.replicate (64 * (n + 1)) 0, [], x)
    | some (f, p, x) =>
      let r := fillSlots n now x
      (f ++ r.1, p.toList ++ r.2.1, r.2.2)

/-- A frame's bytes (R326, Table 11-5). -/
def State.frameBytes (s : State) (q seq : Nat) (null replay : Bool) (slots : List Byte) : List Byte :=
  let x := s.port q
  let h := atBits 11 0 seq + atBits 23 12 (x.expect + 4095) + atBits 24 24 (b2n null) + atBits 25 25 (b2n x.nakDue)
    + atBits 26 26 (b2n replay) + atBits 30 27 x.spareReq + atBits 34 31 x.spareUse
  let b := leBytes 6 h ++ slots
  b ++ leBytes 4 (crc32c b)

/-- Send a frame: it carries the NAK that was due. -/
def State.sendFrame (s : State) (q seq : Nat) (null replay : Bool) (slots : List Byte) : State :=
  (s.emit (.frame q (s.frameBytes q seq null replay slots))).updPort q (fun x => { x with nakDue := false })

def State.sendNull (s : State) (q : Nat) : State :=
  s.sendFrame q ((s.port q).seq + 4095) true false (List.replicate 2560 0)

/-- The next frame of port `q`. -/
def State.transmit (s : State) (q : Nat) : State :=
  if s.portState q = psParam then s.sendNull q
  else if s.portState q != psUp then s else
  let x := s.port q
  match x.resend.bind (fun n => x.replay.find? (fun f => (f.seq + 4096 - n) % 4096 < 2048)) with
  | some f =>
    let s := s.updPort q (fun x => { x with
      replay := x.replay.map (fun g => if g.seq = f.seq then { g with sends := g.sends + 1 } else g)
      resend := if x.replay.any (fun g => g.seq = (f.seq + 1) % 4096) then some ((f.seq + 1) % 4096) else none })
    (s.count R.CNT_FAB q 6 1).sendFrame q f.seq false true f.slots
  | none =>
    let s := s.updPort q (fun x => { x with resend := none })
    if x.parkDue || 1024 ≤ x.replay.length then s.sendNull q else
    let r := fillSlots 40 (s.ftime % 2 ^ 64) (s.port q)
    if ((s.port q).nextFlit (s.ftime % 2 ^ 64)).isNone then s.sendNull q else
    let seq := x.seq
    let pk := (r.2.1.foldl (fun a p => if a.any (fun e => e.no = p.no) then a else a ++ [p]) [])
    let s := s.setPort q r.2.2
    let s := s.sendFrame q seq false false r.1
    s.updPort q (fun x => { x with seq := (seq + 1) % 4096, replay := x.replay ++ [⟨seq, r.1, 1, pk⟩] })

/-- Begin a retransmission at `n`, or retrain where its first frame has been sent REPLAY_LIMIT times (R332 to R334). -/
def State.startResend (s : State) (q n : Nat) : State :=
  let x := s.port q
  match x.replay.find? (fun f => (f.seq + 4096 - n) % 4096 < 2048) with
  | none => s
  | some f =>
    if s.rdF R.FAB_LINK_TUNE F.FAB_LINK_TUNE_REPLAY_LIMIT q 0 ≤ f.sends then s.portRetrain q
    else s.updPort q (fun x => { x with resend := some f.seq, resendStart := f.seq })

/-! ## Lanes (R335 to R337) -/

/-- Width 4, or DOWN with cause 3 where fewer than four wavelengths are healthy (R337). -/
def State.narrow (s : State) (q : Nat) : State :=
  let bad := (s.port q).failing.length
  if 9 < bad + 4 then s.portDown q 3 else
  let s := (s.updPort q (fun x => { x with width4 := true, spareReq := 15, spareUse := 15 })).setLinkF
    F.FAB_LINK_STATUS_WIDTH4 q 1
  let s := (s.setLinkF F.FAB_LINK_STATUS_SPARE q 0).wrF R.FAB_LANE_STATUS F.FAB_LANE_STATUS_SPARE_LANE q 0 15
  (s.event E.PORT_DEGRADED 0 (portWord q) 0).portRetrain q

/-- Wavelength `k` of a receive direction is failing. -/
def State.laneFails (s : State) (q k : Nat) : State :=
  let x := s.port q
  if s.portState q != psUp || x.failing.contains k || 8 < k then s else
  let busy := x.spareReq != 15 || x.spareUse != 15 || x.failing.contains 8 || x.width4
  let s := s.updPort q (fun x => { x with failing := x.failing ++ [k] })
  if k = 8 then (if x.spareUse != 15 || x.spareReq != 15 then s.narrow q else s)
  else if busy then s.narrow q
  else s.updPort q (fun x => { x with spareReq := k, good := 0 })

/-- The receiver takes lane L from the spare (R336). -/
def State.laneSwap (s : State) (q : Nat) : State :=
  let k := (s.port q).spareReq
  let s := s.updPort q (fun x => { x with spareUse := k, spareReq := 15, good := 0 })
  let s := (s.setLinkF F.FAB_LINK_STATUS_SPARE q 1).wrF R.FAB_LANE_STATUS F.FAB_LANE_STATUS_SPARE_LANE q 0 k
  let u := unitWord 0x08 q k 0 0xFFFF
  ((s.count R.CNT_FAB q 8 1).event E.LANE_SPARED 0 u 0).event E.UNIT_FENCED 0 u 0

/-- LANE_WINDOW_END: the worst lane is shown, lanes over LANE_THRESH fail, and counting starts again (R335). -/
def State.windowEnd (s : State) (q : Nat) : State :=
  let w := (s.port q).win
  let worst := (List.range 9).foldl (fun a k => if Sp.get 0 w a < Sp.get 0 w k then k else a) 0
  let s := s.wrFs R.FAB_LANE_STATUS q 0 [(F.FAB_LANE_STATUS_WORST_SYM, Sp.get 0 w worst), (F.FAB_LANE_STATUS_WORST_LANE, worst)]
  let lim := s.rdF R.FAB_LINK_TUNE F.FAB_LINK_TUNE_LANE_THRESH q 0
  let s := s.updPort q (fun x => { x with win := [] })
  ((List.range 9).filter (fun k => lim < Sp.get 0 w k)).foldl (fun s k => s.laneFails q k) s

/-! ## Fabric time (R357 to R363) -/

def State.timeState (s : State) : Nat := s.rdF R.RLY_TIME_STATUS F.RLY_TIME_STATUS_STATE 0 0
def State.setTimeF (s : State) (f : Fld) (x : Nat) : State := s.wrF R.RLY_TIME_STATUS f 0 0 x
def State.isRoot (s : State) : Bool := s.rdF R.RLY_TIME_STATUS F.RLY_TIME_STATUS_ROOT 0 0 = 1

/-- Fabric time has passed from 2^64 - 1 to 0 (R358). -/
def State.timeWrapped (s : State) : State :=
  (s.setTimeF F.RLY_TIME_STATUS_WRAP_EPOCH (1 - s.rdF R.RLY_TIME_STATUS F.RLY_TIME_STATUS_WRAP_EPOCH 0 0)).event
    E.TIME_WRAP 0 0 0

/-- Add INC to the 96-bit accumulator (R357). -/
def State.addInc (s : State) : State :=
  let v := s.ftime % 2 ^ 64 * 2 ^ 32 + s.ffrac % 2 ^ 32 + s.finc
  let s := { s with ftime := v / 2 ^ 32 % 2 ^ 64, ffrac := v % 2 ^ 32 }
  if 2 ^ 96 ≤ v then s.timeWrapped else s

/-- One FTCLK tick: fabric time, then the gun (R357, R533). -/
def State.tick (s : State) : State := s.addInc.gunStep

/-- Nominal INC, and INC held within 200 ppm of an oscillator that itself lies within 20 ppm of it (R357). -/
def nominalInc : Nat := 1024 * 2 ^ 32
def clampInc (x : Nat) : Nat :=
  let d := nominalInc * 220 / 1000000
  nominalInc - d + x % (2 * d + 1)

/-- INC of the root under RATE_PPB, held within 200 ppm (R357, R363). -/
def rootInc (ppb : Int) : Nat :=
  let p : Int := max (-200000) (min 200000 ppb)
  (((nominalInc : Nat) : Int) + ((nominalInc : Nat) : Int) * p / 1000000000 + (if Config.rateRound p then 1 else 0)).toNat

/-- The parent port (R360). -/
def State.bestParent (s : State) : Option Nat :=
  let l := (List.range 8).filter (fun q => s.portState q = psUp && (s.port q).peerSync && decide ((s.port q).peerDepth + 1 < 255))
  l.foldl (fun a q => match a with
    | none => some q
    | some b => if (s.port q).peerDepth < (s.port b).peerDepth then some q else some b) none

/-- Choose the parent again; a chip left without one says so once (R360). -/
def State.chooseParent (s : State) : State :=
  if s.isRoot then s else
  match s.bestParent with
  | some q =>
    let s := { s with chip := { s.chip with parent := some q, noRoot := false } }
    (s.setTimeF F.RLY_TIME_STATUS_PARENT q).setTimeF F.RLY_TIME_STATUS_DEPTH ((s.port q).peerDepth + 1)
  | none =>
    let said := s.chip.noRoot
    let s := { s with chip := { s.chip with parent := none, noRoot := true } }
    if said then s else s.event E.TIME_NO_ROOT 0 0 0

/-- Signed difference of two 64-bit times. -/
def timeDiff (a b : Nat) : Int := sext 64 ((a % 2 ^ 64 + 2 ^ 64 - b % 2 ^ 64) % 2 ^ 64)

/-- Fabric time steps by theta (R361). -/
def State.stepTime (s : State) (theta : Int) : State :=
  let t := ((s.ftime % 2 ^ 64 : Nat) : Int) + theta
  let s := { s with ftime := wrapI 64 t }
  let s := if t ≥ ((2 ^ 64 : Nat) : Int) then s.timeWrapped else s
  s.count R.CNT_RLY 0 6 1

/-- A TIME_RESP on port `q`: exchange `e`, t2, t3, the peer's DEPTH and whether it is SYNCED or HOLDOVER (R359 to
R362). -/
def State.timeResp (s : State) (q e t2 t3 depth : Nat) (sync : Bool) : State :=
  match (s.port q).t1s.find? (fun x => x.1 = e) with
  | none => s
  | some (_, t1) =>
    let t4 := s.ftime % 2 ^ 64
    let n := timeDiff t2 t1 - timeDiff t4 t3 - sext 32 (s.rd R.FAB_TIME_ASYM q 0)
    let theta := n / 2 + (if n % 2 = 1 && Config.thetaRound n then 1 else 0)
    let rtt := wrapI 32 (timeDiff t4 t1 - timeDiff t3 t2)
    let good := decide (-256000 ≤ theta ∧ theta ≤ 256000)
    let s := s.wrF R.FAB_PEER F.FAB_PEER_RTT q 0 rtt
    let s := s.updPort q (fun x => { x with
      t1s := x.t1s.filter (fun y => y.1 != e), goodExch := good, peerDepth := depth, peerSync := sync })
    let s := s.chooseParent
    let s :=
      if s.isRoot || s.chip.parent != some q then s else
      let s := s.setTimeF F.RLY_TIME_STATUS_LAST_OFFSET (wrapI 32 theta)
      if good then
        let k := s.takeFree
        { k.2.setTimeF F.RLY_TIME_STATUS_STATE 1 with finc := clampInc (Config.slewInc k.1) }
      else (s.stepTime theta).setTimeF F.RLY_TIME_STATUS_STATE 3
    s.freshAll

/-- A TIME_REQ on port `q` is answered; t3 is stamped when the answer leaves (R359). -/
def State.timeReq (s : State) (q e : Nat) : State :=
  s.ctrlFlit q (flit (leBytes 8 0x83 ++ leBytes 8 (e % 65536) ++ leBytes 8 s.ftime ++ leBytes 8 0
    ++ leBytes 1 (s.rdF R.RLY_TIME_STATUS F.RLY_TIME_STATUS_DEPTH 0 0) ++ leBytes 1 (b2n s.timeOk)))

/-! ## Discovery (R349 to R352) -/

/-- A disagreement holds the port out of routing (R351). -/
def State.conflict (s : State) (q : Nat) : State :=
  ((s.setLinkF F.FAB_LINK_STATUS_CONFLICT q 1).wrF R.RLY_FABRIC_COORD F.RLY_FABRIC_COORD_CONFLICT 0 0 1).event
    E.DISC_CONFLICT 0 (portWord q) 0

/-- Coordinates of the chip a torus port's COORD sender implies for this chip: n - unit(d). -/
def State.impliedCoords (s : State) (q n : Nat) : Nat := s.neighbour n (q / 2) (1 - q % 2)

/-- A COORD on port `q` from a chip at `n`. -/
def State.coordIn (s : State) (q n dims origin : Nat) : State :=
  let spare := s.rdF R.RLY_FABRIC_DIMS F.RLY_FABRIC_DIMS_SPARE 0 0 = 1
  if 5 < q || spare then s else
  let s := s.wrFs R.FAB_PEER q 0 [(F.FAB_PEER_CHIP, n), (F.FAB_PEER_COORD_VALID, 1)]
  let me := s.impliedCoords q n
  if !s.hasCoords then
    let s := s.wrFs R.RLY_FABRIC_COORD 0 0 [(F.RLY_FABRIC_COORD_CHIP_ID, me), (F.RLY_FABRIC_COORD_VALID, 1)]
    { s with chip := { s.chip with origin := some origin } }.sendCoords
  else if me != s.myChip || dims != s.rd R.RLY_FABRIC_DIMS 0 0 % 65536 || s.chip.origin != some origin then s.conflict q
  else s

/-- The link is accepted (R349): a torus port faces the port of the opposite role, a wildcard faces a wildcard or a spare
chip; this chip, as a spare, may face a wildcard on any port (log 45). -/
def State.linkOk (s : State) (q peerPort peerRole : Nat) : Bool :=
  let spare := s.rdF R.RLY_FABRIC_DIMS F.RLY_FABRIC_DIMS_SPARE 0 0 = 1
  if 5 < q then true
  else (peerPort = (if q % 2 = 0 then q + 1 else q - 1) && peerRole % 8 = 1) || (spare && decide (5 < peerPort))

/-- A LINK_INFO flit on port `q`: in PARAM the link is judged; in UP a PARK request is taken (R338, R339, R349). -/
def State.linkInfoIn (s : State) (q : Nat) (f : List Byte) : State :=
  let fl := fieldAt f 20 1
  if s.portState q = psUp then
    (if bit fl 1 then s.updPort q (fun x => { x with parkDue := true }) else s)
  else if s.portState q != psParam then s else
  let s := s.wr R.FAB_PEER_UID q 0 (fieldAt f 8 8)
  let s := s.wrFs R.FAB_PEER q 0 [(F.FAB_PEER_CHIP, fieldAt f 18 2), (F.FAB_PEER_PORT, fieldAt f 16 1 % 8),
    (F.FAB_PEER_COORD_VALID, fl % 2)]
  -- saved settings of another peer: the port retrains fully at once (R504)
  if (s.port q).savedKey.any (· != fieldAt f 8 8) then
    (s.updPort q (fun x => { x with savedKey := none })).portLock q false
  else if !s.linkOk q (fieldAt f 16 1) (fieldAt f 17 1) then
    (s.event E.DISC_MISWIRE 0 (portWord q) 0).portDown q 5
  else
    let next := fieldAt f 22 2 % 4096
    let s := s.updPort q (fun x =>
      let left := x.replay.filter (fun g => (g.seq + 4096 - next) % 4096 < 2048)
      { x with
        replay := left.map (fun g => { g with sends := 0 })
        seq := if left = [] then next else x.seq
        resend := if left = [] then none else some next
        resendStart := next, retrainFails := 0, saved := true, parkDue := false
        width4 := x.width4 || bit fl 2 })
    let s := if bit fl 2 then s.setLinkF F.FAB_LINK_STATUS_WIDTH4 q 1 else s
    let s := s.setPort4 q psUp
    let s := (s.setLinkF F.FAB_LINK_STATUS_FAILED_TRAINS q 0).setLinkF F.FAB_LINK_STATUS_DOWN_CAUSE q 0
    if s.hasCoords && q < 6 then s.ctrlFlit q s.coordFlit else s

/-! ## Reception (R329 to R332) -/

/-- A CREDIT flit's grants (R343). -/
def State.creditIn (s : State) (q : Nat) (f : List Byte) : State :=
  let n := min 15 (fieldAt f 1 1)
  s.updPort q (fun x => (List.range n).foldl (fun (x : Port) i =>
    let w := fieldAt f (4 + 4 * i) 4
    let k := bits w 5 0 * 4 + bits w 7 6
    { x with credits := Sp.set 67 x.credits k (x.credit k + bits w 23 8) }) x)

/-- A control flit taken from an accepted frame; `replay` is the frame's REPLAY. -/
def State.ctrlIn (s : State) (q : Nat) (replay : Bool) (f : List Byte) : State :=
  match fieldAt f 0 1 with
  | 0x80 => s.creditIn q f
  | 0x81 => s.linkInfoIn q f
  | 0x82 => if replay then s.count R.CNT_FAB q 12 1 else s.timeReq q (fieldAt f 8 2)
  | 0x83 =>
    if replay then s.count R.CNT_FAB q 12 1
    else s.timeResp q (fieldAt f 8 2) (fieldAt f 16 8) (fieldAt f 24 8) (fieldAt f 32 1) (bit (fieldAt f 33 1) 0)
  | 0x84 => s.coordIn q (fieldAt f 8 2) (fieldAt f 10 4 % 65536) (fieldAt f 16 8)
  | _ => s

/-- A packet is received whole: a TIMED one on a port that is not fresh is counted (R362). -/
def State.pktIn (s : State) (q : Nat) (b : List Byte) : State :=
  let b := b.take (32 + pkLen b)
  let s := s.updPort q (fun x => { x with rxq := x.rxq ++ [b], rx := [], rxNeed := 0 })
  if s.mayPass q b then s else s.count R.CNT_RLY 0 7 1

/-- One flit slot of an accepted frame. -/
def State.slotIn (s : State) (q : Nat) (replay : Bool) (f : List Byte) : State :=
  let x := s.port q
  if x.rxNeed = 1 then s.pktIn q (x.rx ++ f)
  else if 1 < x.rxNeed then s.setPort q { x with rx := x.rx ++ f, rxNeed := x.rxNeed - 1 }
  else
    let k := fieldAt f 0 1
    if k = 0 then s
    else if k ≤ 0x0F then
      (if pkFlits f ≤ 1 then s.pktIn q f else s.setPort q { x with rx := f, rxNeed := pkFlits f - 1 })
    else s.ctrlIn q replay f

/-- A flit slot outside a packet body has a reserved kind (R329); `need` is the flits still to come. -/
def badKinds : Nat → List (List Byte) → Bool
  | _, [] => false
  | n + 1, _ :: r => badKinds n r
  | 0, f :: r =>
    let k := fieldAt f 0 1
    if k = 0 then badKinds 0 r
    else if k ≤ 0x0F then badKinds (pkFlits f - 1) r
    else if 0x80 ≤ k ∧ k ≤ 0x84 then badKinds 0 r
    else true

/-- ACK, NAK and SPARE fields of a good frame's header (R332, R336). -/
def State.headerIn (s : State) (q h : Nat) : State :=
  let ack := bits h 23 12
  let s := s.updPort q (fun x => { x with replay := x.replay.filter (fun f => !((ack + 4096 - f.seq) % 4096 < 2048)) })
  let s := s.updPort q (fun x => { x with peerReq := bits h 30 27 })
  let s := s.setLinkF F.FAB_LINK_STATUS_PEER_SPARE q (b2n (bits h 34 31 != 15))
  let next := (ack + 1) % 4096
  let x := s.port q
  if bit h 25 && !(x.resend.isSome && decide ((next + 4096 - x.resendStart) % 4096 < 2048)) then s.startResend q next else s

/-- A frame whose every codeword decoded arrives on port `q`. -/
def State.frameIn (s : State) (q : Nat) (b : List Byte) : State :=
  let h := fieldAt b 0 6
  if b.length != 2570 || crc32c (b.take 2566) != fieldAt b 2566 4 then s.count R.CNT_FAB q 2 1 else
  let x := s.port q
  let d := (bits h 11 0 + 4096 - x.expect) % 4096
  if bit h 24 then s.headerIn q h
  else if d = 0 then
    let slots := (List.range 40).map (fun i => sliceB b (6 + 64 * i) 64)
    if badKinds x.rxNeed slots then s.count R.CNT_FAB q 2 1 else
    let s := s.setPort q { x with expect := (x.expect + 1) % 4096, gapSeen := false }
    slots.foldl (fun s f => s.slotIn q (bit h 26) f) (s.headerIn q h)
  else if 2048 ≤ d then (s.count R.CNT_FAB q 4 1).headerIn q h
  else
    let s := (s.count R.CNT_FAB q 3 1).headerIn q h
    if x.gapSeen then s
    else (s.count R.CNT_FAB q 5 1).updPort q (fun x => { x with gapSeen := true, nakDue := true })

/-- A frame arrives with what FEC found: an uncorrectable codeword, corrected symbols per lane, and whether it decodes
with the spare in the failing lane's place (R327, R335, R336). -/
def State.frameReceive (s : State) (q : Nat) (uncorr : Bool) (syms : List (Nat × Nat)) (spareOk : Bool) (b : List Byte) :
    State :=
  if s.portState q != psUp && s.portState q != psParam then s else
  let s := syms.foldl (fun s e => (s.count R.CNT_FAB q 0 e.2).updPort q (fun x =>
    { x with win := Sp.upd 0 x.win e.1 (· + e.2) })) s
  let s :=
    if (s.port q).spareReq = 15 then s
    else
      let s := s.updPort q (fun x => { x with good := if spareOk then x.good + 1 else 0 })
      if 4 ≤ (s.port q).good then s.laneSwap q else s
  if uncorr then s.count R.CNT_FAB q 1 1 else s.frameIn q b

/-! ## Commands: the link layer -/

/-- FRAME_TRANSMIT: a frame boundary of port `port` (R330). -/
def execFrameTransmit (port : Nat) (s : State) : Host.Outcome State Fault Refusal :=
  .next (if port < 8 then s.transmit port else s)

/-- FRAME_RECEIVE (R331). -/
def execFrameReceive (port : Nat) (uncorr : Bool) (syms : List (Nat × Nat)) (spareOk : Bool) (frame : List Byte)
    (s : State) : Host.Outcome State Fault Refusal :=
  .next (if port < 8 then s.frameReceive port uncorr syms spareOk frame else s)

/-- ACK_TIMEOUT (R333, R334). -/
def execAckTimeout (port : Nat) (s : State) : Host.Outcome State Fault Refusal :=
  .next (match (s.port port).replay with
    | f :: _ => if s.portState port = psUp then (s.count R.CNT_FAB port 7 1).startResend port f.seq else s
    | [] => s)

/-- LANE_WINDOW_END (R335). -/
def execLaneWindowEnd (port : Nat) (s : State) : Host.Outcome State Fault Refusal :=
  .next (if port < 8 then s.windowEnd port else s)

/-- SYMBOL_LOCK_LOSS of wavelength `lane` (R335, R337). -/
def execSymbolLockLoss (port lane : Nat) (s : State) : Host.Outcome State Fault Refusal :=
  .next (if port < 8 then (s.wrF R.FAB_LANE_STATUS F.FAB_LANE_STATUS_RX_LOCKED port 0
      (setBit (s.rdF R.FAB_LANE_STATUS F.FAB_LANE_STATUS_RX_LOCKED port 0) lane false)).laneFails port lane else s)

/-- SPARE_VERIFY_TIMEOUT (R336). -/
def execSpareVerifyTimeout (port : Nat) (s : State) : Host.Outcome State Fault Refusal :=
  .next (if (s.port port).spareReq != 15 && s.portState port = psUp then s.portRetrain port else s)

/-- FRAME_LOCK_LOST (R338). -/
def execFrameLockLost (port : Nat) (s : State) : Host.Outcome State Fault Refusal :=
  .next (if s.portState port = psUp then s.portRetrain port else s)

/-- LASER_LOSS of an optical engine (R325). -/
def execLaserLoss (engine : Nat) (s : State) : Host.Outcome State Fault Refusal :=
  .next ((portsOfEngine engine).foldl (fun s q =>
    let s := s.setLinkF F.FAB_LINK_STATUS_LASER_OK q 0
    if s.portState q = psOff then s else s.portDown q 1) s)

/-- LASER_RESTORE of an optical engine (R325). -/
def execLaserRestore (engine : Nat) (s : State) : Host.Outcome State Fault Refusal :=
  .next ((portsOfEngine engine).foldl (fun s q =>
    let s := s.setLinkF F.FAB_LINK_STATUS_LASER_OK q 1
    if !s.portEnabled q || (s.port q).noRef then s
    else if s.portState q = psOff then s.portLock q false
    else if s.portState q = psDown && s.linkF F.FAB_LINK_STATUS_DOWN_CAUSE q = 1 then s.portLock q (s.port q).saved
    else s) s)

/-- ENABLE of a port (R338). -/
def State.portEnable (s : State) (q : Nat) (on : Bool) : State :=
  let s := s.wrF R.FAB_LINK_CTRL F.FAB_LINK_CTRL_ENABLE q 0 (b2n on)
  if on then
    (if s.portState q = psOff && s.laserOk q && !(s.port q).noRef then s.portLock q (s.port q).saved else s)
  else if s.portState q = psOff then s
  else ((s.setPort4 q psOff).setLinkF F.FAB_LINK_STATUS_DOWN_CAUSE q 0).reinject q

/-- PORT_ENABLE: a write of ENABLE. -/
def execPortEnable (port : Nat) (on : Bool) (s : State) : Host.Outcome State Fault Refusal :=
  .next (if port < 8 then s.portEnable port on else s)

/-- A RETRAIN write (R338, R351, R337): the conflict hold ends, and the port retrains at width 8. -/
def State.portRetrainWrite (s : State) (q : Nat) : State :=
  let s := s.setLinkF F.FAB_LINK_STATUS_CONFLICT q 0
  let s := s.wrF R.RLY_FABRIC_COORD F.RLY_FABRIC_COORD_CONFLICT 0 0
    (b2n ((List.range 8).any (fun r => s.linkF F.FAB_LINK_STATUS_CONFLICT r = 1)))
  if s.portState q != psUp && s.portState q != psDown then s else
  let s := s.updPort q (fun x => { x with width4 := false, failing := [], spareReq := 15, spareUse := 15 })
  let s := (s.setLinkF F.FAB_LINK_STATUS_WIDTH4 q 0).setLinkF F.FAB_LINK_STATUS_SPARE q 0
  let s := s.wrF R.FAB_LANE_STATUS F.FAB_LANE_STATUS_SPARE_LANE q 0 15
  if s.portState q = psUp then s.portRetrain q
  else if s.laserOk q && s.portEnabled q && !(s.port q).noRef then s.portLock q (s.port q).saved
  else s

def execRetrain (port : Nat) (s : State) : Host.Outcome State Fault Refusal :=
  .next (if port < 8 then s.portRetrainWrite port else s)

/-- A PARK write (R341): the peer is told, and nothing new is sent. -/
def State.portPark (s : State) (q : Nat) : State :=
  if s.portState q != psUp then s
  else (s.emit (.flit q (s.linkInfoFlit q true))).updPort q (fun x => { x with parkDue := true })

def execPark (port : Nat) (s : State) : Host.Outcome State Fault Refusal := .next (s.portPark port)

/-- PORT_PARKED: every frame is acknowledged (R341). Packets that wait are routed past the port. -/
def execPortParked (port : Nat) (s : State) : Host.Outcome State Fault Refusal :=
  .next (
    let x := s.port port
    if s.portState port = psUp && x.parkDue && x.replay = [] then
      let again := x.txq.map (·.orig)
      let s := s.setPort port { x with parkDue := false, saved := true, txq := [] }
      again.foldl (fun s b => s.route b) (s.setPort4 port psParked)
    else s)

/-- A WAKE write, or the peer's training begins: a parked port trains from saved settings. -/
def State.portWake (s : State) (q : Nat) : State := if s.portState q = psParked then s.portLock q true else s

def execWake (port : Nat) (s : State) : Host.Outcome State Fault Refusal := .next (s.portWake port)

/-- PEER_TRAINING_BEGINS (R338). -/
def execPeerTrainingBegins (port : Nat) (s : State) : Host.Outcome State Fault Refusal := .next (s.portWake port)

/-- PORT_LOCK_DONE: the wavelengths of `locked` are locked: nine, or at least four at width 4 (R338). -/
def execPortLockDone (port locked : Nat) (s : State) : Host.Outcome State Fault Refusal :=
  .next (
    let n := popCount (locked % 512) 9
    if s.portState port = psLock && (n = 9 || (s.port port).width4 && decide (4 ≤ n)) then
      (s.wrF R.FAB_LANE_STATUS F.FAB_LANE_STATUS_RX_LOCKED port 0 locked).setPort4 port psTrain
    else s)

/-- PORT_TRAIN_DONE: codeword and frame lock, in training or in a retrain from saved settings (R338). -/
def execPortTrainDone (port : Nat) (s : State) : Host.Outcome State Fault Refusal :=
  .next (if s.portState port = psTrain || s.portState port = psRetrain then
    let s := s.setPort4 port psParam
    s.emit (.flit port (s.linkInfoFlit port false))
  else s)

/-- PORT_STAGE_TIMEOUT: an attempt fails (R338, Table 11-9). -/
def execPortStageTimeout (port : Nat) (s : State) : Host.Outcome State Fault Refusal :=
  .next (
    let st := s.portState port
    let bump (s : State) : State :=
      s.setLinkF F.FAB_LINK_STATUS_FAILED_TRAINS port (min 255 (s.linkF F.FAB_LINK_STATUS_FAILED_TRAINS port + 1))
    if st = psRetrain then
      let s := (bump s).updPort port (fun x => { x with retrainFails := x.retrainFails + 1 })
      if 3 ≤ (s.port port).retrainFails then
        ((s.portDown port 4).event E.PORT_DOWN 0 (portWord port) 0).event E.UNIT_FENCED 0 (portWord port) 0
      else s
    else if st = psLock || st = psTrain || st = psParam then
      let s := bump s
      if Config.retrainLimit ≤ s.linkF F.FAB_LINK_STATUS_FAILED_TRAINS port then s.portDown port (if st = psLock then 2 else 3)
      else s.setPort4 port psLock
    else s)

/-- PORT_DOWN_RETRY: DOWN_RETRY_S seconds have passed in DOWN (R338). A port without laser input cannot train. -/
def execPortDownRetry (port : Nat) (s : State) : Host.Outcome State Fault Refusal :=
  .next (if s.portState port = psDown && s.rdF R.FAB_LINK_CTRL F.FAB_LINK_CTRL_DOWN_RETRY_S port 0 != 0
      && s.laserOk port && s.portEnabled port && !(s.port port).noRef then s.portLock port (s.port port).saved else s)

/-! ## Commands: control flits and fabric time -/

/-- CREDIT (R343). -/
def execCredit (port : Nat) (flit : List Byte) (s : State) : Host.Outcome State Fault Refusal := .next (s.creditIn port flit)

/-- LINK_INFO (R349). -/
def execLinkInfo (port : Nat) (flit : List Byte) (s : State) : Host.Outcome State Fault Refusal :=
  .next (if port < 8 then s.linkInfoIn port flit else s)

/-- TIME_REQ (R359). -/
def execTimeReq (port : Nat) (replay : Bool) (exch : Nat) (s : State) : Host.Outcome State Fault Refusal :=
  .next (if replay then s.count R.CNT_FAB port 12 1 else s.timeReq port exch)

/-- TIME_RESP (R359 to R362). -/
def execTimeResp (port : Nat) (replay : Bool) (exch t2 t3 depth : Nat) (sync : Bool) (s : State) :
    Host.Outcome State Fault Refusal :=
  .next (if replay then s.count R.CNT_FAB port 12 1 else s.timeResp port exch t2 t3 depth sync)

/-- COORD (R350, R351). -/
def execCoord (port chip dims origin : Nat) (s : State) : Host.Outcome State Fault Refusal :=
  .next (s.coordIn port chip dims origin)

/-- TIME_EXCHANGE_START: SYNC_US has passed (R359). A parent exchange without an answer leaves the chip in HOLDOVER
(R361). -/
def execTimeExchangeStart (s : State) : Host.Outcome State Fault Refusal :=
  .next (
    if s.rdF R.RLY_TIME_CTRL F.RLY_TIME_CTRL_ENABLE 0 0 = 0 then s else
    let late := match s.chip.parent with
      | some q => s.portState q != psUp || !(s.port q).t1s.isEmpty
      | none => true
    let s := if !s.isRoot && late && s.timeState = 1 then s.setTimeF F.RLY_TIME_STATUS_STATE 2 else s
    ((List.range 8).filter (fun q => s.portState q = psUp)).foldl (fun s q =>
      let e := ((s.port q).exch + 1) % 65536
      (s.updPort q (fun x => { x with exch := e })).ctrlFlit q (flit (leBytes 8 0x82 ++ leBytes 2 e))) s)

/-- TIME_HOLDOVER_EXPIRY: no parent exchange for 12 ms (R361). -/
def execTimeHoldoverExpiry (s : State) : Host.Outcome State Fault Refusal :=
  .next (if !s.isRoot && s.timeOk then
    let s := (s.setTimeF F.RLY_TIME_STATUS_STATE 3).event E.TIME_STALE 0 0 0
    s.chooseParent.freshAll
  else s)

/-- FRESHNESS_EXPIRY: the port's last good exchange is more than 12 ms old (R362). -/
def execFreshnessExpiry (port : Nat) (s : State) : Host.Outcome State Fault Refusal :=
  .next ((s.updPort port (fun x => { x with goodExch := false })).freshAll)

/-- TIME_WRAP: the FTCLK tick at which fabric time passes from 2^64 - 1 to 0 (R358). -/
def execTimeWrap (s : State) : Host.Outcome State Fault Refusal :=
  .next (if 2 ^ 96 ≤ s.ftime % 2 ^ 64 * 2 ^ 32 + s.ffrac % 2 ^ 32 + s.finc then s.tick else s)

/-- A write of RLY_TIME_SET (R363). -/
def State.timeSet (s : State) (v : Nat) : State :=
  if s.isRoot && s.calm then { s with ftime := v % 2 ^ 64, ffrac := 0 }
  else s.regErr

/-- TIME_SET (R363). -/
def execTimeSet (value : Nat) (s : State) : Host.Outcome State Fault Refusal := .next (s.timeSet value)

/-- A write of RLY_TIME_CTRL: ROOT only in BRINGUP and READY (R363); the root runs at RATE_PPB. -/
def State.writeTimeCtrl (s : State) (v : Nat) : State :=
  let old := s.rd R.RLY_TIME_CTRL 0 0
  let may := s.calm
  let s := if bit v 16 != bit old 16 && !may then s.regErr else s
  let root := if may then bit v 16 else bit old 16
  let s := s.wr R.RLY_TIME_CTRL 0 0 (setBit (setBits v 31 18 0) 16 root)
  let s :=
    if root && !s.isRoot then
      let s := { s with chip := { s.chip with parent := none } }
      s.wrFs R.RLY_TIME_STATUS 0 0 [(F.RLY_TIME_STATUS_ROOT, 1), (F.RLY_TIME_STATUS_STATE, 1), (F.RLY_TIME_STATUS_DEPTH, 0)]
    else if !root && s.isRoot then
      (s.wrFs R.RLY_TIME_STATUS 0 0 [(F.RLY_TIME_STATUS_ROOT, 0), (F.RLY_TIME_STATUS_STATE, 2)]).chooseParent
    else s
  let s := if s.isRoot then { s with finc := rootInc (sext 32 (bits v 63 32)) } else s
  s.freshAll

/-- A write of RLY_FABRIC_DIMS: in BRINGUP and READY; the origin takes (0, 0, 0) (R350). -/
def State.writeDims (s : State) (v : Nat) : State :=
  if !s.calm then s.regErr else
  let s := s.wr R.RLY_FABRIC_DIMS 0 0 (v % 2 ^ 18)
  if bit v 16 && !s.hasCoords then
    let s := s.wrFs R.RLY_FABRIC_COORD 0 0 [(F.RLY_FABRIC_COORD_CHIP_ID, 0), (F.RLY_FABRIC_COORD_VALID, 1)]
    { s with chip := { s.chip with origin := some Config.deviceUid.toNat } }.sendCoords
  else s

/-- A write of FABp_ROLE: P0 to P5 are TORUS, P6 and P7 anything else; reserved roles and stand-ins for no torus port
are taken as written. -/
def State.writeRole (s : State) (q v : Nat) : State :=
  if (q < 6 && v % 8 != 1) || (5 < q && v % 8 = 1) then s.regErr
  else s.wr R.FAB_ROLE q 0 (setBits (v % 256) 3 3 0)

/-- A write of FABp_LINK_CTRL. -/
def State.writeLinkCtrl (s : State) (q v : Nat) : State :=
  let s := s.wrF R.FAB_LINK_CTRL F.FAB_LINK_CTRL_DOWN_RETRY_S q 0 (bits v 15 8)
  let s := if bit v 0 != s.portEnabled q then s.portEnable q (bit v 0) else s
  let s := if bit v 1 then s.portRetrainWrite q else s
  let s := if bit v 2 then s.portPark q else s
  if bit v 3 then s.portWake q else s

/-- A write of RLY_FABRIC_COORD (R352). -/
def State.writeChipId (s : State) (v : Nat) : State :=
  if s.rdF R.RLY_FABRIC_DIMS F.RLY_FABRIC_DIMS_SPARE 0 0 = 1 && s.inReady then
    (s.wrFs R.RLY_FABRIC_COORD 0 0 [(F.RLY_FABRIC_COORD_CHIP_ID, v), (F.RLY_FABRIC_COORD_VALID, 1)]).sendCoords
  else s.regErr

/-- CHIP_ID_WRITE (R352). -/
def execChipIdWrite (value : Nat) (s : State) : Host.Outcome State Fault Refusal := .next (s.writeChipId value)

/-! ## Commands: packets -/

/-- PACKET_ROUTE: port `port`, or this chip's own destination side (8), handles the oldest packet that may pass (R353);
`errs` are the errors its reads meet. -/
def execPacketRoute (port : Nat) (errs : List (Nat × Nat)) (s : State) : Host.Outcome State Fault Refusal :=
  .next (if port < 9 then (s.plant errs).routeNext port else s)

end Sys2Proof.Machine
end

