-- ==== Sys2Proof/Machine/Aes.lean ====
section
/-! DEFINITION. AES-256 in XTS mode with a data unit of 64 bytes, the cipher of copies between device memory and the
host (15_partitions_and_security.md R455, R456). -/

namespace Sys2Proof.Machine

/-! ## The field of 2^8 elements -/

def gfXtime (a : Nat) : Nat := if a < 128 then 2 * a else (2 * a) % 256 ^^^ 0x1B

/-- Product, from the lowest bit of `b` up; `fuel` is its width. -/
def gfMul : Nat → Nat → Nat → Nat
  | 0, _, _ => 0
  | n + 1, a, b => (if b % 2 = 1 then a else 0) ^^^ gfMul n (gfXtime a) (b / 2)

def gfInv (a : Nat) : Nat :=
  let m := gfMul 8
  let a2 := m a a
  let a3 := m a2 a
  let a12 := (List.range 2).foldl (fun x _ => m x x) a3
  let a15 := m a12 a3
  let a240 := (List.range 4).foldl (fun x _ => m x x) a15
  m (m a240 a12) a2

def rotl8 (x n : Nat) : Nat := (x * 2 ^ n + x / 2 ^ (8 - n)) % 256

def aesSub (a : Nat) : Nat :=
  let b := gfInv a
  b ^^^ rotl8 b 1 ^^^ rotl8 b 2 ^^^ rotl8 b 3 ^^^ rotl8 b 4 ^^^ 0x63

def aesInvSub (a : Nat) : Nat := gfInv (rotl8 a 1 ^^^ rotl8 a 3 ^^^ rotl8 a 6 ^^^ 0x05)

/-! ## The block cipher: a state is sixteen bytes, column by column -/

def xorL (a b : List Nat) : List Nat := (a.zip b).map (fun e => e.1 ^^^ e.2)

/-- Round-key words of a 32-byte key, newest first; `n` words are still to come. -/
def aesWords : Nat → List (List Nat) → List (List Nat)
  | 0, ws => ws
  | n + 1, ws =>
    let i := ws.length
    let t := ws.headD []
    let t :=
      if i % 8 = 0 then
        xorL ((t.drop 1 ++ t.take 1).map aesSub) [(List.range (i / 8 - 1)).foldl (fun x _ => gfXtime x) 1, 0, 0, 0]
      else if i % 8 = 4 then t.map aesSub else t
    aesWords n (xorL (ws.getD 7 []) t :: ws)

/-- The fifteen round keys. -/
def aesKeys (key : List Nat) : List (List Nat) :=
  let first := ((List.range 8).map (fun i => (key.drop (4 * i)).take 4)).reverse
  let ws := (aesWords 52 first).reverse
  (List.range 15).map (fun r => ((ws.drop (4 * r)).take 4).flatten)

def shiftRows (s : List Nat) : List Nat := (List.range 16).map (fun i => s.getD ((i + 4 * (i % 4)) % 16) 0)
def invShiftRows (s : List Nat) : List Nat := (List.range 16).map (fun i => s.getD ((i + 16 - 4 * (i % 4)) % 16) 0)

/-- Multiply each column by the circulant of the four coefficients `c`. -/
def mixWith (c : List Nat) (s : List Nat) : List Nat :=
  (List.range 16).map (fun i => (List.range 4).foldl (fun a k =>
    a ^^^ gfMul 8 (s.getD (4 * (i / 4) + k) 0) (c.getD ((k + 4 - i % 4) % 4) 0)) 0)

def aesEnc (keys : List (List Nat)) (b : List Nat) : List Nat :=
  let s := xorL b (keys.headD [])
  let s := ((keys.drop 1).take 13).foldl (fun s k => xorL (mixWith [2, 3, 1, 1] (shiftRows (s.map aesSub))) k) s
  xorL (shiftRows (s.map aesSub)) (keys.getD 14 [])

def aesDec (keys : List (List Nat)) (b : List Nat) : List Nat :=
  let s := (invShiftRows (xorL b (keys.getD 14 []))).map aesInvSub
  let s := (((keys.drop 1).take 13).reverse).foldl (fun s k =>
    (invShiftRows (mixWith [14, 11, 13, 9] (xorL s k))).map aesInvSub) s
  xorL s (keys.headD [])

/-! ## XTS over one granule -/

def byteNats (l : List Byte) : List Nat := l.map (·.toNat)
def natBytes (l : List Nat) : List Byte := l.map (fun v => BitVec.ofNat 8 v)

/-- The tweak times alpha. -/
def xtsNext (t : List Nat) : List Nat :=
  let v := t.foldr (fun b a => b + 256 * a) 0
  let w := (2 * v) % 2 ^ 128 ^^^ (if 2 ^ 127 ≤ v then 0x87 else 0)
  (List.range 16).map (fun i => w / 2 ^ (8 * i) % 256)

/-- The first tweak value of the granule at device address `a`, in a domain (R455). -/
def xtsTweak (key2 : List Nat) (domain a : Nat) : List Nat :=
  let v := a / 64 % 2 ^ 42 + domain * 2 ^ 120
  aesEnc (aesKeys key2) ((List.range 16).map (fun i => v / 2 ^ (8 * i) % 256))

/-- Encrypt or decrypt one granule of the memory at `a` under a 64-byte key, key 1 first. -/
def xtsGranule (dec : Bool) (key : List Byte) (domain a : Nat) (g : List Byte) : List Byte :=
  let k1 := aesKeys (byteNats (key.take 32))
  let r := (List.range 4).foldl (fun (acc : List Byte × List Nat) i =>
    let x := xorL (byteNats (sliceB g (16 * i) 16)) acc.2
    let y := xorL (if dec then aesDec k1 x else aesEnc k1 x) acc.2
    (acc.1 ++ natBytes y, xtsNext acc.2)) ([], xtsTweak (byteNats (key.drop 32)) domain a)
  r.1

/-- The same for whole granules from `a` on. -/
def xtsBytes (dec : Bool) (key : List Byte) (domain a : Nat) (b : List Byte) : List Byte :=
  (List.range (b.length / 64)).flatMap (fun i => xtsGranule dec key domain (a + 64 * i) (sliceB b (64 * i) 64))

end Sys2Proof.Machine
end

