-- ==== Sys2Proof/Machine/Queue.lean ====
section
/-! DEFINITION. Hardware queues: contexts, doorbells, entries and interrupts (13_host_interface.md R404, R405, R410 to
R412). -/

namespace Sys2Proof.Machine

def State.host! (s : State) (f : HostSt → HostSt) : State := { s with host := f s.host }

/-! ## Contexts (Table 13-6) -/

def State.queAddr (s : State) (q : Nat) : Nat := setBits (s.rd R.QUE_TABLE 0 0) 11 0 0 + 64 * q
def State.que (s : State) (q : Nat) : List Byte := s.load (s.queAddr q) 64
def qKind (c : List Byte) : Nat := fieldAt c 0 1 % 8
def qEnable (c : List Byte) : Bool := bit (fieldAt c 0 1) 3
def qInHbm (c : List Byte) : Bool := bit (fieldAt c 0 1) 4
def qError (c : List Byte) : Bool := bit (fieldAt c 0 1) 5
def qFn (c : List Byte) : Nat := fieldAt c 1 1
def qPart (c : List Byte) : Nat := fieldAt c 2 1 % 64
def qLog2 (c : List Byte) : Nat := fieldAt c 3 1 % 32
def qSize (c : List Byte) : Nat := 2 ^ qLog2 c
def qLink (c : List Byte) : Nat := fieldAt c 4 2
def qModCount (c : List Byte) : Nat := fieldAt c 6 2
def qBase (c : List Byte) : Nat := fieldAt c 8 6
def qModUs (c : List Byte) : Nat := fieldAt c 0x0E 2
def qHead (c : List Byte) : Nat := fieldAt c 0x10 4
def qTail (c : List Byte) : Nat := fieldAt c 0x14 4
def qPhase (c : List Byte) : Nat := fieldAt c 0x18 1 % 2

/-- Entries between HEAD and TAIL. -/
def qUsed (c : List Byte) : Nat := (qTail c + 2 ^ 32 - qHead c) % 2 ^ 32

/-- Address of ring slot `i` of entries of `n` bytes. -/
def qSlot (c : List Byte) (n i : Nat) : Nat := (if qInHbm c then qBase c else hostBase + qBase c) + n * (i % qSize c)

def State.setQueHead (s : State) (q v : Nat) : State := s.saveN (s.queAddr q + 0x10) 4 (v % 2 ^ 32)
def State.setQueTail (s : State) (q v : Nat) : State := s.saveN (s.queAddr q + 0x14) 4 (v % 2 ^ 32)
def State.setQueFlag (s : State) (q i : Nat) (b : Bool) : State :=
  s.saveN (s.queAddr q) 1 (setBit (fieldAt (s.que q) 0 1) i b)

/-- Queue range of a function (QUE_FN_RANGE). -/
def State.fnFirst (s : State) (f : Nat) : Nat := s.rdF R.QUE_FN_RANGE F.QUE_FN_RANGE_FIRST 0 f
def State.fnCount (s : State) (f : Nat) : Nat := s.rdF R.QUE_FN_RANGE F.QUE_FN_RANGE_COUNT 0 f

/-- A context may be enabled (R404, R452): a kind, its device fields and reserved bits zero, a ring of 2^4 to 2^16
entries at a multiple of 4 KiB, a queue and a completion queue of its function, and that function's partition. -/
def State.queOk (s : State) (q : Nat) (c : List Byte) : Bool :=
  let k := qKind c
  let f := qFn c
  let mine (x : Nat) : Bool := decide (s.fnFirst f ≤ x ∧ x < s.fnFirst f + s.fnCount f)
  let zeros := fieldAt c 0 1 / 32 = 0 && !qEnable c && fieldAt c 2 1 / 64 = 0 && fieldAt c 3 1 / 32 = 0
    && fieldAt c 0x18 4 = 0 && (c.drop 0x1C).all (· = 0)
  let part := f = 0 || s.partOfFn f = some (qPart c)
  let ring := decide (4 ≤ qLog2 c ∧ qLog2 c ≤ 16) && qBase c % 4096 = 0
  zeros && part && mine q && (match k with
    | 1 => ring && qHead c = 0 && mine (qLink c)
    | 2 | 3 => ring && qTail c = 0
    | 4 => !qInHbm c && (c.drop 3).all (· = 0)
    | _ => false)

/-- Enable a queue whose context is in place. -/
def State.queEnable (s : State) (q : Nat) : State :=
  (s.setQueFlag q 3 true).host! (fun h => { h with enabledQ := if q ∈ h.enabledQ then h.enabledQ else h.enabledQ ++ [q] })

/-- Disable a queue at once. -/
def State.queOff (s : State) (q : Nat) : State :=
  ((s.setQueFlag q 3 false).setQueFlag q 5 false).host! (fun h =>
    { h with enabledQ := h.enabledQ.filter (· != q), fetched := Sp.del q h.fetched })

/-- The queue stops on an error (R407). -/
def State.queError (s : State) (q : Nat) : State :=
  (s.setQueFlag q 5 true).eventAs E.QUEUE_ERROR 7 ((s.partOfFn (qFn (s.que q))).getD 0) q 0 (qFn (s.que q)) none

/-! ## Completion store (R412) -/

/-- Entries a function may hold in the store: one sixty-fourth. -/
def State.storeShare (s : State) : Nat := s.rdF R.HST_CPL_STORE F.HST_CPL_STORE_SIZE_MIB 0 0 * 2 ^ 20 / 32 / 64

/-- The function's share is full: entries that wait, and held completions with a reserved entry. -/
def State.shareFull (s : State) (f : Nat) : Bool :=
  let n := (s.store.filter (fun e => e.fn = f && e.waited)).length
    + (s.enabledParts.map (fun p => ((s.part p).held.filter (fun e => e.fn = f)).length)).sum
  n != 0 && decide (s.storeShare ≤ n)

def State.attached (s : State) : Bool := s.rdF R.HST_ATTACH F.HST_ATTACH_ATTACHED 0 0 = 1

/-- Send an interrupt of a queue (R410); with host traffic stopped none leaves. -/
def State.queIrq (s : State) (q : Nat) : State :=
  let c := s.que q
  let s := s.host! (fun h => { h with irqCnt := Sp.del q h.irqCnt })
  if s.attached then s.emit (.irq (qFn c) (qLink c)) else s

/-- The oldest entry that waits for queue `q` is written into a free slot (R410, R412). -/
def State.queWrite (s : State) (q : Nat) (e : StoreEntry) : State :=
  let c := s.que q
  let tail := qTail c
  let at_ := if qKind c = 3 then 2 else 1
  let b := putField e.bytes at_ 1 (setBits (fieldAt e.bytes at_ 1) 7 7 (qPhase c))
  let s := (s.save (qSlot c 32 tail) b).setQueTail q (tail + 1)
  let s := if (tail + 1) % qSize c = 0 then s.saveN (s.queAddr q + 0x18) 1 (1 - qPhase c) else s
  let s := s.count R.CNT_HST 0 9 1
  let n := Sp.get 0 s.host.irqCnt q + 1
  let s := s.host! (fun h => { h with irqCnt := Sp.set 0 h.irqCnt q n })
  if max 1 (qModCount c) ≤ n then s.queIrq q else s

/-- CPL_ENTRY_POST for queue `q`. -/
def State.queDrain (s : State) (q : Nat) : State :=
  let c := s.que q
  match s.store.findIdx? (fun e => e.queue = q) with
  | none => s
  | some i => match s.store[i]? with
    | none => s
    | some e =>
      if !qEnable c || (qKind c != 2 && qKind c != 3) || (!qInHbm c && !s.attached) then s
      else if qSize c ≤ qUsed c then
        (if e.waited then s else
          { s with store := s.store.set i { e with waited := true } }.count R.CNT_HST 0 10 1)
      else { s with store := s.store.eraseIdx i }.queWrite q e

/-! ## Doorbells (R395, R405) -/

def State.doorbellErr (s : State) : State := s.count R.CNT_HST 0 7 1

/-- A doorbell write of function `f` at index `i` of its doorbell page: PF0 by global number, a VF by local number. -/
def State.doorbell (s : State) (f i v : Nat) (wide : Bool) : State :=
  if !s.chip.everReady then s else
  let q := if f = 0 then i else s.fnFirst f + i
  let c := s.que q
  let k := qKind c
  if wide || decide (65536 ≤ q) || (f != 0 && decide (8192 ≤ i)) || !qEnable c || qFn c != f
    || (f != 0 && decide (s.fnCount f ≤ i)) then s.doorbellErr
  else if k = 1 then
    (if qSize c < (v + 2 ^ 32 - qHead c) % 2 ^ 32 then s.doorbellErr else s.setQueTail q v)
  else if k = 2 || k = 3 then
    (if qUsed c < (qTail c + 2 ^ 32 - v % 2 ^ 32) % 2 ^ 32 then s.doorbellErr else s.setQueHead q v)
  else s.doorbellErr

/-! ## Commands -/

/-- SQ_DOORBELL (R405): `wide` marks any access but one 32-bit write. -/
def execSqDoorbell (fn index value : Nat) (wide : Bool) (s : State) : Host.Outcome State Fault Refusal :=
  .next (s.doorbell fn index value wide)

/-- CQ_DOORBELL (R405). -/
def execCqDoorbell (fn index value : Nat) (wide : Bool) (s : State) : Host.Outcome State Fault Refusal :=
  .next (s.doorbell fn index value wide)

/-- CPL_ENTRY_POST (R412). -/
def execCplEntryPost (queue : Nat) (s : State) : Host.Outcome State Fault Refusal := .next (s.queDrain queue)

/-- INTERRUPT_MOD_TIMEOUT: MOD_US has passed since an entry (R410). -/
def execInterruptModTimeout (queue : Nat) (s : State) : Host.Outcome State Fault Refusal :=
  .next (if Sp.get 0 s.host.irqCnt queue != 0 && qModUs (s.que queue) != 0 then s.queIrq queue else s)

end Sys2Proof.Machine
end

