-- ==== Sys2Proof/Machine/Host.lean ====
section
/-! DEFINITION. The host interface: windows, host reads, commands and copies, the program's HOST target, intake, and the
loss and return of the host (13_host_interface.md R391 to R421, 15_partitions_and_security.md R456). -/

namespace Sys2Proof.Machine

/-! ## Windows (R396, R397) -/

/-- Size in log2 bytes of a function's window BAR (Table 13-4). -/
def State.winLog2 (s : State) (f : Nat) : Nat :=
  match Sp.find (if f = 0 then 0 else 1) s.host.barSize with
  | some v => v
  | none => if f = 0 then 36 else 34

/-- The function's window is exposed: PF0 once the chip has been READY, a VF once VF Enable is set (R394). -/
def State.winOpen (s : State) (f : Nat) : Bool := s.chip.everReady && (f = 0 || (f < 256 && s.host.vfEnable))

/-- The segment register and device address of BAR offset `o`. -/
def State.winMap (s : State) (f o : Nat) : Bool × Nat :=
  let sz := 2 ^ s.winLog2 f / 64
  let v := s.rd R.HST_WINSEG 0 (64 * f + o / sz)
  (bit v 63, setBits (v % 2 ^ 48) 15 0 0 + o % sz)

def State.fnPartOr0 (s : State) (f : Nat) : Nat := (s.partOfFn f).getD 0

/-- Requester of a host access (R471). -/
def State.hostReq (s : State) (f : Nat) (k : ReqKind) (b : Blk) (write : Bool) : Req :=
  { kind := k, fn := f, part := s.fnPartOr0 f, blk := b.byte, write := write }

/-- Page attributes let function `f`'s window read or write a range (R226, R453). -/
def State.winPages (s : State) (f a n : Nat) (write : Bool) : Bool :=
  !s.attrOn || (List.range (if n = 0 then 0 else (a + n - 1) / 2 ^ 21 - a / 2 ^ 21 + 1)).all (fun i =>
    let e := s.attrOf (if i = 0 then a else (a / 2 ^ 21 + i) * 2 ^ 21)
    bit e 63 && bit e (if write then 16 else 17)
      && (f = 0 || (s.partOfFn f = some (bits e 13 8) && bits e 7 0 = f)))

/-- Why a host access is refused (R396). -/
def State.winCheck (s : State) (f a n : Nat) (valid write : Bool) : AccRes :=
  if !valid then .refused
  else if !s.rangeMapped a n then .unmapped
  else match s.regionOf a with
    | .hbm _ | .bulk _ => if s.biasBad a n false || !s.winPages f a n write then .refused else .ok
    | _ => .refused

/-- A refused host access is counted, and reported once per function and lap (R396). -/
def State.winRefuse (s : State) (f a : Nat) (rq : Req) : State :=
  let s := s.count R.CNT_HST 0 5 1
  if f ∈ s.host.winSeen then s
  else (s.host! (fun h => { h with winSeen := h.winSeen ++ [f] })).eventAs E.WINDOW_REFUSED 7 rq.part (bits a 47 0) rq.word f none

/-- The intake segment that holds an address: partition and segment (R416). -/
def State.intakeAt (s : State) (a : Nat) : Option (Nat × Nat) :=
  s.enabledParts.findSome? (fun p =>
    let v := s.rd R.HST_INTAKE_RING p 0
    let size := bits v 59 48 * 2 ^ 20
    let base := bits v 47 20 * 2 ^ 20
    if size != 0 && decide (base ≤ a ∧ a < base + size * (bits v 63 60 + 1)) then some (p, (a - base) / size) else none)

def State.segState (s : State) (p k : Nat) : Nat :=
  bits (s.rdF R.HST_INTAKE_STATUS F.HST_INTAKE_STATUS_SEG_STATE p 0) (2 * k + 1) (2 * k)
def State.setSegState (s : State) (p k v : Nat) : State :=
  s.wrF R.HST_INTAKE_STATUS F.HST_INTAKE_STATUS_SEG_STATE p 0
    (setBits (s.rdF R.HST_INTAKE_STATUS F.HST_INTAKE_STATUS_SEG_STATE p 0) (2 * k + 1) (2 * k) v)

/-- A host write to a device address. A warm-chip reset in progress discards it (Table 17-7). -/
def State.winWrite (s : State) (f a : Nat) (valid : Bool) (b : List Byte) (poison : Bool) : State :=
  if s.chip.warming then s.count R.CNT_GLB 0 20 1 else
  let rq := s.hostReq f .window .hst true
  match s.winCheck f a b.length valid true with
  | .unmapped => (s.unmappedErr rq a).winRefuse f a rq
  | .refused => s.winRefuse f a rq
  | .ok =>
    match s.intakeAt a with
    | some (p, k) =>
      if s.segState p k != 0 then
        (s.count R.CNT_HST 0 11 1).eventAs E.INTAKE_WRITE 7 rq.part (bits a 47 0) rq.word f none
      else (if poison then s.count R.CNT_HST 0 3 1 else s).save a b poison
    | none => (if poison then s.count R.CNT_HST 0 3 1 else s).save a b poison

/-- A host read of a device address: a refused one completes with Unsupported Request. -/
def State.winRead (s : State) (f a n : Nat) (valid : Bool) : State :=
  if s.chip.warming then (s.count R.CNT_GLB 0 20 1).emit (.hostCpl 1 [] false) else
  let rq := s.hostReq f .window .hst false
  match s.winCheck f a n valid false with
  | .unmapped => ((s.unmappedErr rq a).winRefuse f a rq).emit (.hostCpl 1 [] false)
  | .refused => (s.winRefuse f a rq).emit (.hostCpl 1 [] false)
  | .ok =>
    let s := s.senseRaw a n rq.part rq.word
    s.emit (.hostCpl 0 (s.load a n) (s.poisoned a n))

/-! ## Host reads (R401 to R403) -/

/-- The lowest tag that is neither in use nor quarantined. -/
def State.freeTag (s : State) : Option Nat :=
  let used := s.host.reads.map (·.tag) ++ s.host.quarantine
  match (List.range (used.length + 1)).find? (fun t => !(t ∈ used)) with
  | some t => if t < 4096 then some t else none
  | none => none

/-- Ask for a translation's place in the cache of 512 entries (R403). -/
def State.atsTouch (s : State) (addr : Nat) : State :=
  if !s.host.ats || addr / 4096 ∈ s.host.atc then s
  else s.host! (fun h => { h with atc := (if 512 ≤ h.atc.length then h.atc.drop 1 else h.atc) ++ [addr / 4096] })

/-- Issue a host read; none where no tag is free. -/
def State.hostRead (s : State) (use : HUse) (addr len : Nat) : Option State :=
  s.freeTag.map (fun t =>
    let s := s.atsTouch addr
    (s.host! (fun h => { h with reads := h.reads ++ [⟨t, use, addr, len⟩] })).emit (.hostRead t (Sp.get 0 s.host.gens t) addr len))

/-! ## Copies (R415, R456) -/

def State.copyJob (s : State) (id : Nat) : Option CopyJob := s.host.copies.find? (fun j => j.id = id)
def State.updCopy (s : State) (id : Nat) (f : CopyJob → CopyJob) : State :=
  s.host! (fun h => { h with copies := h.copies.map (fun j => if j.id = id then f j else j) })

/-- Bytes of the next read of a copy: at most 4 KiB (R415). -/
def CopyJob.nextLen (j : CopyJob) : Nat := min 4096 (j.len - j.next)

/-- Issue the reads of a copy in, in pieces of 4 KiB, while tags are free; `fuel` bounds the pieces. -/
def State.copyReads : Nat → State → Nat → State
  | 0, s, _ => s
  | fuel + 1, s, id =>
    match s.copyJob id with
    | none => s
    | some j =>
      if !j.running || !j.inn || j.len ≤ j.next then s else
      let n := j.nextLen
      match s.hostRead (.piece id (j.dev + j.next)) (j.host + j.next) n with
      | none => s
      | some s => State.copyReads fuel (s.updCopy id (fun j => { j with next := j.next + n })) id

/-- Every running copy in issues what it can. -/
def State.copyReadsAll (s : State) : State := s.host.copies.foldl (fun s j => State.copyReads 4096 s j.id) s

/-- A copy out reads device memory, writes the host, poisoned granules in poisoned TLPs, and asks for its flush
(R414, Table 13-8). -/
def State.copyOutRun (s : State) (j : CopyJob) : State :=
  let p := match j.prog with
    | some (p, _) => p
    | none => s.fnPartOr0 j.fn
  let rq : Req := match j.prog with
    | some (p, _) => s.progReq p .hst 0
    | none => s.hostReq j.fn .command .hst false
  let s := s.sense j.dev j.len p rq.word
  let plain := s.load j.dev j.len
  let b := match j.key with
    | some k => xtsBytes false k 1 j.dev plain
    | none => plain
  let bad := (List.range (j.len / 64)).filter (fun i => s.poisoned (j.dev + 64 * i) 64)
  let s := (s.atsTouch j.host).save (hostBase + j.host) b
  let s := bad.foldl (fun s i => (s.count R.CNT_HST 0 4 1).emit (.hostPoison (j.host + 64 * i))) s
  let s := s.updCopy j.id (fun x => { x with next := x.len, poisoned := bad != [], failAt := 64 * bad.headD 0 })
  match s.hostRead (.flush j.id) (j.host + j.len - 64) 0 with
  | some s => s
  | none => s

/-- Deal waiting copies to the eight engines of a direction: program copies first, then command copies, in the order
they start (R415). -/
def State.dealCopies : Nat → State → Bool → State
  | 0, s, _ => s
  | fuel + 1, s, inn =>
    if 8 ≤ (s.host.copies.filter (fun j => j.inn = inn && j.running)).length then s else
    let wait := s.host.copies.filter (fun j => j.inn = inn && !j.running)
    match (wait.find? (fun j => j.prog.isSome)).orElse (fun _ => wait.head?) with
    | none => s
    | some j =>
      let s := s.updCopy j.id (fun x => { x with running := true })
      let s := if inn then State.copyReads 4096 s j.id else s.copyOutRun j
      State.dealCopies fuel s inn

/-- Start a copy. -/
def State.copyStart (s : State) (inn : Bool) (prog : Option (Nat × Nat)) (cmd : Option Nat) (f dev host len : Nat) : State :=
  let j : CopyJob := { id := s.host.copyNext, inn := inn, prog := prog, cmd := cmd, fn := f, dev := dev, host := host, len := len
                       key := Sp.find f s.host.hostKey }
  State.dealCopies 9 (s.host! (fun h => { h with copies := h.copies ++ [j], copyNext := h.copyNext + 1 })) inn

/-! ## Command completions (R410, R412) -/

/-- A queue that waits for its started commands stops once it has none; its QUEUE_DESTROY (0 for none) is the result. -/
def State.stopReady (s : State) : Option (Nat × Nat) :=
  s.host.stopping.find? (fun e => !s.host.cmds.any (fun c => c.sq = e.1 && c.id != e.2))

/-- Take a command out of flight with its status; QUIET withholds the entry of a success. -/
def State.cmdEntry (s : State) (c : HCmd) (status value detail : Nat) : State :=
  let s := s.host! (fun h => { h with cmds := h.cmds.filter (fun d => d.id != c.id) })
  let s := if status = 0 then s else s.count R.CNT_HST 0 8 1
  if status = 0 && bit (fieldAt c.bytes 1 1) 1 then s else
  let b := leBytes 1 1 ++ leBytes 1 status ++ leBytes 2 c.sq ++ leBytes 2 (fieldAt c.bytes 2 2) ++ leBytes 2 0
    ++ leBytes 8 value ++ leBytes 4 (s.lap (s.fnPartOr0 c.fn)) ++ leBytes 4 detail ++ leBytes 8 (s.ftime % 2 ^ 64)
  { s with store := s.store ++ [{ fn := c.fn, queue := qLink (s.que c.sq), bytes := b }] }

/-- Disable queues whose started commands have completed, and complete the commands that asked. -/
def State.settleStops : Nat → State → State
  | 0, s => s
  | fuel + 1, s =>
    match s.stopReady with
    | none => s
    | some (q, id) =>
      let s := (s.queOff q).host! (fun h => { h with stopping := h.stopping.filter (fun e => e.1 != q) })
      match s.host.cmds.find? (fun c => c.id = id) with
      | some c => State.settleStops fuel (s.cmdEntry c 0 0 0)
      | none => State.settleStops fuel s

/-- Complete a host command. -/
def State.hostDone (s : State) (c : HCmd) (status value detail : Nat) : State :=
  let s := s.cmdEntry c status value detail
  State.settleStops (s.host.stopping.length + 1) s

/-! ## Command fetch (R406, R407) -/

def hcOp (c : HCmd) : Nat := fieldAt c.bytes 0 1
def hcLen (c : HCmd) : Nat := fieldAt c.bytes 4 4
def hcA0 (c : HCmd) : Nat := fieldAt c.bytes 8 8
def hcA1 (c : HCmd) : Nat := fieldAt c.bytes 0x10 8
def hcArg (c : HCmd) : Nat := fieldAt c.bytes 0x18 8

/-- The fields a row of Table 13-8 allows. -/
def cmdForm (b : List Byte) : Bool :=
  let op := fieldAt b 0 1
  let len := fieldAt b 4 4
  let inline0 := (b.drop 0x20).all (· = 0)
  fieldAt b 1 1 / 4 = 0 &&
  (if op = 0 then (b.drop 4).all (· = 0)
  else if op = 1 then decide (1 ≤ len ∧ len ≤ 48)
  else if op = 2 ∨ op = 3 then inline0 && len % 64 = 0 && fieldAt b 8 8 % 64 = 0
  else if op = 5 then inline0
  else if op = 6 then inline0 && decide (1 ≤ len ∧ len ≤ 65536) && fieldAt b 8 8 % 65536 = 0 && fieldAt b 0x18 8 % 4 != 3
  else if op = 7 ∨ op = 8 then inline0
  else if op = 9 then inline0 && fieldAt b 8 8 / 256 % 4 != 3
  else if op = 0x0A then inline0 && fieldAt b 8 8 % 32 = 0 && fieldAt b 0x10 8 / 256 % 4 != 3
    && F.CLU_BF_LOAD_CTRL_GO.get (fieldAt b 0x18 8) = 0
  else false)

/-- Start a fetched command, or keep it while a FENCE waits (R406); an invalid one completes with status 0x01. -/
def State.cmdBegin (s : State) (q : Nat) (b : List Byte) : State :=
  if bit (fieldAt b 1 1) 0 && s.host.cmds.any (fun c => c.sq = q) then
    s.host! (fun h => { h with fetched := Sp.put q b h.fetched })
  else
    let x := s.que q
    let c : HCmd := ⟨s.host.cmdNext, q, qFn x, b⟩
    let s := s.setQueHead q (qHead x + 1)
    let s := s.host! (fun h => { h with cmds := h.cmds ++ [c], cmdNext := h.cmdNext + 1, fetched := Sp.del q h.fetched })
    if cmdForm b then s else s.hostDone c 1 0 0

/-- COMMAND_FETCH of queue `q`. -/
def State.cmdFetch (s : State) (q : Nat) : State :=
  let x := s.que q
  if q ≥ 65536 || qKind x != 1 || !qEnable x || qError x || !s.attached || qUsed x = 0 || s.shareFull (qFn x)
    || s.host.stopping.any (fun e => e.1 = q) then s
  else match Sp.find q s.host.fetched with
  | some b => s.cmdBegin q b
  | none =>
    let a := qSlot x 64 (qHead x)
    if qInHbm x then
      let rq := s.hostReq (qFn x) .command .que false
      match s.check rq a 64 with
      | .unmapped => (s.unmappedErr rq a).queError q
      | .refused => (s.refusedErr rq a).queError q
      | .ok =>
        let s := s.sense a 64 rq.part rq.word
        if s.poisoned a 64 then s.queError q else s.cmdBegin q (s.load a 64)
    else if s.host.reads.any (fun r => r.use = .sq q) then s
    else (s.hostRead (.sq q) (a - hostBase) 64).getD s

/-! ## Delivery of host reads -/

/-- What a read's end does: its bytes, or bytes under poison marks. -/
def State.readEnd (s : State) (r : HRead) (data : List Byte) (bad timedOut : Bool) : State :=
  match r.use with
  | .piece id dev =>
    match s.copyJob id with
    | none => s
    | some j =>
      let plain := match j.key with
        | some k => xtsBytes true k 1 dev data
        | none => data
      let s := s.save dev plain bad
      let first := bad && !j.timedOut && !j.poisoned
      s.updCopy id (fun x => { x with
        timedOut := x.timedOut || timedOut, poisoned := x.poisoned || bad, failAt := if first then dev - x.dev else x.failAt })
  | .flush id => s.updCopy id (fun x => { x with flushed := true, timedOut := x.timedOut || timedOut })
  | .sq q => if bad then s.queError q else s.cmdBegin q data
  | .fw page =>
    if bad then s.host! (fun h => { h with fwFail := true })
    else s.host! (fun h => { h with fwPages := Sp.put page data h.fwPages })

/-- Bytes that a failed read leaves. -/
def State.failedBytes (s : State) (n : Nat) : State × List Byte :=
  let k := s.takeFree
  (k.2, (List.range n).map (Config.failedByte k.1))

def State.dropRead (s : State) (t : Nat) : State := s.host! (fun h => { h with reads := h.reads.filter (fun r => r.tag != t) })

/-- A completion with Tag field `tf`: tag in [11:0], generation in [13:12] (R402). -/
def State.readCpl (s : State) (tf status : Nat) (poison : Bool) (data : List Byte) : State :=
  let t := tf % 4096
  let g := tf / 4096 % 4
  let cur := Sp.get 0 s.host.gens t
  match s.host.reads.find? (fun r => r.tag = t) with
  | some r =>
    if g != cur % 4 then s.count R.CNT_HST 0 0 1 else
    let bad := status != 0 || poison
    let s := if bad then s.count R.CNT_HST 0 3 1 else s
    let k := if status = 0 then (s, data ++ List.replicate (r.len - data.length) 0) else s.failedBytes r.len
    ((k.1.dropRead t).readEnd r (k.2.take r.len) bad false).copyReadsAll
  | none =>
    let s := s.count R.CNT_HST 0 0 1
    if t ∈ s.host.quarantine && g = (cur + 3) % 4 then
      (s.host! (fun h => { h with quarantine := h.quarantine.filter (· != t) })).copyReadsAll
    else s

/-- Retire a tag's generation and quarantine it (R401). -/
def State.retireTag (s : State) (t : Nat) : State :=
  (s.dropRead t).host! (fun h => { h with
    gens := Sp.set 0 h.gens t ((Sp.get 0 h.gens t + 1) % 16), quarantine := h.quarantine ++ [t] })

/-- Partition and requester that a read serves, for its report. -/
def State.readOwner (s : State) (u : HUse) : Nat × Req :=
  let ofJob (id : Nat) : Nat × Req := match s.copyJob id with
    | some j => (match j.prog with
      | some (p, _) => (p, s.progReq p .hst 0)
      | none => (s.fnPartOr0 j.fn, s.hostReq j.fn .command .hst false))
    | none => (0, s.hostReq 0 .command .hst false)
  match u with
  | .piece id _ | .flush id => ofJob id
  | .sq q => (s.fnPartOr0 (qFn (s.que q)), s.hostReq (qFn (s.que q)) .command .que false)
  | .fw _ => (0, { kind := .mgmt, blk := Blk.sec.byte })

/-- A host read's completion timeout expires (R401). -/
def State.readTimeout (s : State) (t : Nat) : State :=
  match s.host.reads.find? (fun r => r.tag = t) with
  | none => s
  | some r =>
    let o := s.readOwner r.use
    let s := (s.count R.CNT_HST 0 1 1).raise E.HOST_CPL_TIMEOUT o.1 (bits (hostBase + r.addr) 47 0) o.2.word
    let k := (s.retireTag t).failedBytes r.len
    (k.1.readEnd r k.2 true true).copyReadsAll

/-! ## The end of a copy -/

/-- COPY_DONE of copy `id`: every piece accepted, or the flush returned. -/
def State.copyDone (s : State) (id : Nat) : State :=
  match s.copyJob id with
  | none => s
  | some j =>
    if !j.running || j.next < j.len || s.host.reads.any (fun r => match r.use with
        | .piece k _ | .flush k => k = id
        | _ => false) || (!j.inn && !j.flushed) then s
    else
      let s := s.host! (fun h => { h with copies := h.copies.filter (fun x => x.id != id) })
      let s := match j.prog with
        | some (p, c) => (match (s.part p).outstanding.find? (fun x => x.id = c) with
          | some x => s.cmdDone x
          | none => s)
        | none => (match s.host.cmds.find? (fun c => some c.id = j.cmd) with
          | some c => s.hostDone c (if j.timedOut then 4 else if j.poisoned then 5 else 0) j.len
              (if j.timedOut || j.poisoned then j.failAt else 0)
          | none => s)
      State.dealCopies 9 s j.inn

/-- Ask again for a flush that found no tag. -/
def State.flushAgain (s : State) (id : Nat) : State :=
  match s.copyJob id with
  | some j =>
    if j.running && !j.inn && !j.flushed && !s.host.reads.any (fun r => r.use = .flush id) then
      (s.hostRead (.flush id) (j.host + j.len - 64) 0).getD s
    else s
  | none => s

/-! ## Host commands (Table 13-8) -/

/-- The command in flight with number `id` and opcode `op`. -/
def State.hcmd (s : State) (id op : Nat) : Option HCmd := s.host.cmds.find? (fun c => c.id = id && hcOp c = op)

/-- Checks of an address a command names (R408): memory of the function, never registers or the host range. -/
def State.cmdCheck (s : State) (f a n : Nat) (write : Bool) : AccRes :=
  let rq := s.hostReq f .command .hst write
  match s.check rq a n with
  | .ok => (match s.regionOf a with
    | .hbm _ | .bulk _ => .ok
    | .scratch k => if f = 0 || s.partOfCluster (k / 16) = s.partOfFn f then .ok else .refused
    | .stride => if f = 0 then .ok else .refused
    | _ => .refused)
  | r => r

/-- A command whose address fails a check completes with status 0x03 or 0x02 (Table 16-2). -/
def State.cmdBadAddr (s : State) (c : HCmd) (r : AccRes) (a : Nat) : State :=
  let rq := s.hostReq c.fn .command .hst false
  match r with
  | .unmapped => (s.unmappedErr rq a).hostDone c 3 0 0
  | _ => (s.refusedErr rq a).hostDone c 2 0 0

/-- NOP. -/
def State.cmdNop (s : State) (id : Nat) : State :=
  match s.hcmd id 0 with
  | some c => s.hostDone c 0 0 0
  | none => s

/-- INLINE_WRITE. -/
def State.cmdInline (s : State) (id : Nat) : State :=
  match s.hcmd id 1 with
  | none => s
  | some c =>
    match s.cmdCheck c.fn (hcA0 c) (hcLen c) true with
    | .ok => ((s.snoop (hcA0 c)).writeTo (hcA0 c) (sliceB c.bytes 0x10 (hcLen c)) false).hostDone c 0 (hcLen c) 0
    | r => s.cmdBadAddr c r (hcA0 c)

/-- The function may copy: a VF needs a valid host key (R456). -/
def State.mayCopy (s : State) (f : Nat) : Bool := f = 0 || (Sp.find f s.host.hostKey).isSome

/-- COPY_IN and COPY_OUT. -/
def State.cmdCopy (s : State) (id : Nat) (inn : Bool) : State :=
  match s.hcmd id (if inn then 2 else 3) with
  | none => s
  | some c =>
    if s.host.copies.any (fun j => j.cmd = some id) then s
    else if !s.mayCopy c.fn then s.hostDone c 2 0 0
    else match s.cmdCheck c.fn (hcA0 c) (hcLen c) inn with
      | .ok => if hcLen c = 0 then s.hostDone c 0 0 0 else s.copyStart inn none (some id) c.fn (hcA0 c) (hcA1 c % 2 ^ 46) (hcLen c)
      | r => s.cmdBadAddr c r (hcA0 c)

/-- Base and size of an intake segment. -/
def State.segBase (s : State) (p k : Nat) : Nat :=
  let v := s.rd R.HST_INTAKE_RING p 0
  bits v 47 20 * 2 ^ 20 + k * (bits v 59 48 * 2 ^ 20)
def State.segSize (s : State) (p : Nat) : Nat := s.rdF R.HST_INTAKE_RING F.HST_INTAKE_RING_SEG_MIB p 0 * 2 ^ 20
def State.segOfLap (s : State) (p n : Nat) : Nat := n % (s.rdF R.HST_INTAKE_RING F.HST_INTAKE_RING_SEGMENTS_M1 p 0 + 1)

/-- INTAKE_COMMIT (R416, R417). -/
def State.cmdCommit (s : State) (id : Nat) : State :=
  match s.hcmd id 5 with
  | none => s
  | some c =>
    let p := s.fnPartOr0 c.fn
    if (s.part p).closing.any (fun x => x.1 = id) then s else
    let n := hcArg c % 2 ^ 32
    let k := s.segOfLap p n
    let base := s.segBase p k
    if s.segSize p = 0 || s.segState p k != 0 || Sp.find k (s.part p).segLap != some n || (s.part p).closing.isSome
      || s.rdF R.HST_INTAKE_STATUS F.HST_INTAKE_STATUS_NEXT_COMMIT p 0 != n || decide (s.segSize p < hcLen c) then
      s.hostDone c 6 0 0
    else
      let s := s.senseRaw base (hcLen c) p (s.hostReq c.fn .command .hst false).word
      if s.poisoned base (hcLen c) then s.hostDone c 5 0 0
      else s.updPart p (fun x => { x with closing := some (id, n, k, sha256 (s.load base (hcLen c))) })

/-- Program INTAKE commands of a partition that wait for lap `n` complete, and the segment is in use (R416). -/
def State.intakeServe (s : State) (p : Nat) : State :=
  let n := s.lap p
  let k := s.segOfLap p n
  let ready := (s.segState p k = 1 || s.segState p k = 2) && Sp.find k (s.part p).segLap = some n
  let wait := (s.part p).outstanding.filter (fun c => c.target = 6 && c.opcode = 4 && c.started)
  if !ready || wait = [] then s else wait.foldl (fun s c => s.cmdDone c) (s.setSegState p k 2)

/-- INTAKE_DIGEST_CLOSE of partition `p` (R417). -/
def State.intakeClose (s : State) (p : Nat) : State :=
  match (s.part p).closing with
  | none => s
  | some (id, n, k, d) =>
    let s := s.updPart p (fun x => { x with closing := none, segDigest := Sp.put k d x.segDigest })
    let s := (s.setSegState p k 1).wrF R.HST_INTAKE_STATUS F.HST_INTAKE_STATUS_NEXT_COMMIT p 0 (n + 1)
    let s := match s.host.cmds.find? (fun c => c.id = id) with
      | some c => s.hostDone c 0 (hcLen c) 0
      | none => s
    s.intakeServe p

/-- BIAS_SET (R400). -/
def State.cmdBias (s : State) (id : Nat) : State :=
  match s.hcmd id 6 with
  | none => s
  | some c =>
    let a := hcA0 c
    let n := hcLen c * 65536
    let tier := match s.regionOf a with
      | .hbm _ | .bulk _ => true
      | _ => false
    if !s.rangeMapped a n then s.cmdBadAddr c .unmapped a
    else if !tier || (s.attrOn && !(if c.fn = 0 then bit (s.attrOf a) 63 else s.pagesOk c.fn (s.fnPartOr0 c.fn) a n)) then
      s.hostDone c 2 0 0
    else
      let base := setBits (s.rd R.HST_BIAS_TABLE 0 0) 11 0 0
      let x0 := if a < bulkBase then a / 2 ^ 16 else 9437184 + (a - bulkBase) / 2 ^ 16
      let s := (List.range (hcLen c)).foldl (fun s i =>
        let x := x0 + i
        s.saveN (base + x / 4) 1 (setBits (s.raw (base + x / 4)).toNat (2 * (x % 4) + 1) (2 * (x % 4)) (hcArg c % 4))) s
      s.hostDone c 0 0 0

/-- QUEUE_CREATE (R404, R408, R452). -/
def State.cmdQueCreate (s : State) (id : Nat) : State :=
  match s.hcmd id 7 with
  | none => s
  | some c =>
    let j := hcArg c % 65536
    let q := s.fnFirst c.fn + j
    if c.fn != 0 && j < 2 then s.hostDone c 2 0 0
    else if s.fnCount c.fn ≤ j then s.hostDone c 8 0 0
    else match s.cmdCheck c.fn (hcA0 c) 64 false with
      | .ok =>
        let s := s.sense (hcA0 c) 64 (s.fnPartOr0 c.fn) (s.hostReq c.fn .command .hst false).word
        if s.poisoned (hcA0 c) 64 then s.hostDone c 5 0 0 else
        let x := s.load (hcA0 c) 64
        if qEnable (s.que q) then s.hostDone c 6 0 0
        else if qFn x != c.fn || !s.queOk q x then s.hostDone c 8 0 0
        else ((s.save (s.queAddr q) x).queEnable q).hostDone c 0 0 0
      | r => s.cmdBadAddr c r (hcA0 c)

/-- Disable a queue once its started commands complete, for a command (0 for none). -/
def State.queStop (s : State) (q id : Nat) : State :=
  let s := s.host! (fun h => { h with stopping := h.stopping ++ [(q, id)] })
  State.settleStops (s.host.stopping.length + 1) s

/-- QUEUE_DESTROY. -/
def State.cmdQueDestroy (s : State) (id : Nat) : State :=
  match s.hcmd id 8 with
  | none => s
  | some c =>
    let j := hcArg c % 65536
    let q := s.fnFirst c.fn + j
    if s.host.stopping.any (fun e => e.2 = id) then s
    else if c.fn != 0 && j < 2 then s.hostDone c 2 0 0
    else if s.fnCount c.fn ≤ j then s.hostDone c 8 0 0
    else if !qEnable (s.que q) then s.hostDone c 6 0 0
    else s.queStop q id

/-- A command may act on backfill context `x` of cluster `cl` (R408). -/
def State.mayBackfill (s : State) (f cl x : Nat) : Bool :=
  match s.partOfCluster cl with
  | some p => f = 0 || s.bfFn p x = f
  | none => false

/-- BACKFILL (R408). -/
def State.cmdBackfill (s : State) (id : Nat) : State :=
  match s.hcmd id 9 with
  | none => s
  | some c =>
    let cl := hcA0 c % 64
    let x := hcA0 c / 256 % 4
    if !s.mayBackfill c.fn cl x then s.hostDone c 2 0 0
    else if s.bfTaskBad cl x (hcArg c) then (s.bfTaskWrite cl x (hcArg c)).hostDone c 9 0 0
    else (s.bfTaskWrite cl x (hcArg c)).hostDone c 0 0 0

/-- Status of a BACKFILL_LOAD from its load's ERROR (R409). -/
def bfLoadStatus (err : Nat) (poison : Bool) : Nat :=
  if err = 3 then (if poison then 5 else 2) else if err = 2 then 6 else err

/-- The load of context `x` of cluster `cl` has ended: its command completes. -/
def State.bfLoadReport (s : State) (cl x : Nat) (poison : Bool) : State :=
  match (s.hub cl).loadCmd.find? (fun e => e.1 = x) with
  | none => s
  | some (_, id) =>
    let s := s.updHub cl (fun h => { h with loadCmd := h.loadCmd.filter (fun e => e.1 != x) })
    match s.host.cmds.find? (fun c => c.id = id) with
    | some c => s.hostDone c (bfLoadStatus (s.rdF R.CLU_BF_STATUS F.CLU_BF_STATUS_ERROR cl x) poison) 0 0
    | none => s

/-- BACKFILL_LOAD (R409): it waits where a load already runs in its context. -/
def State.cmdBfLoad (s : State) (id : Nat) : State :=
  match s.hcmd id 0x0A with
  | none => s
  | some c =>
    let cl := hcA1 c % 64
    let x := hcA1 c / 256 % 4
    let n := F.CLU_BF_LOAD_CTRL_COUNT.get (hcArg c)
    if (s.hub cl).loadCmd.any (fun e => e.2 = id) || s.rdF R.CLU_BF_STATUS F.CLU_BF_STATUS_BUSY cl x = 1 then s
    else if !s.mayBackfill c.fn cl x then s.hostDone c 2 0 0
    else match s.cmdCheck c.fn (hcA0 c) (32 * n) false with
      | .ok =>
        let s := (s.wr R.CLU_BF_LOAD_SRC cl x (hcA0 c)).updHub cl (fun h => { h with loadCmd := h.loadCmd ++ [(x, id)] })
        let s := s.bfLoadGo cl x (hcArg c)
        if s.rdF R.CLU_BF_STATUS F.CLU_BF_STATUS_BUSY cl x = 1 then s else s.bfLoadReport cl x false
      | r => s.cmdBadAddr c r (hcA0 c)

/-- BF_LOAD_END: the load ends, and a command that waits for it completes (R163, R409). -/
def State.bfLoadFinish (s : State) (cl x : Nat) : State :=
  match Sp.find x (s.hub cl).load with
  | none => s
  | some (src, _, _, n) =>
    let s := s.bfLoadEnd cl x
    s.bfLoadReport cl x (s.poisoned src (32 * n))

/-! ## The program's HOST target (R413, R414, R416) -/

/-- A command is refused: reserved opcode, unused fields, or a QUEUE that is no enabled CQ of the tenant (R413). -/
def State.hostBad (s : State) (c : EngCmd) (b : Binding) : Bool :=
  let x := s.que b.queue
  c.opcode = 0 || 4 < c.opcode || qKind x != 2 || !qEnable x || qFn x != b.tenant
    || (c.opcode = 1 && c.desc != 0) || ((c.opcode = 2 || c.opcode = 3) && (c.count != 0 || c.offset != 0))
    || (c.opcode = 4 && (c.desc != 0 || c.count != 0 || c.offset != 0))

/-- A PROGRAM completion of a POST, held until the completion boundary (R414, Table 13-9). -/
def State.postHeld (s : State) (c : EngCmd) : State :=
  let b := s.bindingOf c
  let p := c.part
  let e := leBytes 1 2 ++ leBytes 5 0 ++ leBytes 1 (s.leg p) ++ leBytes 1 0 ++ leBytes 8 (atBits 31 0 c.offset + atBits 47 32 c.count)
    ++ leBytes 4 (s.lap p) ++ leBytes 4 0 ++ leBytes 8 (s.ftime % 2 ^ 64)
  (s.updPart p (fun x => { x with held := x.held ++ [{ fn := b.tenant, queue := b.queue, bytes := e }] })).cmdDone c

/-- A copy descriptor is well formed (R414). -/
def State.copyDesc (s : State) (b : List Byte) : Bool :=
  let dev := fieldAt b 0 8
  let n := fieldAt b 0x10 8
  let tier := match s.regionOf dev with
    | .hbm _ | .bulk _ => true
    | _ => false
  tier && dev % 64 = 0 && fieldAt b 8 8 % 64 = 0 && n % 64 = 0 && decide (64 ≤ n ∧ n ≤ 2 ^ 40) && (b.drop 0x18).all (· = 0)

/-- The HOST engine takes the next command of binding `b`, where its opcode is `op` or is refused. -/
def State.hostCmd (s : State) (p b op : Nat) : State :=
  match s.engNext p b with
  | none => s
  | some c =>
    let bd := s.bindingOf c
    if c.target != 6 then s
    else if s.hostBad c bd then (s.engStart c).raise E.HOST_COMMAND p c.pos 0
    else if c.opcode != op then s
    else
      let s := s.engStart c
      if op = 1 then (if s.shareFull bd.tenant then s else s.postHeld c)
      else if op = 4 then s.intakeServe p
      else
        let a := bd.base + 64 * c.desc
        match s.fetchDesc c bd .hst with
        | (s, none) => s
        | (s, some d) =>
          if s.poisoned a 64 || !s.copyDesc d then s.raise E.HOST_COMMAND p c.pos (bits a 47 0)
          else if !s.mayCopy bd.tenant then s.raise E.HOST_KEY_MISSING p bd.tenant 0
          else
            let dev := fieldAt d 0 8
            let n := fieldAt d 0x10 8
            let rq := { s.progReq p .hst 0 with write := op = 3 }
            match s.check rq dev n with
            | .unmapped => s.unmappedErr rq dev
            | .refused => s.refusedErr rq dev
            | .ok => s.copyStart (op = 3) (some (p, c.id)) none bd.tenant dev (fieldAt d 8 8) n

/-- POST_STORE_RESERVED: a started POST finds an entry (R414). -/
def State.postReserve (s : State) (p id : Nat) : State :=
  match (s.part p).outstanding.find? (fun c => c.id = id && c.started && c.target = 6 && c.opcode = 1) with
  | some c => if s.shareFull (s.bindingOf c).tenant then s else s.postHeld c
  | none => s

/-! ## Loss and return of the host (R418 to R421) -/

def State.hostLostBit (s : State) : Bool := s.rdF R.GLB_STATE F.GLB_STATE_HOST_LOST 0 0 = 1

/-- Announced far rows that are still not staged (R242). -/
def State.farWaits (s : State) (p : Nat) : Bool :=
  (s.part p).farAnn.any (fun e => !(s.part p).farIdx.any (fun f => f.2.1 = e.2))

/-- The partition waits at a pace point on a host-dependent operation (R420). -/
def State.hostWait (s : State) (p : Nat) : Bool :=
  match (s.part p).pace with
  | none => false
  | some w => (s.part p).outstanding.any (fun c => bit w.mask c.token && c.target = 6) || s.farWaits p

/-- Host loss (R419). A loss while host traffic is already stopped finds nothing more to do. -/
def State.hostLoss (s : State) : State :=
  if !s.attached then s else
  let s := (s.wrF R.GLB_STATE F.GLB_STATE_HOST_LOST 0 0 1).count R.CNT_HST 0 12 1
  let s := s.enabledParts.foldl (fun s p =>
    if s.isRunning p then s.updPart p (fun x => { x with hostLostReq := true })
    else if s.pState p = stHeld then s.setPState p stDetached else s) s
  let s := s.event E.HOST_LOST 0 0 0
  let s := s.wrF R.HST_ATTACH F.HST_ATTACH_ATTACHED 0 0 0
  let s := s.host.enabledQ.foldl (fun s q => if qInHbm (s.que q) || qKind (s.que q) = 4 then s else s.queOff q) s
  let s := s.host.reads.foldl (fun s r => (s.count R.CNT_HST 0 1 1).retireTag r.tag) s
  let s := s.count R.CNT_HST 0 8 s.host.cmds.length
  let s := s.host! (fun h => { h with
    cmds := [], copies := h.copies.filter (fun j => j.prog.isSome), fetched := [], stopping := [] })
  s.syncChip

/-- Only the host interface is reset (R418). -/
def State.hostIfReset (s : State) : State :=
  let s := s.host! (fun h => { h with
    vfEnable := false, barSize := [], busMaster := [], ats := false, atc := [], mps := 128, mrrs := 512, cplRange := 0, msix := [] })
  s

/-- The link leaves L0. -/
def State.linkOut (s : State) (st : Nat) : State :=
  (s.wrFs R.HST_LINK_STATUS 0 0 [(F.HST_LINK_STATUS_UP, 0), (F.HST_LINK_STATUS_SPEED, 0), (F.HST_LINK_STATUS_WIDTH, 0)]).host!
    (fun h => { h with link := st })

/-- A write of ATTACH = 1 (R421). -/
def State.attach (s : State) : State :=
  let set (s : State) (e : Nat) : State := s.wrF R.HST_ATTACH F.HST_ATTACH_ERROR 0 0 e
  if s.rdF R.HST_LINK_STATUS F.HST_LINK_STATUS_UP 0 0 = 0 then set s 1
  else if !(0 ∈ s.host.busMaster) then set s 2
  else if !s.hostLostBit then set s 3
  else (set s 0).wrF R.HST_ATTACH F.HST_ATTACH_ATTACHED 0 0 1

/-- A write of QUE_ENABLE (R404, R452). -/
def State.writeQueEnable (s : State) (v : Nat) : State :=
  let q := v % 65536
  if bits v 17 16 = 1 then (if s.queOk q (s.que q) then s.queEnable q else s.regErr)
  else if bits v 17 16 = 2 then (if qEnable (s.que q) then s.queStop q 0 else s)
  else s

/-- A write to PCIe configuration space (R394): `reg` is 0 VF Enable, 1 a window BAR's size in log2 bytes, 2 Bus Master
Enable, 3 ATS Enable, 4 max payload size, 5 max read request size, 6 completion timeout range, 7 an MSI-X vector as
vector x 2^96 + address and data. -/
def State.configWrite (s : State) (f reg v : Nat) : State :=
  match reg with
  | 0 => if f = 0 && s.chip.everReady then s.host! (fun h => { h with vfEnable := v % 2 = 1 }) else s
  | 1 =>
    let ok := if f = 0 then decide (30 ≤ v ∧ v ≤ 40) else decide (30 ≤ v ∧ v ≤ 36)
    if ok && s.chip.everReady then
      s.host! (fun h => { h with barSize := Sp.put (if f = 0 then 0 else 1) v h.barSize })
    else s
  | 2 => s.host! (fun h => { h with
      busMaster := if v % 2 = 1 then (if f ∈ h.busMaster then h.busMaster else h.busMaster ++ [f]) else h.busMaster.filter (· != f) })
  | 3 => s.host! (fun h => { h with ats := v % 2 = 1, atc := if v % 2 = 1 then h.atc else [] })
  | 4 => if v ∈ [128, 256, 512] then s.host! (fun h => { h with mps := v }) else s
  | 5 => if v ∈ [128, 256, 512, 1024, 2048, 4096] then s.host! (fun h => { h with mrrs := v }) else s
  | 6 => if v < 4 then s.host! (fun h => { h with cplRange := v }) else s
  | 7 =>
    let n := v / 2 ^ 96
    if n < (if f = 0 then 2048 else 32) then s.host! (fun h => { h with msix := Sp.set 0 h.msix (2048 * f + n) (v % 2 ^ 96) }) else s
  | _ => s

/-! ## Commands: link and windows -/

/-- PERST_DEASSERT: the link trains in FLIT mode (R391). -/
def execPerstDeassert (s : State) : Host.Outcome State Fault Refusal :=
  .next (if s.host.link = 0 then s.host! (fun h => { h with link := 1 }) else s)

/-- HOST_LINK_UP: training ends; `flit` says whether the partner offers FLIT mode (R391, Table 13-1). -/
def execHostLinkUp (flit : Bool) (speed width : Nat) (s : State) : Host.Outcome State Fault Refusal :=
  .next (
    if s.host.link != 1 then s
    else if !flit then s.wrF R.HST_LINK_STATUS F.HST_LINK_STATUS_NO_FLIT 0 0 1
    else if !(speed ∈ [4, 5, 6]) || !(width ∈ [4, 8, 16]) then s
    else (s.wrFs R.HST_LINK_STATUS 0 0 [(F.HST_LINK_STATUS_NO_FLIT, 0), (F.HST_LINK_STATUS_UP, 1),
      (F.HST_LINK_STATUS_SPEED, speed), (F.HST_LINK_STATUS_WIDTH, width)]).host! (fun h => { h with link := 2 }))

/-- CONFIG_SPACE_WRITE (R394). -/
def execConfigSpaceWrite (fn reg value : Nat) (s : State) : Host.Outcome State Fault Refusal := .next (s.configWrite fn reg value)

/-- WINDOW_WRITE at BAR offset `offset` (R396, R397). -/
def execWindowWrite (fn offset : Nat) (data : List Byte) (poison : Bool) (s : State) : Host.Outcome State Fault Refusal :=
  .next (if s.winOpen fn && offset < 2 ^ s.winLog2 fn then
    let m := s.winMap fn offset
    s.winWrite fn m.2 m.1 data poison
  else s)

/-- WINDOW_READ (R396). -/
def execWindowRead (fn offset len : Nat) (errs : List (Nat × Nat)) (s : State) : Host.Outcome State Fault Refusal :=
  .next (if s.winOpen fn && offset < 2 ^ s.winLog2 fn then
    let m := s.winMap fn offset
    (s.plant errs).winRead fn m.2 len m.1
  else s)

/-- HDM_ACCESS: a host access through a CXL HDM decoder of PF0 at device address `addr` (R392, R396). -/
def execHdmAccess (write : Bool) (addr len : Nat) (data : List Byte) (poison : Bool) (errs : List (Nat × Nat)) (s : State) :
    Host.Outcome State Fault Refusal :=
  .next (if s.winOpen 0 then (if write then s.winWrite 0 addr true data poison else (s.plant errs).winRead 0 addr len true) else s)

/-! ## Commands: host reads -/

/-- HOST_READ_COMPLETION: Tag field, status, poison and data as they arrive (R402). -/
def execHostReadCompletion (tag status : Nat) (poison : Bool) (data : List Byte) (s : State) : Host.Outcome State Fault Refusal :=
  .next (s.readCpl tag status poison data)

/-- HOST_READ_TIMEOUT (R401). -/
def execHostReadTimeout (tag : Nat) (s : State) : Host.Outcome State Fault Refusal := .next (s.readTimeout tag)

/-- TAG_QUARANTINE_EXPIRY (R401). -/
def execTagQuarantineExpiry (tag : Nat) (s : State) : Host.Outcome State Fault Refusal :=
  .next (if tag ∈ s.host.quarantine then
    ((s.host! (fun h => { h with quarantine := h.quarantine.filter (· != tag) })).count R.CNT_HST 0 2 1).copyReadsAll
  else s)

/-- ATS_INVALIDATION of `len` bytes at host address `addr`: it completes once no request uses the entries (R403). -/
def execAtsInvalidation (addr len : Nat) (s : State) : Host.Outcome State Fault Refusal :=
  .next (
    let hit (a n : Nat) : Bool := decide (a < addr + len ∧ addr < a + max 1 n)
    if s.host.reads.any (fun r => hit r.addr r.len) then s
    else (s.host! (fun h => { h with atc := h.atc.filter (fun g => !hit (4096 * g) 4096) })).emit (.bus "ATS_INVALIDATE_DONE" addr len))

/-! ## Commands: queues and host commands -/

/-- COMMAND_FETCH: the arbiters choose queue `queue` (R406). -/
def execCommandFetch (queue : Nat) (errs : List (Nat × Nat)) (s : State) : Host.Outcome State Fault Refusal :=
  .next ((s.plant errs).cmdFetch queue)
/-- CMD_NOP: the command in flight `id`. -/
def execCmdNop (id : Nat) (s : State) : Host.Outcome State Fault Refusal := .next (s.cmdNop id)
/-- INLINE_WRITE. -/
def execInlineWrite (id : Nat) (s : State) : Host.Outcome State Fault Refusal := .next (s.cmdInline id)
/-- COPY_IN (R415). -/
def execCopyIn (id : Nat) (s : State) : Host.Outcome State Fault Refusal := .next (s.cmdCopy id true)
/-- COPY_OUT (R415); `errs` are the errors its reads meet. -/
def execCopyOut (id : Nat) (errs : List (Nat × Nat)) (s : State) : Host.Outcome State Fault Refusal :=
  .next ((s.plant errs).cmdCopy id false)
/-- COPY_DONE of copy `job` (R415). -/
def execCopyDone (job : Nat) (s : State) : Host.Outcome State Fault Refusal := .next ((s.flushAgain job).copyDone job)
/-- INTAKE_COMMIT (R416). -/
def execIntakeCommit (id : Nat) (errs : List (Nat × Nat)) (s : State) : Host.Outcome State Fault Refusal :=
  .next ((s.plant errs).cmdCommit id)
/-- INTAKE_DIGEST_CLOSE (R417). -/
def execIntakeDigestClose (part : Nat) (s : State) : Host.Outcome State Fault Refusal := .next (s.intakeClose part)
/-- BIAS_SET (R400). -/
def execBiasSet (id : Nat) (s : State) : Host.Outcome State Fault Refusal := .next (s.cmdBias id)
/-- QUEUE_CREATE (R404). -/
def execQueueCreate (id : Nat) (errs : List (Nat × Nat)) (s : State) : Host.Outcome State Fault Refusal :=
  .next ((s.plant errs).cmdQueCreate id)
/-- QUEUE_DESTROY (R404). -/
def execQueueDestroy (id : Nat) (s : State) : Host.Outcome State Fault Refusal := .next (s.cmdQueDestroy id)
/-- BACKFILL (R408). -/
def execBackfill (id : Nat) (s : State) : Host.Outcome State Fault Refusal := .next (s.cmdBackfill id)
/-- BACKFILL_LOAD (R409). -/
def execBackfillLoad (id : Nat) (s : State) : Host.Outcome State Fault Refusal := .next (s.cmdBfLoad id)
/-- BF_LOAD_END (R163, R409). -/
def execBfLoadEnd (cluster ctx : Nat) (errs : List (Nat × Nat)) (s : State) : Host.Outcome State Fault Refusal :=
  .next ((s.plant errs).bfLoadFinish cluster ctx)
/-- QUEUE_ENABLE: QUE_ENABLE with OP enable (R404, R452). -/
def execQueueEnable (queue : Nat) (s : State) : Host.Outcome State Fault Refusal :=
  .next (s.writeQueEnable (queue % 65536 + 1 * 65536))
/-- QUEUE_DISABLE: QUE_ENABLE with OP disable (R404). -/
def execQueueDisable (queue : Nat) (s : State) : Host.Outcome State Fault Refusal :=
  .next (s.writeQueEnable (queue % 65536 + 2 * 65536))

/-! ## Commands: the HOST target -/

/-- POST (R414). -/
def execPost (part binding : Nat) (s : State) : Host.Outcome State Fault Refusal := .next (s.hostCmd part binding 1)
/-- POST_STORE_RESERVED (R414). -/
def execPostStoreReserved (part id : Nat) (s : State) : Host.Outcome State Fault Refusal := .next (s.postReserve part id)
/-- HOST COPY_OUT (R414). -/
def execHostCopyOut (part binding : Nat) (errs : List (Nat × Nat)) (s : State) : Host.Outcome State Fault Refusal :=
  .next ((s.plant errs).hostCmd part binding 2)
/-- HOST COPY_IN (R414). -/
def execHostCopyIn (part binding : Nat) (errs : List (Nat × Nat)) (s : State) : Host.Outcome State Fault Refusal :=
  .next ((s.plant errs).hostCmd part binding 3)
/-- HOST INTAKE (R416). -/
def execIntake (part binding : Nat) (s : State) : Host.Outcome State Fault Refusal := .next (s.hostCmd part binding 4)

/-! ## Commands: loss and return of the host -/

/-- PERST_ASSERT (R418). -/
def execPerstAssert (s : State) : Host.Outcome State Fault Refusal := .next ((s.hostIfReset.linkOut 0).hostLoss)
/-- HOT_RESET (R418): the link trains again. -/
def execHotReset (s : State) : Host.Outcome State Fault Refusal := .next ((s.hostIfReset.linkOut 1).hostLoss)
/-- FLR_PF0 (R418): the link stays in L0. -/
def execFlrPf0 (s : State) : Host.Outcome State Fault Refusal := .next (s.hostIfReset.hostLoss)
/-- FLR_VF: the function's held entries are discarded (R412, R421). -/
def execFlrVf (fn : Nat) (s : State) : Host.Outcome State Fault Refusal :=
  .next (if fn = 0 then s else
    { s with store := s.store.filter (fun e => e.fn != fn) }.host! (fun h => { h with busMaster := h.busMaster.filter (· != fn) }))
/-- LINK_LOSS_TIMEOUT: the link has stayed out of L0 for LINK_LOSS_MS (R418). -/
def execLinkLossTimeout (s : State) : Host.Outcome State Fault Refusal :=
  .next ((s.linkOut (min 1 s.host.link)).hostLoss)
/-- HEARTBEAT_TIMEOUT (R418). -/
def execHeartbeatTimeout (s : State) : Host.Outcome State Fault Refusal :=
  .next (if s.rdF R.HST_HOST_WATCH F.HST_HOST_WATCH_HEARTBEAT_MS 0 0 = 0 then s else s.hostLoss)
/-- A write of BEAT. -/
def State.beat (s : State) (v : Nat) : State := if v % 2 = 1 then s.host! (fun h => { h with lastBeat := s.ftime }) else s
/-- HEARTBEAT_WRITE (R418). -/
def execHeartbeatWrite (value : Nat) (s : State) : Host.Outcome State Fault Refusal := .next (s.beat value)
/-- ATTACH (R421). -/
def execAttach (s : State) : Host.Outcome State Fault Refusal := .next s.attach

end Sys2Proof.Machine
end

