-- ==== Sys2Proof/Machine/Security.lean ====
section
/-! DEFINITION. Partitions, host keys, SPDM and firmware images (15_partitions_and_security.md R440 to R464). -/

namespace Sys2Proof.Machine

def State.sec! (s : State) (f : SecSt → SecSt) : State := { s with sec := f s.sec }

/-! ## Enabling and disabling partitions (R446 to R449) -/

/-- Functions of a configuration value, primary first; the unused backfill contexts left out. -/
def cfgFns (v : Nat) : List Nat := bits v 55 48 :: ([bits v 47 40, bits v 39 32, bits v 31 24].filter (· != 0))

/-- An enable of partition `p` with configuration `v` is accepted (R446). -/
def State.enableOk (s : State) (p v : Nat) : Bool :=
  let others := s.enabledParts.filter (· != p)
  let cl := s.rd R.GLB_PART_CLUSTERS 0 p
  let bk := s.rd R.GLB_PART_BANKS 0 p
  let sh := s.rd R.GLB_PART_SHARE 0 p
  let vf := bits v 23 18
  let vl := bits v 17 12
  let cfg (q : Nat) : Nat := s.rd R.GLB_PART_CONFIG 0 q
  let share (q : Nat) : Nat := s.rd R.GLB_PART_SHARE 0 q
  others.all (fun q => s.pState q = stReady || s.pState q = stFailed)
    && cl != 0 && cl &&& Config.fusedClusters = cl && others.all (fun q => cl &&& s.rd R.GLB_PART_CLUSTERS 0 q = 0)
    && bk != 0 && others.all (fun q => bk &&& s.rd R.GLB_PART_BANKS 0 q = 0)
    && decide (vf ≤ vl) && others.all (fun q => decide (bits (cfg q) 17 12 < vf ∨ vl < bits (cfg q) 23 18))
    && decide (bits sh 55 50 ≤ bits sh 49 44)
    && others.all (fun q => decide (bits (share q) 49 44 < bits sh 55 50 ∨ bits sh 49 44 < bits (share q) 55 50))
    && decide (bits sh 43 33 + (others.map (fun q => bits (share q) 43 33)).sum ≤ 1024)
    && others.all (fun q => bits sh 63 56 &&& bits (share q) 63 56 = 0)
    && decide ((cfgFns v).Nodup) && others.all (fun q => (cfgFns v).all (fun f => !(f ∈ cfgFns (cfg q))))
    && (s.attrOn || (p = 0 && others.all (· = 0)))

/-- Admissions of the functions of a configuration end with it (R524). -/
def State.pruneAdmitted (s : State) (fns : List Nat) : State :=
  s.sec! (fun x => { x with admitted := x.admitted.filter (fun e => !(e.1 ∈ fns)) })

/-- A request to enable a disabled partition. -/
def State.partEnable (s : State) (p v : Nat) : State :=
  if !s.enableOk p v then (s.regErr).event E.PART_CONFIG 0 p 0 else
  (s.wr R.GLB_PART_CONFIG 0 p (setBits (setBits (setBit v 63 true) 59 56 1) 62 60 0 / 2 ^ 12 * 2 ^ 12)).updPart p
    (fun x => { x with enabling := true })

/-- Cores, hubs and requests of a set of logical clusters lose all their contents (R447). -/
def State.wipeClusters (s : State) (cs : List Nat) : State :=
  { s with
    cores := s.cores.filter (fun e => !(e.1 / 16 ∈ cs))
    hubs := s.hubs.filter (fun e => !(e.1 ∈ cs))
    greqs := s.greqs.filter (fun g => !(g.core / 16 ∈ cs))
    mem := s.mem.filter (fun e => !(scratchBase ≤ e.1 && e.1 < scratchBase + 0x80000000 && decide ((e.1 - scratchBase) / 0x200000 / 16 ∈ cs)))
    gran := s.gran.filter (fun e => !(scratchBase ≤ 64 * e.1 && 64 * e.1 < scratchBase + 0x80000000
      && decide ((64 * e.1 - scratchBase) / 0x200000 / 16 ∈ cs))) }

/-- Draw new keys for a partition. -/
def State.newKeys (s : State) (p : Nat) : State :=
  let k := s.chip.nextKey
  { s.updPart p (fun x => { x with keyId := k }) with chip := { s.chip with nextKey := k + 1 } }

/-- Zero a partition's trigger counters. -/
def State.zeroTriggers (s : State) (p : Nat) : State :=
  let sh := s.rd R.GLB_PART_SHARE 0 p
  (List.range (64 * (bits sh 49 44 + 1 - bits sh 55 50))).foldl (fun s i => s.wr R.RLY_TRIGGER 0 (64 * bits sh 55 50 + i) 0) s

/-- PARTITION_ENABLE_DONE: cores zeroed, keys drawn, READY (R447); before the chip's own READY the state stays 0x1. -/
def State.partEnabled (s : State) (p : Nat) : State :=
  if !s.enabled p || !(s.part p).enabling then s else
  let s := s.wipeClusters (bitList (s.rd R.GLB_PART_CLUSTERS 0 p) 64)
  let s := (s.setPart p {}).zeroTriggers p
  if s.chipState ≤ stBringup then s.newKeys p else (s.newKeys p).setPState p stReady

/-- A request to disable an enabled partition (R448). -/
def State.partDisable (s : State) (p : Nat) : State :=
  let st := s.pState p
  let busy := s.host.enabledQ.any (fun q => qPart (s.que q) = p && qFn (s.que q) != 0)
  if (st != stReady && st != stFailed) || busy then s.regErr
  else
    let s := s.newKeys p
    let s := s.wrFs R.GLB_PART_CONFIG 0 p [(F.GLB_PART_CONFIG_ENABLE, 0), (F.GLB_PART_CONFIG_STATE, 0)]
    (s.pruneAdmitted (cfgFns (s.rd R.GLB_PART_CONFIG 0 p))).syncChip

/-- A write of GLB_PARTp_CONFIG (R446, R448, R449). -/
def State.writePartConfig (s : State) (p v : Nat) : State :=
  if bit v 63 = s.enabled p then s
  else if bit v 63 then s.partEnable p v else s.partDisable p

/-! ## Host keys (R456, R457) -/

/-- A session may change function `f`'s key. -/
def State.sessMay (s : State) (x : Sess) (f : Nat) : Bool :=
  x.up && s.sec.admitted.any (fun e => e.1 = f && e.2.2 = x.cert)
    && s.enabledParts.any (fun p => f ∈ cfgFns (s.rd R.GLB_PART_CONFIG 0 p))

/-- A key message of session `sid` with its payload; `op` is the OP its row stands for. -/
def State.hostKeyMsg (s : State) (sid op : Nat) (b : List Byte) : State :=
  match s.sec.sessions.find? (fun x => x.id = sid) with
  | none => s
  | some x =>
    let f := fieldAt b 1 1
    let say (s : State) (r : Nat) : State := s.emit (.spdm x.transport "VENDOR_DEFINED_RESPONSE" (leBytes 1 r))
    let key := sliceB b 8 64
    if b.length != 72 || fieldAt b 0 1 != op || fieldAt b 2 2 != 0 || (op = 2 && key.any (· != 0)) then say s 1
    else if !s.sessMay x f then say s 2
    else if op = 1 then
      say ((s.host! (fun h => { h with hostKey := Sp.put f key h.hostKey })).wr R.SEC_HOSTKEY 0 f
        (2 ^ 63 + fieldAt b 4 4)) 0
    else say ((s.host! (fun h => { h with hostKey := Sp.del f h.hostKey })).wr R.SEC_HOSTKEY 0 f 0) 0

/-! ## Firmware images (R459, R461, Tables 15-6, 15-9, 15-10) -/

def FwSlot.bytes (x : FwSlot) : List Byte := if x.shipped then Config.shippedImage else x.img.getD []
def FwSlot.present (x : FwSlot) : Bool := x.shipped || x.img.isSome

def fwLen (b : List Byte) : Nat := fieldAt b 4 4
def fwSvn (b : List Byte) : Nat := fieldAt b 8 4
def fwHeader (b : List Byte) : List Byte := b.take 256
def fwBody (b : List Byte) : List Byte := sliceB b 4096 (fwLen b)

/-- SHA-384 of header and body. -/
def fwDigest (b : List Byte) : List Byte := sha384 (fwHeader b ++ fwBody b)

/-- An image passes the checks of R459. -/
def fwOk (svn : Nat) (b : List Byte) : Bool :=
  let h := fwHeader b
  let signed := h.take 0x70 ++ List.replicate 96 0 ++ h.drop 0xD0 ++ fwBody b
  fieldAt b 0 4 = 0x4D495958 && decide (fwLen b ≤ 2 ^ 24 - 8192) && decide (fieldAt b 0x0C 4 ≤ fwLen b)
    && sha384 (sliceB b 0x10 96) = Config.keyHash
    && ecdsaOk (beNat (sliceB b 0x10 48)) (beNat (sliceB b 0x40 48)) (beNat (sliceB b 0x70 48)) (beNat (sliceB b 0xA0 48))
      (beNat (sha384 signed))
    && decide (svn ≤ fwSvn b)

/-- A slot boots: the shipped image passes its checks (log 47), another must. -/
def State.slotOk (s : State) (x : FwSlot) : Bool :=
  x.shipped || (match x.img with
    | some b => fwOk s.sec.svn b
    | none => false)

def State.fwSlot (s : State) (k : Nat) : FwSlot := if k = 0 then s.sec.slotA else s.sec.slotB
def State.setFwSlot (s : State) (k : Nat) (x : FwSlot) : State :=
  s.sec! (fun y => if k = 0 then { y with slotA := x } else { y with slotB := x })

/-- The record in force: the valid copy with the higher COUNTER (R461). -/
def State.fwRec (s : State) : Option FwRec :=
  match s.sec.recA, s.sec.recB with
  | some a, some b => if b.counter < a.counter then some a else some b
  | some a, none => some a
  | none, r => r

/-- Write a new record over the copy that is not in force (R461). -/
def State.putRec (s : State) (r : FwRec) : State :=
  let old := (s.fwRec.map (·.counter)).getD 0
  let r := { r with counter := old + 1 }
  let toB := match s.sec.recA with
    | some a => decide (a.counter = old)
    | none => false
  s.sec! (fun x => if toB then { x with recB := some r } else { x with recA := some r })

/-- A record's 128 bytes (Table 15-10). -/
def FwRec.bytes (r : FwRec) : List Byte :=
  let b := leBytes 4 0x56544341 ++ leBytes 4 r.counter ++ leBytes 1 r.active ++ leBytes 1 (b2n r.trial) ++ leBytes 1 r.boots
    ++ leBytes 1 r.previous ++ leBytes 4 r.svn ++ (r.digest ++ List.replicate 48 0).take 48 ++ List.replicate 60 0
  b ++ leBytes 4 (crc32c b)

def State.setFw (s : State) (f : Fld) (x : Nat) : State := s.wrF R.SEC_FW_STATUS f 0 0 x
def State.fwRunning (s : State) : Nat := s.rdF R.SEC_FW_STATUS F.SEC_FW_STATUS_ACTIVE 0 0

/-- SEC_FW_STATUS from the record in force and the verify marks. -/
def State.syncFw (s : State) : State :=
  let r := s.fwRec.getD { counter := 0, active := 0 }
  s.wrFs R.SEC_FW_STATUS 0 0 [(F.SEC_FW_STATUS_SVN_FUSED, s.sec.svn), (F.SEC_FW_STATUS_BOOTS, r.boots),
    (F.SEC_FW_STATUS_TRIAL, b2n (r.trial && r.active = s.fwRunning)),
    (F.SEC_FW_STATUS_A_VERIFIED, b2n s.sec.slotA.mark.isSome), (F.SEC_FW_STATUS_B_VERIFIED, b2n s.sec.slotB.mark.isSome)]

/-- Check a slot and write its verify mark (R462). -/
def State.fwVerify (s : State) (k : Nat) : State × Bool :=
  let x := s.fwSlot k
  if s.slotOk x then (s.setFwSlot k { x with mark := some (fwDigest x.bytes) }, true)
  else (s.count R.CNT_GLB 0 2 1, false)

/-- The ROM boots the management controller (R459, R463); an inactive slot that is complete but unmarked is verified
again (Table 15-11). -/
def State.boot (s : State) : State :=
  let s := s.wrFs R.SEC_FW_STATUS 0 0 [(F.SEC_FW_STATUS_RECOVERY, 0), (F.SEC_FW_STATUS_FALLBACK, 0), (F.SEC_FW_STATUS_ROLLED_BACK, 0)]
  let s := match s.fwRec with
    | some r =>
      if r.trial && r.boots < 3 then s.putRec { r with boots := r.boots + 1 }
      else if r.trial then
        ((s.putRec { r with active := r.previous, trial := false, boots := 0 }).count R.CNT_GLB 0 3 1).setFw F.SEC_FW_STATUS_ROLLED_BACK 1
      else s
    | none => s
  match s.fwRec with
  | none => (s.setFw F.SEC_FW_STATUS_RECOVERY 1).syncFw
  | some r =>
    let first := r.active % 2
    if s.slotOk (s.fwSlot first) then
      let s := (s.setFw F.SEC_FW_STATUS_ACTIVE first).syncFw
      let other := s.fwSlot (1 - first)
      if other.img.isSome && other.mark.isNone then
        let v := s.fwVerify (1 - first)
        (v.1.event E.FW_VERIFIED 0 (1 - first) (if v.2 then 0 else 2)).syncFw
      else s
    else
      let s := s.count R.CNT_GLB 0 2 1
      if s.slotOk (s.fwSlot (1 - first)) then
        ((s.setFw F.SEC_FW_STATUS_ACTIVE (1 - first)).setFw F.SEC_FW_STATUS_FALLBACK 1).syncFw
      else ((s.count R.CNT_GLB 0 2 1).setFw F.SEC_FW_STATUS_RECOVERY 1).syncFw

/-- The management firmware runs. -/
def State.fwUp (s : State) : Bool :=
  !s.chip.warming && s.chipState != stCold && s.rdF R.SEC_FW_STATUS F.SEC_FW_STATUS_RECOVERY 0 0 = 0

/-! ## Firmware operations (R462, R464) -/

def State.fwDone (s : State) (err : Nat) : State :=
  (s.wrFs R.SEC_FWUP_CTRL 0 0 [(F.SEC_FWUP_CTRL_ERROR, err), (F.SEC_FWUP_CTRL_DONE, 1), (F.SEC_FWUP_CTRL_BUSY, 0)]).syncFw

/-- The inactive slot. -/
def State.fwInactive (s : State) : Nat := 1 - ((s.fwRec.map (·.active)).getD 0) % 2

/-- The read of one 4 KiB page of the image (R462). -/
def State.fwRead (s : State) (page : Nat) : Option State :=
  s.hostRead (.fw page) (s.rdF R.SEC_FWUP_SRC F.SEC_FWUP_SRC_BASE 0 0 * 4096 - hostBase + 4096 * page) 4096

/-- Ask for pages of the image that have not come and are not asked for; `fuel` bounds them. -/
def State.fwReads : Nat → State → Nat → State
  | 0, s, _ => s
  | fuel + 1, s, page =>
    let pages := s.rdF R.SEC_FWUP_SRC F.SEC_FWUP_SRC_PAGES 0 0
    if pages ≤ page then s else
    if (Sp.find page s.host.fwPages).isSome || s.host.reads.any (fun r => r.use = .fw page) then State.fwReads fuel s (page + 1)
    else match s.fwRead page with
      | some s => State.fwReads fuel s (page + 1)
      | none => s

/-- A GO of operation `op` (0 DOWNLOAD, 1 VERIFY, 2 ACTIVATE, 3 CONFIRM). -/
def State.fwGo (s : State) (op : Nat) : State :=
  if s.rdF R.SEC_FWUP_CTRL F.SEC_FWUP_CTRL_BUSY 0 0 = 1 then s.regErr else
  let trial := (s.fwRec.map (·.trial)).getD false
  let active := (s.fwRec.map (·.active)).getD 0
  let src := s.rd R.SEC_FWUP_SRC 0 0
  let s := s.wrFs R.SEC_FWUP_CTRL 0 0 [(F.SEC_FWUP_CTRL_ERROR, 0), (F.SEC_FWUP_CTRL_DONE, 0), (F.SEC_FWUP_CTRL_BUSY, 1)]
  let s := s.sec! (fun x => { x with fwOp := op })
  if s.rdF R.SEC_FW_STATUS F.SEC_FW_STATUS_RECOVERY 0 0 = 1 && 1 < op then s.fwDone 4
  else if (op = 0 || op = 2) && trial then s.fwDone 4
  else if op = 3 && (!trial || s.fwRunning != active) then s.fwDone 4
  else if op = 0 then
    if 4095 < bits src 63 48 then s.fwDone 5
    else if setBits (src % 2 ^ 48) 11 0 0 < hostBase || !s.attached then s.fwDone 1
    else
      let s := s.setFwSlot s.fwInactive {}
      State.fwReads 4096 (s.host! (fun h => { h with fwPages := [], fwFail := false })) 0
  else s

/-- FWUP_END: the operation ends; `flashFail` is a failed program or erase. A download still short of pages goes on. -/
def State.fwEnd (s : State) (flashFail : Bool) : State :=
  if s.rdF R.SEC_FWUP_CTRL F.SEC_FWUP_CTRL_BUSY 0 0 = 0 then s else
  let k := s.fwInactive
  match s.sec.fwOp with
  | 0 =>
    let pages := s.rdF R.SEC_FWUP_SRC F.SEC_FWUP_SRC_PAGES 0 0
    let clear (s : State) : State := s.host! (fun h => { h with
      fwPages := [], fwFail := false, reads := h.reads.filter (fun r => match r.use with | .fw _ => false | _ => true) })
    if s.host.fwFail || !s.attached then (clear s).fwDone 1
    else if flashFail then (clear s).fwDone 3
    else if s.host.fwPages.length < pages then State.fwReads 4096 s 0
    else
      let img := (List.range pages).flatMap (fun i => Sp.get [] s.host.fwPages i)
      ((clear s).setFwSlot k { img := some img }).fwDone 0
  | 1 =>
    if !(s.fwSlot k).present then (s.count R.CNT_GLB 0 2 1).fwDone 2
    else if flashFail then s.fwDone 3
    else
      let v := s.fwVerify k
      v.1.fwDone (if v.2 then 0 else 2)
  | 2 =>
    let x := s.fwSlot k
    if x.mark != some (fwDigest x.bytes) then s.fwDone 2
    else if flashFail then s.fwDone 3
    else
      let old := (s.fwRec.map (·.active)).getD 0
      (s.putRec { counter := 0, active := k, trial := true, boots := 0, previous := old, svn := fwSvn x.bytes, digest := fwDigest x.bytes }).fwDone 0
  | _ =>
    match s.fwRec with
    | none => s.fwDone 4
    | some r =>
      if flashFail then s.fwDone 3
      else
        let v := fwSvn (s.fwSlot r.active).bytes
        ((s.putRec { r with trial := false }).sec! (fun x => { x with svn := max x.svn v })).fwDone 0

/-- A write of SEC_FWUP_CTRL. -/
def State.writeFwup (s : State) (v : Nat) : State := if v % 2 = 1 then s.fwGo (bits v 4 3) else s

/-! ## SPDM (R460, Tables 15-7 and 15-8) -/

def State.spdmStage (s : State) (t : Nat) : Nat := Sp.get 0 s.sec.stage t
def State.spdmSay (s : State) (t : Nat) (name : String) (b : List Byte) : State := s.emit (.spdm t name b)

/-- Handle a request on transport 0 (I3C) or 2 (DOE) that needs negotiation stage `need`; one out of order is answered
with ERROR (log 48). -/
def State.spdmIf (s : State) (t need : Nat) (f : State → State) : State :=
  if t != 0 && t != 2 then s
  else if !s.fwUp then (if t = 0 && s.mgt.standby then s.spdmSay t "ERROR" (leBytes 1 3) else s)
  else if s.spdmStage t < need then s.spdmSay t "ERROR" (leBytes 1 4)
  else f s

/-- The active image: of the slot that runs. -/
def State.fwActive (s : State) : List Byte := (s.fwSlot s.fwRunning).bytes

/-- Measurement `i`; none where absent (Table 15-8). -/
def State.measurement (s : State) (i : Nat) : Option (List Byte) :=
  let b := s.fwActive
  let loader := fieldAt b 0x0C 4
  if i = 1 then some Config.romDigest
  else if i = 2 then some (sha384 ((fwBody b).take loader))
  else if i = 3 then some (sha384 ((fwBody b).drop loader))
  else if i = 4 then some (leBytes 4 (s.rd R.GLB_DEVICE_ID 0 0) ++ leBytes 8 s.sec.svn ++ leBytes 4 s.sec.debug)
  else if i = 5 then s.fwRec.map FwRec.bytes
  else if 0x40 ≤ i ∧ i < 0x80 ∧ s.enabled (i - 0x40) then
    some (s.rdDigest R.SEQ_STRIDE_DIGEST (i - 0x40) 0
      ++ (List.range 32).flatMap (fun k => s.rdDigest R.SEQ_SLOT_DIGEST (i - 0x40) (4 * k)))
  else none

/-- Salt of the Alias key: SHA-384 of measurements 2, 3 and 4 (R460). -/
def State.aliasSalt (s : State) : List Byte := sha384 (((List.range 3).map (fun i => (s.measurement (i + 2)).getD [])).flatten)

def State.certs (s : State) : List Byte := Config.certChain s.aliasSalt
def State.sign (s : State) (m : List Byte) : List Byte := Config.aliasSign s.aliasSalt m

def State.updSess (s : State) (id : Nat) (f : Sess → Sess) : State :=
  s.sec! (fun x => { x with sessions := x.sessions.map (fun e => if e.id = id then f e else e) })

/-- A request within session `id` of transport `t`. -/
def State.inSess (s : State) (t id : Nat) (up : Bool) (f : State → State) : State :=
  s.spdmIf t 3 (fun s =>
    if s.sec.sessions.any (fun x => x.id = id && x.transport = t && x.up = up) then f s else s.spdmSay t "ERROR" (leBytes 1 2))

/-! ## Commands -/

/-- PARTITION_ENABLE: a write of GLB_PARTp_CONFIG with ENABLE = 1 (R446, R449). -/
def execPartitionEnable (part value : Nat) (s : State) : Host.Outcome State Fault Refusal :=
  .next (if part < 64 then s.writePartConfig part (setBit value 63 true) else s)
/-- PARTITION_ENABLE_DONE (R447). -/
def execPartitionEnableDone (part : Nat) (s : State) : Host.Outcome State Fault Refusal :=
  .next (if part < 64 then s.partEnabled part else s)
/-- PARTITION_DISABLE: a write with ENABLE = 0 (R448, R449). -/
def execPartitionDisable (part : Nat) (s : State) : Host.Outcome State Fault Refusal :=
  .next (if part < 64 then s.writePartConfig part 0 else s)

/-- HOSTKEY_INSTALL in SPDM session `session` (R457). -/
def execHostkeyInstall (session : Nat) (payload : List Byte) (s : State) : Host.Outcome State Fault Refusal :=
  .next (s.hostKeyMsg session 1 payload)
/-- HOSTKEY_CLEAR (R457). -/
def execHostkeyClear (session : Nat) (payload : List Byte) (s : State) : Host.Outcome State Fault Refusal :=
  .next (s.hostKeyMsg session 2 payload)

/-- IDE_KM_PROGRAM: a key for stream 0 (link) or 1 to 4 (selective), in a session over DOE (R458). -/
def execIdeKmProgram (session stream : Nat) (key : List Byte) (s : State) : Host.Outcome State Fault Refusal :=
  .next (s.inSess 2 session true (fun s =>
    if stream < 5 then (s.sec! (fun x => { x with ideKey := Sp.put stream key x.ideKey })).spdmSay 2 "IDE_KM_ACK" (leBytes 1 stream)
    else s.spdmSay 2 "ERROR" (leBytes 1 1)))

/-- GET_VERSION: negotiation starts again (R460). -/
def execGetVersion (transport : Nat) (s : State) : Host.Outcome State Fault Refusal :=
  .next (s.spdmIf transport 0 (fun s =>
    (s.sec! (fun x => { x with stage := Sp.set 0 x.stage transport 1 })).spdmSay transport "VERSION" (leBytes 1 0x13)))
/-- GET_CAPABILITIES (R460). -/
def execGetCapabilities (transport : Nat) (s : State) : Host.Outcome State Fault Refusal :=
  .next (s.spdmIf transport 1 (fun s =>
    (s.sec! (fun x => { x with stage := Sp.set 0 x.stage transport 2 })).spdmSay transport "CAPABILITIES" []))
/-- NEGOTIATE_ALGORITHMS (R460). -/
def execNegotiateAlgorithms (transport : Nat) (s : State) : Host.Outcome State Fault Refusal :=
  .next (s.spdmIf transport 2 (fun s =>
    (s.sec! (fun x => { x with stage := Sp.set 0 x.stage transport 3 })).spdmSay transport
      "ALGORITHMS ECDSA-P384 SHA-384 SECP384R1 AES-256-GCM" []))
/-- GET_DIGESTS: slot 0 alone (R460). -/
def execGetDigests (transport : Nat) (s : State) : Host.Outcome State Fault Refusal :=
  .next (s.spdmIf transport 3 (fun s => s.spdmSay transport "DIGESTS" (leBytes 1 1 ++ sha384 s.certs)))
/-- GET_CERTIFICATE: part of the chain of slot 0 (R460). -/
def execGetCertificate (transport slot offset len : Nat) (s : State) : Host.Outcome State Fault Refusal :=
  .next (s.spdmIf transport 3 (fun s =>
    if slot != 0 then s.spdmSay transport "ERROR" (leBytes 1 1)
    else s.spdmSay transport "CERTIFICATE" ((s.certs.drop offset).take len)))
/-- CHALLENGE (R460). -/
def execChallenge (transport slot : Nat) (nonce : List Byte) (s : State) : Host.Outcome State Fault Refusal :=
  .next (s.spdmIf transport 3 (fun s =>
    if slot != 0 then s.spdmSay transport "ERROR" (leBytes 1 1)
    else s.spdmSay transport "CHALLENGE_AUTH" (sha384 s.certs ++ s.sign nonce)))
/-- GET_MEASUREMENTS: one index, or all for 0xFF (R460, Table 15-8). -/
def execGetMeasurements (transport index : Nat) (nonce : List Byte) (s : State) : Host.Outcome State Fault Refusal :=
  .next (s.spdmIf transport 3 (fun s =>
    let want := if index = 0xFF then List.range 128 else [index]
    let blocks := want.filterMap (fun i => (s.measurement i).map (fun b => leBytes 1 i ++ leBytes 2 b.length ++ b))
    if blocks = [] then s.spdmSay transport "ERROR" (leBytes 1 1)
    else s.spdmSay transport "MEASUREMENTS" (blocks.flatten ++ s.sign (nonce ++ blocks.flatten))))
/-- KEY_EXCHANGE starts a session (R460). -/
def execKeyExchange (transport slot : Nat) (nonce : List Byte) (s : State) : Host.Outcome State Fault Refusal :=
  .next (s.spdmIf transport 3 (fun s =>
    if slot != 0 then s.spdmSay transport "ERROR" (leBytes 1 1) else
    let id := s.sec.sessNext
    (s.sec! (fun x => { x with sessions := x.sessions ++ [{ id := id, transport := transport }], sessNext := id + 1 })).spdmSay
      transport "KEY_EXCHANGE_RSP" (leBytes 4 id ++ s.sign nonce)))
/-- FINISH establishes the session; `cert` is the hash of the peer's verified certificate key, empty for none (R457,
R460). -/
def execFinish (transport session : Nat) (cert : List Byte) (s : State) : Host.Outcome State Fault Refusal :=
  .next (s.inSess transport session false (fun s =>
    (s.updSess session (fun x => { x with up := true, cert := cert })).spdmSay transport "FINISH_RSP" []))
/-- HEARTBEAT (R460). -/
def execHeartbeat (transport session : Nat) (s : State) : Host.Outcome State Fault Refusal :=
  .next (s.inSess transport session true (fun s => s.spdmSay transport "HEARTBEAT_ACK" []))
/-- KEY_UPDATE (R460). -/
def execKeyUpdate (transport session : Nat) (s : State) : Host.Outcome State Fault Refusal :=
  .next (s.inSess transport session true (fun s =>
    (s.updSess session (fun x => { x with updates := x.updates + 1 })).spdmSay transport "KEY_UPDATE_ACK" []))
/-- END_SESSION (R460). -/
def execEndSession (transport session : Nat) (s : State) : Host.Outcome State Fault Refusal :=
  .next (s.inSess transport session true (fun s =>
    (s.sec! (fun x => { x with sessions := x.sessions.filter (fun e => e.id != session) })).spdmSay transport "END_SESSION_ACK" []))

/-- DOWNLOAD (R462). -/
def execDownload (s : State) : Host.Outcome State Fault Refusal := .next (s.fwGo 0)
/-- VERIFY (R462). -/
def execVerify (s : State) : Host.Outcome State Fault Refusal := .next (s.fwGo 1)
/-- ACTIVATE (R462). -/
def execActivate (s : State) : Host.Outcome State Fault Refusal := .next (s.fwGo 2)
/-- CONFIRM (R462). -/
def execConfirm (s : State) : Host.Outcome State Fault Refusal := .next (s.fwGo 3)
/-- FWUP_END (R464). -/
def execFwupEnd (flashFail : Bool) (s : State) : Host.Outcome State Fault Refusal := .next (s.fwEnd flashFail)

end Sys2Proof.Machine
end

