-- ==== Sys2Proof/Machine/Bringup.lean ====
section
/-! DEFINITION. Bring-up routines, CCLK, AVS and droop (17_bringup_and_reset.md R497 to R509, 01_organisation.md R34,
R39, R40, 16_reliability_and_fencing.md R490, R491, 19_package_and_electrical.md R547, R548). -/

namespace Sys2Proof.Machine

def State.chip! (s : State) (f : Chip → Chip) : State := { s with chip := f s.chip }

/-! ## AVS (R547, R548) -/

/-- Fused VDD_CORE target of a CCLK setting, mV. -/
def State.avsTarget (s : State) (freq : Nat) : Nat := bits (s.rd R.CRC_AVS_FUSED 0 0) (16 * freq + 15) (16 * freq)

/-- Write a target: `a` is the failed tries in a row, the last Status and the voltage read back. A third failure is
class F. -/
def State.avsWrite (s : State) (mv : Nat) (a : Nat × Nat × Nat) : State :=
  let fails := min 3 a.1
  let tries := if fails = 3 then 3 else fails + 1
  let s := (List.range tries).foldl (fun s _ => s.emit (.bus "AVS" 0 mv)) s
  let s := s.count R.CNT_TEL 0 5 fails
  if fails = 3 then s.raise E.AVS_FAIL 0 mv a.2.1
  else s.wrFs R.CRC_AVS 0 0 [(F.CRC_AVS_TARGET_MV, mv), (F.CRC_AVS_READ_MV, a.2.2)]

/-! ## CCLK (R39, R40) -/

def State.bringupDone (s : State) (r : Nat) : Bool := bit (s.rdF R.GLB_BRINGUP_STATUS F.GLB_BRINGUP_STATUS_DONE 0 0) r

/-- A write of CRC_CCLK_SELECT.FREQ; `a` is the AVS step of a rise. -/
def State.writeCclk (s : State) (freq : Nat) (a : Nat × Nat × Nat) : State :=
  let v := s.rd R.CRC_CCLK_SELECT 0 0
  let old := F.CRC_CCLK_SELECT_FREQ.get v
  let may := (s.chipState = stBringup && s.bringupDone 2) || s.inReady
  if !may || F.CRC_CCLK_SELECT_PENDING.get v = 1 || !bit (F.CRC_CCLK_SELECT_USABLE.get v) freq then
    s.regErr.event E.CCLK_REJECTED 0 freq 0
  else
    let s := s.wrFs R.CRC_CCLK_SELECT 0 0 [(F.CRC_CCLK_SELECT_FREQ, freq), (F.CRC_CCLK_SELECT_PENDING, 1),
      (F.CRC_CCLK_SELECT_LOCKED, 0)]
    let s := s.chip! (fun c => { c with falling := decide (freq < old) })
    if old < freq then s.avsWrite (s.avsTarget freq) a else s

/-- CCLK_FREQ_WRITE. -/
def execCclkFreqWrite (freq fails status readMv : Nat) (s : State) : Host.Outcome State Fault Refusal :=
  .next (if freq < 4 then s.writeCclk freq (fails, status, readMv) else s)

/-- CCLK_RELOCK_DONE: the dies are locked; a fall lowers the voltage now (R547). -/
def execCclkRelockDone (fails status readMv : Nat) (s : State) : Host.Outcome State Fault Refusal :=
  .next (
    if s.rdF R.CRC_CCLK_SELECT F.CRC_CCLK_SELECT_PENDING 0 0 = 0 then s else
    let s := s.wrFs R.CRC_CCLK_SELECT 0 0 [(F.CRC_CCLK_SELECT_PENDING, 0), (F.CRC_CCLK_SELECT_LOCKED, 1)]
    if s.chip.falling then
      (s.chip! (fun c => { c with falling := false })).avsWrite
        (s.avsTarget (s.rdF R.CRC_CCLK_SELECT F.CRC_CCLK_SELECT_FREQ 0 0)) (fails, status, readMv)
    else s)

/-! ## Droop (R490, R491) -/

/-- DROOP_TRIP: a detector of `die` trips. A trip within a stretch belongs to its episode. -/
def execDroopTrip (die : Nat) (s : State) : Host.Outcome State Fault Refusal :=
  .next (
    if s.rdF R.CRC_DROOP_CTRL F.CRC_DROOP_CTRL_ENABLE 0 0 = 0 || s.chip.droop || decide (3 < die) then s else
    let s := (s.chip! (fun c => { c with droop := true })).count R.CNT_GLB 0 16 1
    if (s.part 0).lapDroop then s
    else (s.updPart 0 (fun x => { x with lapDroop := true })).event E.DROOP 0 die 0)

/-- DROOP_STRETCH_END after `cycles` stretched cycles. -/
def execDroopStretchEnd (cycles : Nat) (s : State) : Host.Outcome State Fault Refusal :=
  .next (if s.chip.droop then (s.chip! (fun c => { c with droop := false })).count R.CNT_GLB 0 17 cycles else s)

/-! ## Fences and lanes at run time -/

/-- FENCE_REQUEST: a GO with the write's value (R481). -/
def execFenceRequest (value : Nat) (s : State) : Host.Outcome State Fault Refusal := .next (s.fenceRequest value)
/-- MESH_LANE_FAIL: `kind` 0 static, 1 dynamic (R33). -/
def execMeshLaneFail (kind die tile dir lane : Nat) (s : State) : Host.Outcome State Fault Refusal :=
  .next (s.meshLaneFail kind die tile dir lane)
/-- BRIDGE_MODULE_FAIL (R35). -/
def execBridgeModuleFail (bridge module : Nat) (repaired : Bool) (s : State) : Host.Outcome State Fault Refusal :=
  .next (s.bridgeModuleFail bridge module repaired)
/-- TSV_LANE_FAIL: ECC covers a lane; a DEGRADED stack is class F (Table 16-5, R476). -/
def execTsvLaneFail (stack lane : Nat) (s : State) : Host.Outcome State Fault Refusal :=
  .next (
    if 11 < stack then s else
    let u := unitWord 0x0A stack (lane % 256) (lane / 256 % 256) 0xFFFF
    if s.rdF R.HBM_STATUS F.HBM_STATUS_DEGRADED stack 0 = 1 then s.raise E.FATAL_HW 0 u 0 else s.event E.TSV_LANE 0 u 0)

/-! ## The saved settings record (R504 to R506) -/

/-- The record in force: the valid copy with the higher COUNTER. -/
def State.savedRec (s : State) : Option SavedRec :=
  match s.sec.savedA, s.sec.savedB with
  | some a, some b => if b.counter < a.counter then some a else some b
  | some a, none => some a
  | none, r => r

/-- Write a record with COUNTER plus one over the copy not in force (R505); the first goes to copy 0. -/
def State.putSaved (s : State) (l : List SavedEnt) : State :=
  let old := (s.savedRec.map (·.counter)).getD 0
  let r : SavedRec := { counter := old + 1, ents := l }
  let toB := s.sec.savedA.any (fun a => a.counter = old)
  s.sec! (fun x => if toB then { x with savedB := some r } else { x with savedA := some r })

def State.savedEnt (s : State) (kind unit : Nat) : Option SavedEnt :=
  s.savedRec.bind (fun r => r.ents.find? (fun e => e.kind = kind && e.unit = unit))

/-- KEY of a unit now (Table 17-4). -/
def State.savedKeyOf (s : State) (kind unit : Nat) : Nat :=
  if kind = 3 then Sp.get 0 s.chip.serials unit
  else if kind = 4 then s.rd R.FAB_PEER_UID unit 0
  else Config.deviceUid.toNat

/-- Number of a memory unit from its kind and unit, and back. -/
def memNo (kind unit : Nat) : Nat := if kind = 3 then 12 + unit else unit
def memKind (u : Nat) : Nat := if u < 12 then 2 else 3
def memUnit (u : Nat) : Nat := if u < 12 then u else u - 12

/-- A unit may start from saved settings: the ones the device retained over a warm-chip reset, else a record entry with
its key (R499, R504). A port's key is compared when its LINK_INFO arrives. -/
def State.savedFor (s : State) (kind unit : Nat) : Bool :=
  if s.chip.warm then decide ((kind, unit) ∈ s.chip.everTrained)
  else (s.savedEnt kind unit).any (fun e => kind = 4 || e.key = s.savedKeyOf kind unit)

/-- Its tested-good flag (R499). -/
def State.goodFor (s : State) (u : Nat) : Bool :=
  bit s.chip.fullPass u || (!s.chip.warm || decide ((memKind u, memUnit u) ∈ s.chip.everTrained)) &&
    (s.savedEnt (memKind u) (memUnit u)).any (fun e => e.good && e.key = s.savedKeyOf (memKind u) (memUnit u))

/-- Rows queued for repair in a unit. -/
def State.rowsOf (s : State) (kind unit : Nat) : List Nat :=
  if kind = 2 || kind = 3 then (s.repair.filter (fun e => e.1 = memNo kind unit)).map (·.2) else []

/-- The entry SAVE_SETTINGS writes for a unit (R505). -/
def State.entryFor (s : State) (kind unit : Nat) : SavedEnt :=
  let key := s.savedKeyOf kind unit
  let u := memNo kind unit
  let mem := kind = 2 || kind = 3
  let kept := bit s.chip.passed u && (s.savedEnt kind unit).any (fun e => e.good && e.key = key)
  { kind := kind, unit := unit, good := mem && (bit s.chip.fullPass u || kept), rows := s.rowsOf kind unit, key := key }

/-- Add the rows now queued to the record before a requested chip reset (R506). -/
def State.saveRepairs (s : State) : State :=
  if s.repair = [] then s else
  let old := (s.savedRec.map (·.ents)).getD []
  let units := (s.repair.map (·.1)).eraseDups
  let kept := old.map (fun e =>
    if e.kind = 2 || e.kind = 3 then { e with rows := (e.rows ++ s.rowsOf e.kind e.unit).eraseDups } else e)
  let more := (units.filter (fun u => !old.any (fun e => e.kind = memKind u && e.unit = memUnit u))).map
    (fun u => s.entryFor (memKind u) (memUnit u))
  s.putSaved (kept ++ more)

/-! ## Routines (R497 to R503) -/

abbrev rFuseLoad : Nat := 1
abbrev rBridgeTrain : Nat := 2
abbrev rHbmTrain : Nat := 3
abbrev rBulkTrain : Nat := 4
abbrev rOpticsUp : Nat := 5
abbrev rMemTest : Nat := 6
abbrev rDiscover : Nat := 7
abbrev rSave : Nat := 8
abbrev rClear : Nat := 9
abbrev rReady : Nat := 10

/-- Memory units that a command names: its STACKS and CHANNELS. -/
def cmdUnits (v : Nat) : List Nat := bitList (F.GLB_BRINGUP_CMD_STACKS.get v + F.GLB_BRINGUP_CMD_CHANNELS.get v * 4096) 20

/-- Masks that a routine takes: STACKS, CHANNELS, PORTS. -/
def cmdMasksOk (v : Nat) : Bool :=
  let r := F.GLB_BRINGUP_CMD_ROUTINE.get v
  (F.GLB_BRINGUP_CMD_STACKS.get v = 0 || r = rHbmTrain || r = rMemTest)
    && (F.GLB_BRINGUP_CMD_CHANNELS.get v = 0 || r = rBulkTrain || r = rMemTest)
    && (F.GLB_BRINGUP_CMD_PORTS.get v = 0 || r = rOpticsUp)

/-- Prerequisites of Table 17-1. -/
def State.cmdPrereq (s : State) (v : Nat) : Bool :=
  match F.GLB_BRINGUP_CMD_ROUTINE.get v with
  | 2 => s.bringupDone rFuseLoad
  | 3 | 4 | 5 => s.bringupDone rBridgeTrain
  | 6 => (cmdUnits v).all (fun u => bit s.chip.trained u && (u < 12 || s.rdF R.BLK_STATUS F.BLK_STATUS_PRESENT (u - 12) 0 = 1))
  | 7 => s.bringupDone rOpticsUp
  | _ => true

/-- Result of a unit in GLB_MEMTEST_RESULT: 0 PASS, 1 REPAIR, 2 FAIL, 3 not tested. -/
def State.memResult (s : State) (u : Nat) : Nat := bits (s.rd R.GLB_MEMTEST_RESULT 0 0) (2 * u + 1) (2 * u)
def State.setMemResult (s : State) (u x : Nat) : State :=
  s.wr R.GLB_MEMTEST_RESULT 0 0 (setBits (s.rd R.GLB_MEMTEST_RESULT 0 0) (2 * u + 1) (2 * u) x)

/-- ERROR of a READY: 0 where the conditions of R507 hold. -/
def State.readyErr (s : State) : Nat :=
  let present (b : Nat) : Bool := s.rdF R.BLK_STATUS F.BLK_STATUS_PRESENT b 0 = 1
  if (List.range 20).any (fun u => s.memResult u = 1) then 9
  else if s.rdF R.SEC_FW_STATUS F.SEC_FW_STATUS_RECOVERY 0 0 = 0 && s.remapLoaded
      && s.rdF R.CRC_CCLK_SELECT F.CRC_CCLK_SELECT_LOCKED 0 0 = 1
      && (List.range 12).all (fun k => s.rdF R.HBM_STATUS F.HBM_STATUS_TRAINED k 0 = 1)
      && (s.chip.warm || (List.range 8).all (fun b => !present b || s.memResult (12 + b) != 3))
      && s.bringupDone rDiscover && s.bringupDone rOpticsUp then 0
  else 10

/-- Set the status of a routine that has ended. -/
def State.routineDone (s : State) (r err : Nat) (fallback : Bool) : State :=
  let done := s.rdF R.GLB_BRINGUP_STATUS F.GLB_BRINGUP_STATUS_DONE 0 0
  let (k, s) := s.takeFree
  s.wrFs R.GLB_BRINGUP_STATUS 0 0 [(F.GLB_BRINGUP_STATUS_BUSY, 0), (F.GLB_BRINGUP_STATUS_END, 1),
    (F.GLB_BRINGUP_STATUS_ERROR, err), (F.GLB_BRINGUP_STATUS_LAST, r), (F.GLB_BRINGUP_STATUS_FALLBACK, b2n fallback),
    (F.GLB_BRINGUP_STATUS_PROGRESS, if err = 0 then 100 else min 100 (Config.progress k).toNat),
    (F.GLB_BRINGUP_STATUS_DONE, if err = 0 then setBit done r true else done)]

/-- Acceptance of a GO (R497, R498): 0, or the ERROR that ends the routine at once. -/
def State.routineErr (s : State) (v : Nat) : Nat :=
  let r := F.GLB_BRINGUP_CMD_ROUTINE.get v
  if r = 0 || 10 < r then 1
  else if s.rdF R.SEC_FW_STATUS F.SEC_FW_STATUS_RECOVERY 0 0 = 1 then 3
  else if s.chipState != stBringup && !(s.chipState = stReady && (r = rSave || r = rClear)) then 3
  else if !cmdMasksOk v then 1
  else if !s.cmdPrereq v then 2
  else if r = rReady then s.readyErr
  else 0

/-- FALLBACK as known at the start: a unit without a matching entry, or without TESTED_GOOD for MEM_TEST (R499). -/
def State.startFallback (s : State) (v : Nat) : Bool :=
  F.GLB_BRINGUP_CMD_FAST.get v = 1 &&
  (match F.GLB_BRINGUP_CMD_ROUTINE.get v with
  | 2 => (List.range 6).any (fun b => !s.savedFor 1 b)
  | 3 => (cmdUnits v).any (fun u => !s.savedFor (memKind u) (memUnit u))
  | 5 => (bitList (F.GLB_BRINGUP_CMD_PORTS.get v) 8).any (fun q => !s.savedFor 4 q)
  | 6 => (cmdUnits v).any (fun u => !s.goodFor u)
  | _ => false)

/-- A write of GLB_BRINGUP_CMD. OPTICS_UP enables its ports at once; what the other routines do is done by their end. -/
def State.writeBringup (s : State) (v : Nat) : State :=
  if !bit v 63 then s.wr R.GLB_BRINGUP_CMD 0 0 (v &&& 0x00FF00FFFFFFF1FF)
  else if s.rdF R.GLB_BRINGUP_STATUS F.GLB_BRINGUP_STATUS_BUSY 0 0 = 1 then s.regErr
  else
    let s := s.wr R.GLB_BRINGUP_CMD 0 0 (v &&& 0x00FF00FFFFFFF1FF)
    let r := F.GLB_BRINGUP_CMD_ROUTINE.get v
    let err := s.routineErr v
    if err != 0 then s.routineDone r err false else
    let fb := s.startFallback v
    let s := s.wrFs R.GLB_BRINGUP_STATUS 0 0 [(F.GLB_BRINGUP_STATUS_BUSY, 1), (F.GLB_BRINGUP_STATUS_END, 0),
      (F.GLB_BRINGUP_STATUS_ERROR, 0), (F.GLB_BRINGUP_STATUS_LAST, r), (F.GLB_BRINGUP_STATUS_FALLBACK, b2n fb),
      (F.GLB_BRINGUP_STATUS_PROGRESS, 0)]
    let s := s.chip! (fun c => { c with routine := v, fallback := fb })
    if r = rOpticsUp then
      (bitList (F.GLB_BRINGUP_CMD_PORTS.get v) 8).foldl (fun s q =>
        let saved := F.GLB_BRINGUP_CMD_FAST.get v = 1 && s.savedFor 4 q
        let key := if saved then (if s.chip.warm then some (s.rd R.FAB_PEER_UID q 0) else (s.savedEnt 4 q).map (·.key)) else none
        (s.updPort q (fun x => { x with saved := saved, savedKey := key })).portEnable q true) s
    else s

/-! ## What the routines do by their end -/

/-- Put the fences and spares of the fuses in force (R22, R483): `l` holds unit words; what is fenced stays fenced. -/
def State.loadFuses (s : State) (l : List Nat) : State :=
  let wher (u : Nat) : Nat := bits u 15 8
  let a (u : Nat) : Nat := bits u 23 16
  let b (u : Nat) : Nat := bits u 31 24
  let s := l.foldl (fun s u =>
    match u % 256 with
    | 1 => if wher u < 4 ∧ a u < 17 ∧ b u < 17 then
        { s with phys := { s.phys with slots := Sp.upd 0 s.phys.slots (wher u * 17 + a u) (fun m => setBit m (b u) true) } } else s
    | 2 => if wher u < 4 ∧ a u < 17 then
        { s with phys := { s.phys with hubs := setBit s.phys.hubs (wher u * 17 + a u) true } } else s
    | 3 | 4 =>
      let kind := u % 256 - 3
      let k := laneKey kind (wher u) (a u) (b u / 16)
      if wher u < 4 && linkExists (a u) (b u / 16) && Sp.get 0 s.phys.lanes k = 0 then
        let f := if kind = 0 then F.GLB_SPARE_STATUS_STATIC_SPARED else F.GLB_SPARE_STATUS_DYN_SPARED
        let v := s.rdF R.GLB_SPARE_STATUS f 0 0
        let d := wher u
        { s with phys := { s.phys with
            lanes := Sp.set 0 s.phys.lanes k (2 ^ (b u % 16)), laneUse := Sp.set 0 s.phys.laneUse k 2 } }.wrF
          R.GLB_SPARE_STATUS f 0 0 (setBits v (4 * d + 3) (4 * d) (min 15 (bits v (4 * d + 3) (4 * d) + 1)))
      else s
    | 5 => if wher u < 6 && decide (a u < bridgeModules (wher u)) && Sp.get 0 s.phys.modules (wher u) = 0 then
        { s with phys := { s.phys with
            modules := Sp.set 0 s.phys.modules (wher u) (2 ^ a u), moduleUse := Sp.set 0 s.phys.moduleUse (wher u) 2 } }.wrF
          R.GLB_SPARE_STATUS F.GLB_SPARE_STATUS_BRIDGE_SPARED 0 0
            (setBit (s.rdF R.GLB_SPARE_STATUS F.GLB_SPARE_STATUS_BRIDGE_SPARED 0 0) (wher u) true)
      else s
    | 6 | 7 => if wher u < 12 ∧ a u < poolSize (u % 256 - 6) then
        s.wrF R.AKC_ENGINES (poolFld (u % 256 - 6)) (wher u) 0 (setBit (s.akcFenced (wher u) (u % 256 - 6)) (a u) true) else s
    | _ => s) s
  let s := s.akcJoin
  let s := s.wrF R.GLB_REMAP_STATUS F.GLB_REMAP_STATUS_LOADED 0 0 1
  let s := (List.range s.clusterCount).foldl (fun s c =>
    let d := c / 16
    let m := s.slotMask (d * 17 + c % 16)
    if s.hubFenced (d * 17 + c % 16) || decide (2 ≤ popCount m 17) then
      if s.spareHealthy d && !s.spareUsed d then
        let m := s.slotMask (d * 17 + 16)
        let moved := if m % 2 ^ 16 = 0 then 0x1F else firstBit m 16
        (s.wr R.CLU_CORE_REMAP c 0 (atBits 31 27 16 + atBits 25 25 (b2n (decide (moved ≠ 0x1F))) + atBits 24 20 moved + m)).setDieGroup d
          (setBits (setBit (s.dieGroup d) 5 true) 4 0 (c % 16))
      else s.wr R.CLU_CORE_REMAP c 0 (atBits 31 27 (c % 16) + atBits 26 26 1 + atBits 24 20 0x1F + m)
    else
      let moved := if m % 2 ^ 16 = 0 then 0x1F else firstBit m 16
      s.wr R.CLU_CORE_REMAP c 0 (atBits 31 27 (c % 16) + atBits 25 25 (b2n (decide (moved ≠ 0x1F))) + atBits 24 20 moved + m)) s
  (List.range 4).foldl (fun s d => s.syncSpares d) s

/-- Contents of a memory unit become zero with valid ECC, without poison (R503). -/
def State.clearUnit (s : State) (u : Nat) : State :=
  let lo := if u < 12 then u * hbmStackBytes else bulkBase + (u - 12) * bulkSlot
  let hi := lo + (if u < 12 then hbmStackBytes else bulkSlot)
  { s with mem := Sp.clearRange lo hi s.mem, gran := Sp.clearRange (lo / 64) (hi / 64) s.gran }

def State.setRepairQueued (s : State) (u : Nat) : State :=
  let n := (s.repair.filter (fun e => e.1 = u)).length
  if u < 12 then s.wrF R.HBM_STATUS F.HBM_STATUS_REPAIR_QUEUED u 0 n
  else s.wrF R.BLK_STATUS F.BLK_STATUS_REPAIR_QUEUED (u - 12) 0 n

/-- Training of memory unit `u`, fully or from saved settings (R500, R501): full training applies its queued repairs and,
after a warm-chip reset, clears its contents; otherwise rows of its record entry stay queued. -/
def State.trainUnit (s : State) (u : Nat) (full : Bool) : State :=
  let rec_ := ((s.savedEnt (memKind u) (memUnit u)).map (·.rows)).getD []
  let s := if full then { s with repair := s.repair.filter (fun e => e.1 != u) }
    else { s with repair := s.repair ++ (rec_.filter (fun r => !((u, r) ∈ s.repair))).map (fun r => (u, r)) }
  let s := s.setRepairQueued u
  let s := if full && s.chip.warm then (s.clearUnit u).wrF R.GLB_BRINGUP_STATUS F.GLB_BRINGUP_STATUS_CONTENTS_LOST 0 0 1 else s
  s.chip! (fun c => { c with
    trained := setBit c.trained u true
    everTrained := if (memKind u, memUnit u) ∈ c.everTrained then c.everTrained else c.everTrained ++ [(memKind u, memUnit u)] })

/-- A unit trains fully: not FAST, no matching settings, or they failed (R499). -/
def State.trainsFully (s : State) (v kind unit : Nat) (r : Bringup) : Bool :=
  F.GLB_BRINGUP_CMD_FAST.get v = 0 || !s.savedFor kind unit || decide (memNo kind unit ∈ r.fellBack)

/-- MEM_TEST of unit `u` (R503). -/
def State.memTestUnit (s : State) (u : Nat) (full : Bool) (r : Bringup) : State :=
  let s := s.clearUnit u
  let s := (r.rows.filter (fun e => e.1 = u)).foldl (fun s e => s.queueRepair u e.2) s
  let queued := (s.repair.filter (fun e => e.1 = u)) != []
  let res := if u ∈ r.spent then 2 else if queued then 1 else 0
  let s := s.setMemResult u res
  if res != 0 then s else
  let s := if u < 12 then s.wrF R.HBM_STATUS F.HBM_STATUS_TRAINED u 0 1 else s.wrF R.BLK_STATUS F.BLK_STATUS_TRAINED (u - 12) 0 1
  s.chip! (fun c => { c with passed := setBit c.passed u true, fullPass := setBit c.fullPass u (full || bit c.fullPass u) })

/-- READY is accepted (R508, R509). -/
def State.goReady (s : State) : State :=
  let s := (List.range 8).foldl (fun s b =>
    if s.rdF R.BLK_STATUS F.BLK_STATUS_PRESENT b 0 = 0 || s.memResult (12 + b) = 2 then
      s.wrFs R.BLK_STATUS b 0 [(F.BLK_STATUS_PRESENT, 0), (F.BLK_STATUS_CAPACITY_GIB, 0)] else s) s
  let s := s.wrF R.GLB_STATE F.GLB_STATE_STATE 0 0 stReady
  let s := s.chip! (fun c => { c with everReady := true })
  let s := s.enabledParts.foldl (fun s p =>
    if (s.part p).enabling then s else s.wrF R.GLB_PART_CONFIG F.GLB_PART_CONFIG_STATE 0 p stReady) s
  (List.range 20).foldl (fun s u => if s.scrubRuns u then s.setScrubActive u 1 else s) s.syncChip

/-- The running routine's end, with what it found: its ERROR and the state. -/
def State.routineWork (s : State) (v : Nat) (r : Bringup) : Option (State × Nat × Bool) :=
  let bad (l : List Nat) : Nat := if l.any (fun u => decide (u ∈ r.failed)) then 4 else 0
  let fast := F.GLB_BRINGUP_CMD_FAST.get v = 1
  let late (l : List Nat) : Bool := s.chip.fallback || (fast && l.any (fun u => decide (u ∈ r.fellBack)))
  let us := cmdUnits v
  match F.GLB_BRINGUP_CMD_ROUTINE.get v with
  | 1 =>
    if r.fuseOk then some (s.loadFuses r.fuses, 0, false)
    else some (s.wrF R.GLB_REMAP_STATUS F.GLB_REMAP_STATUS_LOAD_ERROR 0 0 1, 4, false)
  | 2 =>
    let bs := List.range 6
    let s := (List.range 4).foldl (fun s i => s.avsWrite (s.avsTarget i) (r.avs.getD i (0, 0, s.avsTarget i))) s
    let miss := r.missed.filter (fun e => e.1 < 4 && e.2 < 4)
    let usable : Nat := ((List.range 4).filter (fun i => !miss.any (fun e => e.2 = i))).foldl (fun m i => m + 2 ^ i) 0
    let s := miss.foldl (fun s e => s.event E.BRIDGE_DESKEW 0 (unitWord 5 e.1 0 0 0xFFFF) 0) s
    let s := s.avsWrite (s.avsTarget 0) (r.avs.getD 4 (0, 0, s.avsTarget 0))
    let err := if usable = 0 then 4 else bad bs
    let s := s.wrF R.CRC_CCLK_SELECT F.CRC_CCLK_SELECT_USABLE 0 0 usable
    let s := if err = 0 then
        (s.wrFs R.CRC_CCLK_SELECT 0 0 [(F.CRC_CCLK_SELECT_FREQ, 0), (F.CRC_CCLK_SELECT_LOCKED, 1)]).chip! (fun c => { c with
          everTrained := c.everTrained ++ (bs.filter (fun b => !((1, b) ∈ c.everTrained))).map (fun b => (1, b)) })
      else s
    some (s, err, late bs)
  | 3 =>
    let s := us.foldl (fun s u =>
      if u ∈ r.failed then s else
      let s := (s.trainUnit u (s.trainsFully v 2 u r)).wrF R.HBM_STATUS F.HBM_STATUS_DEGRADED u 0 (b2n (decide (u ∈ r.degraded)))
      if bit s.chip.passed u then s.wrF R.HBM_STATUS F.HBM_STATUS_TRAINED u 0 1 else s) s
    some (s, bad us, late us)
  | 4 =>
    let serials := us.foldl (fun m u => match r.modules.find? (fun x => x.1 + 12 = u) with
      | some x => Sp.put (u - 12) x.2.2.2 m
      | none => m) s.chip.serials
    let fall := fast && us.any (fun u => r.modules.any (fun x => x.1 + 12 = u)
      && !(s.chip! (fun c => { c with serials := serials })).savedFor 3 (u - 12))
    let s := us.foldl (fun s u =>
      let b := u - 12
      match r.modules.find? (fun x => x.1 = b) with
      | none => s.wrFs R.BLK_STATUS b 0 [(F.BLK_STATUS_PRESENT, 0), (F.BLK_STATUS_CAPACITY_GIB, 0), (F.BLK_STATUS_TRAINED, 0)]
      | some (_, gib, mts, serial) =>
        if u ∈ r.failed then s.wrFs R.BLK_STATUS b 0 [(F.BLK_STATUS_PRESENT, 0), (F.BLK_STATUS_CAPACITY_GIB, 0), (F.BLK_STATUS_TRAINED, 0)] else
        let swapped := (Sp.find b s.chip.serials).any (· != serial)
        let s := s.chip! (fun c => { c with
          serials := Sp.put b serial c.serials
          passed := if swapped then setBit c.passed u false else c.passed
          fullPass := if swapped then setBit c.fullPass u false else c.fullPass })
        let s := s.trainUnit u (s.trainsFully v 3 b r)
        s.wrFs R.BLK_STATUS b 0 [(F.BLK_STATUS_PRESENT, 1), (F.BLK_STATUS_CAPACITY_GIB, gib), (F.BLK_STATUS_SPEED_MTS, mts),
          (F.BLK_STATUS_TRAINED, b2n (bit s.chip.passed u))]) s
    some (s, bad us, late us || fall)
  | 5 =>
    let qs := bitList (F.GLB_BRINGUP_CMD_PORTS.get v) 8
    -- it ends once every listed port has passed LOCK, or one has stayed in LOCK too long
    let stuck (q : Nat) : Bool := s.portState q = psOff || s.portState q = psLock || s.portState q = psDown
    if qs.any (fun q => stuck q && !(q ∈ r.failed)) then none else
    let s := s.chip! (fun c => { c with
      everTrained := c.everTrained ++ (qs.filter (fun q => !(q ∈ r.failed) && !((4, q) ∈ c.everTrained))).map (fun q => (4, q)) })
    some (s, bad qs, late qs)
  | 6 => some (us.foldl (fun s u => s.memTestUnit u (!fast || !s.goodFor u) r) s, 0, s.chip.fallback)
  | 7 =>
    if s.rdF R.RLY_FABRIC_COORD F.RLY_FABRIC_COORD_CONFLICT 0 0 = 1 then some (s, 4, false)
    else if (s.hasCoords || s.rdF R.RLY_FABRIC_DIMS F.RLY_FABRIC_DIMS_SPARE 0 0 = 1) && (s.timeState = 1 || s.isRoot) then
      some (s, 0, false)
    else none
  | 8 =>
    if r.flashFail then some (s, 6, false) else some (s.putSaved (s.chip.everTrained.map (fun e => s.entryFor e.1 e.2)), 0, false)
  | 9 => if r.flashFail then some (s, 6, false) else some (s.putSaved [], 0, false)
  | 10 =>
    let err := s.readyErr
    if err = 0 then some (s.goReady, 0, false) else some (s, err, false)
  | _ => none

/-- ROUTINE_END: the running routine ends with what it found. One whose condition is not met yet goes on. -/
def State.routineEnd (s : State) (r : Bringup) : State :=
  if s.rdF R.GLB_BRINGUP_STATUS F.GLB_BRINGUP_STATUS_BUSY 0 0 = 0 then s else
  match s.routineWork s.chip.routine r with
  | some (t, err, fb) => t.routineDone (F.GLB_BRINGUP_CMD_ROUTINE.get s.chip.routine) err fb
  | none => s

/-! ## Commands -/

/-- A GO of routine `r` with its fields. -/
def State.goRoutine (s : State) (r arg stackMask channels ports : Nat) (fast : Bool) : State :=
  s.writeBringup (2 ^ 63 + atBits 55 48 arg + atBits 39 32 ports + atBits 31 24 channels + atBits 23 12 stackMask
    + atBits 8 8 (b2n fast) + r)

/-- FUSE_LOAD (R500). -/
def execFuseLoad (s : State) : Host.Outcome State Fault Refusal := .next (s.goRoutine rFuseLoad 0 0 0 0 false)
/-- BRIDGE_TRAIN (R500). -/
def execBridgeTrain (fast : Bool) (s : State) : Host.Outcome State Fault Refusal := .next (s.goRoutine rBridgeTrain 0 0 0 0 fast)
/-- HBM_TRAIN (R500, R501). -/
def execHbmTrain (stackMask : Nat) (fast : Bool) (s : State) : Host.Outcome State Fault Refusal :=
  .next (s.goRoutine rHbmTrain 0 stackMask 0 0 fast)
/-- BULK_TRAIN (R500, R501). -/
def execBulkTrain (channels : Nat) (fast : Bool) (s : State) : Host.Outcome State Fault Refusal :=
  .next (s.goRoutine rBulkTrain 0 0 channels 0 fast)
/-- OPTICS_UP (R500). -/
def execOpticsUp (ports : Nat) (fast : Bool) (s : State) : Host.Outcome State Fault Refusal :=
  .next (s.goRoutine rOpticsUp 0 0 0 ports fast)
/-- MEM_TEST (R503). -/
def execMemTest (stackMask channels : Nat) (fast : Bool) (s : State) : Host.Outcome State Fault Refusal :=
  .next (s.goRoutine rMemTest 0 stackMask channels 0 fast)
/-- DISCOVER (R502). -/
def execDiscover (arg : Nat) (s : State) : Host.Outcome State Fault Refusal := .next (s.goRoutine rDiscover arg 0 0 0 false)
/-- SAVE_SETTINGS (R505). -/
def execSaveSettings (s : State) : Host.Outcome State Fault Refusal := .next (s.goRoutine rSave 0 0 0 0 false)
/-- CLEAR_SETTINGS (R505). -/
def execClearSettings (s : State) : Host.Outcome State Fault Refusal := .next (s.goRoutine rClear 0 0 0 0 false)
/-- READY (R507 to R509). -/
def execReady (s : State) : Host.Outcome State Fault Refusal := .next (s.goRoutine rReady 0 0 0 0 false)
/-- ROUTINE_END (R497). -/
def execRoutineEnd (found : Bringup) (s : State) : Host.Outcome State Fault Refusal := .next (s.routineEnd found)
/-- DISCOVER_TIMEOUT (R502). -/
def execDiscoverTimeout (s : State) : Host.Outcome State Fault Refusal :=
  .next (if s.rdF R.GLB_BRINGUP_STATUS F.GLB_BRINGUP_STATUS_BUSY 0 0 = 1 && F.GLB_BRINGUP_CMD_ROUTINE.get s.chip.routine = rDiscover
    then s.routineDone rDiscover 5 false else s)

end Sys2Proof.Machine
end

