-- ==== Sys2Proof/Machine/Manage.lean ====
section
/-! DEFINITION. The management port, MCTP control, PLDM, sensors and power, and the package (18_management_and_telemetry.md
R518 to R530, 19_package_and_electrical.md R549 to R564). -/

namespace Sys2Proof.Machine

def State.mgt! (s : State) (f : MgtSt → MgtSt) : State := { s with mgt := f s.mgt }
def State.pkg! (s : State) (f : PkgSt → PkgSt) : State := { s with pkg := f s.pkg }
def State.tel! (s : State) (f : TelSt → TelSt) : State := { s with tel := f s.tel }

/-! ## I3C (R518 to R521) -/

def State.dynAddr (s : State) : Nat := s.rdF R.MGT_I3C_STATUS F.MGT_I3C_STATUS_DYN_ADDR 0 0
def State.ibiOn (s : State) : Bool := s.rdF R.MGT_I3C_STATUS F.MGT_I3C_STATUS_IBI_ENABLED 0 0 = 1

def State.ack (s : State) (data : List Byte) : State := s.emit (.ccc true data)
def State.nack (s : State) : State := s.emit (.ccc false [])

/-- The dynamic address is lost, and with it the endpoint ID, part of a message and pending responses (R520). -/
def State.loseAddr (s : State) : State :=
  let had := s.dynAddr != 0
  let s := s.wrFs R.MGT_I3C_STATUS 0 0 [(F.MGT_I3C_STATUS_DYN_ADDR, 0), (F.MGT_I3C_STATUS_EID, 0)]
  let s := s.mgt! (fun m => { m with packets := m.packets.filter (fun p => !p.answer), announced := false })
  if had then s.event E.MGT_ADDR 0 0 0 else s

/-- The provisional ID (R519). -/
def provisionalId : Nat := Config.mipiId.toNat * 2 ^ 33 + 2 ^ 32 + Config.deviceUid.toNat % 2 ^ 32

/-- ENTDAA: arbitration has assigned `addr`; a target that has an address takes no part. -/
def execEntdaa (addr : Nat) (s : State) : Host.Outcome State Fault Refusal :=
  .next (
    if !s.mgt.standby || s.dynAddr != 0 || addr % 128 = 0 then s else
    let s := (s.wrF R.MGT_I3C_STATUS F.MGT_I3C_STATUS_DYN_ADDR 0 0 addr).mgt! (fun m => { m with joinDue := false })
    (s.ack (beBytes 6 provisionalId ++ [0x06, 0x00])).event E.MGT_ADDR 0 (addr % 128) 0)
/-- RSTDAA. -/
def execRstdaa (s : State) : Host.Outcome State Fault Refusal := .next (if s.mgt.standby then (s.ack []).loseAddr else s)

/-- A directed CCC: answered by a target that has an address. -/
def State.directed (s : State) (f : State → State) : State := if s.mgt.standby && s.dynAddr != 0 then f s else s

/-- SETNEWDA. -/
def execSetnewda (addr : Nat) (s : State) : Host.Outcome State Fault Refusal :=
  .next (s.directed (fun s =>
    if addr % 128 = 0 then s.nack
    else ((s.wrF R.MGT_I3C_STATUS F.MGT_I3C_STATUS_DYN_ADDR 0 0 addr).ack []).event E.MGT_ADDR 0 (addr % 128) 0))
/-- GETPID (R519). -/
def execGetpid (s : State) : Host.Outcome State Fault Refusal := .next (s.directed (fun s => s.ack (beBytes 6 provisionalId)))
/-- GETBCR (R519). -/
def execGetbcr (s : State) : Host.Outcome State Fault Refusal := .next (s.directed (fun s => s.ack [0x06]))
/-- GETDCR (R519). -/
def execGetdcr (s : State) : Host.Outcome State Fault Refusal := .next (s.directed (fun s => s.ack [0x00]))
/-- GETSTATUS: a pending interrupt while a packet waits (log 50). -/
def execGetstatus (s : State) : Host.Outcome State Fault Refusal :=
  .next (s.directed (fun s => s.ack [0x00, if s.mgt.packets = [] then 0 else 1]))
/-- GETMRL. -/
def execGetmrl (s : State) : Host.Outcome State Fault Refusal :=
  .next (s.directed (fun s => s.ack (beBytes 2 (s.rdF R.MGT_I3C_STATUS F.MGT_I3C_STATUS_MRL 0 0))))
/-- SETMRL: 32 to 255 (Table 18-1). -/
def execSetmrl (len : Nat) (s : State) : Host.Outcome State Fault Refusal :=
  .next (if !s.mgt.standby then s
    else if 32 ≤ len ∧ len ≤ 255 then (s.wrF R.MGT_I3C_STATUS F.MGT_I3C_STATUS_MRL 0 0 len).ack [] else s.nack)
/-- GETMWL. -/
def execGetmwl (s : State) : Host.Outcome State Fault Refusal := .next (s.directed (fun s => s.ack (beBytes 2 s.mgt.mwl)))
/-- SETMWL. -/
def execSetmwl (len : Nat) (s : State) : Host.Outcome State Fault Refusal :=
  .next (if !s.mgt.standby then s
    else if 32 ≤ len ∧ len ≤ 255 then (s.mgt! (fun m => { m with mwl := len })).ack [] else s.nack)
/-- ENEC of target interrupts or Hot-Join. -/
def execEnec (int hotJoin : Bool) (s : State) : Host.Outcome State Fault Refusal :=
  .next (if !s.mgt.standby then s else
    let s := if int then s.wrF R.MGT_I3C_STATUS F.MGT_I3C_STATUS_IBI_ENABLED 0 0 1 else s
    (if hotJoin then s.mgt! (fun m => { m with hotJoin := true }) else s).ack [])
/-- DISEC: packets are held (R521). -/
def execDisec (int hotJoin : Bool) (s : State) : Host.Outcome State Fault Refusal :=
  .next (if !s.mgt.standby then s else
    let s := if int then s.wrF R.MGT_I3C_STATUS F.MGT_I3C_STATUS_IBI_ENABLED 0 0 0 else s
    (if hotJoin then s.mgt! (fun m => { m with hotJoin := false }) else s).ack [])
/-- RSTACT sets the target reset action. -/
def execRstact (action : Nat) (s : State) : Host.Outcome State Fault Refusal :=
  .next (if s.mgt.standby then (s.mgt! (fun m => { m with rstAct := action % 256 })).ack [] else s)
/-- UNSUPPORTED_CCC. -/
def execUnsupportedCcc (s : State) : Host.Outcome State Fault Refusal := .next (if s.mgt.standby then s.nack else s)
/-- HOT_JOIN (R520). -/
def execHotJoin (s : State) : Host.Outcome State Fault Refusal :=
  .next (if s.mgt.standby && s.mgt.joinDue && s.mgt.hotJoin && s.dynAddr = 0 then
    (s.mgt! (fun m => { m with joinDue := false })).emit .hotJoin else s)
/-- IBI (R521). -/
def execIbi (s : State) : Host.Outcome State Fault Refusal :=
  .next (if s.ibiOn && s.dynAddr != 0 && s.mgt.packets != [] && !s.mgt.announced then
    (s.mgt! (fun m => { m with announced := true })).emit (.ibi 0xAE) else s)
/-- MCTP_PACKET_READ: the announced packet is read (R521). -/
def execMctpPacketRead (s : State) : Host.Outcome State Fault Refusal :=
  .next (match s.mgt.packets with
    | p :: l => if s.mgt.announced then
        (s.mgt! (fun m => { m with packets := l, announced := false })).emit (.mctp 0 p.bytes) else s
    | [] => s)

/-! ## MCTP control (R522); the messages' own bytes are the standards' (log 50) -/

/-- A message can reach the device on transport `t`: 0 I3C, 1 PCIe VDM. -/
def State.mctpReach (s : State) (t : Nat) : Bool :=
  if t = 0 then s.mgt.standby && s.dynAddr != 0 else t = 1 && s.fwUp && s.host.link = 2

/-- An MCTP control response. -/
def State.ctrlSay (s : State) (t inst cmd : Nat) (b : List Byte) : State :=
  s.mctpSend t ([0x00] ++ leBytes 1 (inst % 32) ++ leBytes 1 cmd ++ b) true
def State.ctrlIf (s : State) (t : Nat) (f : State → State) : State := if s.mctpReach t then f s else s

def State.eid (s : State) : Nat := s.rdF R.MGT_I3C_STATUS F.MGT_I3C_STATUS_EID 0 0

/-- SET_ENDPOINT_ID: `op` 0 set, 1 force. -/
def execSetEndpointId (transport inst op eid : Nat) (s : State) : Host.Outcome State Fault Refusal :=
  .next (s.ctrlIf transport (fun s =>
    if 1 < op || eid = 0 || 254 < eid then s.ctrlSay transport inst 1 [0x02]
    else (s.wrF R.MGT_I3C_STATUS F.MGT_I3C_STATUS_EID 0 0 eid).ctrlSay transport inst 1 ([0x00, 0x00] ++ leBytes 1 eid ++ [0x00])))
/-- GET_ENDPOINT_ID. -/
def execGetEndpointId (transport inst : Nat) (s : State) : Host.Outcome State Fault Refusal :=
  .next (s.ctrlIf transport (fun s => s.ctrlSay transport inst 2 ([0x00] ++ leBytes 1 s.eid ++ [0x00, 0x00])))
/-- GET_ENDPOINT_UUID. -/
def execGetEndpointUuid (transport inst : Nat) (s : State) : Host.Outcome State Fault Refusal :=
  .next (s.ctrlIf transport (fun s => s.ctrlSay transport inst 3 ([0x00] ++ Config.endpointUuid)))
/-- Message types carried on a transport (Table 18-2), control itself left out. -/
def mctpTypes (t : Nat) : List Nat := if t = 0 then [0x01, 0x05, 0x06, 0x7E] else [0x01, 0x7E]
/-- GET_MCTP_VERSION_SUPPORT. -/
def execGetMctpVersionSupport (transport inst typ : Nat) (s : State) : Host.Outcome State Fault Refusal :=
  .next (s.ctrlIf transport (fun s =>
    if typ = 0xFF || typ = 0 || typ ∈ mctpTypes transport then
      s.ctrlSay transport inst 4 ([0x00] ++ leBytes 1 ((Config.mctpVersions typ).length / 4) ++ Config.mctpVersions typ)
    else s.ctrlSay transport inst 4 [0x80]))
/-- GET_MESSAGE_TYPE_SUPPORT. -/
def execGetMessageTypeSupport (transport inst : Nat) (s : State) : Host.Outcome State Fault Refusal :=
  .next (s.ctrlIf transport (fun s => let l := mctpTypes transport
    s.ctrlSay transport inst 5 ([0x00] ++ leBytes 1 l.length ++ l.flatMap (leBytes 1))))
/-- GET_VENDOR_DEFINED_MESSAGE_SUPPORT: one set, of PF0's PCI vendor ID. -/
def execGetVendorDefinedMessageSupport (transport inst selector : Nat) (s : State) : Host.Outcome State Fault Refusal :=
  .next (s.ctrlIf transport (fun s =>
    if selector = 0 then s.ctrlSay transport inst 6 ([0x00, 0xFF, 0x00] ++ beBytes 2 Config.pciVendor.toNat ++ [0x00, 0x01])
    else s.ctrlSay transport inst 6 [0x02]))
/-- MCTP_UNKNOWN_TYPE: a message of a type the transport does not carry is discarded and counted (R522). -/
def execMctpUnknownType (transport typ : Nat) (s : State) : Host.Outcome State Fault Refusal :=
  .next (s.ctrlIf transport (fun s => if typ = 0 || typ ∈ mctpTypes transport then s else s.count R.CNT_TEL 0 2 1))

/-! ## PLDM (R522 to R524) -/

/-- A PLDM response; before the firmware runs it is ERROR_NOT_READY (R552). -/
def State.pldmIf (s : State) (t inst typ cmd : Nat) (f : State → State × List Byte) : State :=
  if !s.mctpReach t then s else
  let r := if s.fwUp then f s else (s, [0x04])
  r.1.mctpSend t ([0x01] ++ leBytes 1 (inst % 32) ++ leBytes 1 typ ++ leBytes 1 cmd ++ r.2) true

/-- Sensors of Table 18-4. -/
def sensorIds : List Nat := (List.range 27).map (· + 1) ++ (List.range 36).map (· + 32)

/-- GET_TID. -/
def execGetTid (transport inst : Nat) (s : State) : Host.Outcome State Fault Refusal :=
  .next (s.pldmIf transport inst 0 0x02 (fun s => (s, [0x00, Config.pldmTid])))
/-- GET_PLDM_VERSION. -/
def execGetPldmVersion (transport inst typ : Nat) (s : State) : Host.Outcome State Fault Refusal :=
  .next (s.pldmIf transport inst 0 0x03 (fun s =>
    if typ = 0 || typ = 2 || typ = 0x3F then (s, [0x00] ++ Config.pldmVersion typ) else (s, [0x83])))
/-- GET_PLDM_TYPES: 0, 2 and 0x3F. -/
def execGetPldmTypes (transport inst : Nat) (s : State) : Host.Outcome State Fault Refusal :=
  .next (s.pldmIf transport inst 0 0x04 (fun s => (s, [0x00] ++ leBytes 8 (2 ^ 0 + 2 ^ 2 + 2 ^ 63))))
/-- GET_PLDM_COMMANDS of a type (Table 18-2). -/
def execGetPldmCommands (transport inst typ : Nat) (s : State) : Host.Outcome State Fault Refusal :=
  .next (s.pldmIf transport inst 0 0x05 (fun s =>
    let m := if typ = 0 then some (2 ^ 2 + 2 ^ 3 + 2 ^ 4 + 2 ^ 5)
      else if typ = 2 then some (2 ^ 0x04 + 2 ^ 0x11 + 2 ^ 0x21 + 2 ^ 0x50 + 2 ^ 0x51)
      else if typ = 0x3F then some (2 ^ Config.admitCode.toNat)
      else none
    match m with
    | some m => (s, [0x00] ++ leBytes 32 m)
    | none => (s, [0x83])))
/-- GET_SENSOR_READING: VALID, then the value. -/
def execGetSensorReading (transport inst sensor : Nat) (s : State) : Host.Outcome State Fault Refusal :=
  .next (s.pldmIf transport inst 2 0x11 (fun s =>
    if !(sensor ∈ sensorIds) then (s, [0x80]) else
    let v := s.rd R.TEL_SENSOR 0 sensor
    (s, [0x00, 0x05] ++ leBytes 1 (if bit v 32 then 0 else 2) ++ leBytes 4 v)))
/-- GET_STATE_SENSOR_READINGS: every sensor is numeric (R523). -/
def execGetStateSensorReadings (transport inst sensor : Nat) (s : State) : Host.Outcome State Fault Refusal :=
  .next (s.pldmIf transport inst 2 0x21 (fun s => (s, if sensor < 65536 then [0x80] else [0x02])))
/-- GET_PDR: record `handle` of the repository, which has one of each sensor (R523). -/
def execGetPdr (transport inst handle : Nat) (s : State) : Host.Outcome State Fault Refusal :=
  .next (s.pldmIf transport inst 2 0x51 (fun s =>
    let h := if handle = 0 then 1 else handle
    match sensorIds[h - 1]? with
    | some id => (s, [0x00] ++ leBytes 4 (if h < sensorIds.length then h + 1 else 0) ++ leBytes 2 id ++ Config.pdr id)
    | none => (s, [0x82])))
/-- GET_PDR_REPOSITORY_INFO. -/
def execGetPdrRepositoryInfo (transport inst : Nat) (s : State) : Host.Outcome State Fault Refusal :=
  .next (s.pldmIf transport inst 2 0x50 (fun s => (s, [0x00] ++ leBytes 4 sensorIds.length ++ Config.pdrInfo)))
/-- SET_EVENT_RECEIVER. -/
def execSetEventReceiver (transport inst : Nat) (enable : Bool) (s : State) : Host.Outcome State Fault Refusal :=
  .next (s.pldmIf transport inst 2 0x04 (fun s =>
    (s.mgt! (fun m => { m with receiver := if enable then some transport else none }), [0x00])))
/-- ADMIT_TENANT: only over PCIe VDM from PF0 (R524). -/
def execAdmitTenant (transport inst : Nat) (fromPf0 : Bool) (fn context : Nat) (hash : List Byte) (s : State) :
    Host.Outcome State Fault Refusal :=
  .next (s.pldmIf transport inst 0x3F Config.admitCode.toNat (fun s =>
    if transport != 1 || !fromPf0 then (s, [0x05])
    else if 255 < fn || 3 < context || hash.length != 48 then (s, [0x02])
    else (s.sec! (fun x => { x with admitted := (fn, context, hash) :: x.admitted.filter (fun e => e.1 != fn) }), [0x00])))

/-! ## Sensors, power and thermal control (R528 to R530, R549, R550) -/

def State.sensorVal (s : State) (id : Nat) : Int := sext 32 (s.rd R.TEL_SENSOR 0 id)

/-- Rail of a rail sensor. -/
def railOf (id : Nat) : Nat := (id - 32) / 3
def State.railPresent (s : State) (r : Nat) : Bool := s.rdF R.MGT_RAIL F.MGT_RAIL_PRESENT 0 r = 1

/-- STATUS_WORD of a rail: `fault` that it reports one of the faults of R550, `warn` the matching warning bits. -/
def State.railStatus (s : State) (r : Nat) (fault : Bool) (warn word : Nat) : State :=
  if s.pkg.por || !s.railPresent r || r = 0 || 11 < r then s else
  let fresh := popCount (warn &&& (warn ^^^ Sp.get 0 s.tel.railWarn r)) 4
  let s := s.tel! (fun t => { t with railWarn := Sp.set 0 t.railWarn r (warn % 16) })
  let s := (List.range fresh).foldl (fun s _ => s.event E.RAIL_WARN 0 r word) s
  if fault then s.raise E.RAIL_FAULT 0 r word else s

/-- Package power: the rail powers of the rails present (R549). -/
def State.packagePower (s : State) : Nat :=
  ((List.range 12).map (fun r => if s.railPresent r then s.rd R.TEL_SENSOR 0 (34 + 3 * r) % 2 ^ 32 else 0)).sum

/-- Threshold of sensor `id` (R528). -/
def State.thresholdCheck (s : State) (id : Nat) (v : Int) : State :=
  let t := sext 32 (s.rd R.TEL_SENSOR_THRESH 0 id)
  let was := bit s.tel.high id
  if t = 0 then s.tel! (fun x => { x with high := setBit x.high id false })
  else if !was && decide (t < v) then
    let s := s.tel! (fun x => { x with high := setBit x.high id true })
    (s.event E.SENSOR_HIGH 0 id (wrapI 32 v)).platformEvent (leBytes 2 id ++ leBytes 4 (wrapI 32 v))
  else if was && decide (100 * v ≤ 100 * t - t.natAbs) then s.tel! (fun x => { x with high := setBit x.high id false })
  else s

/-- Something asks for a throttle stretch (R529): 0 nothing, 1 power, 2 temperature; and everything is calm. -/
def State.throttleAsk (s : State) : Nat × Bool :=
  let c := s.rd R.TEL_POWER_CTRL 0 0
  let limit : Int := 1000 * F.TEL_POWER_CTRL_POWER_LIMIT_W.get c
  let temp : Int := 256 * F.TEL_POWER_CTRL_THROTTLE_C.get c
  let power := s.sensorVal 26
  let hot (d : Nat) : Int := s.sensorVal (d + 1)
  let ask := if limit < power then 1 else if (List.range 4).any (fun d => decide (temp < hot d)) then 2 else 0
  (ask, decide (100 * power < 95 * limit) && (List.range 4).all (fun d => decide (hot d < temp - 5 * 256)))

/-- The throttle stretch after a sample of sensor `id` (R529). It ends at a power sample where nothing but calm has been
seen since the power sample before, 1 ms earlier. -/
def State.throttleStep (s : State) (id : Nat) : State :=
  let (ask, calm) := s.throttleAsk
  if s.chip.throttle = 0 then
    if ask = 0 then s else
    let s := s.chip! (fun c => { c with throttle := 1 })
    if (s.part 0).lapThrottle then s else
    let rd := if ask = 1 then s.sensorVal 26 else (List.range 4).foldl (fun m d => max m (s.sensorVal (d + 1))) (s.sensorVal 1)
    (s.updPart 0 (fun x => { x with lapThrottle := true })).event E.THROTTLE 0 (ask - 1) (wrapI 32 rd)
  else if !calm then s.chip! (fun c => { c with throttle := 1 })
  else if id != 26 then s
  else s.chip! (fun c => { c with throttle := if c.throttle = 2 then 0 else 2 })

/-- A die hotspot: warning and trip (R530). -/
def State.hotspot (s : State) (id : Nat) (v : Int) : State :=
  let warn : Int := 256 * (80 + s.rdF R.TEL_POWER_CTRL F.TEL_POWER_CTRL_WARN_C 0 0)
  let was := bit s.tel.warm id
  let s := s.tel! (fun x => { x with warm := setBit x.warm id (decide (warn < v)) })
  let s := if !was && decide (warn < v) then s.event E.THERMAL_WARN 0 id (wrapI 32 v) else s
  if decide (110 * 256 ≤ v) && !s.pkg.tripped then
    ((s.raise E.THERMAL_TRIP 0 id (wrapI 32 v)).pkg! (fun p => { p with tripped := true })).emit (.pin "THERMTRIP_N" 0)
  else s

/-- Figures of the lap in progress (R537). -/
def State.lapFigures (s : State) (id : Nat) (v : Int) : State :=
  if 1 ≤ id ∧ id ≤ 4 then s.enabledParts.foldl (fun s p => s.updPart p (fun x =>
    { x with lapTemp := some (match x.lapTemp with
        | some m => max m v
        | none => v) })) s
  else if id = 26 then
    let s := s.tel! (fun t => { t with energy := t.energy + v.toNat })
    s.enabledParts.foldl (fun s p => s.updPart p (fun x => { x with lapPeak := max x.lapPeak (v.toNat / 1000) })) s
  else s

/-- SENSOR_SAMPLE of sensor `id` with the reading `value`; `ok` that the read worked; for a rail sensor what its
STATUS_WORD `word` reports; `cycles` the CCLK cycles since the last sample. Package power and energy are the device's own
sums (Table 18-4). -/
def execSensorSample (id value : Nat) (ok fault : Bool) (warn word cycles : Nat) (s : State) : Host.Outcome State Fault Refusal :=
  .next (
    if !s.fwUp || !(id ∈ sensorIds) then s else
    let rail := 32 ≤ id
    let s := if s.chip.throttle = 0 then s else s.count R.CNT_TEL 0 0 cycles
    if rail && !s.railPresent (railOf id) then s.wrF R.TEL_SENSOR F.TEL_SENSOR_VALID 0 id 0
    else if !ok then
      let s := s.wrF R.TEL_SENSOR F.TEL_SENSOR_STALE 0 id 1
      if rail then s.count R.CNT_TEL 0 4 1 else s
    else
      let value := if id = 26 then s.packagePower else if id = 27 then s.tel.energy / 1000000 else value
      let s := s.wrFs R.TEL_SENSOR 0 id [(F.TEL_SENSOR_VALUE, value), (F.TEL_SENSOR_VALID, 1), (F.TEL_SENSOR_STALE, 0)]
      let s := s.tel! (fun t => { t with at_ := Sp.set 0 t.at_ id s.ftime })
      let v := sext 32 value
      let s := s.thresholdCheck id v
      let s := if id ≤ 5 then s.hotspot id v else s
      let s := if 6 ≤ id ∧ id ≤ 17 then s.hbmRefresh (id - 6) (v / 256).toNat else s
      let s := s.lapFigures id v
      let s := if id ≤ 4 ∨ id = 26 then s.throttleStep id else s
      if rail then s.railStatus (railOf id) fault warn word else s)

/-- PMBUS_ALERT: PMB_ALERT_N is asserted and STATUS_WORD of the rails present is read: rail, faults, warnings, word
(R549, R550). -/
def execPmbusAlert (rails : List (Nat × Bool × Nat × Nat)) (s : State) : Host.Outcome State Fault Refusal :=
  .next (if !s.fwUp then s else rails.foldl (fun s r => s.railStatus r.1 r.2.1 r.2.2.1 r.2.2.2) s)

/-! ## Reference clocks (R555) -/

/-- SYSREF_LOST. -/
def execSysrefLost (s : State) : Host.Outcome State Fault Refusal := .next (s.raise E.SYSREF_LOST 0 0 0)
/-- OEREF_LOST: every port that is not OFF goes to DOWN with cause 2. -/
def execOerefLost (s : State) : Host.Outcome State Fault Refusal :=
  .next (
    let up := (List.range 8).filter (fun q => s.portState q != psOff)
    let s := (List.range 8).foldl (fun s q => s.updPort q (fun x => { x with noRef := true })) s
    let s := up.foldl (fun s q => s.portDown q 2) s
    s.event E.OEREF_LOST 0 0 (up.foldl (fun m q => m + 2 ^ q) 0))
/-- OEREF_RETURN: the ports train again. -/
def execOerefReturn (s : State) : Host.Outcome State Fault Refusal :=
  .next ((List.range 8).foldl (fun s q =>
    let was := (s.port q).noRef
    let s := s.updPort q (fun x => { x with noRef := false })
    if was && s.portEnabled q && s.laserOk q && (s.portState q = psDown || s.portState q = psOff) then
      s.portLock q (s.port q).saved else s) s)

/-! ## Test access (R560 to R563) -/

/-- An instruction from TAP (1) or HSTAP (2): the first after a TAP reset keeps access (R563). -/
def State.tapIf (s : State) (hstap : Bool) (f : State → State) : State :=
  let who := if hstap then 2 else 1
  if s.pkg.tap = 0 then f (s.pkg! (fun p => { p with tap := who }))
  else if s.pkg.tap = who then f s else s

def State.selBypass (s : State) : State := s.emit (.tap "BYPASS" 1 0)

/-- EXTEST, CLAMP and HIGHZ take effect in COLD, or in BRINGUP with no routine running (R561). -/
def State.scanIf (s : State) (f : State → State) : State :=
  if s.chipState = stCold || (s.chipState = stBringup && s.rdF R.GLB_BRINGUP_STATUS F.GLB_BRINGUP_STATUS_BUSY 0 0 = 0) then
    f (s.pkg! (fun p => { p with scan := true }))
  else s.selBypass

/-- EXTEST: `drive` is what the cells drive, `cells` what they observe (R560, R562). -/
def execExtest (hstap : Bool) (drive cells : Nat) (s : State) : Host.Outcome State Fault Refusal :=
  .next (s.tapIf hstap (fun s => s.scanIf (fun s =>
    (s.emit (.pin "EXTEST" drive)).emit (.tap "BOUNDARY" 3954 (cells % 2 ^ 3954)))))
/-- SAMPLE/PRELOAD. -/
def execSamplePreload (hstap : Bool) (cells : Nat) (s : State) : Host.Outcome State Fault Refusal :=
  .next (s.tapIf hstap (fun s => s.emit (.tap "BOUNDARY" 3954 (cells % 2 ^ 3954))))
/-- IDCODE (Table 19-12). -/
def execIdcode (hstap : Bool) (s : State) : Host.Outcome State Fault Refusal :=
  .next (s.tapIf hstap (fun s => s.emit (.tap "IDCODE" 32
    (atBits 31 28 (bits (s.rd R.GLB_DEVICE_ID 0 0) 19 16) + atBits 27 12 0x0009 + atBits 11 1 Config.jedecId.toNat + 1))))
/-- CLAMP. -/
def execClamp (hstap : Bool) (s : State) : Host.Outcome State Fault Refusal :=
  .next (s.tapIf hstap (fun s => s.scanIf (fun s => (s.emit (.pin "CLAMP" 1)).selBypass)))
/-- HIGHZ. -/
def execHighz (hstap : Bool) (s : State) : Host.Outcome State Fault Refusal :=
  .next (s.tapIf hstap (fun s => s.scanIf (fun s => (s.emit (.pin "HIGHZ" 1)).selBypass)))
/-- BYPASS, or an opcode the table does not list (R560). -/
def execBypass (hstap : Bool) (s : State) : Host.Outcome State Fault Refusal := .next (s.tapIf hstap (fun s => s.selBypass))
/-- TAP_RESET releases the arbitration (R563). -/
def execTapReset (s : State) : Host.Outcome State Fault Refusal := .next (s.pkg! (fun p => { p with tap := 0 }))

/-- STANDBY_RESET_END: the standby island begins to answer (R551, R552). -/
def execStandbyResetEnd (s : State) : Host.Outcome State Fault Refusal :=
  .next (if s.mgt.standby then s else s.mgt! (fun m => { m with standby := true, joinDue := true }))

end Sys2Proof.Machine
end

