-- ==== Sys2Proof/Machine/WordIssue.lean ====
section
/-! DEFINITION. The issue of stride words, pace points and the lockstep check (02_laps_and_legs.md R49, R68, R69;
03_program_image.md R113 to R122, R570; 01_organisation.md R37). -/

namespace Sys2Proof.Machine

/-! ## Pace points (R68, R69, R113) -/

/-- Next issue cycle of a satisfied pace point (R68). -/
def paceNext (w : PaceWait) (c : Nat) : Nat := max (max w.resume (c + 4)) (w.last + 1)

/-- Every completion a pace point awaits is in (R68, R115, R118). -/
def Part.paceReady (x : Part) (w : PaceWait) : Bool :=
  let mask := if w.endLeg then 0xFFFFFFFF else w.mask
  x.tokensZero mask && !x.tokPend.any (fun t => bit mask t.2.1) && (!w.endLeg || (x.folded && x.staged.isSome))

/-- What follows a satisfied pace point: the boundary, the loop step, or the next word (R113). -/
def State.afterPace (s : State) (p nxt : Nat) (w : PaceWait) : State :=
  let start := F.SEQ_LEG_TABLE_STRIDE_START.get (s.legEff p (s.leg p))
  if w.endLeg then
    (s.updPart p (fun y => { y with bound := some nxt })).setPos p [(F.SEQ_POSITION_IN_BOUNDARY, 1)]
  else if w.loopOp then
    match s.loopStep p w.loopId w.word start with
    | (s, some n) => s.updPart p (fun y => { y with word := n })
    | (s, none) => s
  else s.updPart p (fun y => { y with word := w.word + 1 })

/-- A pace point satisfied in cycle `c` with cause `cause` (R68, R69): its excess is counted and recorded, the request
buffers are released (R153), then the loop step or the boundary follows. -/
def State.pacePoint (s : State) (p c cause : Nat) : State :=
  let s := s.applyTok p c
  let x := s.part p
  match x.pace with
  | none => s
  | some w =>
    if !x.paceReady w || x.stop != 0 then s else
    let s := s.seen p (max c w.last)
    let nxt := paceNext w c
    let exc := nxt - w.resume
    let s := if exc = 0 then s else
      (((s.count R.CNT_SEQ p 0 1).count R.CNT_SEQ p 1 exc).addRec p
        { typ := 0x20, leg := s.leg p, code := cause, item := x.paceIdx, value := exc })
    let s := s.updPart p (fun y => { y with
      pace := none, cycle := nxt, sched := w.resume, paceIdx := y.paceIdx + 1, lapExcess := y.lapExcess + exc
      stallSeen := false })
    (s.releaseHeld p (if w.endLeg then 0xFFFFFFFF else w.mask)).afterPace p nxt w

/-! ## Word issue -/

/-- The context may issue its next word. -/
def State.canIssue (s : State) (p : Nat) : Bool :=
  let x := s.part p
  s.enabled p && s.isRunning p && x.running && x.stop = 0 && x.pace.isNone && x.bound.isNone && !x.atLap

/-- An uncorrectable error of the store copy at word `w` (R120): the master copy's word is read and written back. -/
def State.strideUe (s : State) (p w : Nat) : State :=
  let g := s.rd R.SEQ_STRIDE_GUARD p 0
  let a := bits (s.rdEff R.SEQ_STRIDE_MASTER p 0) 47 8 * 256 + 256 * (w - bits g 17 0)
  let rq := s.progReq p .seq 0
  let bad (s : State) : State := s.raise E.STRIDE_MASTER p (s.posWord p w) 0
  match s.check rq a 256 with
  | .unmapped => bad (s.count R.CNT_GLB 0 5 1)
  | .refused => bad s
  | .ok =>
    let s := s.sense a 256 p rq.word
    if s.poisoned a 256 then bad s else
    let s := { s with mem := storeRaw s.mem (strideAddr w) (s.load a 256) }
    (s.count R.CNT_SEQ p 9 1).raise E.STRIDE_UE p (s.posWord p w) 0

/-- Issue the engine slots from number `e`, in order, until one fails (R117). -/
def State.issueSlots (s : State) (p w v : Nat) : Nat → Nat → State
  | 0, _ => s
  | n + 1, e =>
    match slotCmd p (s.posSlot p w e) (swEngine v e) with
    | none => s.issueSlots p w v n (e + 1)
    | some c => match s.issueEngine c with
      | (s, true) => s.issueSlots p w v n (e + 1)
      | (s, false) => s

/-- After the word's first cycle: repeats, then pace wait, loop step or the next word (R113 to R116). -/
def State.wordEnd (s : State) (p w v u : Nat) : State :=
  let rep := swRepeat v
  let last := u + rep
  let s := s.updPart p (fun y => { y with cycle := last + 1, sched := y.sched + rep + 1 })
  let s := if swEndLeg v then s.endLegCheck p last else s
  if swPace v then
    let wait : PaceWait := ⟨swAwait v, swResume v, last, swEndLeg v, swLoopOp v = 1, swLoopId v, w⟩
    s.updPart p (fun y => { y with pace := some wait })
  else if swLoopOp v = 1 then
    match s.loopStep p (swLoopId v) w (F.SEQ_LEG_TABLE_STRIDE_START.get (s.legEff p (s.leg p))) with
    | (s, some n) => s.updPart p (fun y => { y with word := n })
    | (s, none) => s
  else s.updPart p (fun y => { y with word := w + 1 })

/-- The issue of the partition's next stride word. `err` is what its store copy's ECC finds: 0 nothing, 1 a corrected
error, 2 an uncorrectable one (R120). -/
def State.wordIssue (s : State) (p err : Nat) : State :=
  if !s.canIssue p then s else
  let x := s.part p
  let w := x.word
  if 262144 ≤ w then s.raise E.LEG_OVERRUN p (s.posWord p (w - 1)) 0
  else if !s.bankOk p w || !s.guarded p w then s.raise E.STRIDE_UNGUARDED p (s.posWord p w) 0
  else if err = 2 then s.strideUe p w
  else
    let s := if err = 1 then s.count R.CNT_SEQ p 7 1 else s
    let v := s.storeWord w
    if strideFault (s.myClusters p) v then s.raise E.STRIDE_ENCODING p (s.posWord p w) 0
    else if swPace v && decide (swResume v ≤ x.sched + swRepeat v + 1) then s.raise E.PACE_ORDER p (s.posWord p w) 0
    else
      let u := x.cycle
      let s := (s.seen p u).applyTok p u
      let s := (bitList (s.myClusters p) 64).foldl (fun s c => s.hubSlot p c (swCluster v c) u w) s
      (s.issueSlots p w v 4 0).wordEnd p w v u

/-- The lockstep comparison of the word issued 64 cycles before (R37, R121). -/
def State.seqLockstep (s : State) (p word : Nat) (mismatch : Bool) : State :=
  if mismatch then s.raise E.SEQ_LOCKSTEP p (s.posWord p word) 0 else s

/-! ## The commands -/

/-- STRIDE_WORD_ISSUE (R113). -/
def execStrideWordIssue (part err : Nat) (s : State) : Host.Outcome State Fault Refusal := .next (s.wordIssue part err)
/-- HOLD (R110): the slot changes nothing. -/
def execHold (_part _cluster : Nat) (s : State) : Host.Outcome State Fault Refusal := .next s
/-- DISPATCH (R111): a slot of word `word` in cycle `cycle`. -/
def execDispatch (part cluster cue group param cycle word : Nat) (s : State) : Host.Outcome State Fault Refusal :=
  .next (s.dispatch part cluster cue group param cycle word)
/-- REST (R112). -/
def execRest (part cluster group len cycle word : Nat) (s : State) : Host.Outcome State Fault Refusal :=
  .next (s.restSlot part cluster group len cycle word)
/-- SEQ_LOCKSTEP (R37). -/
def execSeqLockstep (part word : Nat) (mismatch : Bool) (s : State) : Host.Outcome State Fault Refusal :=
  .next (s.seqLockstep part word mismatch)
/-- PACE_POINT (R68, R69). -/
def execPacePoint (part cycle cause : Nat) (s : State) : Host.Outcome State Fault Refusal :=
  .next (s.pacePoint part cycle cause)
/-- COURSE_LOAD_GO (R103). -/
def execCourseLoadGo (part value : Nat) (s : State) : Host.Outcome State Fault Refusal := .next (s.courseLoadGo part value)
/-- COURSE_LOAD_DONE (R103). -/
def execCourseLoadDone (part : Nat) (errs : List (Nat × Nat)) (s : State) : Host.Outcome State Fault Refusal :=
  .next ((s.plant errs).courseLoadDone part)
/-- COURSE_ARM_WRITE (R56, R104). -/
def execCourseArmWrite (part value : Nat) (s : State) : Host.Outcome State Fault Refusal := .next (s.courseArm part value)
/-- COURSE_STORE_WRITE (R102). -/
def execCourseStoreWrite (part value : Nat) (s : State) : Host.Outcome State Fault Refusal :=
  .next (s.courseStoreWrite part value)
/-- STRIDE_LOAD_GO (R122, R123, R125). -/
def execStrideLoadGo (part value : Nat) (s : State) : Host.Outcome State Fault Refusal := .next (s.strideLoadGo part value)
/-- STRIDE_LOAD_END (R123). -/
def execStrideLoadEnd (part : Nat) (errs : List (Nat × Nat)) (s : State) : Host.Outcome State Fault Refusal :=
  .next ((s.plant errs).strideLoadDone part)
/-- STRIDE_DIGEST_GO (R122, R124). -/
def execStrideDigestGo (part value : Nat) (s : State) : Host.Outcome State Fault Refusal :=
  .next (s.strideLoadGo part value)
/-- STRIDE_DIGEST_END (R124). -/
def execStrideDigestEnd (part : Nat) (s : State) : Host.Outcome State Fault Refusal := .next (s.strideDigestDone part)
/-- STRIDE_IMAGE_WRITE (R36, R122): `addr` lies in the image. -/
def execStrideImageWrite (addr : Nat) (bytes : List Byte) (poison : Bool) (s : State) :
    Host.Outcome State Fault Refusal :=
  .next (if strideBase ≤ addr ∧ addr + bytes.length ≤ strideBase + 0x4000000 ∧ bytes ≠ [] then
    s.strideImageWrite addr bytes poison else s)

end Sys2Proof.Machine
end

