-- ==== Sys2Proof/Machine/Boundary.lean ====
section
/-! DEFINITION. Run control and the boundaries of legs and laps (02_laps_and_legs.md; 04_core.md R161;
12_relays_and_collectives.md R388, R389; 14_reproducibility_and_audit.md R435; 16_spares_fencing_and_errors.md R467, R469,
R482; 18_management_and_telemetry.md R537). -/

namespace Sys2Proof.Machine

/-! ## The course of a leg -/

/-- Course slot of leg `k`. -/
def State.legSlot (s : State) (p k : Nat) : Nat := F.SEQ_LEG_TABLE_COURSE_SLOT.get (s.legEff p k)

/-- The logical cores of partition `p`. -/
def State.partCores (s : State) (p : Nat) : List Nat :=
  (bitList (s.rd R.GLB_PART_CLUSTERS 0 p) s.clusterCount).flatMap (fun c => (List.range 16).map (fun k => 16 * c + k))

/-- A scratchpad granule of core `n` lies in a backfill region that both courses keep (R86). -/
def keptGran (old new : List Region) (n g : Nat) : Bool :=
  let a := 64 * g - scratchAddr n 0
  (old.filter (fun r => r.kind = 3 && new.contains r)).any (fun r => r.base ≤ a && a + 64 ≤ r.base + r.size)

/-- What a boundary clears of core `n` (R161): registers with their types and poison bits, queues, and scratchpad poison
outside the kept regions. -/
def State.clearCore (s : State) (old new : List Region) (n : Nat) : State :=
  let x := s.core n
  let gone := (x.rxq.map (fun e => e.2.length)).sum + x.arr.length + x.inbox.length
  let s := if gone = 0 then s else s.countCore n 8 gone
  let s := s.updCore n (fun x => { x.zeroRegs with
    rxq := [], arr := [], inbox := [], cues := [], pend := [], faulted := false, rest := none, held := [], pair := none, chan := []
    bfCycle := 0 })
  let lo := scratchAddr n 0 / 64
  let hi := scratchAddr n 0x180000 / 64
  { s with gran := (s.gran.map (fun e =>
      if lo ≤ e.1 && e.1 < hi && !keptGran old new n e.1 then (e.1, { e.2 with poison := false }) else e)).filter (fun e => e.2 != {}) }

/-- The course's loads into core `n`; what no record loads is invalid (R94). -/
def State.loadCore (s : State) (cues : List CueLoad) (cbs : List CbLoad) (n : Nat) : State :=
  let mine (c m : Nat) : Bool := c = n / 16 && bit m (n % 16)
  s.updCore n (fun x => { x with
    cue := (cues.filter (fun r => mine r.cluster r.mask)).foldl (fun m r =>
      r.entries.zipIdx.foldl (fun m e => Sp.put (r.first + e.2) e.1 m) m) []
    cb := (cbs.filter (fun r => mine r.cluster r.mask)).foldl (fun m r => Sp.put r.slot ⟨r.format, r.vformat, r.values⟩ m) [] })

/-- The course load of a boundary (Table 2-3, R94, R161). -/
def State.loadCourse (s : State) (p slot : Nat) : State :=
  let b := s.slotImage p slot
  let h := courseHead b
  let new := parseCourse b
  let old := (s.part p).course.regions
  let cues := cueLoads b h.cueCount h.cueOff
  let cbs := cbLoads b h.cbCount h.cbOff
  let s := (s.partCores p).foldl (fun s n => (s.clearCore old new.regions n).loadCore cues cbs n) s
  s.updPart p (fun x => { x with course := new, courseSlot := slot })

/-- Backfill tasks on the partition's clusters are preempted, and its rest runs end (R84, Table 2-9). -/
def State.preemptAll (s : State) (p u : Nat) : State :=
  let s := (s.partCores p).foldl (fun s n => s.endRest n u) s
  (bitList (s.rd R.GLB_PART_CLUSTERS 0 p) s.clusterCount).foldl (fun s c =>
    (s.hub c).running.foldl (fun s t => s.preempt c t) s) s

/-! ## A leg begins -/

/-- Leg `k` begins as attempt `attempt` (R49, R101, R105, R378, R435): its course is loaded and its first stride word is
next. -/
def State.beginLeg (s : State) (p k attempt : Nat) : State :=
  let s := (s.setPos p [(F.SEQ_POSITION_LEG, k), (F.SEQ_POSITION_ATTEMPT, attempt), (F.SEQ_POSITION_HOLD_CAUSE, 0),
    (F.SEQ_POSITION_IN_BOUNDARY, 0)]).updPart p (fun x => { x with
      running := true, word := F.SEQ_LEG_TABLE_STRIDE_START.get (s.legEff p k), cycle := 0, now := 0, sched := 0, pace := none, paceIdx := 0
      bound := none, folded := false, staged := none, loops := [], tokens := [], tokPend := [], outstanding := [], trigs := []
      trigHeld := [], queueHeld := [], placeWork := [], atLap := false, deadline := false, stallSeen := false, resumeAt := 0 })
  if !s.slotValid p (s.legSlot p k) then s.raise E.COURSE_MISSING p (s.posWord p (s.part p).word) 0 else
  let s := (s.loadCourse p (s.legSlot p k)).trigZero p
  let s := s.updPart p (fun x => { x with lapCycles := x.lapCycles + x.course.loadCycles })
  let s := (s.rlyLegBegin p).embLegBegin p
  let s := if s.legKind p = 6 then
      let rly := ((s.rly p).deferred.map (fun g => (g.segs.getD 0 []).length)).sum
      s.lapStateBlock p (cdiv (s.emb p).deferBytes 1024) (cdiv rly 1024) ((s.emb p).deferred.length + (s.rly p).deferred.length)
    else s
  s.retryHeld

/-- A LEG_REEXECUTED entry (Table 2-8) of leg `k`. -/
def State.reexecRec (s : State) (p k code attempt : Nat) : State :=
  (s.addRec p { typ := 0x40, leg := k, item := code, value := attempt }).updPart p (fun x => { x with reexecuted := true })

/-- The partition holds with the lowest cause that applies (R63); RESUME begins what `at_` says. -/
def State.holdFor (s : State) (p : Nat) (causes : List Nat) (at_ : Nat) : State :=
  let s := s.updPart p (fun x => { x with resumeAt := at_, holdReq := false, hostLostReq := false })
  (s.enterHold p (causes.foldl min 0xFF))

/-- The next leg `k` of the lap begins, by way of a repeat boundary where a class L error came too late for the leg before
it (R280, R469). -/
def State.nextLegBegin (s : State) (p k : Nat) : State :=
  let x := s.part p
  if !x.nextRepeat then s.beginLeg p k 0 else
  let s := (s.updPart p (fun x => { x with nextRepeat := false })).applySubst p
  if (s.part p).shapeLost then s.holdFor p [1] 0 else (s.reexecRec p k x.lCode 1).beginLeg p k 1

/-! ## Repeat and failing boundaries -/

/-- The drain and discard steps of Table 2-9. -/
def State.drainDiscard (s : State) (p : Nat) : State :=
  let now := (s.part p).now
  let s := s.preemptAll p (now + 1)
  let cs := s.partCores p
  let s := cs.foldl (fun s n => s.landTo n now) s
  let s := ((s.akcDrain p).ledgerDiscard p).updPart p (fun x => { x with
    held := [], outstanding := [], tokens := [], tokPend := [], loops := [], pace := none, bound := none, staged := none
    placeWork := [], trigs := [], trigHeld := [], queueHeld := [], folded := false, running := false })
  let s := { s with greqs := s.greqs.filter (fun g => !(g.part = p && g.ctx = 0)) }
  let s := s.host! (fun h => { h with copies := h.copies.filter (fun j => !(j.prog.any (fun q => q.1 = p))) })
  (((cs.foldl (fun s n => s.updCore n (fun x => { x with
    cues := [], pend := [], arr := [], held := [], pair := none, chan := [] })) s).embRepeat p).rlyRepeat p).trigZero p

/-- The repeat boundary of Table 2-9, `cycles` CCLK cycles long: after a class L error the leg runs again from its first
stride word (R77); where the attempt waits for a lost host, the partition enters DETACHED (R420); with SHAPE_LOST it
holds (R63). A class P error ends it in a failing boundary (R469). -/
def State.repeatBoundary (s : State) (p cycles : Nat) : State :=
  let x := s.part p
  let lost := x.stop = 0 && x.running && s.hostLostBit && s.hostWait p
  if !s.enabled p || !s.isRunning p || !(x.stop = 1 || lost) then s else
  let s := (s.drainDiscard p).setPos p [(F.SEQ_POSITION_IN_BOUNDARY, 1)]
  let s := (s.updPart p (fun y => { y with lapCycles := y.lapCycles + x.cycle + cycles })).applySubst p
  if (s.part p).stop = 2 then s else
  let s := s.updPart p (fun y => { y with stop := 0 })
  if (s.part p).shapeLost then s.holdFor p [1] 2
  else if lost then (s.updPart p (fun y => { y with lCode := E.HOST_LOST.code })).holdFor p [2] 2
  else
    let a := min (s.attempt p + 1) 3
    (s.reexecRec p (s.leg p) x.lCode a).beginLeg p (s.leg p) a

/-- The failing boundary (R467): the partition stops, discards, and is FAILED. -/
def State.failingBoundary (s : State) (p : Nat) : State :=
  if !s.enabled p || (s.part p).stop != 2 then s else
  let s := s.drainDiscard p
  let s := s.updPart p (fun x => { x with
    stop := 0, running := false, atLap := false, nextRepeat := false, holdReq := false, hostLostReq := false, resumeAt := 0
    journal := [], journalUsed := 0, journalOverflow := false, lapHolds := [] })
  let s := s.updRly p (fun r => { r with colls := [], early := [], replay := [], digest := none, earlyDigest := [] })
  let s := s.setPos p [(F.SEQ_POSITION_IN_BOUNDARY, 0), (F.SEQ_POSITION_HOLD_CAUSE, 0)]
  (s.setPState p stFailed).retryHeld

/-! ## Completion boundaries -/

/-- The digest of the lap in progress becomes readable (R417); what it reads where the lap's segment is not committed is
free. -/
def State.inputDigest (s : State) (p : Nat) : State :=
  if s.segSize p = 0 then s else
  let k := s.segOfLap p (s.lap p)
  let d := if Sp.find k (s.part p).segLap = some (s.lap p) && s.segState p k != 0 then Sp.get [] (s.part p).segDigest k
    else (List.range 32).map (fun i => Config.openDigest (s.lap p) i)
  s.wrDigest R.HST_INPUT_DIGEST p 0 d

/-- What every completion boundary does up to B + 40 (Table 2-3, R52, R208, R273, R429). -/
def State.toB40 (s : State) (p b : Nat) : State :=
  let s := s.updPart p (fun x => { x with chain := sha256 (x.chain ++ x.course.digest), lapCycles := x.lapCycles + b + 41 })
  let s := (s.partCores p).foldl (fun s n => (s.landTo n b).calFoldCore p n) (s.preemptAll p b)
  let s := ((s.embLegEnd p).placeFold p).inputDigest p
  let s := ((s.applySubst p).applyLeg p).swapArmed p (s.armLeg p) (s.gen p)
  let held := (s.part p).held
  let s := { s with store := s.store ++ held }.updPart p (fun x => { x with
    held := [], journal := [], journalUsed := 0, journalOverflow := false, trigs := [], trigHeld := [], queueHeld := [] })
  (s.akcJoin.trigZero p).updRly p (fun r => { r with begun := [], replay := [] })

/-- Hold causes that any completion boundary meets (Table 2-4). -/
def State.boundaryHolds (s : State) (p : Nat) : List Nat :=
  let x := s.part p
  (if x.hostLostReq || s.hostLostBit then [2] else []) ++ (if x.holdReq then [8] else [])

/-- COMPLETION_BOUNDARY: the boundary of a leg that is not the lap's last (R53). -/
def State.completionBoundary (s : State) (p : Nat) : State :=
  let x := s.part p
  match x.bound, s.nextLeg p (s.leg p) with
  | some b, some k =>
    if !s.enabled p || !s.isRunning p || x.stop != 0 || x.atLap then s else
    let s := s.toB40 p b
    if (s.part p).stop != 0 then s
    else if s.boundaryHolds p != [] then s.holdFor p (s.boundaryHolds p) 0
    else s.nextLegBegin p k
  | _, _ => s

/-! ## Laps -/

/-- Settings digest of the digest relay (R388). -/
def State.settingsDigest (s : State) (p : Nat) : List Byte :=
  let q (v : Nat) : List Byte := leBytes 8 v
  sha256 (q (s.rdEff R.SEQ_LAP_CONFIG p 0)
    ++ (List.range 32).flatMap (fun k => q (F.SEQ_LEG_TABLE_STRIDE_START.put (s.legEff p k) 0))
    ++ q (s.rdEff R.SEQ_SEED0 p 0) ++ q (s.rdEff R.SEQ_SEED1 p 0) ++ s.rdDigest R.SEQ_STRIDE_DIGEST p 0
    ++ q (s.rdEff R.EMB_CTRL p 0) ++ q (s.rdEff R.EMB_TIMEOUT p 0) ++ q (s.rdEff R.EMB_REPLICA_KEY p 0)
    ++ q (s.rdEff R.EMB_REPLICA_KEY p 1) ++ (List.range 8).flatMap (fun k => q (s.rd R.GLB_DIGEST_KEY p k))
    ++ q (s.rdEff R.RLY_CTRL p 0))

/-- The digest record this chip contributes (Table 12-6). -/
def State.digestRecord (s : State) (p hold : Nat) : List Byte :=
  let cd := s.rdDigest R.SEQ_LAP_COURSE_DIGEST p 0
  let sd := s.settingsDigest p
  cd ++ cd ++ sd ++ sd ++ s.rdDigest R.GLB_WEIGHT_DIGEST p 0 ++ leBytes 8 1 ++ leBytes 8 hold ++ List.replicate 16 0

/-- Non-finite counts of lap `lap`, summed over the stacks: scope x 65536 + identifier to count, rising (R301). -/
def Part.nonfinOf (x : Part) (lap : Nat) : Sp Nat :=
  (x.nonfin.filter (fun e => e.1 / 2097152 = lap)).foldl (fun m e => Sp.upd 0 m (e.1 % 131072) (· + e.2)) []

/-- The NONFINITE entries of the lap (R301). -/
def State.nonfinRecs (s : State) (p : Nat) : State :=
  let lap := s.lap p
  let l := (s.part p).nonfinOf lap
  let s := l.foldl (fun s e => s.addRec p
    { typ := 0x30, item := e.1 / 65536 * 2 ^ 56 + e.1 % 65536, value := e.2 }) s
  s.updPart p (fun x => { x with nonfin := x.nonfin.filter (fun e => e.1 / 2097152 != lap) })

/-- Steps 1 and 2 of R54, and the start of step 3: the record is closed, the lap is sealed and the digest relay begins. -/
def State.lapClose (s : State) (p : Nat) : State :=
  let lap := s.lap p
  let s := ((s.calStep p).nonfinRecs p).embReplicaRead p
  let s := ((s.wrDigest R.SEQ_LAP_COURSE_DIGEST p 0 (s.part p).chain).ledgerLapFree p lap).foldDelta p lap
  let s := (((s.embLapEnd p).closeRecord p).closeReplay p).writeSeal p
  let run := s.rd R.SEQ_RUN_CONTROL p 0
  let holds := (if s.effF R.SEQ_LAP_CONFIG F.SEQ_LAP_CONFIG_HOLD_ON_NONFINITE p 0 = 1
      && (s.part p).record.any (fun e => e.typ = 0x30) then [4] else [])
    ++ (if (s.part p).owed.isSome then [6] else [])
    ++ (if F.SEQ_RUN_CONTROL_HOLD_AT_ENABLE.get run = 1 && F.SEQ_RUN_CONTROL_HOLD_AT_LAP.get run = lap then [7] else [])
  let s := s.updPart p (fun x => { x with lapHolds := holds })
  if s.effF R.RLY_JOB F.RLY_JOB_CHIPS p 0 = 0 then s.updRly p (fun r => { r with digest := some { acc := [], done := true } })
  else (s.wrDigest R.RLY_SETTINGS_DIGEST p 0 (s.settingsDigest p)).digestStart p (s.digestRecord p (b2n (holds != [])))

/-- The result of the digest relay (R389): the state, and whether the chips' values differ. None ran where CHIPS is 0. -/
def State.digestResult (s : State) (p : Nat) (acc : List Byte) : State × Bool :=
  if acc = [] then (s, false) else
  let course := sliceB acc 0 32 != sliceB acc 32 32
  let settings := sliceB acc 64 32 != sliceB acc 96 32
  let chips := fieldAt acc 160 8 != s.effF R.RLY_JOB F.RLY_JOB_CHIPS p 0
  let hold := fieldAt acc 168 8 % 2
  let s := s.wrDigest R.RLY_FABRIC_DIGEST p 0 (sliceB acc 128 32)
  let s := s.wr R.RLY_SPLIT_STATUS p 0 (b2n course + 2 * b2n settings + 4 * b2n chips + 8 * hold)
  let bad := course || settings || chips
  (if bad then s.event E.CONFIG_SPLIT p (b2n course + 2 * b2n settings + 4 * b2n chips) 0 else s, bad)

/-- The checks when a rank map and the hot directories take effect (R250, R253). -/
def State.mapChecks (s : State) (p : Nat) : State :=
  let s := if s.rankMapOk p then s else s.raise E.RANK_MAP p 0 0
  if s.effF R.EMB_TABLE_BASE F.EMB_TABLE_BASE_ENABLE p 0 = 0 || s.hotOk p then s else
  s.raise E.HOT_INVALID p 0 0

/-- What the checks of R250 and R253 look at. -/
def State.mapRegs (s : State) (p : Nat) : List Nat :=
  [s.rdEff R.EMB_RANK_MAP p 0, s.rdEff R.EMB_CTRL p 0, s.rdEff R.SEQ_DRAW_RANK p 0, s.rdEff R.EMB_TABLE_BASE p 0]

/-- Step 4 of R54: RWL fields, ARM_LAP swaps under the new generation, and the stride guard take effect. -/
def State.lapApply (s : State) (p : Nat) : State :=
  let old := s.mapRegs p
  let s := s.applyLap p
  let s := if p = 0 then s.applyLapChip else s
  let s := (s.swapArmed p (s.armLap p) (s.gen p)).applyGuard p
  if s.mapRegs p = old then s else s.mapChecks p

/-- The intake segment of an ended lap opens for the lap that uses it next (R416). -/
def State.intakeLapEnd (s : State) (p lap : Nat) : State :=
  if s.segSize p = 0 then s else
  let n := s.rdF R.HST_INTAKE_RING F.HST_INTAKE_RING_SEGMENTS_M1 p 0 + 1
  let k := s.segOfLap p lap
  if Sp.find k (s.part p).segLap != some lap then s else
  let s := (s.setSegState p k 0).updPart p (fun x => { x with
    segLap := Sp.put k ((lap + n) % 2 ^ 32) x.segLap, segDigest := Sp.del k x.segDigest })
  if s.rdF R.HST_INTAKE_STATUS F.HST_INTAKE_STATUS_NEXT_COMMIT p 0 = lap then
    s.wrF R.HST_INTAKE_STATUS F.HST_INTAKE_STATUS_NEXT_COMMIT p 0 (lap + 1) else s

/-- The lap report record (R537, Table 18-8), for the lap and generation that ended. -/
def State.lapReport (s : State) (p lap gen : Nat) (held : Bool) : State :=
  let ring := s.rd R.TEL_REPORT_RING 0 0
  let n := F.TEL_REPORT_RING_LOG2_ENTRIES.get ring
  if n = 0 then s else
  let x := s.part p
  let sat (w v : Nat) : Nat := min v (2 ^ w - 1)
  let sealed := s.effF R.SEQ_AUDIT_CTRL F.SEQ_AUDIT_CTRL_SEAL_ENABLE p 0 = 1
  let flags := b2n sealed + 2 * b2n held + 4 * b2n x.reexecuted + 8 * b2n (decide (x.lapThr0 < s.rd R.CNT_TEL 0 0))
    + 16 * b2n (x.vIssues != 0)
  let temp : Int := x.lapTemp.getD 0
  let nonfin := ((x.record.filter (fun e => e.typ = 0x30)).map (·.value)).sum
  let b := leBytes 4 lap ++ leBytes 1 p ++ leBytes 1 flags ++ leBytes 2 gen ++ leBytes 8 x.lapCycles
    ++ leBytes 8 ((s.ftime - x.lapStartFt) % 2 ^ 64) ++ leBytes 8 x.lapExcess ++ leBytes 4 (sat 32 x.lapEvC)
    ++ leBytes 4 (sat 32 x.lapEvD) ++ leBytes 2 (sat 16 x.lapEvL) ++ leBytes 2 (temp % 65536).toNat
    ++ leBytes 4 ((s.tel.energy - x.lapEnergy0) / 1000) ++ leBytes 4 x.lapPeak
    ++ leBytes 4 (sat 32 (s.rd R.CNT_TEL 0 0 - x.lapThr0)) ++ leBytes 4 (sat 32 (s.rd R.CNT_GLB 0 17 - x.lapDroop0))
    ++ leBytes 4 (sat 32 nonfin)
  s.save (F.TEL_REPORT_RING_BASE.get ring * 4096 + 64 * (lap % 2 ^ n) + 64 * 2 ^ n * p) b

/-- A lap begins with nothing recorded, measured or reported in it. -/
def State.lapStart (s : State) (p : Nat) : State :=
  { s.updPart p (fun x => { x with
      chain := List.replicate 32 0, record := [], reexecuted := false, vIssues := 0, lapExcess := 0, lapCycles := 0
      lapStartFt := s.ftime, lapEvC := 0, lapEvD := 0, lapEvL := 0, cfgSeen := false, tenantSeen := false, farAnn := []
      lapDroop := false, lapThrottle := false, lapThr0 := s.rd R.CNT_TEL 0 0, lapDroop0 := s.rd R.CNT_GLB 0 17
      lapEnergy0 := s.tel.energy, lapTemp := none, lapPeak := 0, lapHolds := [] }) with
    host := { s.host with winSeen := s.host.winSeen.filter (fun f => s.partOfFn f != some p) } }

/-- The first leg of the lap begins. A lap that has none to run goes to its lap boundary at once (R48). -/
def State.lapBegin (s : State) (p : Nat) : State :=
  let s := s.updPart p (fun x => { x with lapStartFt := s.ftime, atLap := false })
  match firstLeg (s.legEff p) (s.legsEff p) (s.lap p) 0 with
  | some k => (s.nextLegBegin p k).dropUnbound p
  | none => (s.setPos p [(F.SEQ_POSITION_LEG, 0), (F.SEQ_POSITION_ATTEMPT, 0), (F.SEQ_POSITION_HOLD_CAUSE, 0),
      (F.SEQ_POSITION_IN_BOUNDARY, 1)]).updPart p (fun x => { x with running := true, bound := some 0, atLap := true, resumeAt := 0 })

/-- Steps 4 to 6 of R54 after a digest relay with result `acc`, and what follows them: a hold, or the next lap. None while
a planned placement move waits for a sweep (R237). -/
def State.lapRest (s : State) (p : Nat) (acc : List Byte) : Option State :=
  let lap := s.lap p
  let gen := s.gen p
  let (s, split) := s.digestResult p acc
  let ok := s.configOk p
  let s := if ok then s.lapApply p else (s.event E.LEG_TABLE_INVALID p 0 0).updPart p (fun x => { x with configBad := true })
  let moves := s.isPlaceBoundary p lap
  if moves && (s.plannedRows p).any (fun r => s.sweepPending p r.1 r.2) then none else
  let s := s.releaseAll p
  let s := if moves then s.placeAll p else s
  let s := ((s.rlyLapEnd p).intakeLapEnd p lap).setLap p ((lap + 1) % 2 ^ 32)
  let s := s.setPos p [(F.SEQ_POSITION_LEG, 0), (F.SEQ_POSITION_ATTEMPT, 0)]
  let local_ := (s.part p).lapHolds
  let causes := s.boundaryHolds p ++ (if split then [3] else []) ++ local_
    ++ (if fieldAt acc 168 8 % 2 = 1 && local_ = [] then [5] else []) ++ (if ok then [] else [0x0A])
  let (s, has) := s.loadReplay p (s.lap p)
  let causes := causes ++ (if has then [] else [9])
  let s := if causes = [] then s else s.markHeld p lap
  let s := (s.lapReport p lap gen (causes != [])).lapStart p
  if (s.part p).stop != 0 then some (s.updPart p (fun x => { x with running := false }))
  else if causes = [] then some (s.lapBegin p)
  else some (s.holdFor p causes 1)

/-- LAP_BOUNDARY: the boundary of the lap's last leg (R54). Its first command closes the record, seals and starts the
digest relay; it goes on once the relay is complete, and waits again where a move waits for a sweep. `cycles` are the
CCLK cycles of its elastic steps. -/
def State.lapBoundary (s : State) (p cycles : Nat) : State :=
  let x := s.part p
  match x.bound, s.nextLeg p (s.leg p) with
  | some b, none =>
    if !s.enabled p || !s.isRunning p || x.stop != 0 then s else
    let s := if x.atLap then s else (s.toB40 p b).updPart p (fun x => { x with atLap := true })
    if (s.part p).stop != 0 then s else
    let s := if (s.rly p).digest.isSome then s else s.lapClose p
    match (s.rly p).digest with
    | some r =>
      if !r.done || (s.part p).stop != 0 then s else
      ((s.updPart p (fun x => { x with lapCycles := x.lapCycles + cycles })).lapRest p r.acc).getD s
    | none => s
  | _, _ => s

/-! ## START, RESUME and STOP -/

/-- Run state that neither a STOP nor an opening boundary keeps: the abandoned lap's journal, held completions, triggers and
tokens (R67). -/
def State.clearRun (s : State) (p : Nat) : State :=
  let s := s.updPart p (fun x => { x with
    running := false, stop := 0, lCode := 0, nextRepeat := false, word := 0, cycle := 0, now := 0, sched := 0, pace := none, paceIdx := 0
    bound := none, folded := false, staged := none, loops := [], tokens := [], tokPend := [], outstanding := [], record := []
    held := [], journal := [], journalUsed := 0, journalOverflow := false, holdReq := false, hostLostReq := false, atLap := false
    configBad := false, replayed := [], replayRing := false, resumeAt := 0, lapHolds := [], owed := none, lapStateOpen := none
    cal := [], trigs := [], trigHeld := [], queueHeld := [], placeWork := [], nonfin := [], deadline := false
    emb := { deferred := x.emb.deferred }, rly := { deferred := x.rly.deferred } })
  { s with greqs := s.greqs.filter (fun g => !(g.part = p && g.ctx = 0)) }

/-- The opening boundary opens the intake segments from `lap` on; segments the ring does not have are unused (R416). -/
def State.intakeOpen (s : State) (p lap : Nat) : State :=
  let n := if s.segSize p = 0 then 0 else s.rdF R.HST_INTAKE_RING F.HST_INTAKE_RING_SEGMENTS_M1 p 0 + 1
  let laps := (List.range n).map (fun i => (lap + i) % 2 ^ 32)
  (s.wr R.HST_INTAKE_STATUS p 0 (lap * 2 ^ 32 + (2 ^ 32 - 4 ^ n))).updPart p (fun x => { x with
    segLap := laps.foldl (fun m l => Sp.put (l % n) l m) [], segDigest := [], closing := none })

/-- START: the opening boundary (R60, R61). -/
def State.start (s : State) (p : Nat) : State :=
  if !s.enabled p || s.pState p != stReady || s.chip.fatal || !s.configOk p then s.startRejected p else
  let s := (s.clearRun p).setPState p s.runCode
  let arms := s.armLeg p ||| s.armLap p
  let s := (s.applyLeg p).applyLap p
  let s := if p = 0 then s.applyLapChip else s
  let s := (s.swapArmed p arms (s.gen p)).applyGuard p
  let lap := s.rdF R.SEQ_LAP_NUMBERS F.SEQ_LAP_NUMBERS_START_LAP p 0
  let s := ((s.setLap p lap).intakeOpen p lap).setPos p [(F.SEQ_POSITION_LEG, 0), (F.SEQ_POSITION_ATTEMPT, 0)]
  let s := ((s.mapChecks p).lapStart p).applySubst p
  if (s.part p).stop != 0 then s else
  let (s, has) := s.loadReplay p lap
  if has then s.lapBegin p else s.holdFor p [9] 1

/-- RESUME continues a HELD or DETACHED partition (R62, R66, R72, R420, R482, R485); in any other state it does nothing. -/
def State.resume (s : State) (p : Nat) : State :=
  let st := s.pState p
  let x := s.part p
  if !s.enabled p || (st != stHeld && st != stDetached) then s
  else if (st = stDetached && s.hostLostBit) || x.shapeLost || (x.configBad && !s.configOk p) then s.resumeRejected p
  else
    let (s, written) := s.writeOwed p
    if !written then s.resumeRejected p else
    let s := ((s.setPState p s.runCode).setPos p [(F.SEQ_POSITION_HOLD_CAUSE, 0)]).applySubst p
    let s := if x.configBad then (s.lapApply p).updPart p (fun x => { x with configBad := false }) else s
    if (s.part p).stop != 0 then s else
    match x.resumeAt with
    | 0 => match s.nextLeg p (s.leg p) with
      | some k => s.nextLegBegin p k
      | none => s
    | 1 =>
      let (s, has) := s.loadReplay p (s.lap p)
      if has then s.lapBegin p else s.holdFor p [9] 1
    | _ =>
      let a := min (s.attempt p + 1) 3
      (s.reexecRec p (s.leg p) x.lCode a).beginLeg p (s.leg p) a

/-- STOP abandons the run of a HELD or DETACHED partition (R67); in any other state it does nothing. -/
def State.stop (s : State) (p : Nat) : State :=
  if !s.enabled p || (s.pState p != stHeld && s.pState p != stDetached) then s else
  let s := ((s.ledgerDiscard p).clearRun p).trigZero p
  let mine (e : Nat × List Byte) : Bool := s.partOfVc (pkVc e.2) = p
  let s := { s with heldPkts := s.heldPkts.filter (fun e => !mine e) }
  (s.setPos p [(F.SEQ_POSITION_HOLD_CAUSE, 0), (F.SEQ_POSITION_IN_BOUNDARY, 0)]).setPState p stReady

/-! ## Events of the leg in progress -/

/-- A leg attempt of partition `p` is in progress. -/
def State.legRunning (s : State) (p : Nat) : Bool :=
  s.enabled p && s.isRunning p && (s.part p).running && (s.part p).stop = 0 && (s.part p).bound.isNone

/-- COURSE_STAGING_DONE (R101). -/
def State.stagingDone (s : State) (p : Nat) : State :=
  if s.legRunning p && (s.part p).staged.isNone then s.updPart p (fun x => { x with staged := some (s.courseAhead p) }) else s

/-- LEDGER_FOLD (R280): after the END_LEG word with every token at zero; the lap's last fold waits for the sweeps of
earlier laps (R298). -/
def State.foldLeg (s : State) (p : Nat) : State :=
  let x := s.part p
  match x.pace with
  | some w =>
    if !s.legRunning p || !w.endLeg || x.folded || !x.tokensZero 0xFFFFFFFF || x.tokPend != [] then s
    else if (s.nextLeg p (s.leg p)).isNone && s.sweepsBefore p (s.lap p) then s
    else (s.ledgerFold p).updPart p (fun x => { x with folded := true })
  | none => s

/-- LAP_STATE_FINAL (R435): no sweep is unfinished on any stack. -/
def State.lapStateFinal (s : State) (p : Nat) : State :=
  match (s.part p).lapStateOpen with
  | none => s
  | some a =>
    if (List.range 12).any (fun k => s.sweepsOf k != []) then s else
    let lanes := (List.range 4).map (fun j =>
      (s.rd R.GLB_WEIGHT_DIGEST p j + ((s.part p).delta.map (fun e => e.2.getD j 0)).sum) % 2 ^ 64)
    ((s.save (a + 0x10) (lanes.flatMap (leBytes 8))).saveN (a + 6) 2 1).updPart p (fun x => { x with lapStateOpen := none })

/-- PACED_DEADLINE (R73, R74, R268); in replay deadlines are ignored (R76). -/
def State.pacedDeadline (s : State) (p : Nat) : State :=
  if !s.legRunning p || !s.pacedLeg p || s.replayOn p || (s.part p).deadline then s else
  ((s.updPart p (fun x => { x with deadline := true })).embDeadline p).rlyDeadline p

/-- PEER_STALL_TIMEOUT: a strict wait at an exchange pace point, or a wait of the digest relay, has lasted STALL_LIMIT_MS; it
is reported once and goes on. -/
def State.peerStall (s : State) (p peer qp seq : Nat) : State :=
  let x := s.part p
  let wait := (x.pace.isSome && s.legKind p = 3 && !s.pacedLeg p)
    || (x.atLap && (match x.rly.digest with | some r => !r.done | none => false))
  if !s.isRunning p || !wait || x.stallSeen || s.effF R.SEQ_LAP_CONFIG F.SEQ_LAP_CONFIG_STALL_LIMIT_MS p 0 = 0 then s
  else (s.updPart p (fun x => { x with stallSeen := true })).event E.PEER_STALL p (formP peer qp seq) 0

/-! ## The commands -/

/-- START (R60, R61). -/
def execStart (part : Nat) (s : State) : Host.Outcome State Fault Refusal := .next (s.start part)
/-- RESUME (R62, R66). -/
def execResume (part : Nat) (s : State) : Host.Outcome State Fault Refusal := .next (s.resume part)
/-- STOP (R67). -/
def execStop (part : Nat) (s : State) : Host.Outcome State Fault Refusal := .next (s.stop part)
/-- HOLD_NEXT (R63). -/
def execHoldNext (part : Nat) (s : State) : Host.Outcome State Fault Refusal := .next (s.holdNext part)
/-- COURSE_STAGING_DONE (R101). -/
def execCourseStagingDone (part : Nat) (s : State) : Host.Outcome State Fault Refusal := .next (s.stagingDone part)
/-- LEDGER_FOLD (R280). -/
def execLedgerFold (part : Nat) (errs : List (Nat × Nat)) (s : State) : Host.Outcome State Fault Refusal :=
  .next ((s.plant errs).foldLeg part)
/-- COMPLETION_BOUNDARY (R53). -/
def execCompletionBoundary (part : Nat) (errs : List (Nat × Nat)) (s : State) : Host.Outcome State Fault Refusal :=
  .next ((s.plant errs).completionBoundary part)
/-- LAP_BOUNDARY (R54). -/
def execLapBoundary (part cycles : Nat) (errs : List (Nat × Nat)) (s : State) : Host.Outcome State Fault Refusal :=
  .next ((s.plant errs).lapBoundary part cycles)
/-- LAP_STATE_FINAL (R435). -/
def execLapStateFinal (part : Nat) (s : State) : Host.Outcome State Fault Refusal := .next (s.lapStateFinal part)
/-- REPEAT_BOUNDARY (R77). -/
def execRepeatBoundary (part cycles : Nat) (s : State) : Host.Outcome State Fault Refusal :=
  .next (s.repeatBoundary part cycles)
/-- FAILING_BOUNDARY (R467). -/
def execFailingBoundary (part : Nat) (s : State) : Host.Outcome State Fault Refusal := .next (s.failingBoundary part)
/-- PACED_DEADLINE (R73). -/
def execPacedDeadline (part : Nat) (s : State) : Host.Outcome State Fault Refusal := .next (s.pacedDeadline part)
/-- PEER_STALL_TIMEOUT (R486): the peer waited for, its queue pair and sequence number. -/
def execPeerStallTimeout (part peer qp seq : Nat) (s : State) : Host.Outcome State Fault Refusal :=
  .next (s.peerStall part peer qp seq)

end Sys2Proof.Machine
end

