-- ==== Sys2Proof/Machine/Reset.lean ====
section
/-! DEFINITION. Power-on reset and the five requested resets (17_bringup_and_reset.md R494, R510 to R517;
19_package_and_electrical.md R551 to R553, R564). -/

namespace Sys2Proof.Machine

/-! ## What a reset absorbs and ends (Table 17-7) -/

/-- Count `n` absorbed items (R515, R517). -/
def State.absorbed (s : State) (n : Nat) : State := if n = 0 then s else s.count R.CNT_GLB 0 20 n

/-- A request whose data is bound for a scratchpad or an inbox. -/
def GReq.inward (g : GReq) : Bool := g.op = 0x40 || g.op = 0x41 || g.op = 0x44

/-- Backfill tasks of hub `c` that `sel` names end with status 0x07. -/
def State.endTasks (s : State) (c : Nat) (sel : BfTask → Bool) : State :=
  let p := (s.partOfCluster c).getD 0
  let h := s.hub c
  let s := (h.running.filter sel).foldl (fun s t => (s.bfComplete p t 7).bfRemove c t) s
  let s := (h.queue.filter sel).foldl (fun s t => s.bfComplete p t 7) s
  (s.updHub c (fun h => { h with queue := h.queue.filter (fun t => !sel t) })).syncBf c

/-- The memories of core `n` are cleared (Table 17-6); its counters are kept. -/
def State.clearWhole (s : State) (n : Nat) : State :=
  let lo := scratchAddr n 0
  let hi := scratchAddr n 0x200000
  let gone := (s.greqs.filter (fun g => g.core = n && g.inward)).length
  { (s.absorbed gone).setCore n { live := (s.core n).live } with
    greqs := s.greqs.filter (fun g => g.core != n)
    mem := Sp.clearRange lo hi s.mem, gran := Sp.clearRange (lo / 64) (hi / 64) s.gran }

/-- A level-1 reset of core `n`. -/
def State.coreReset (s : State) (n : Nat) : State := (s.endTasks (n / 16) (fun t => bit t.mask (n % 16))).clearWhole n

/-- A level-2 reset of cluster `c`: its cores, its hub with its stage bindings, and static routes that touch it. -/
def State.clusterReset (s : State) (c : Nat) : State :=
  let s := s.endTasks c (fun _ => true)
  let s := (List.range 16).foldl (fun s k => s.clearWhole (16 * c + k)) s
  let s := (s.setHub c {}).syncBf c
  match s.partOfCluster c with
  | some p => s.updPart p (fun x => { x with course := { x.course with
      stages := x.course.stages.mapIdx (fun i e => if i = c then {} else e)
      routes := x.course.routes.filter (fun r => r.srcC != c && r.dstC != c) } })
  | none => s

/-- Host commands of functions that `mine` names end with status 0x07, whether or not they have started. -/
def State.endCmds (s : State) (mine : Nat → Bool) : State :=
  let s := (s.host.cmds.filter (fun c => mine c.fn)).foldl (fun s c => s.hostDone c 7 0 0) s
  let early := s.host.fetched.filter (fun e => mine (qFn (s.que e.1)))
  let s := early.foldl (fun s e => s.cmdEntry { id := 0, sq := e.1, fn := qFn (s.que e.1), bytes := e.2 } 7 0 0) s
  s.host! (fun h => { h with
    fetched := h.fetched.filter (fun e => !early.any (fun f => f.1 = e.1))
    copies := h.copies.filter (fun j => !(j.cmd.isSome && mine j.fn)) })

/-- Reads of host memory whose copy has ended are retired (R402). -/
def State.retireOrphans (s : State) : State :=
  let lone (u : HUse) : Bool := match u with
    | .piece id _ | .flush id => (s.copyJob id).isNone
    | _ => false
  (s.host.reads.filter (fun r => lone r.use)).foldl (fun s r => s.retireTag r.tag) s

/-- What partition `p` has in flight that its reset absorbs: reads bound for its scratchpads, Akcel commands not dealt,
armed triggers and held completions. -/
def State.inFlight (s : State) (p : Nat) : Nat :=
  let x := s.part p
  (s.greqs.filter (fun g => g.part = p && g.inward)).length
    + (x.outstanding.filter (fun c => (c.target = 1 || c.target = 2) && c.opcode = 1)).length
    + ((List.range 24).map (fun i => ((s.pool (i / 2) (i % 2)).filter (fun j => j.cmd.part = p && !j.taken)).length)).sum
    + x.trigs.length + x.held.length

/-- A failing boundary whatever stopped the partition (R512, R513). -/
def State.forceFail (s : State) (p : Nat) : State := (s.updPart p (fun x => { x with stop := 2 })).failingBoundary p

/-- A level-3 reset of partition `p` up to its end (R512). The partition's registers, course bank, keys and ring
positions stay. -/
def State.partitionReset (s : State) (p : Nat) : State :=
  let s := s.absorbed (s.inFlight p)
  let s := if s.isRunning p then s.forceFail p else s
  let fns := cfgFns (s.rd R.GLB_PART_CONFIG 0 p)
  let s := (s.endCmds (fun f => f ∈ fns)).retireOrphans
  let cl := bitList (s.rd R.GLB_PART_CLUSTERS 0 p) s.clusterCount
  let s := cl.foldl (fun s c => s.clusterReset c) s
  let s := ((s.ledgerDiscard p).clearRun p).trigZero p
  s.updPart p (fun x => { x with course := {} })

/-- The end of a partition reset: held packets of its queue pairs are absorbed, and it is READY, unless a class F error has
come (R512, R516). -/
def State.partitionResetEnd (s : State) (p : Nat) : State :=
  let mine (e : Nat × List Byte) : Bool := s.partOfVc (pkVc e.2) = p
  let s := { s.absorbed (s.heldPkts.filter mine).length with heldPkts := s.heldPkts.filter (fun e => !mine e) }
  (s.setPos p [(F.SEQ_POSITION_HOLD_CAUSE, 0), (F.SEQ_POSITION_IN_BOUNDARY, 0)]).setPState p stReady

/-! ## Chip resets -/

/-- A register a warm-chip reset keeps (Table 17-6). Counters are cleared. -/
def Card.keptWarm (c : Card) : Bool :=
  !c.isCounter && (match c.blk with
  | .glb => !([R.GLB_REMAP_STATUS, R.GLB_CLUSTER_REMAP, R.GLB_SPARE_STATUS, R.GLB_ERR_FATAL, R.GLB_ERR_FATAL_LAP,
      R.GLB_ERR_FATAL_DATA, R.GLB_FENCE_REQ, R.GLB_BRINGUP_CMD, R.GLB_BRINGUP_STATUS].any c.same)
  | .crc => [R.CRC_DROOP_CTRL, R.CRC_RESET_STATUS].any c.same
  | .rly => [R.RLY_FABRIC_DIMS, R.RLY_FABRIC_COORD, R.RLY_TIME_CTRL, R.RLY_TIME_STATUS].any c.same
  | .hbm => c.same R.HBM_SCRUB
  | .blk => c.same R.BLK_CTRL
  | .fab | .hst | .que | .sec | .mgt => true
  | .seq | .clu | .emb | .tel => false)

/-- The registers that a warm-chip reset keeps. -/
def keepRegs (regs : Sp Nat) : Sp Nat :=
  regs.filter (fun e => match regName e.1 with
    | some (r, _) => r.card.keptWarm
    | none => false)

/-- A running routine ends with ERROR 0x07 (R516). -/
def State.abortRoutine (s : State) (was : Nat) : State :=
  if F.GLB_BRINGUP_STATUS_BUSY.get was = 0 then s else
  s.wrFs R.GLB_BRINGUP_STATUS 0 0 [(F.GLB_BRINGUP_STATUS_END, 1), (F.GLB_BRINGUP_STATUS_ERROR, 7),
    (F.GLB_BRINGUP_STATUS_LAST, F.GLB_BRINGUP_STATUS_LAST.get was)]

/-- A port at a warm-chip reset: OFF, its link layer empty, its settings kept. -/
def State.portOffWarm (s : State) (q : Nat) : State :=
  let ok := s.laserOk q
  let gone := (s.port q).txq.length + (s.port q).rxq.length + (s.port q).owed.length
  let s := (s.absorbed gone).updPort q (fun x => { noRef := x.noRef })
  let s := (s.wrF R.FAB_LINK_CTRL F.FAB_LINK_CTRL_ENABLE q 0 0).wr R.FAB_LINK_STATUS q 0 (R.FAB_LINK_STATUS.rst q 0)
  ((s.wr R.FAB_LANE_STATUS q 0 (R.FAB_LANE_STATUS.rst q 0)).setLinkF F.FAB_LINK_STATUS_LASER_OK q (b2n ok)).setPort4 q psOff

/-- What a partition keeps over a warm-chip reset: its key, its staged far rows, its candidate lists, its deferred
contributions and its intake segments, all of them in memory. -/
def Part.warm (x : Part) : Part :=
  { keyId := x.keyId, farIdx := x.farIdx, cand := x.cand, emb := { deferred := x.emb.deferred }, rly := { deferred := x.rly.deferred }
    segLap := x.segLap, segDigest := x.segDigest, enabling := x.enabling }

/-- A warm-chip reset up to the reboot of the management controller (R513). -/
def State.warmReset (s : State) : State :=
  let was := s.rd R.GLB_BRINGUP_STATUS 0 0
  let s := s.saveRepairs
  let s := s.enabledParts.foldl (fun s p => (s.absorbed (s.inFlight p)).forceFail p) s
  let s := (List.range s.clusterCount).foldl (fun s c => s.endTasks c (fun _ => true)) s
  let s := s.endCmds (fun _ => true)
  let s := s.host.reads.foldl (fun s r => s.retireTag r.tag) s
  let s := (s.host! (fun h => { h with copies := [], stopping := [] }))
  let s := s.host.enabledQ.foldl (fun s q => s.queOff q) s
  let s := s.tagUse.foldl (fun s t => s.tagRelease t) s
  let s := { s.absorbed s.heldPkts.length with heldPkts := [] }
  let s := (List.range 8).foldl (fun s q => s.portOffWarm q) s
  let s := s.wipeClusters (List.range 64)
  let s := { s with
    regs := keepRegs s.regs
    parts := (s.parts.map (fun (e : Nat × Part) => (e.1, e.2.warm))).filter (fun e => e.2 != ({} : Part))
    phys := {}, cores := [], hubs := [], greqs := [], pools := [], sweeps := [], scrubPos := [], scrubRows := [], repair := []
    tel := {}
    chip := { s.chip with
      fatal := false, noRoot := false, parent := none, gunSeq := 0, gunNow := false, gunPins := [], routine := 0, trained := 0
      fallback := false, warm := true, warming := true, falling := false, droop := false, throttle := 0 } }
  let s := s.sec! (fun x => { x with stage := [], sessions := [], fwOp := 0 })
  let s := (s.wrF R.SEC_FWUP_CTRL F.SEC_FWUP_CTRL_BUSY 0 0 0).abortRoutine was
  let s := s.wrFs R.GLB_STATE 0 0 [(F.GLB_STATE_STATE, stBringup), (F.GLB_STATE_ANY_FENCED, 0)]
  let s := if !s.isRoot && s.timeState = 1 then s.setTimeF F.RLY_TIME_STATUS_STATE 2 else s
  let s := s.wrF R.CRC_RESET_STATUS F.CRC_RESET_STATUS_WARM_COUNT 0 0
    (min 65535 (s.rdF R.CRC_RESET_STATUS F.CRC_RESET_STATUS_WARM_COUNT 0 0 + 1))
  s.enabledParts.foldl (fun s p => s.wrF R.GLB_PART_CONFIG F.GLB_PART_CONFIG_STATE 0 p stBringup) s

/-- What outlives power-on and cold-chip resets: the queue of commands, what left the block, host memory, the flash, the
package and the standby island. -/
def State.coldBase (s : State) : State :=
  let rec_ := s.rd R.CRC_RESET_STATUS 0 0
  { State.reset with
    pending := s.pending, out := s.out, free := s.free, mem := s.mem.filter (fun e => hostBase ≤ e.1)
    chip := { nextKey := s.chip.nextKey }
    sec := { recA := s.sec.recA, recB := s.sec.recB, slotA := s.sec.slotA, slotB := s.sec.slotB, svn := s.sec.svn
             savedA := s.sec.savedA, savedB := s.sec.savedB }
    mgt := { standby := s.mgt.standby }
    host := { link := min 1 s.host.link }
    pkg := s.pkg
    regs := if rec_ = 0 then [] else Sp.put (R.CRC_RESET_STATUS.addr 0 0) rec_ [] }

/-- The management controller starts: the chip is in BRINGUP (R494), its enabled partitions show a chip before READY
(GLB_PARTp_CONFIG.STATE), and its dynamic address is gone (R552). -/
def State.wake (s : State) : State :=
  let s := s.loseAddr
  let s := s.enabledParts.foldl (fun s p => s.wrF R.GLB_PART_CONFIG F.GLB_PART_CONFIG_STATE 0 p stBringup) s
  (s.boot.wrF R.GLB_STATE F.GLB_STATE_STATE 0 0 stBringup).mgt! (fun m => { m with joinDue := m.standby && s.dynAddr = 0 })

/-! ## Requests (R510, R516) -/

def State.resetBusy (s : State) : Bool := s.rdF R.CRC_RESET_STATUS F.CRC_RESET_STATUS_BUSY 0 0 = 1
def State.resetLevel (s : State) : Nat := s.rdF R.CRC_RESET_STATUS F.CRC_RESET_STATUS_LEVEL 0 0

/-- The cluster of a core or cluster reset may be reset now (Table 17-5). -/
def State.unitIdle (s : State) (c : Nat) : Bool :=
  s.chipState = stBringup || (match s.partOfCluster c with
    | none => true
    | some p => !s.isRunning p && s.pState p != stBringup)

/-- ERROR of a request: 0 where it is accepted. `sure` is a confirmed one. -/
def State.resetErr (s : State) (level target : Nat) (sure : Bool) : Nat :=
  match level with
  | 1 => if s.coreCount ≤ target then 1 else if s.unitIdle (target / 16) then 0 else 2
  | 2 => if s.clusterCount ≤ target then 1 else if s.unitIdle target then 0 else 2
  | 3 => if 64 ≤ target then 1 else if s.enabled target && !(s.part target).enabling then 0 else 2
  | 4 | 5 => if sure then 0 else 3
  | _ => 1

/-- An accepted request acts. -/
def State.resetAct (s : State) (level target : Nat) : State :=
  match level with
  | 1 => s.coreReset target
  | 2 => s.clusterReset target
  | 3 => s.partitionReset target
  | 4 => s.warmReset
  | _ => s.saveRepairs.coldBase

/-- A reset request; `mgmt` is one of the management controller. One that comes while another runs counts, unless it is
for a chip reset that supersedes it. -/
def State.resetRequest (s : State) (level target : Nat) (sure mgmt : Bool) : State :=
  let chip := level = 4 || level = 5
  if s.resetBusy && !(chip && s.resetLevel < level) then (if chip then s else s.regErr) else
  let err := s.resetErr level target sure
  if err != 0 then
    (s.wrFs R.CRC_RESET_STATUS 0 0 (if s.resetBusy then [(F.CRC_RESET_STATUS_ERROR, err)]
      else [(F.CRC_RESET_STATUS_ERROR, err), (F.CRC_RESET_STATUS_LEVEL, level)])).regErr
  else
    let s := s.wrFs R.CRC_RESET_STATUS 0 0 [(F.CRC_RESET_STATUS_ERROR, 0), (F.CRC_RESET_STATUS_LEVEL, level),
      (F.CRC_RESET_STATUS_DONE, 0), (F.CRC_RESET_STATUS_BUSY, 1)]
    let s := if chip then s.wrF R.CRC_RESET_STATUS F.CRC_RESET_STATUS_CAUSE 0 0 ((if level = 5 then 1 else 2) + (if mgmt then 2 else 0)) else s
    (s.resetAct level target).chip! (fun c => { c with resetTarget := target })

/-- A write of CRC_RESET_CTRL. -/
def State.writeReset (s : State) (v : Nat) (mgmt : Bool) : State :=
  let s := if s.resetBusy then s else s.wr R.CRC_RESET_CTRL 0 0 (v &&& 0x3FF0007)
  if !bit v 63 then s else
  s.resetRequest (F.CRC_RESET_CTRL_LEVEL.get v) (F.CRC_RESET_CTRL_TARGET.get v) (F.CRC_RESET_CTRL_CONFIRM.get v = 0x5E7A) mgmt

/-- RESET_DONE: the reset in progress ends. -/
def State.resetDone (s : State) : State :=
  if !s.resetBusy then s else
  let fin (s : State) (err : Nat) : State := s.wrFs R.CRC_RESET_STATUS 0 0
    [(F.CRC_RESET_STATUS_ERROR, err), (F.CRC_RESET_STATUS_DONE, 1), (F.CRC_RESET_STATUS_BUSY, 0)]
  match s.resetLevel with
  | 3 => if s.chip.fatal then fin s 4 else fin (s.partitionResetEnd s.chip.resetTarget) 0
  | 4 => fin (s.chip! (fun c => { c with warming := false })).boot 0
  | 5 => fin (if s.pkg.testMode then s else s.wake) 0
  | _ => fin s 0

/-! ## Power-on (R494, R553, R564) -/

/-- POWER_ON_RESET: PWROK or RESET_IN_N falls. THERMTRIP_N is released. -/
def State.powerOn (s : State) : State :=
  let s := { s with regs := Sp.del (R.CRC_RESET_STATUS.addr 0 0) s.regs }
  { s.coldBase with pkg := { por := true }, out := if s.pkg.tripped then s.out ++ [.pin "THERMTRIP_N" 1] else s.out }

/-- POWER_ON_RESET_END with the level of TEST_MODE; a part in test mode stays in COLD. -/
def State.powerOnEnd (s : State) (testMode : Bool) : State :=
  if !s.pkg.por then s else
  let s := s.pkg! (fun p => { p with por := false, testMode := testMode })
  if testMode then s else s.wake

/-! ## The commands -/

/-- POWER_ON_RESET (R553). -/
def execPowerOnReset (s : State) : Host.Outcome State Fault Refusal := .next s.powerOn
/-- POWER_ON_RESET_END (R494, R564). -/
def execPowerOnResetEnd (testMode : Bool) (s : State) : Host.Outcome State Fault Refusal := .next (s.powerOnEnd testMode)
/-- CORE_RESET (R510). -/
def execCoreReset (core : Nat) (s : State) : Host.Outcome State Fault Refusal := .next (s.resetRequest 1 core false false)
/-- CLUSTER_RESET (R510). -/
def execClusterReset (cluster : Nat) (s : State) : Host.Outcome State Fault Refusal := .next (s.resetRequest 2 cluster false false)
/-- PARTITION_RESET (R512). -/
def execPartitionReset (part : Nat) (s : State) : Host.Outcome State Fault Refusal := .next (s.resetRequest 3 part false false)
/-- WARM_CHIP_RESET (R513): `confirm` is CONFIRM, `mgmt` a request of the management controller. -/
def execWarmChipReset (confirm : Nat) (mgmt : Bool) (s : State) : Host.Outcome State Fault Refusal :=
  .next (s.resetRequest 4 0 (confirm = 0x5E7A) mgmt)
/-- COLD_CHIP_RESET (R510). -/
def execColdChipReset (confirm : Nat) (mgmt : Bool) (s : State) : Host.Outcome State Fault Refusal :=
  .next (s.resetRequest 5 0 (confirm = 0x5E7A) mgmt)
/-- RESET_DONE (R510). -/
def execResetDone (s : State) : Host.Outcome State Fault Refusal := .next s.resetDone

end Sys2Proof.Machine
end

