-- ==== Sys2Proof/Machine/RegWrite.lean ====
section
/-! DEFINITION. Writing registers (00_scope.md R10 to R15, the registers' own conditions), and the management relay
(17_bringup_and_reset.md R496). -/

namespace Sys2Proof.Machine

/-! ## A write under the access codes (R10) -/

/-- A field's bits of `old` after a write of `v`. -/
def CardField.write (f : CardField) (old v : Nat) : Nat :=
  let o := bits old f.hi f.lo
  let w := bits v f.hi f.lo
  match f.acc with
  | .ro | .wo => o
  | .rw | .rws | .rwl => w
  | .w1c => o ^^^ (o &&& w)
  | .w1s => o ||| w

/-- The stored value of a card after a write of `v`: pending for RWS and RWL fields. -/
def Card.write (c : Card) (old v : Nat) : Nat := c.fields.foldl (fun x f => setBits x f.hi f.lo (f.write old v)) old

def State.putReg (s : State) (r : RegAt) (v : Nat) : State := s.wr r.card r.unit r.idx (r.card.write (s.rd r.card r.unit r.idx) v)

/-- The device accepts a write of `v` to a register that has a condition of its own. -/
def State.regMay (s : State) (r : RegAt) (v : Nat) : Bool :=
  let c := r.card
  if [R.SEQ_REPLAY_POS, R.EMB_PLACE_EPOCH, R.GLB_DIGEST_KEY, R.GLB_WEIGHT_DIGEST, R.HST_INTAKE_RING].any c.same then
    s.pState r.unit = stReady
  else if [R.HBM_SCRUB, R.BLK_CTRL, R.CRC_DROOP_CTRL, R.HST_BIAS_TABLE, R.QUE_TABLE].any c.same then s.calm
  else if [R.HST_CPL_STORE, R.TEL_REPORT_RING].any c.same then s.inReady
  else if [R.GLB_PART_CLUSTERS, R.GLB_PART_BANKS, R.GLB_PART_SHARE].any c.same then !s.enabled r.idx
  else if c.same R.QUE_FN_RANGE then
    let n := bits v 48 32
    let first := v % 65536
    let of (f : Nat) : Nat × Nat := (s.rdF R.QUE_FN_RANGE F.QUE_FN_RANGE_FIRST 0 f, s.rdF R.QUE_FN_RANGE F.QUE_FN_RANGE_COUNT 0 f)
    !(s.host.enabledQ.any (fun q => qFn (s.que q) = r.idx)) && (List.range 256).all (fun f =>
      f = r.idx || n = 0 || (of f).2 = 0 || first + n ≤ (of f).1 || (of f).1 + (of f).2 ≤ first)
  else if c.same R.TEL_POWER_CTRL then
    let w := F.TEL_POWER_CTRL_WARN_C.get v
    let t := F.TEL_POWER_CTRL_THROTTLE_C.get v
    let p := F.TEL_POWER_CTRL_POWER_LIMIT_W.get v
    decide (w ≤ 24 ∧ 80 ≤ t ∧ t ≤ 105 ∧ 500 ≤ p ∧ p ≤ 2000)
  else true

/-! ## Registers whose write does more -/

/-- SEQ_RUN_CONTROL: its requests in bit order. -/
def State.writeRun (s : State) (p v : Nat) : State :=
  let s := s.wr R.SEQ_RUN_CONTROL p 0 (R.SEQ_RUN_CONTROL.write (s.rd R.SEQ_RUN_CONTROL p 0) v)
  let s := if bit v 0 then s.start p else s
  let s := if bit v 1 then s.resume p else s
  let s := if bit v 2 then s.holdNext p else s
  if bit v 4 then s.stop p else s

/-- EMB_FAR_DOORBELL: STAGE or RELEASE. -/
def State.farDoorbell (s : State) (p v : Nat) : State :=
  let die := F.EMB_FAR_DOORBELL_DIE.get v
  let slot := F.EMB_FAR_DOORBELL_SLOT.get v
  match F.EMB_FAR_DOORBELL_OP.get v with
  | 1 => (s.stage p die slot).embResume p
  | 2 => s.release p die slot (v % 2 ^ 32)
  | _ => s

/-- GLB_STATE: HOST_LOST clears only while attached (R421). -/
def State.writeGlbState (s : State) (v : Nat) : State :=
  if bit v 5 && s.attached then (s.wrF R.GLB_STATE F.GLB_STATE_HOST_LOST 0 0 0).syncChip else s

/-- A write of `v` to a register; `a` is the AVS step that a CCLK write takes, `mgmt` a write of the management
controller. The relay's control register is not among these. -/
def State.writeReg (s : State) (r : RegAt) (v : Nat) (a : Nat × Nat × Nat) (mgmt : Bool) : State :=
  let c := r.card
  let u := r.unit
  let k := r.idx
  if c.same R.SEQ_RUN_CONTROL then s.writeRun u v
  else if c.same R.SEQ_COURSE_ARM then s.courseArm u v
  else if c.same R.SEQ_COURSE_STORE then s.courseStoreWrite u v
  else if c.same R.SEQ_COURSE_LOAD_CTRL && bit v 0 then s.courseLoadGo u v
  else if c.same R.SEQ_STRIDE_LOAD_CTRL && bit v 41 then s.strideLoadGo u v
  else if c.same R.CLU_BF_TASK then s.bfTaskWrite u k v
  else if c.same R.CLU_BF_LOAD_CTRL && bit v 0 then s.bfLoadGo u k v
  else if c.same R.EMB_FAR_DOORBELL then s.farDoorbell u v
  else if c.same R.AKC_HASH_CTRL && bit v 0 then s.hashGo u v
  else if c.same R.AKC_ENGINE_FENCE then s.writeEngineFence u v
  else if c.same R.GLB_PAGE_ATTR then s.pageAttrWrite v
  else if c.same R.GLB_FENCE_REQ && bit v 63 then s.fenceRequest v
  else if c.same R.GLB_BRINGUP_CMD then s.writeBringup v
  else if c.same R.GLB_PART_CONFIG then s.writePartConfig k v
  else if c.same R.GLB_STATE then s.writeGlbState v
  else if c.same R.CRC_CCLK_SELECT then s.writeCclk (v % 4) a
  else if c.same R.CRC_RESET_CTRL then s.writeReset v mgmt
  else if c.same R.FAB_LINK_CTRL then s.writeLinkCtrl u v
  else if c.same R.FAB_ROLE then s.writeRole u v
  else if c.same R.RLY_FABRIC_DIMS then s.writeDims v
  else if c.same R.RLY_FABRIC_COORD then s.writeChipId v
  else if c.same R.RLY_TIME_CTRL then s.writeTimeCtrl v
  else if c.same R.RLY_TIME_SET then s.timeSet v
  else if c.same R.HST_HEARTBEAT then s.beat v
  else if c.same R.HST_ATTACH then (if bit v 0 then s.attach else s)
  else if c.same R.QUE_ENABLE then s.writeQueEnable v
  else if c.same R.SEC_FWUP_CTRL then s.writeFwup v
  else if c.same R.TEL_GUN_CTRL then s.writeGunCtrl v
  else if !s.regMay r v then s.regErr
  else
    let s := s.putReg r v
    if c.same R.SEQ_LEG_TABLE || c.same R.SEQ_LAP_CONFIG then s.restage u else s

/-! ## The relay (R496) -/

/-- A GO of the relay: the access is made, and ends with RELAY_ACCESS_DONE. An access of the relay to its own control
register meets BUSY. -/
def State.relayGo (s : State) (wide write : Bool) (a : Nat × Nat × Nat) : State :=
  if s.rdF R.MGT_RELAY_CTRL F.MGT_RELAY_CTRL_BUSY 0 0 = 1 then s.regErr else
  let s := s.wrFs R.MGT_RELAY_CTRL 0 0 [(F.MGT_RELAY_CTRL_WIDE, b2n wide), (F.MGT_RELAY_CTRL_WRITE, b2n write),
    (F.MGT_RELAY_CTRL_BUSY, 1), (F.MGT_RELAY_CTRL_DONE, 0)]
  let o := s.rdF R.MGT_RELAY_ADDR F.MGT_RELAY_ADDR_OFFSET 0 0
  let n := if wide then 8 else 4
  match regAccess o n with
  | none => ((s.badAccess o).wr R.MGT_RELAY_DATA 0 0 (if write then s.rd R.MGT_RELAY_DATA 0 0 else 0)).mgt! (fun m => { m with relayErr := 1 })
  | some (r, im) =>
    let s := s.mgt! (fun m => { m with relayErr := 0 })
    let v := s.rd R.MGT_RELAY_DATA 0 0 % 2 ^ (8 * n)
    if !write then s.wr R.MGT_RELAY_DATA 0 0 (s.regValue r im)
    else if im then s
    else if r.card.same R.MGT_RELAY_CTRL then (if bit v 0 then s.regErr else s.putReg r v)
    else s.writeReg r v a true

/-- RELAY_ACCESS_DONE. -/
def State.relayDone (s : State) : State :=
  if s.rdF R.MGT_RELAY_CTRL F.MGT_RELAY_CTRL_BUSY 0 0 = 0 then s else
  s.wrFs R.MGT_RELAY_CTRL 0 0 [(F.MGT_RELAY_CTRL_BUSY, 0), (F.MGT_RELAY_CTRL_DONE, 1), (F.MGT_RELAY_CTRL_ERROR, s.mgt.relayErr)]

/-! ## Writes of a requester -/

/-- A write of `n` bytes at offset `o` (R15). Effective images and snapshots are read-only (R13, R531). -/
def State.regWrite (s : State) (o n v : Nat) (a : Nat × Nat × Nat) (mgmt : Bool) : State :=
  match regAccess o n with
  | none => s.badAccess o
  | some (_, true) => s
  | some (r, false) =>
    let v := v % 2 ^ r.card.width
    if r.card.same R.MGT_RELAY_CTRL then
      (if bit v 0 then s.relayGo (bit v 2) (bit v 1) a else s.putReg r v)
    else s.writeReg r v a mgmt

/-- The blocks that PF0's BAR0 decodes: none in COLD; all once the chip has been READY; before, five, and in recovery two (R394,
R459). -/
def State.barOpen (s : State) (o : Nat) : Bool :=
  let inBlk (b : Blk) : Bool := o / 2 ^ 24 = b.base / 2 ^ 24
  if s.chipState = stCold then false
  else if s.rdF R.SEC_FW_STATUS F.SEC_FW_STATUS_RECOVERY 0 0 = 1 then inBlk .glb || inBlk .sec
  else s.chip.everReady || [Blk.glb, .crc, .sec, .mgt, .tel].any inBlk

/-! ## The commands -/

/-- REG_WRITE: PF0 writes `bytes` bytes at offset `offset` of BAR0 (R10, R393, R394). `fails`, `status` and `readMv` are
the AVS step of a CCLK write. -/
def execRegWrite (offset bytes value fails status readMv : Nat) (s : State) : Host.Outcome State Fault Refusal :=
  .next (if offset < 2 ^ 29 && s.barOpen offset then s.regWrite offset bytes value (fails, status, readMv) false else s)
/-- RELAY_READ (R496). -/
def execRelayRead (wide : Bool) (s : State) : Host.Outcome State Fault Refusal := .next (s.relayGo wide false (0, 0, 0))
/-- RELAY_WRITE (R496). -/
def execRelayWrite (wide : Bool) (fails status readMv : Nat) (s : State) : Host.Outcome State Fault Refusal :=
  .next (s.relayGo wide true (fails, status, readMv))
/-- RELAY_ACCESS_DONE (R496). -/
def execRelayAccessDone (s : State) : Host.Outcome State Fault Refusal := .next s.relayDone

end Sys2Proof.Machine
end

