-- ==== Sys2Proof/Machine/Buzeik.lean ====
section
/-! DEFINITION. Buzeik, the management port's own messages (18_management_and_telemetry.md R525 to R527; 19_package_and_
electrical.md R552). Transports: 0 I3C, 1 PCIe VDM. -/

namespace Sys2Proof.Machine

/-- A Buzeik message with RQ and INSTANCE in `inst` (Table 18-3). -/
def bzBytes (cmd inst status : Nat) (body : List Byte) : List Byte :=
  [0x7E] ++ beBytes 2 Config.pciVendor.toNat ++ [0x01] ++ leBytes 1 cmd ++ leBytes 1 inst ++ leBytes 1 status ++ [0x00] ++ body

def State.bzSay (s : State) (t cmd inst status : Nat) (body : List Byte) : State :=
  s.mctpSend t (bzBytes cmd (inst % 32) status body) true

/-- Answers that wait to be read over I3C. -/
def State.bzHeld (s : State) : Nat := (s.mgt.packets.filter (fun p => p.answer && p.last)).length

/-- Handle a request: `f` gives the state, the STATUS and the body. `early` marks what the standby island answers before
the firmware runs (R552). -/
def State.bzIf (s : State) (t inst cmd : Nat) (early : Bool) (f : State → State × Nat × List Byte) : State :=
  if !s.mctpReach t then s
  else if t = 0 && 8 ≤ s.bzHeld then s.bzSay t cmd inst 3 []
  else if !s.fwUp && !early then s.bzSay t cmd inst 4 []
  else
    let r := f s
    r.1.bzSay t cmd inst r.2.1 r.2.2

/-- A register write as the management controller; one that the register refuses has a STATUS the spec does not give
(log 50). -/
def State.bzWrite (s : State) (o n v : Nat) (a : Nat × Nat × Nat) : State × Nat × List Byte :=
  if (regAccess o n).isNone then (s.badAccess o, 1, []) else
  let old := s.rd R.CNT_GLB 0 4
  let s := s.regWrite o n v a true
  if s.rd R.CNT_GLB 0 4 = old then (s, 0, [])
  else
    let k := s.takeFree
    (k.2, (Config.writeStatus k.1).toNat, [])

/-- The offset lies in block `b`. -/
def inBlock (b : Blk) (o : Nat) : Bool := o / 2 ^ 24 = b.base / 2 ^ 24

/-- Index in the event log of the first record at or after sequence number `n` (R527). -/
def State.logFrom (s : State) (n : Nat) : Nat :=
  let first := (s.logNext + 2 ^ 32 - s.log.length) % 2 ^ 32
  let d := (n % 2 ^ 32 + 2 ^ 32 - first) % 2 ^ 32
  if d < s.log.length then d else if 2 ^ 31 ≤ d then 0 else s.log.length

/-- READ_EVENTS: the sequence number after the last record returned, the overwritten count and the records. -/
def State.readLog (s : State) (n count : Nat) : List Byte :=
  let i := s.logFrom n
  let l := (s.log.drop i).take count
  let next := (s.logNext + 2 ^ 32 - s.log.length + i + l.length) % 2 ^ 32
  leBytes 4 next ++ leBytes 4 s.logLost ++ l.flatMap EventRec.bytes

/-- The lap report record of partition `p` and lap `lap`, where the ring holds it (R537). -/
def State.reportOf (s : State) (p lap : Nat) : Option (List Byte) :=
  let ring := s.rd R.TEL_REPORT_RING 0 0
  let n := F.TEL_REPORT_RING_LOG2_ENTRIES.get ring
  let b := s.load (F.TEL_REPORT_RING_BASE.get ring * 4096 + 64 * (lap % 2 ^ n) + 64 * 2 ^ n * p) 64
  if n = 0 || 64 ≤ p || fieldAt b 0 4 != lap || fieldAt b 4 1 != p then none else some b

/-! ## The commands -/

/-- GET_IDENTITY (R525, R552). -/
def execGetIdentity (transport inst : Nat) (s : State) : Host.Outcome State Fault Refusal :=
  .next (s.bzIf transport inst 0x01 true (fun s => (s, 0, leBytes 4 (s.rd R.GLB_DEVICE_ID 0 0) ++ leBytes 8 Config.deviceUid.toNat
    ++ leBytes 8 (s.rd R.SEC_FW_STATUS 0 0) ++ leBytes 4 (s.rd R.RLY_FABRIC_COORD 0 0))))
/-- GET_STATE (R525, R552). -/
def execGetState (transport inst : Nat) (s : State) : Host.Outcome State Fault Refusal :=
  .next (s.bzIf transport inst 0x02 true (fun s => (s, 0, leBytes 4 (s.rd R.GLB_STATE 0 0)
    ++ (List.range 64).flatMap (fun p => leBytes 1 (bits (s.rd R.GLB_PART_CONFIG 0 p) 63 56)))))
/-- READ_REG (R526). -/
def execReadReg (transport inst offset width : Nat) (s : State) : Host.Outcome State Fault Refusal :=
  .next (s.bzIf transport inst 0x03 false (fun s =>
    match regAccess offset width with
    | some (r, im) => (s, 0, leBytes 8 (s.regValue r im))
    | none => (s.badAccess offset, 1, [])))
/-- WRITE_REG: only into MGT and TEL (R526). -/
def execWriteReg (transport inst offset width value : Nat) (s : State) : Host.Outcome State Fault Refusal :=
  .next (s.bzIf transport inst 0x04 false (fun s =>
    if !(inBlock .mgt offset || inBlock .tel offset) then (s, 2, []) else s.bzWrite offset width value (0, 0, 0)))
/-- GET_SENSORS. -/
def execGetSensors (transport inst first count : Nat) (s : State) : Host.Outcome State Fault Refusal :=
  .next (s.bzIf transport inst 0x05 false (fun s =>
    if count = 0 || 64 < count || first = 0 || 128 < first + count then (s, 1, []) else
    (s, 0, (List.range count).flatMap (fun i =>
      let v := s.regValue ⟨R.TEL_SENSOR, 0, first + i⟩ false
      leBytes 2 (first + i) ++ leBytes 2 (bits v 47 32) ++ leBytes 4 (v % 2 ^ 32)))))
/-- GET_SNAPSHOT: `count` snapshot registers from register offset `first` of the block at `block` (R526, R531). -/
def execGetSnapshot (transport inst block first count : Nat) (s : State) : Host.Outcome State Fault Refusal :=
  .next (s.bzIf transport inst 0x06 false (fun s =>
    if count = 0 || 120 < count then (s, 1, []) else
    let offs := (List.range count).map (fun i => block + (first + 8 * i) % imageOff + imageOff)
    match offs.find? (fun o => match regAccess o 8 with
        | some (r, _) => !r.card.hasSnap
        | none => true) with
    | some o => (s.badAccess o, 1, [])
    | none => (s, 0, leBytes 2 (s.rdF R.TEL_GUN_STATUS F.TEL_GUN_STATUS_SEQ 0 0) ++ leBytes 8 (s.rd R.TEL_GUN_FIRE_TIME 0 0)
        ++ offs.flatMap (fun o => leBytes 8 (s.regRead o 8).2))))
/-- ARM_GUN: the TARGET image, then the CTRL image (R533). -/
def execArmGun (transport inst target ctrl : Nat) (s : State) : Host.Outcome State Fault Refusal :=
  .next (s.bzIf transport inst 0x07 false (fun s =>
    let s := (s.wr R.TEL_GUN_TARGET 0 0 target).writeGunCtrl (ctrl % 2 ^ 32)
    (s, 0, leBytes 8 (s.rd R.TEL_GUN_STATUS 0 0))))
/-- RESET: answered, then requested (R526). -/
def execReset (transport inst level confirm : Nat) (s : State) : Host.Outcome State Fault Refusal :=
  .next (
    let ok := (level = 4 || level = 5) && confirm = 0x5E7A
    let t := s.bzIf transport inst 0x08 false (fun s => (s, b2n (!ok), []))
    if ok && s.mctpReach transport && s.fwUp && !(transport = 0 && 8 ≤ s.bzHeld) then t.resetRequest level 0 true true else t)
/-- READ_EVENTS (R527). -/
def execReadEvents (transport inst sequence count : Nat) (s : State) : Host.Outcome State Fault Refusal :=
  .next (s.bzIf transport inst 0x09 false (fun s =>
    if count = 0 || 32 < count then (s, 1, []) else (s, 0, s.readLog sequence count)))
/-- SUBSCRIBE: the last one stands (R526). -/
def execSubscribe (transport inst mask : Nat) (s : State) : Host.Outcome State Fault Refusal :=
  .next (s.bzIf transport inst 0x0A false (fun s =>
    ({ s.mgt! (fun m => { m with subscriber := transport }) with subMask := mask % 64 }, 0, [])))
/-- GET_LAP_REPORT (R537). -/
def execGetLapReport (transport inst part lap : Nat) (s : State) : Host.Outcome State Fault Refusal :=
  .next (s.bzIf transport inst 0x0B false (fun s =>
    match s.reportOf part lap with
    | some b => (s, 0, b)
    | none => (s, 4, [])))
/-- SET_POWER: writes TEL_POWER_CTRL. -/
def execSetPower (transport inst image : Nat) (s : State) : Host.Outcome State Fault Refusal :=
  .next (s.bzIf transport inst 0x0C false (fun s => s.bzWrite (R.TEL_POWER_CTRL.addr 0 0) 4 image (0, 0, 0)))

/-- EVENT_NOTIFY: the oldest waiting notification goes to the subscriber (R526). -/
def execEventNotify (s : State) : Host.Outcome State Fault Refusal :=
  .next (match s.notify with
    | r :: l =>
      if s.fwUp && s.mctpReach s.mgt.subscriber then
        let k := ({ s with notify := l } : State).takeFree
        k.2.mctpSend s.mgt.subscriber (bzBytes 0x80 (128 + (Config.notifyInst k.1).toNat) 0 r.bytes) false
      else s
    | [] => s)
/-- NOTIFY_TIMEOUT: the oldest waiting notification is dropped (R526). -/
def execNotifyTimeout (s : State) : Host.Outcome State Fault Refusal :=
  .next (match s.notify with
    | _ :: l => ({ s with notify := l } : State).count R.CNT_TEL 0 3 1
    | [] => s)

end Sys2Proof.Machine
end

