-- ==== Sys2Proof/Machine/Dispatch.lean ====
section
/-! DEFINITION. The dispatch: one arm per command, each one direct call of its meaning. -/

namespace Sys2Proof.Machine

def exec (i : Instr) (s : State) : Host.Outcome State Fault Refusal :=
  match i with
  | .regWrite offset bytes value fails status readMv => Sys2Proof.Machine.execRegWrite offset bytes value fails status readMv s
  | .powerOnReset => Sys2Proof.Machine.execPowerOnReset s
  | .powerOnResetEnd testMode => Sys2Proof.Machine.execPowerOnResetEnd testMode s
  | .perstDeassert => Sys2Proof.Machine.execPerstDeassert s
  | .fuseLoad => Sys2Proof.Machine.execFuseLoad s
  | .bridgeTrain fast => Sys2Proof.Machine.execBridgeTrain fast s
  | .hbmTrain stackMask fast => Sys2Proof.Machine.execHbmTrain stackMask fast s
  | .bulkTrain channels fast => Sys2Proof.Machine.execBulkTrain channels fast s
  | .opticsUp ports fast => Sys2Proof.Machine.execOpticsUp ports fast s
  | .memTest stackMask channels fast => Sys2Proof.Machine.execMemTest stackMask channels fast s
  | .discover arg => Sys2Proof.Machine.execDiscover arg s
  | .saveSettings => Sys2Proof.Machine.execSaveSettings s
  | .clearSettings => Sys2Proof.Machine.execClearSettings s
  | .ready => Sys2Proof.Machine.execReady s
  | .routineEnd found => Sys2Proof.Machine.execRoutineEnd found s
  | .discoverTimeout => Sys2Proof.Machine.execDiscoverTimeout s
  | .relayRead wide => Sys2Proof.Machine.execRelayRead wide s
  | .relayWrite wide fails status readMv => Sys2Proof.Machine.execRelayWrite wide fails status readMv s
  | .relayAccessDone => Sys2Proof.Machine.execRelayAccessDone s
  | .coreReset core => Sys2Proof.Machine.execCoreReset core s
  | .clusterReset cluster => Sys2Proof.Machine.execClusterReset cluster s
  | .partitionReset part => Sys2Proof.Machine.execPartitionReset part s
  | .warmChipReset confirm mgmt => Sys2Proof.Machine.execWarmChipReset confirm mgmt s
  | .coldChipReset confirm mgmt => Sys2Proof.Machine.execColdChipReset confirm mgmt s
  | .resetDone => Sys2Proof.Machine.execResetDone s
  | .cclkFreqWrite freq fails status readMv => Sys2Proof.Machine.execCclkFreqWrite freq fails status readMv s
  | .cclkRelockDone fails status readMv => Sys2Proof.Machine.execCclkRelockDone fails status readMv s
  | .droopTrip die => Sys2Proof.Machine.execDroopTrip die s
  | .droopStretchEnd cycles => Sys2Proof.Machine.execDroopStretchEnd cycles s
  | .start part => Sys2Proof.Machine.execStart part s
  | .resume part => Sys2Proof.Machine.execResume part s
  | .stop part => Sys2Proof.Machine.execStop part s
  | .holdNext part => Sys2Proof.Machine.execHoldNext part s
  | .courseArmWrite part value => Sys2Proof.Machine.execCourseArmWrite part value s
  | .courseStoreWrite part value => Sys2Proof.Machine.execCourseStoreWrite part value s
  | .courseLoadGo part value => Sys2Proof.Machine.execCourseLoadGo part value s
  | .courseLoadDone part errs => Sys2Proof.Machine.execCourseLoadDone part errs s
  | .courseStagingDone part => Sys2Proof.Machine.execCourseStagingDone part s
  | .strideLoadGo part value => Sys2Proof.Machine.execStrideLoadGo part value s
  | .strideLoadEnd part errs => Sys2Proof.Machine.execStrideLoadEnd part errs s
  | .strideDigestGo part value => Sys2Proof.Machine.execStrideDigestGo part value s
  | .strideDigestEnd part => Sys2Proof.Machine.execStrideDigestEnd part s
  | .strideImageWrite addr bytes poison => Sys2Proof.Machine.execStrideImageWrite addr bytes poison s
  | .strideWordIssue part err => Sys2Proof.Machine.execStrideWordIssue part err s
  | .hold part cluster => Sys2Proof.Machine.execHold part cluster s
  | .dispatch part cluster cue group param cycle word => Sys2Proof.Machine.execDispatch part cluster cue group param cycle word s
  | .rest part cluster group len cycle word => Sys2Proof.Machine.execRest part cluster group len cycle word s
  | .seqLockstep part word mismatch => Sys2Proof.Machine.execSeqLockstep part word mismatch s
  | .pacePoint part cycle cause => Sys2Proof.Machine.execPacePoint part cycle cause s
  | .ledgerFold part errs => Sys2Proof.Machine.execLedgerFold part errs s
  | .completionBoundary part errs => Sys2Proof.Machine.execCompletionBoundary part errs s
  | .lapStateFinal part => Sys2Proof.Machine.execLapStateFinal part s
  | .lapBoundary part cycles errs => Sys2Proof.Machine.execLapBoundary part cycles errs s
  | .repeatBoundary part cycles => Sys2Proof.Machine.execRepeatBoundary part cycles s
  | .failingBoundary part => Sys2Proof.Machine.execFailingBoundary part s
  | .pacedDeadline part => Sys2Proof.Machine.execPacedDeadline part s
  | .peerStallTimeout part peer qp seq => Sys2Proof.Machine.execPeerStallTimeout part peer qp seq s
  | .nop core cycle err => Sys2Proof.Machine.execNop core cycle err s
  | .mma core cycle err => Sys2Proof.Machine.execMma core cycle err s
  | .mmaS core cycle err => Sys2Proof.Machine.execMmaS core cycle err s
  | .mmaRd core cycle err => Sys2Proof.Machine.execMmaRd core cycle err s
  | .mmaLd core cycle err => Sys2Proof.Machine.execMmaLd core cycle err s
  | .vld core cycle err => Sys2Proof.Machine.execVld core cycle err s
  | .vst core cycle err => Sys2Proof.Machine.execVst core cycle err s
  | .vadd core cycle err => Sys2Proof.Machine.execVadd core cycle err s
  | .vsub core cycle err => Sys2Proof.Machine.execVsub core cycle err s
  | .vmul core cycle err => Sys2Proof.Machine.execVmul core cycle err s
  | .vfma core cycle err => Sys2Proof.Machine.execVfma core cycle err s
  | .vmax core cycle err => Sys2Proof.Machine.execVmax core cycle err s
  | .vmin core cycle err => Sys2Proof.Machine.execVmin core cycle err s
  | .vabs core cycle err => Sys2Proof.Machine.execVabs core cycle err s
  | .vneg core cycle err => Sys2Proof.Machine.execVneg core cycle err s
  | .vrcp core cycle err => Sys2Proof.Machine.execVrcp core cycle err s
  | .vrsqrt core cycle err => Sys2Proof.Machine.execVrsqrt core cycle err s
  | .vsqrt core cycle err => Sys2Proof.Machine.execVsqrt core cycle err s
  | .vexp2 core cycle err => Sys2Proof.Machine.execVexp2 core cycle err s
  | .vlog2 core cycle err => Sys2Proof.Machine.execVlog2 core cycle err s
  | .vtanh core cycle err => Sys2Proof.Machine.execVtanh core cycle err s
  | .vdiv core cycle err => Sys2Proof.Machine.execVdiv core cycle err s
  | .vcmp core cycle err => Sys2Proof.Machine.execVcmp core cycle err s
  | .vsel core cycle err => Sys2Proof.Machine.execVsel core cycle err s
  | .vint core cycle err => Sys2Proof.Machine.execVint core cycle err s
  | .vcvti core cycle err => Sys2Proof.Machine.execVcvti core cycle err s
  | .vrnd core cycle err => Sys2Proof.Machine.execVrnd core cycle err s
  | .vreduce core cycle err => Sys2Proof.Machine.execVreduce core cycle err s
  | .vperm core cycle err => Sys2Proof.Machine.execVperm core cycle err s
  | .vcbl core cycle err => Sys2Proof.Machine.execVcbl core cycle err s
  | .vqnt core cycle err => Sys2Proof.Machine.execVqnt core cycle err s
  | .vdqnt core cycle err => Sys2Proof.Machine.execVdqnt core cycle err s
  | .vxadd core cycle err => Sys2Proof.Machine.execVxadd core cycle err s
  | .vxrd core cycle err => Sys2Proof.Machine.execVxrd core cycle err s
  | .vrng core cycle err => Sys2Proof.Machine.execVrng core cycle err s
  | .vaccDyn core cycle err => Sys2Proof.Machine.execVaccDyn core cycle err s
  | .gatherR core cycle err => Sys2Proof.Machine.execGatherR core cycle err s
  | .gatherA core cycle err => Sys2Proof.Machine.execGatherA core cycle err s
  | .scatterG core cycle err => Sys2Proof.Machine.execScatterG core cycle err s
  | .scatterA core cycle err => Sys2Proof.Machine.execScatterA core cycle err s
  | .dsend core cycle err => Sys2Proof.Machine.execDsend core cycle err s
  | .send core cycle err => Sys2Proof.Machine.execSend core cycle err s
  | .recv core cycle err => Sys2Proof.Machine.execRecv core cycle err s
  | .tstamp core cycle err => Sys2Proof.Machine.execTstamp core cycle err s
  | .cntrd core cycle err => Sys2Proof.Machine.execCntrd core cycle err s
  | .gRequestComplete id cycle errs => Sys2Proof.Machine.execGRequestComplete id cycle errs s
  | .restRunEnd core => Sys2Proof.Machine.execRestRunEnd core s
  | .backfillDispatch cluster cycle => Sys2Proof.Machine.execBackfillDispatch cluster cycle s
  | .backfillTaskComplete cluster ctx tag cycle => Sys2Proof.Machine.execBackfillTaskComplete cluster ctx tag cycle s
  | .bfTaskWrite cluster ctx value => Sys2Proof.Machine.execBfTaskWrite cluster ctx value s
  | .bfLoadGo cluster ctx value => Sys2Proof.Machine.execBfLoadGo cluster ctx value s
  | .bfLoadEnd cluster ctx errs => Sys2Proof.Machine.execBfLoadEnd cluster ctx errs s
  | .memRead part binding errs => Sys2Proof.Machine.execMemRead part binding errs s
  | .memWrite part binding errs => Sys2Proof.Machine.execMemWrite part binding errs s
  | .memFillZero part binding errs => Sys2Proof.Machine.execMemFillZero part binding errs s
  | .bulkRead part binding errs => Sys2Proof.Machine.execBulkRead part binding errs s
  | .bulkWrite part binding errs => Sys2Proof.Machine.execBulkWrite part binding errs s
  | .bulkFillZero part binding errs => Sys2Proof.Machine.execBulkFillZero part binding errs s
  | .memCmdComplete part id => Sys2Proof.Machine.execMemCmdComplete part id s
  | .hbmRefresh stack temp => Sys2Proof.Machine.execHbmRefresh stack temp s
  | .bulkRefresh channel => Sys2Proof.Machine.execBulkRefresh channel s
  | .patrolScrub unit err row => Sys2Proof.Machine.execPatrolScrub unit err row s
  | .pageAttrApply value => Sys2Proof.Machine.execPageAttrApply value s
  | .stage part die slot => Sys2Proof.Machine.execStage part die slot s
  | .release part die slot lap => Sys2Proof.Machine.execRelease part die slot lap s
  | .farRecordPost part => Sys2Proof.Machine.execFarRecordPost part s
  | .close part binding errs => Sys2Proof.Machine.execClose part binding errs s
  | .refresh part binding errs => Sys2Proof.Machine.execRefresh part binding errs s
  | .closeComplete part dir => Sys2Proof.Machine.execCloseComplete part dir s
  | .rowRequestResolve id errs => Sys2Proof.Machine.execRowRequestResolve id errs s
  | .caravanSend part slice owner dir tag => Sys2Proof.Machine.execCaravanSend part slice owner dir tag s
  | .requestSegment part qp seg errs => Sys2Proof.Machine.execRequestSegment part qp seg errs s
  | .returnSegment part qp seg => Sys2Proof.Machine.execReturnSegment part qp seg s
  | .reverseSegment part qp seg => Sys2Proof.Machine.execReverseSegment part qp seg s
  | .closeSegment part qp seg => Sys2Proof.Machine.execCloseSegment part qp seg s
  | .closeAckSegment part qp seg => Sys2Proof.Machine.execCloseAckSegment part qp seg s
  | .refreshSegment part qp seg errs => Sys2Proof.Machine.execRefreshSegment part qp seg errs s
  | .refreshRetSegment part qp seg => Sys2Proof.Machine.execRefreshRetSegment part qp seg s
  | .unknownSegment part qp seg => Sys2Proof.Machine.execUnknownSegment part qp seg s
  | .caravanTimeout part kind key fresh => Sys2Proof.Machine.execCaravanTimeout part kind key fresh s
  | .update part binding errs => Sys2Proof.Machine.execUpdate part binding errs s
  | .sweep part binding errs => Sys2Proof.Machine.execSweep part binding errs s
  | .drain part binding errs => Sys2Proof.Machine.execDrain part binding errs s
  | .akcChunkDone stack pool engine fail errs => Sys2Proof.Machine.execAkcChunkDone stack pool engine fail errs s
  | .akcCmdComplete stack pool => Sys2Proof.Machine.execAkcCmdComplete stack pool s
  | .sweepRowDone stack pool engine fail errs => Sys2Proof.Machine.execSweepRowDone stack pool engine fail errs s
  | .akcEngineFenceWrite stack value => Sys2Proof.Machine.execAkcEngineFenceWrite stack value s
  | .hashGo stack value => Sys2Proof.Machine.execHashGo stack value s
  | .hashEnd stack part errs => Sys2Proof.Machine.execHashEnd stack part errs s
  | .frameTransmit port => Sys2Proof.Machine.execFrameTransmit port s
  | .frameReceive port uncorr syms spareOk frame => Sys2Proof.Machine.execFrameReceive port uncorr syms spareOk frame s
  | .ackTimeout port => Sys2Proof.Machine.execAckTimeout port s
  | .laneWindowEnd port => Sys2Proof.Machine.execLaneWindowEnd port s
  | .spareVerifyTimeout port => Sys2Proof.Machine.execSpareVerifyTimeout port s
  | .laserLoss engine => Sys2Proof.Machine.execLaserLoss engine s
  | .laserRestore engine => Sys2Proof.Machine.execLaserRestore engine s
  | .portEnable port on => Sys2Proof.Machine.execPortEnable port on s
  | .retrain port => Sys2Proof.Machine.execRetrain port s
  | .park port => Sys2Proof.Machine.execPark port s
  | .wake port => Sys2Proof.Machine.execWake port s
  | .portParked port => Sys2Proof.Machine.execPortParked port s
  | .portLockDone port locked => Sys2Proof.Machine.execPortLockDone port locked s
  | .portTrainDone port => Sys2Proof.Machine.execPortTrainDone port s
  | .portStageTimeout port => Sys2Proof.Machine.execPortStageTimeout port s
  | .portDownRetry port => Sys2Proof.Machine.execPortDownRetry port s
  | .credit port flit => Sys2Proof.Machine.execCredit port flit s
  | .linkInfo port flit => Sys2Proof.Machine.execLinkInfo port flit s
  | .timeReq port replay exch => Sys2Proof.Machine.execTimeReq port replay exch s
  | .timeResp port replay exch t2 t3 depth sync => Sys2Proof.Machine.execTimeResp port replay exch t2 t3 depth sync s
  | .coord port chip dims origin => Sys2Proof.Machine.execCoord port chip dims origin s
  | .timeExchangeStart => Sys2Proof.Machine.execTimeExchangeStart s
  | .timeHoldoverExpiry => Sys2Proof.Machine.execTimeHoldoverExpiry s
  | .timeWrap => Sys2Proof.Machine.execTimeWrap s
  | .packetRoute port errs => Sys2Proof.Machine.execPacketRoute port errs s
  | .chipIdWrite value => Sys2Proof.Machine.execChipIdWrite value s
  | .timeSet value => Sys2Proof.Machine.execTimeSet value s
  | .collectiveStart part binding errs => Sys2Proof.Machine.execCollectiveStart part binding errs s
  | .collectiveBegin part comm errs => Sys2Proof.Machine.execCollectiveBegin part comm errs s
  | .arm part binding errs => Sys2Proof.Machine.execArm part binding errs s
  | .inc part binding => Sys2Proof.Machine.execInc part binding s
  | .baton part pkt errs => Sys2Proof.Machine.execBaton part pkt errs s
  | .waycredit part pkt errs => Sys2Proof.Machine.execWaycredit part pkt errs s
  | .lead part pkt errs => Sys2Proof.Machine.execLead part pkt errs s
  | .resync part pkt => Sys2Proof.Machine.execResync part pkt s
  | .digest part pkt => Sys2Proof.Machine.execDigest part pkt s
  | .packetKindReserved kind => Sys2Proof.Machine.execPacketKindReserved kind s
  | .batonTimeout part qp => Sys2Proof.Machine.execBatonTimeout part qp s
  | .collectiveComplete part qp => Sys2Proof.Machine.execCollectiveComplete part qp s
  | .triggerStall part => Sys2Proof.Machine.execTriggerStall part s
  | .windowWrite fn offset data poison => Sys2Proof.Machine.execWindowWrite fn offset data poison s
  | .windowRead fn offset len errs => Sys2Proof.Machine.execWindowRead fn offset len errs s
  | .hdmAccess write addr len data poison errs => Sys2Proof.Machine.execHdmAccess write addr len data poison errs s
  | .sqDoorbell fn index value wide => Sys2Proof.Machine.execSqDoorbell fn index value wide s
  | .cqDoorbell fn index value wide => Sys2Proof.Machine.execCqDoorbell fn index value wide s
  | .commandFetch queue errs => Sys2Proof.Machine.execCommandFetch queue errs s
  | .cmdNop id => Sys2Proof.Machine.execCmdNop id s
  | .inlineWrite id => Sys2Proof.Machine.execInlineWrite id s
  | .copyIn id => Sys2Proof.Machine.execCopyIn id s
  | .copyOut id errs => Sys2Proof.Machine.execCopyOut id errs s
  | .copyDone job => Sys2Proof.Machine.execCopyDone job s
  | .intakeCommit id errs => Sys2Proof.Machine.execIntakeCommit id errs s
  | .intakeDigestClose part => Sys2Proof.Machine.execIntakeDigestClose part s
  | .biasSet id => Sys2Proof.Machine.execBiasSet id s
  | .queueCreate id errs => Sys2Proof.Machine.execQueueCreate id errs s
  | .queueDestroy id => Sys2Proof.Machine.execQueueDestroy id s
  | .backfill id => Sys2Proof.Machine.execBackfill id s
  | .backfillLoad id => Sys2Proof.Machine.execBackfillLoad id s
  | .post part binding => Sys2Proof.Machine.execPost part binding s
  | .postStoreReserved part id => Sys2Proof.Machine.execPostStoreReserved part id s
  | .hostCopyOut part binding errs => Sys2Proof.Machine.execHostCopyOut part binding errs s
  | .hostCopyIn part binding errs => Sys2Proof.Machine.execHostCopyIn part binding errs s
  | .intake part binding => Sys2Proof.Machine.execIntake part binding s
  | .cplEntryPost queue => Sys2Proof.Machine.execCplEntryPost queue s
  | .interruptModTimeout queue => Sys2Proof.Machine.execInterruptModTimeout queue s
  | .hostReadCompletion tag status poison data => Sys2Proof.Machine.execHostReadCompletion tag status poison data s
  | .hostReadTimeout tag => Sys2Proof.Machine.execHostReadTimeout tag s
  | .tagQuarantineExpiry tag => Sys2Proof.Machine.execTagQuarantineExpiry tag s
  | .atsInvalidation addr len => Sys2Proof.Machine.execAtsInvalidation addr len s
  | .perstAssert => Sys2Proof.Machine.execPerstAssert s
  | .hotReset => Sys2Proof.Machine.execHotReset s
  | .flrPf0 => Sys2Proof.Machine.execFlrPf0 s
  | .flrVf fn => Sys2Proof.Machine.execFlrVf fn s
  | .linkLossTimeout => Sys2Proof.Machine.execLinkLossTimeout s
  | .heartbeatTimeout => Sys2Proof.Machine.execHeartbeatTimeout s
  | .heartbeatWrite value => Sys2Proof.Machine.execHeartbeatWrite value s
  | .attach => Sys2Proof.Machine.execAttach s
  | .queueEnable queue => Sys2Proof.Machine.execQueueEnable queue s
  | .queueDisable queue => Sys2Proof.Machine.execQueueDisable queue s
  | .partitionEnable part value => Sys2Proof.Machine.execPartitionEnable part value s
  | .partitionEnableDone part => Sys2Proof.Machine.execPartitionEnableDone part s
  | .partitionDisable part => Sys2Proof.Machine.execPartitionDisable part s
  | .hostkeyInstall session payload => Sys2Proof.Machine.execHostkeyInstall session payload s
  | .hostkeyClear session payload => Sys2Proof.Machine.execHostkeyClear session payload s
  | .ideKmProgram session stream key => Sys2Proof.Machine.execIdeKmProgram session stream key s
  | .getVersion transport => Sys2Proof.Machine.execGetVersion transport s
  | .getCapabilities transport => Sys2Proof.Machine.execGetCapabilities transport s
  | .negotiateAlgorithms transport => Sys2Proof.Machine.execNegotiateAlgorithms transport s
  | .getDigests transport => Sys2Proof.Machine.execGetDigests transport s
  | .getCertificate transport slot offset len => Sys2Proof.Machine.execGetCertificate transport slot offset len s
  | .challenge transport slot nonce => Sys2Proof.Machine.execChallenge transport slot nonce s
  | .getMeasurements transport index nonce => Sys2Proof.Machine.execGetMeasurements transport index nonce s
  | .keyExchange transport slot nonce => Sys2Proof.Machine.execKeyExchange transport slot nonce s
  | .finish transport session cert => Sys2Proof.Machine.execFinish transport session cert s
  | .heartbeat transport session => Sys2Proof.Machine.execHeartbeat transport session s
  | .keyUpdate transport session => Sys2Proof.Machine.execKeyUpdate transport session s
  | .endSession transport session => Sys2Proof.Machine.execEndSession transport session s
  | .download => Sys2Proof.Machine.execDownload s
  | .verify => Sys2Proof.Machine.execVerify s
  | .activate => Sys2Proof.Machine.execActivate s
  | .confirm => Sys2Proof.Machine.execConfirm s
  | .fwupEnd flashFail => Sys2Proof.Machine.execFwupEnd flashFail s
  | .fenceRequest value => Sys2Proof.Machine.execFenceRequest value s
  | .meshLaneFail kind die tile dir lane => Sys2Proof.Machine.execMeshLaneFail kind die tile dir lane s
  | .bridgeModuleFail bridge module repaired => Sys2Proof.Machine.execBridgeModuleFail bridge module repaired s
  | .tsvLaneFail stack lane => Sys2Proof.Machine.execTsvLaneFail stack lane s
  | .entdaa addr => Sys2Proof.Machine.execEntdaa addr s
  | .rstdaa => Sys2Proof.Machine.execRstdaa s
  | .setnewda addr => Sys2Proof.Machine.execSetnewda addr s
  | .getpid => Sys2Proof.Machine.execGetpid s
  | .getbcr => Sys2Proof.Machine.execGetbcr s
  | .getdcr => Sys2Proof.Machine.execGetdcr s
  | .getstatus => Sys2Proof.Machine.execGetstatus s
  | .getmrl => Sys2Proof.Machine.execGetmrl s
  | .setmrl len => Sys2Proof.Machine.execSetmrl len s
  | .getmwl => Sys2Proof.Machine.execGetmwl s
  | .setmwl len => Sys2Proof.Machine.execSetmwl len s
  | .enec int hotJoin => Sys2Proof.Machine.execEnec int hotJoin s
  | .disec int hotJoin => Sys2Proof.Machine.execDisec int hotJoin s
  | .rstact action => Sys2Proof.Machine.execRstact action s
  | .unsupportedCcc => Sys2Proof.Machine.execUnsupportedCcc s
  | .hotJoin => Sys2Proof.Machine.execHotJoin s
  | .ibi => Sys2Proof.Machine.execIbi s
  | .setEndpointId transport inst op eid => Sys2Proof.Machine.execSetEndpointId transport inst op eid s
  | .getEndpointId transport inst => Sys2Proof.Machine.execGetEndpointId transport inst s
  | .getEndpointUuid transport inst => Sys2Proof.Machine.execGetEndpointUuid transport inst s
  | .getMctpVersionSupport transport inst typ => Sys2Proof.Machine.execGetMctpVersionSupport transport inst typ s
  | .getMessageTypeSupport transport inst => Sys2Proof.Machine.execGetMessageTypeSupport transport inst s
  | .getVendorDefinedMessageSupport transport inst selector => Sys2Proof.Machine.execGetVendorDefinedMessageSupport transport inst selector s
  | .mctpUnknownType transport typ => Sys2Proof.Machine.execMctpUnknownType transport typ s
  | .getTid transport inst => Sys2Proof.Machine.execGetTid transport inst s
  | .getPldmVersion transport inst typ => Sys2Proof.Machine.execGetPldmVersion transport inst typ s
  | .getPldmTypes transport inst => Sys2Proof.Machine.execGetPldmTypes transport inst s
  | .getPldmCommands transport inst typ => Sys2Proof.Machine.execGetPldmCommands transport inst typ s
  | .getSensorReading transport inst sensor => Sys2Proof.Machine.execGetSensorReading transport inst sensor s
  | .getStateSensorReadings transport inst sensor => Sys2Proof.Machine.execGetStateSensorReadings transport inst sensor s
  | .getPdr transport inst handle => Sys2Proof.Machine.execGetPdr transport inst handle s
  | .getPdrRepositoryInfo transport inst => Sys2Proof.Machine.execGetPdrRepositoryInfo transport inst s
  | .setEventReceiver transport inst enable => Sys2Proof.Machine.execSetEventReceiver transport inst enable s
  | .admitTenant transport inst fromPf0 fn context hash => Sys2Proof.Machine.execAdmitTenant transport inst fromPf0 fn context hash s
  | .getIdentity transport inst => Sys2Proof.Machine.execGetIdentity transport inst s
  | .getState transport inst => Sys2Proof.Machine.execGetState transport inst s
  | .readReg transport inst offset width => Sys2Proof.Machine.execReadReg transport inst offset width s
  | .writeReg transport inst offset width value => Sys2Proof.Machine.execWriteReg transport inst offset width value s
  | .getSensors transport inst first count => Sys2Proof.Machine.execGetSensors transport inst first count s
  | .getSnapshot transport inst block first count => Sys2Proof.Machine.execGetSnapshot transport inst block first count s
  | .armGun transport inst target ctrl => Sys2Proof.Machine.execArmGun transport inst target ctrl s
  | .reset transport inst level confirm => Sys2Proof.Machine.execReset transport inst level confirm s
  | .readEvents transport inst sequence count => Sys2Proof.Machine.execReadEvents transport inst sequence count s
  | .subscribe transport inst mask => Sys2Proof.Machine.execSubscribe transport inst mask s
  | .getLapReport transport inst part lap => Sys2Proof.Machine.execGetLapReport transport inst part lap s
  | .setPower transport inst image => Sys2Proof.Machine.execSetPower transport inst image s
  | .eventNotify => Sys2Proof.Machine.execEventNotify s
  | .notifyTimeout => Sys2Proof.Machine.execNotifyTimeout s
  | .sensorSample id value ok fault warn word cycles => Sys2Proof.Machine.execSensorSample id value ok fault warn word cycles s
  | .pmbusAlert rails => Sys2Proof.Machine.execPmbusAlert rails s
  | .gunArm value => Sys2Proof.Machine.execGunArm value s
  | .gunFireNow value => Sys2Proof.Machine.execGunFireNow value s
  | .snapIn => Sys2Proof.Machine.execSnapIn s
  | .gunFire => Sys2Proof.Machine.execGunFire s
  | .gun body => Sys2Proof.Machine.execGun body s
  | .sysrefLost => Sys2Proof.Machine.execSysrefLost s
  | .oerefLost => Sys2Proof.Machine.execOerefLost s
  | .oerefReturn => Sys2Proof.Machine.execOerefReturn s
  | .extest hstap drive cells => Sys2Proof.Machine.execExtest hstap drive cells s
  | .samplePreload hstap cells => Sys2Proof.Machine.execSamplePreload hstap cells s
  | .idcode hstap => Sys2Proof.Machine.execIdcode hstap s
  | .clamp hstap => Sys2Proof.Machine.execClamp hstap s
  | .highz hstap => Sys2Proof.Machine.execHighz hstap s
  | .bypass hstap => Sys2Proof.Machine.execBypass hstap s
  | .tapReset => Sys2Proof.Machine.execTapReset s
  | .frameLockLost port => Sys2Proof.Machine.execFrameLockLost port s
  | .symbolLockLoss port lane => Sys2Proof.Machine.execSymbolLockLoss port lane s
  | .peerTrainingBegins port => Sys2Proof.Machine.execPeerTrainingBegins port s
  | .freshnessExpiry port => Sys2Proof.Machine.execFreshnessExpiry port s
  | .hostLinkUp flit speed width => Sys2Proof.Machine.execHostLinkUp flit speed width s
  | .configSpaceWrite fn reg value => Sys2Proof.Machine.execConfigSpaceWrite fn reg value s
  | .mctpPacketRead => Sys2Proof.Machine.execMctpPacketRead s
  | .standbyResetEnd => Sys2Proof.Machine.execStandbyResetEnd s

end Sys2Proof.Machine
end

