-- ==== Sys2Proof/WellFormed.lean ====
section
/-! DEFINITION. Which commands are well formed: every operand within the range of the field or unit it names. The meanings
are total and do not rely on it (log 40). -/

namespace Sys2Proof.WF

/-! Ranges of operands. -/

def ok7 (n : Nat) : Bool := decide (n < 2 ^ 7)
def ok8 (n : Nat) : Bool := decide (n < 2 ^ 8)
def ok10 (n : Nat) : Bool := decide (n < 2 ^ 10)
def ok12 (n : Nat) : Bool := decide (n < 2 ^ 12)
def ok14 (n : Nat) : Bool := decide (n < 2 ^ 14)
def ok16 (n : Nat) : Bool := decide (n < 2 ^ 16)
def ok32 (n : Nat) : Bool := decide (n < 2 ^ 32)
def ok48 (n : Nat) : Bool := decide (n < 2 ^ 48)
def ok64 (n : Nat) : Bool := decide (n < 2 ^ 64)
/-- A partition (R441), a logical cluster and core (R20), a backfill context (R163), a core group (R98). -/
def okPart (n : Nat) : Bool := decide (n < 64)
def okCluster (n : Nat) : Bool := decide (n < 64)
def okCore (n : Nat) : Bool := decide (n < 1024)
def okCtx (n : Nat) : Bool := decide (n < 3)
def okGroup (n : Nat) : Bool := decide (n < 16)
/-- A stack, a bulk channel, a memory unit, an engine pool, a compute die or optical engine, a bridge (R17, R18). -/
def okStack (n : Nat) : Bool := decide (n < 12)
def okChannel (n : Nat) : Bool := decide (n < 8)
def okUnit (n : Nat) : Bool := decide (n < 20)
def okPool (n : Nat) : Bool := decide (n < 2)
def okDie (n : Nat) : Bool := decide (n < 4)
def okBridge (n : Nat) : Bool := decide (n < 6)
/-- A port, a port or the chip's own side, a lane of a port (R320, R353). -/
def okPort (n : Nat) : Bool := decide (n < 8)
def okPort9 (n : Nat) : Bool := decide (n < 9)
def okLane9 (n : Nat) : Bool := decide (n < 9)
/-- A stride word (R115), a function (R390), a CCLK setting (R39). -/
def okWord (n : Nat) : Bool := decide (n < 2 ^ 18)
def okFn (n : Nat) : Bool := decide (n < 256)
def okFreq (n : Nat) : Bool := decide (n < 4)
/-- What the tries of an AVSBus write come to, and an error met (R136, R159, R228). -/
def okFails (n : Nat) : Bool := decide (n < 4)
def okLatent (n : Nat) : Bool := decide (n < 4)
/-- Errors that reads meet: a mapped address and a kind. -/
def okErrs (l : List (Nat × Nat)) : Bool := l.all (fun e => ok48 e.1 && (e.2 = 1 || e.2 = 2))
/-- An access width in bytes (R15). -/
def okWidth (n : Nat) : Bool := n = 4 || n = 8
/-- Transports of MCTP and of SPDM (R460, R522), an instance. -/
def okMctp (n : Nat) : Bool := n = 0 || n = 1
def okSpdm (n : Nat) : Bool := n = 0 || n = 2
def okInst (n : Nat) : Bool := decide (n < 32)
/-- Byte strings: a caravan segment (R261), a packet, a flit and a frame (R330), a GUN body (R536), a key message (R457), a
SHA-384 (R524). -/
def okSeg (l : List Byte) : Bool := decide (64 ≤ l.length ∧ l.length ≤ 4176)
def okPkt (l : List Byte) : Bool := decide (32 ≤ l.length ∧ l.length ≤ 8192)
def okFlit (l : List Byte) : Bool := decide (l.length = 64)
def okFrame (l : List Byte) : Bool := decide (l.length ≤ 4096)
def okGun (l : List Byte) : Bool := decide (l.length = 32)
def okKeyMsg (l : List Byte) : Bool := decide (l.length ≤ 4096)
def okHash (l : List Byte) : Bool := decide (l.length = 48)
/-- PCIe generations and widths that FLIT mode runs at (R391), boundary-scan cells (R560). -/
def okSpeed (n : Nat) : Bool := n = 4 || n = 5 || n = 6
def okLanes (n : Nat) : Bool := n = 4 || n = 8 || n = 16
def okCells (n : Nat) : Bool := decide (n < 2 ^ 3954)

/-- The command is well formed. -/
def wellFormed : Instr → Bool
  | .regWrite offset bytes value fails status readMv =>
    ok32 offset && okWidth bytes && ok64 value && okFails fails && ok16 status && ok16 readMv
  | .powerOnReset | .powerOnResetEnd _ | .perstDeassert | .fuseLoad | .bridgeTrain _ | .saveSettings
  | .clearSettings | .ready | .routineEnd _ | .discoverTimeout | .relayRead _ | .relayAccessDone | .resetDone
  | .droopStretchEnd _ | .timeExchangeStart | .timeHoldoverExpiry | .timeWrap | .packetKindReserved _
  | .cmdNop _ | .inlineWrite _ | .copyIn _ | .copyDone _ | .biasSet _ | .queueDestroy _ | .backfill _
  | .backfillLoad _ | .perstAssert | .hotReset | .flrPf0 | .linkLossTimeout | .heartbeatTimeout | .attach
  | .ideKmProgram _ _ _ | .download | .verify | .activate | .confirm | .fwupEnd _ | .rstdaa | .getpid | .getbcr
  | .getdcr | .getstatus | .getmrl | .setmrl _ | .getmwl | .setmwl _ | .enec _ _ | .disec _ _ | .rstact _
  | .unsupportedCcc | .hotJoin | .ibi | .eventNotify | .notifyTimeout | .pmbusAlert _ | .snapIn | .gunFire
  | .sysrefLost | .oerefLost | .oerefReturn | .idcode _ | .clamp _ | .highz _ | .bypass _ | .tapReset
  | .mctpPacketRead | .standbyResetEnd =>
    true
  | .hbmTrain stackMask _ =>
    ok12 stackMask
  | .bulkTrain channels _ =>
    ok8 channels
  | .opticsUp ports _ =>
    ok8 ports
  | .memTest stackMask channels _ =>
    ok12 stackMask && ok8 channels
  | .discover arg =>
    ok8 arg
  | .relayWrite _ fails status readMv | .cclkRelockDone fails status readMv =>
    okFails fails && ok16 status && ok16 readMv
  | .coreReset core | .restRunEnd core =>
    okCore core
  | .clusterReset cluster | .backfillDispatch cluster _ =>
    okCluster cluster
  | .partitionReset part | .start part | .resume part | .stop part | .holdNext part | .courseStagingDone part
  | .strideDigestEnd part | .pacePoint part _ _ | .lapStateFinal part | .repeatBoundary part _
  | .failingBoundary part | .pacedDeadline part | .memCmdComplete part _ | .farRecordPost part
  | .closeComplete part _ | .caravanTimeout part _ _ _ | .triggerStall part | .intakeDigestClose part
  | .postStoreReserved part _ | .partitionEnableDone part | .partitionDisable part =>
    okPart part
  | .warmChipReset confirm _ | .coldChipReset confirm _ =>
    ok16 confirm
  | .cclkFreqWrite freq fails status readMv =>
    okFreq freq && okFails fails && ok16 status && ok16 readMv
  | .droopTrip die | .meshLaneFail _ die _ _ _ =>
    okDie die
  | .courseArmWrite part value | .courseStoreWrite part value | .courseLoadGo part value
  | .strideLoadGo part value | .strideDigestGo part value | .partitionEnable part value =>
    okPart part && ok64 value
  | .courseLoadDone part errs | .strideLoadEnd part errs | .ledgerFold part errs | .completionBoundary part errs
  | .lapBoundary part _ errs | .collectiveBegin part _ errs =>
    okPart part && okErrs errs
  | .strideImageWrite addr _ _ =>
    ok48 addr
  | .strideWordIssue part err =>
    okPart part && okLatent err
  | .hold part cluster =>
    okPart part && okCluster cluster
  | .dispatch part cluster cue group param _ word =>
    okPart part && okCluster cluster && ok8 cue && okGroup group && ok10 param && okWord word
  | .rest part cluster group _ _ word =>
    okPart part && okCluster cluster && okGroup group && okWord word
  | .seqLockstep part word _ =>
    okPart part && okWord word
  | .peerStallTimeout part _ qp _ | .batonTimeout part qp | .collectiveComplete part qp =>
    okPart part && ok16 qp
  | .nop core _ err | .mma core _ err | .mmaS core _ err | .mmaRd core _ err | .mmaLd core _ err
  | .vld core _ err | .vst core _ err | .vadd core _ err | .vsub core _ err | .vmul core _ err
  | .vfma core _ err | .vmax core _ err | .vmin core _ err | .vabs core _ err | .vneg core _ err
  | .vrcp core _ err | .vrsqrt core _ err | .vsqrt core _ err | .vexp2 core _ err | .vlog2 core _ err
  | .vtanh core _ err | .vdiv core _ err | .vcmp core _ err | .vsel core _ err | .vint core _ err
  | .vcvti core _ err | .vrnd core _ err | .vreduce core _ err | .vperm core _ err | .vcbl core _ err
  | .vqnt core _ err | .vdqnt core _ err | .vxadd core _ err | .vxrd core _ err | .vrng core _ err
  | .vaccDyn core _ err | .gatherR core _ err | .gatherA core _ err | .scatterG core _ err
  | .scatterA core _ err | .dsend core _ err | .send core _ err | .recv core _ err | .tstamp core _ err
  | .cntrd core _ err =>
    okCore core && okLatent err
  | .gRequestComplete _ _ errs | .rowRequestResolve _ errs | .copyOut _ errs | .intakeCommit _ errs
  | .queueCreate _ errs =>
    okErrs errs
  | .backfillTaskComplete cluster ctx tag _ =>
    okCluster cluster && okCtx ctx && ok16 tag
  | .bfTaskWrite cluster ctx value | .bfLoadGo cluster ctx value =>
    okCluster cluster && okCtx ctx && ok64 value
  | .bfLoadEnd cluster ctx errs =>
    okCluster cluster && okCtx ctx && okErrs errs
  | .memRead part binding errs | .memWrite part binding errs | .memFillZero part binding errs
  | .bulkRead part binding errs | .bulkWrite part binding errs | .bulkFillZero part binding errs
  | .close part binding errs | .refresh part binding errs | .update part binding errs | .sweep part binding errs
  | .drain part binding errs | .collectiveStart part binding errs | .arm part binding errs
  | .hostCopyOut part binding errs | .hostCopyIn part binding errs =>
    okPart part && ok8 binding && okErrs errs
  | .hbmRefresh stack _ =>
    okStack stack
  | .bulkRefresh channel =>
    okChannel channel
  | .patrolScrub unit err _ =>
    okUnit unit && okLatent err
  | .pageAttrApply value | .chipIdWrite value | .timeSet value | .heartbeatWrite value | .fenceRequest value
  | .gunArm value | .gunFireNow value =>
    ok64 value
  | .stage part die _ | .release part die _ _ =>
    okPart part && okDie die
  | .caravanSend part slice owner dir tag =>
    okPart part && okDie slice && ok16 owner && ok8 dir && ok14 tag
  | .requestSegment part qp seg errs | .refreshSegment part qp seg errs =>
    okPart part && ok16 qp && okSeg seg && okErrs errs
  | .returnSegment part qp seg | .reverseSegment part qp seg | .closeSegment part qp seg
  | .closeAckSegment part qp seg | .refreshRetSegment part qp seg | .unknownSegment part qp seg =>
    okPart part && ok16 qp && okSeg seg
  | .akcChunkDone stack pool engine _ errs | .sweepRowDone stack pool engine _ errs =>
    okStack stack && okPool pool && ok8 engine && okErrs errs
  | .akcCmdComplete stack pool =>
    okStack stack && okPool pool
  | .akcEngineFenceWrite stack value | .hashGo stack value =>
    okStack stack && ok64 value
  | .hashEnd stack part errs =>
    okStack stack && okPart part && okErrs errs
  | .frameTransmit port | .ackTimeout port | .laneWindowEnd port | .spareVerifyTimeout port | .portEnable port _
  | .retrain port | .park port | .wake port | .portParked port | .portTrainDone port | .portStageTimeout port
  | .portDownRetry port | .coord port _ _ _ | .frameLockLost port | .peerTrainingBegins port
  | .freshnessExpiry port =>
    okPort port
  | .frameReceive port _ _ _ frame =>
    okPort port && okFrame frame
  | .laserLoss engine | .laserRestore engine =>
    okDie engine
  | .portLockDone port locked =>
    okPort port && ok16 locked
  | .credit port flit | .linkInfo port flit =>
    okPort port && okFlit flit
  | .timeReq port _ exch =>
    okPort port && ok16 exch
  | .timeResp port _ exch t2 t3 depth _ =>
    okPort port && ok16 exch && ok64 t2 && ok64 t3 && ok8 depth
  | .packetRoute port errs =>
    okPort9 port && okErrs errs
  | .inc part binding | .post part binding | .intake part binding =>
    okPart part && ok8 binding
  | .baton part pkt errs | .waycredit part pkt errs | .lead part pkt errs =>
    okPart part && okPkt pkt && okErrs errs
  | .resync part pkt | .digest part pkt =>
    okPart part && okPkt pkt
  | .windowWrite fn _ _ _ | .flrVf fn =>
    okFn fn
  | .windowRead fn _ _ errs =>
    okFn fn && okErrs errs
  | .hdmAccess _ addr _ _ _ errs =>
    ok48 addr && okErrs errs
  | .sqDoorbell fn _ value _ | .cqDoorbell fn _ value _ | .configSpaceWrite fn _ value =>
    okFn fn && ok64 value
  | .commandFetch queue errs =>
    ok16 queue && okErrs errs
  | .cplEntryPost queue | .interruptModTimeout queue | .queueEnable queue | .queueDisable queue =>
    ok16 queue
  | .hostReadCompletion tag status _ _ =>
    ok14 tag && ok16 status
  | .hostReadTimeout tag | .tagQuarantineExpiry tag =>
    ok12 tag
  | .atsInvalidation addr _ =>
    ok64 addr
  | .hostkeyInstall _ payload | .hostkeyClear _ payload =>
    okKeyMsg payload
  | .getVersion transport | .getCapabilities transport | .negotiateAlgorithms transport | .getDigests transport
  | .getCertificate transport _ _ _ | .challenge transport _ _ | .getMeasurements transport _ _
  | .keyExchange transport _ _ | .finish transport _ _ | .heartbeat transport _ | .keyUpdate transport _
  | .endSession transport _ =>
    okSpdm transport
  | .bridgeModuleFail bridge _ _ =>
    okBridge bridge
  | .tsvLaneFail stack lane =>
    okStack stack && ok16 lane
  | .entdaa addr | .setnewda addr =>
    ok7 addr
  | .setEndpointId transport inst _ _ | .getEndpointId transport inst | .getEndpointUuid transport inst
  | .getMctpVersionSupport transport inst _ | .getMessageTypeSupport transport inst
  | .getVendorDefinedMessageSupport transport inst _ | .getTid transport inst | .getPldmVersion transport inst _
  | .getPldmTypes transport inst | .getPldmCommands transport inst _ | .getSensorReading transport inst _
  | .getStateSensorReadings transport inst _ | .getPdr transport inst _ | .getPdrRepositoryInfo transport inst
  | .setEventReceiver transport inst _ | .getIdentity transport inst | .getState transport inst
  | .getSensors transport inst _ _ | .getSnapshot transport inst _ _ _ | .armGun transport inst _ _
  | .readEvents transport inst _ _ | .subscribe transport inst _ | .setPower transport inst _ =>
    okMctp transport && okInst inst
  | .mctpUnknownType transport _ =>
    okMctp transport
  | .admitTenant transport inst _ fn _ hash =>
    okMctp transport && okInst inst && okFn fn && okHash hash
  | .readReg transport inst _ width =>
    okMctp transport && okInst inst && ok8 width
  | .writeReg transport inst _ width value =>
    okMctp transport && okInst inst && ok8 width && ok64 value
  | .reset transport inst level confirm =>
    okMctp transport && okInst inst && ok8 level && ok16 confirm
  | .getLapReport transport inst part _ =>
    okMctp transport && okInst inst && okPart part
  | .sensorSample id value _ _ _ word _ =>
    ok7 id && ok64 value && okWord word
  | .gun body =>
    okGun body
  | .extest _ drive cells =>
    okCells drive && okCells cells
  | .samplePreload _ cells =>
    okCells cells
  | .symbolLockLoss port lane =>
    okPort port && okLane9 lane
  | .hostLinkUp _ speed width =>
    okSpeed speed && okLanes width

end Sys2Proof.WF
end

