-- ==== Sys2Proof/Safety.lean ====
section
/-! DEFINITION. What the claims call safe: the canonical forms of the state's data, a command that completes, and the
parts of the state that a frame speaks of. -/

namespace Sys2Proof

namespace Machine

/-- The canonical form of a byte memory: addresses strictly rise, and no entry equals what an unlisted address reads as. -/
abbrev Memory.wf (m : List Host.Cell) : Prop := Sp.wf 0 m

/-- The block's memory has its canonical form. -/
abbrev State.MemOk (s : State) : Prop := Memory.wf s.mem

/-- The state's data are in form: memory, the granule marks and the maps of units canonical, registers in the order of
their addresses, the management event log within its 1,024 records and its record number within 32 bits (R475). -/
structure State.InForm (s : State) : Prop where
  mem : s.MemOk
  gran : Sp.wf {} s.gran
  regs : Sp.Sorted s.regs
  log : s.log.length ≤ 1024
  logNext : s.logNext < 2 ^ 32
  parts : Sp.wf {} s.parts
  cores : Sp.wf {} s.cores
  hubs : Sp.wf {} s.hubs
  ports : Sp.wf {} s.ports
  pools : Sp.wf [] s.pools
  sweeps : Sp.wf [] s.sweeps
  tagGen : Sp.wf 0 s.tagGen
  scrubPos : Sp.wf 0 s.scrubPos
  scrubRows : Sp.wf 0 s.scrubRows

/-- The parts of the state, the queue of waiting commands apart. -/
inductive Fd where
  | regs | mem | gran | parts | chip | cores | hubs | greqs | greqNext | phys | scrubPos | scrubRows | repair | pools | sweeps | log | logNext | logLost
  | subMask | notify | store | host | sec | mgt | tel | pkg | windows | ports | heldPkts | tagUse | tagGen | ftime | ffrac | finc | out | free
deriving DecidableEq, Repr

/-- Two states agree in one part. -/
def Fd.Same (f : Fd) (s t : State) : Prop :=
  match f with
  | .regs => t.regs = s.regs
  | .mem => t.mem = s.mem
  | .gran => t.gran = s.gran
  | .parts => t.parts = s.parts
  | .chip => t.chip = s.chip
  | .cores => t.cores = s.cores
  | .hubs => t.hubs = s.hubs
  | .greqs => t.greqs = s.greqs
  | .greqNext => t.greqNext = s.greqNext
  | .phys => t.phys = s.phys
  | .scrubPos => t.scrubPos = s.scrubPos
  | .scrubRows => t.scrubRows = s.scrubRows
  | .repair => t.repair = s.repair
  | .pools => t.pools = s.pools
  | .sweeps => t.sweeps = s.sweeps
  | .log => t.log = s.log
  | .logNext => t.logNext = s.logNext
  | .logLost => t.logLost = s.logLost
  | .subMask => t.subMask = s.subMask
  | .notify => t.notify = s.notify
  | .store => t.store = s.store
  | .host => t.host = s.host
  | .sec => t.sec = s.sec
  | .mgt => t.mgt = s.mgt
  | .tel => t.tel = s.tel
  | .pkg => t.pkg = s.pkg
  | .windows => t.windows = s.windows
  | .ports => t.ports = s.ports
  | .heldPkts => t.heldPkts = s.heldPkts
  | .tagUse => t.tagUse = s.tagUse
  | .tagGen => t.tagGen = s.tagGen
  | .ftime => t.ftime = s.ftime
  | .ffrac => t.ffrac = s.ffrac
  | .finc => t.finc = s.finc
  | .out => t.out = s.out
  | .free => t.free = s.free

/-- The cards of the registers, in the order of Machine/Regs.lean. -/
def cardTable : List Card :=
  [R.GLB_DEVICE_ID, R.GLB_REMAP_STATUS, R.GLB_CLUSTER_REMAP, R.CLU_CORE_REMAP, R.CRC_CCLK_SELECT, R.SEQ_COURSE_ARM,
   R.SEQ_LEG_TABLE, R.SEQ_LAP_CONFIG, R.SEQ_LAP_NUMBERS, R.SEQ_RUN_CONTROL, R.SEQ_POSITION, R.GLB_STATE,
   R.SEQ_RECORD_RING, R.SEQ_REPLAY_RING, R.SEQ_COURSE_STORE, R.SEQ_COURSE_LOAD_SRC, R.SEQ_COURSE_LOAD_CTRL,
   R.SEQ_COURSE_LOAD_STATUS, R.SEQ_SLOT_STATUS, R.SEQ_SLOT_DIGEST, R.SEQ_STRIDE_DIGEST_PENDING, R.SEQ_STRIDE_DIGEST,
   R.SEQ_LAP_COURSE_DIGEST, R.SEQ_STRIDE_LOAD_SRC] ++
  [R.SEQ_STRIDE_LOAD_CTRL, R.SEQ_STRIDE_LOAD_STATUS, R.SEQ_STRIDE_EXPECT, R.SEQ_STRIDE_GUARD_PENDING,
   R.SEQ_STRIDE_GUARD, R.SEQ_STRIDE_MASTER, R.CLU_CORE_FAULT, R.CLU_BF_TASK, R.CLU_BF_LOAD_SRC, R.CLU_BF_LOAD_CTRL,
   R.CLU_BF_STATUS, R.SEQ_SEED0, R.SEQ_SEED1, R.SEQ_DRAW_RANK, R.CLU_CAL_BIND, R.SEQ_CAL_TABLE, R.SEQ_CAL_STATUS,
   R.HBM_STATUS, R.BLK_STATUS, R.BLK_CTRL, R.HBM_SCRUB, R.GLB_PAGE_ATTR, R.EMB_PLACE_TABLE, R.EMB_PLACE_CTRL] ++
  [R.EMB_PLACE_EPOCH, R.EMB_FAR_AREA, R.EMB_FAR_SIZE, R.EMB_FAR_DOORBELL, R.EMB_FAR_RING, R.EMB_FAR_RING_PTR,
   R.EMB_CTRL, R.EMB_TABLE_BASE, R.EMB_REPLICA_KEY, R.EMB_DEFER_AREA, R.EMB_TIMEOUT, R.EMB_RANK_MAP, R.EMB_STATUS,
   R.AKC_ENGINES, R.AKC_ENGINE_FENCE, R.AKC_LEDGER_TABLE, R.AKC_SWEEP_STATUS, R.AKC_HASH_SRC, R.AKC_HASH_CTRL,
   R.GLB_DIGEST_KEY, R.GLB_WEIGHT_DIGEST, R.FAB_LINK_CTRL, R.FAB_ROLE, R.FAB_LINK_STATUS] ++
  [R.FAB_LANE_STATUS, R.FAB_LINK_TUNE, R.FAB_PEER_UID, R.FAB_PEER, R.FAB_TIME_ASYM, R.RLY_FABRIC_DIMS,
   R.RLY_FABRIC_COORD, R.RLY_TIME_NOW, R.RLY_TIME_STATUS, R.RLY_TIME_CTRL, R.RLY_TIME_SET, R.RLY_CTRL,
   R.RLY_COMM_TABLE, R.RLY_JOB, R.RLY_DEFER_AREA, R.RLY_FABRIC_DIGEST, R.RLY_SPLIT_STATUS, R.RLY_TRIGGER,
   R.HST_LINK_STATUS, R.HST_CPL_TIMEOUT, R.HST_HOST_WATCH, R.HST_HEARTBEAT, R.HST_ATTACH, R.HST_BIAS_TABLE] ++
  [R.HST_INTAKE_RING, R.HST_INTAKE_STATUS, R.HST_INPUT_DIGEST, R.HST_CPL_STORE, R.HST_WINSEG, R.QUE_TABLE,
   R.QUE_ENABLE, R.QUE_FN_RANGE, R.SEQ_SEAL_RING, R.SEQ_LAP_STATE, R.SEQ_REPLAY_POS, R.SEQ_AUDIT_CTRL,
   R.SEQ_LAP_SEAL, R.SEQ_AUDIT_STATUS, R.SEC_HOSTKEY, R.SEC_FWUP_SRC, R.SEC_FWUP_CTRL, R.SEC_FW_STATUS,
   R.GLB_PART_CLUSTERS, R.GLB_PART_BANKS, R.GLB_PART_CONFIG, R.GLB_PART_SHARE, R.QUE_FN_WEIGHT, R.QUE_FN_EVENT] ++
  [R.SEQ_ERR_FIRST, R.SEQ_ERR_FIRST_LAP, R.SEQ_ERR_FIRST_DATA, R.GLB_ERR_FATAL, R.GLB_ERR_FATAL_LAP,
   R.GLB_ERR_FATAL_DATA, R.GLB_FENCE_REQ, R.GLB_FENCE_POLICY, R.GLB_SPARE_STATUS, R.RLY_SETTINGS_DIGEST,
   R.CRC_DROOP_CTRL, R.MGT_RELAY_ADDR, R.MGT_RELAY_DATA, R.MGT_RELAY_CTRL, R.GLB_BRINGUP_CMD, R.GLB_BRINGUP_STATUS,
   R.GLB_MEMTEST_RESULT, R.CRC_RESET_CTRL, R.CRC_RESET_STATUS, R.MGT_I3C_STATUS, R.TEL_SENSOR, R.TEL_SENSOR_THRESH,
   R.TEL_POWER_CTRL, R.TEL_GUN_CTRL] ++
  [R.TEL_GUN_TARGET, R.TEL_GUN_STATUS, R.TEL_GUN_FIRE_TIME, R.TEL_REPORT_RING, R.CRC_AVS, R.CRC_AVS_FUSED,
   R.MGT_RAIL, R.CNT_GLB, R.CNT_SEQ, R.CNT_CLU, R.CNT_HBM, R.CNT_BLK, R.CNT_EMB, R.CNT_FAB, R.CNT_RLY, R.CNT_HST,
   R.CNT_TEL, R.CNT_SAT, R.CNT_BF_SAT]

/-- Address `a` holds an entry of the card, as stored or in effect (R13, Table 1-9). -/
def Card.owns (c : Card) (a : Nat) : Prop :=
  ∃ u k, c.has u k = true ∧ (a = c.addr u k ∨ a = c.addr u k + imageOff)

end Machine

/-- The command completes in state `s`, and the state it ends in has property `P`. -/
abbrev Ends (c : Instr) (s : Machine.State) (P : Machine.State → Prop) : Prop := ∃ t, Machine.exec c s = .next t ∧ P t

end Sys2Proof
end

