-- ==== Sys2Proof/Footprint.lean ====
section
/-! DEFINITION. The footprint of every command: the parts of the state, and among the registers the cards, that its effect
may touch. What is not named here no run of the command changes. -/

namespace Sys2Proof.Machine

open Sys2Proof

/-- The registers a command may touch: those of listed cards, or any (a write of a register named by its offset, the gun's
snapshots, a reset). -/
inductive Touched where
  | of (cards : List Card)
  | any

/-- What a command may touch. -/
structure Footprint where
  parts : List Fd
  regs : Touched

/-- All parts. -/
def allParts : List Fd :=
  [.regs, .mem, .gran, .parts, .chip, .cores, .hubs, .greqs, .greqNext, .phys, .scrubPos, .scrubRows, .repair, .pools,
    .sweeps, .log, .logNext, .logLost, .subMask, .notify, .store, .host, .sec, .mgt, .tel, .pkg, .windows, .ports,
    .heldPkts, .tagUse, .tagGen, .ftime, .ffrac, .finc, .out, .free]

/-- What an event touches: its record, its count, its log and its deliveries (R466, R475). -/
def eventParts : List Fd := [.regs, .parts, .log, .logNext, .logLost, .notify, .store, .mgt, .windows, .out]

def eventCards : List Card :=
  [R.SEQ_ERR_FIRST, R.SEQ_ERR_FIRST_LAP, R.SEQ_ERR_FIRST_DATA, R.GLB_ERR_FATAL, R.GLB_ERR_FATAL_LAP,
    R.GLB_ERR_FATAL_DATA, R.CNT_GLB]

/-- What an error touches besides: the run states (R467, R468). -/
def raiseParts : List Fd := eventParts ++ [.chip]

def raiseCards : List Card := eventCards ++ [R.GLB_STATE, R.GLB_PART_CONFIG]

/-- What a read of memory touches: its errors and its poison marks (R217, R235). -/
def senseParts : List Fd := raiseParts ++ [.gran]

def senseCards : List Card := raiseCards ++ [R.CNT_HBM, R.CNT_BLK, R.CNT_HST]

/-- What the issue of a core entry touches (R131 to R139). -/
def issueParts : List Fd := raiseParts ++ [.mem, .gran, .cores, .hubs, .greqs, .phys, .free]

def issueCards : List Card := raiseCards ++
  [R.GLB_REMAP_STATUS, R.GLB_CLUSTER_REMAP, R.CLU_CORE_REMAP, R.CLU_CORE_FAULT, R.CLU_BF_STATUS, R.CNT_CLU, R.CNT_HBM,
    R.CNT_BLK]

/-- The footprint of each command. -/
def footprint : Instr → Footprint
  | .regWrite _ _ _ _ _ _ | .relayRead _ | .relayWrite _ _ _ _ | .writeReg _ _ _ _ _ | .setPower _ _ _ =>
    ⟨allParts.filter (fun f => f != .pkg), .any⟩
  | .powerOnReset => ⟨allParts.filter (fun f => f != .free), .any⟩
  | .powerOnResetEnd _ => ⟨eventParts ++ [.sec, .pkg], .of (raiseCards ++ [R.SEC_FW_STATUS, R.MGT_I3C_STATUS])⟩
  | .perstDeassert | .heartbeatWrite _ | .configSpaceWrite _ _ _ => ⟨[.host], .of []⟩
  | .fuseLoad | .bridgeTrain _ | .hbmTrain _ _ | .bulkTrain _ _ | .opticsUp _ _ | .memTest _ _ _ | .discover _ |
    .saveSettings | .clearSettings | .ready => ⟨raiseParts ++ [.ports, .free], .of (eventCards ++ [R.FAB_LINK_CTRL,
    R.FAB_LINK_STATUS, R.FAB_LANE_STATUS, R.GLB_BRINGUP_CMD, R.GLB_BRINGUP_STATUS, R.CNT_FAB, R.CNT_RLY])⟩
  | .routineEnd _ => ⟨senseParts ++ [.mem, .phys, .repair, .sec, .free], .of (raiseCards ++ [R.GLB_REMAP_STATUS,
    R.GLB_CLUSTER_REMAP, R.CLU_CORE_REMAP, R.CRC_CCLK_SELECT, R.HBM_STATUS, R.BLK_STATUS, R.AKC_ENGINES,
    R.GLB_SPARE_STATUS, R.GLB_BRINGUP_STATUS, R.GLB_MEMTEST_RESULT, R.CRC_AVS, R.CNT_TEL])⟩
  | .discoverTimeout => ⟨[.regs, .free], .of [R.GLB_BRINGUP_STATUS]⟩
  | .relayAccessDone => ⟨[.regs], .of [R.MGT_RELAY_CTRL]⟩
  | .coreReset _ | .clusterReset _ | .partitionReset _ | .warmChipReset _ _ | .coldChipReset _ _ | .reset _ _ _ _ =>
    ⟨allParts.filter (fun f => f != .pkg), .any⟩
  | .resetDone => ⟨raiseParts ++ [.sec, .heldPkts], .of (raiseCards ++ [R.SEQ_POSITION, R.SEC_FW_STATUS,
    R.CRC_RESET_STATUS, R.MGT_I3C_STATUS])⟩
  | .cclkFreqWrite _ _ _ _ | .cclkRelockDone _ _ _ => ⟨raiseParts, .of (raiseCards ++ [R.CRC_CCLK_SELECT, R.CRC_AVS,
    R.CNT_TEL])⟩
  | .droopTrip _ => ⟨raiseParts, .of eventCards⟩
  | .droopStretchEnd _ => ⟨[.regs, .chip], .of [R.CNT_GLB]⟩
  | .start _ => ⟨issueParts ++ [.host, .ports, .heldPkts, .tagUse, .tagGen], .of (issueCards ++ [R.SEQ_COURSE_ARM,
    R.SEQ_LEG_TABLE, R.SEQ_LAP_CONFIG, R.SEQ_POSITION, R.SEQ_RECORD_RING, R.SEQ_REPLAY_RING, R.SEQ_SLOT_STATUS,
    R.SEQ_SLOT_DIGEST, R.SEQ_STRIDE_DIGEST, R.SEQ_STRIDE_GUARD, R.SEQ_STRIDE_MASTER, R.SEQ_SEED0, R.SEQ_SEED1,
    R.SEQ_DRAW_RANK, R.CLU_CAL_BIND, R.SEQ_CAL_TABLE, R.GLB_PAGE_ATTR, R.EMB_PLACE_TABLE, R.EMB_PLACE_CTRL,
    R.EMB_FAR_AREA, R.EMB_FAR_SIZE, R.EMB_CTRL, R.EMB_TABLE_BASE, R.EMB_REPLICA_KEY, R.EMB_DEFER_AREA, R.EMB_TIMEOUT,
    R.EMB_RANK_MAP, R.EMB_STATUS, R.AKC_LEDGER_TABLE, R.RLY_CTRL, R.RLY_COMM_TABLE, R.RLY_JOB, R.RLY_DEFER_AREA,
    R.RLY_TRIGGER, R.HST_INTAKE_STATUS, R.SEQ_SEAL_RING, R.SEQ_LAP_STATE, R.SEQ_AUDIT_CTRL, R.GLB_SPARE_STATUS,
    R.TEL_GUN_TARGET, R.TEL_GUN_STATUS, R.CNT_SEQ, R.CNT_EMB, R.CNT_RLY, R.CNT_HST, R.CNT_TEL])⟩
  | .resume _ => ⟨issueParts ++ [.ports, .heldPkts, .tagUse, .tagGen], .of (issueCards ++ [R.SEQ_COURSE_ARM,
    R.SEQ_LEG_TABLE, R.SEQ_LAP_CONFIG, R.SEQ_POSITION, R.SEQ_RECORD_RING, R.SEQ_REPLAY_RING, R.SEQ_SLOT_STATUS,
    R.SEQ_SLOT_DIGEST, R.SEQ_STRIDE_DIGEST, R.SEQ_STRIDE_GUARD, R.SEQ_STRIDE_MASTER, R.SEQ_SEED0, R.SEQ_SEED1,
    R.SEQ_DRAW_RANK, R.SEQ_CAL_TABLE, R.GLB_PAGE_ATTR, R.EMB_PLACE_TABLE, R.EMB_PLACE_CTRL, R.EMB_FAR_AREA,
    R.EMB_FAR_SIZE, R.EMB_CTRL, R.EMB_TABLE_BASE, R.EMB_REPLICA_KEY, R.EMB_DEFER_AREA, R.EMB_TIMEOUT, R.EMB_RANK_MAP,
    R.EMB_STATUS, R.AKC_LEDGER_TABLE, R.RLY_CTRL, R.RLY_COMM_TABLE, R.RLY_JOB, R.RLY_DEFER_AREA, R.RLY_TRIGGER,
    R.SEQ_SEAL_RING, R.SEQ_LAP_STATE, R.SEQ_AUDIT_CTRL, R.GLB_SPARE_STATUS, R.TEL_GUN_TARGET, R.TEL_GUN_STATUS,
    R.CNT_SEQ, R.CNT_EMB, R.CNT_RLY, R.CNT_HST, R.CNT_TEL])⟩
  | .stop _ => ⟨[.regs, .mem, .gran, .parts, .greqs, .heldPkts], .of [R.SEQ_POSITION, R.GLB_STATE, R.RLY_TRIGGER,
    R.GLB_PART_CONFIG, R.CNT_HBM, R.CNT_BLK]⟩
  | .holdNext _ | .courseStagingDone _ => ⟨[.parts], .of []⟩
  | .courseArmWrite _ _ => ⟨eventParts, .of (eventCards ++ [R.SEQ_COURSE_ARM])⟩
  | .courseStoreWrite _ _ => ⟨[.regs], .of [R.SEQ_COURSE_STORE, R.SEQ_SLOT_STATUS, R.CNT_GLB]⟩
  | .courseLoadGo _ _ => ⟨eventParts, .of (eventCards ++ [R.SEQ_COURSE_LOAD_CTRL, R.SEQ_COURSE_LOAD_STATUS,
    R.SEQ_SLOT_STATUS, R.CNT_SEQ])⟩
  | .courseLoadDone _ _ => ⟨senseParts ++ [.mem], .of (senseCards ++ [R.SEQ_COURSE_LOAD_STATUS, R.SEQ_SLOT_STATUS,
    R.SEQ_SLOT_DIGEST])⟩
  | .strideLoadGo _ _ | .strideDigestGo _ _ => ⟨[.regs, .parts], .of [R.SEQ_STRIDE_LOAD_CTRL,
    R.SEQ_STRIDE_LOAD_STATUS, R.CNT_GLB]⟩
  | .strideLoadEnd _ _ => ⟨senseParts ++ [.mem], .of (senseCards ++ [R.SEQ_STRIDE_LOAD_STATUS])⟩
  | .strideDigestEnd _ => ⟨[.regs, .parts], .of [R.SEQ_STRIDE_DIGEST_PENDING, R.SEQ_STRIDE_LOAD_STATUS,
    R.SEQ_STRIDE_GUARD_PENDING]⟩
  | .strideImageWrite _ _ _ => ⟨eventParts ++ [.mem], .of (eventCards ++ [R.CNT_SEQ])⟩
  | .strideWordIssue _ _ | .gRequestComplete _ _ _ => ⟨senseParts ++ [.mem, .cores, .hubs, .greqs, .free], .of
    (senseCards ++ [R.CLU_CORE_FAULT, R.CLU_BF_STATUS, R.CNT_SEQ, R.CNT_CLU])⟩
  | .hold _ _ | .bulkRefresh _ => ⟨[], .of []⟩
  | .dispatch _ _ _ _ _ _ _ | .rest _ _ _ _ _ _ | .restRunEnd _ => ⟨senseParts ++ [.mem, .cores, .hubs, .greqs,
    .free], .of (raiseCards ++ [R.CLU_CORE_FAULT, R.CLU_BF_STATUS, R.CNT_CLU, R.CNT_HBM, R.CNT_BLK])⟩
  | .seqLockstep _ _ _ | .triggerStall _ | .tsvLaneFail _ _ | .sysrefLost => ⟨raiseParts, .of raiseCards⟩
  | .pacePoint _ _ _ => ⟨raiseParts ++ [.cores], .of (raiseCards ++ [R.SEQ_POSITION, R.CNT_SEQ])⟩
  | .ledgerFold _ _ => ⟨senseParts ++ [.mem], .of (raiseCards ++ [R.CNT_HBM, R.CNT_BLK])⟩
  | .completionBoundary _ _ => ⟨issueParts ++ [.ports, .heldPkts, .tagUse, .tagGen], .of (issueCards ++
    [R.SEQ_COURSE_ARM, R.SEQ_POSITION, R.SEQ_SLOT_STATUS, R.SEQ_SLOT_DIGEST, R.CLU_CAL_BIND, R.EMB_STATUS,
    R.AKC_ENGINES, R.RLY_TRIGGER, R.HST_INPUT_DIGEST, R.GLB_SPARE_STATUS, R.TEL_GUN_TARGET, R.TEL_GUN_STATUS,
    R.CNT_SEQ, R.CNT_EMB, R.CNT_RLY, R.CNT_HST, R.CNT_TEL])⟩
  | .lapStateFinal _ => ⟨[.regs, .mem, .gran, .parts], .of [R.CNT_HBM, R.CNT_BLK]⟩
  | .lapBoundary _ _ _ => ⟨issueParts ++ [.host, .ports, .heldPkts, .tagUse, .tagGen], .of (issueCards ++
    [R.SEQ_COURSE_ARM, R.SEQ_LEG_TABLE, R.SEQ_LAP_CONFIG, R.SEQ_POSITION, R.SEQ_RECORD_RING, R.SEQ_REPLAY_RING,
    R.SEQ_SLOT_STATUS, R.SEQ_SLOT_DIGEST, R.SEQ_STRIDE_DIGEST, R.SEQ_LAP_COURSE_DIGEST, R.SEQ_STRIDE_GUARD,
    R.SEQ_STRIDE_MASTER, R.SEQ_SEED0, R.SEQ_SEED1, R.SEQ_DRAW_RANK, R.CLU_CAL_BIND, R.SEQ_CAL_TABLE, R.SEQ_CAL_STATUS,
    R.GLB_PAGE_ATTR, R.EMB_PLACE_TABLE, R.EMB_PLACE_CTRL, R.EMB_PLACE_EPOCH, R.EMB_FAR_AREA, R.EMB_FAR_SIZE,
    R.EMB_CTRL, R.EMB_TABLE_BASE, R.EMB_REPLICA_KEY, R.EMB_DEFER_AREA, R.EMB_TIMEOUT, R.EMB_RANK_MAP, R.EMB_STATUS,
    R.AKC_ENGINES, R.AKC_LEDGER_TABLE, R.GLB_WEIGHT_DIGEST, R.RLY_CTRL, R.RLY_COMM_TABLE, R.RLY_JOB, R.RLY_DEFER_AREA,
    R.RLY_FABRIC_DIGEST, R.RLY_SPLIT_STATUS, R.RLY_TRIGGER, R.HST_INTAKE_STATUS, R.HST_INPUT_DIGEST, R.SEQ_SEAL_RING,
    R.SEQ_LAP_STATE, R.SEQ_REPLAY_POS, R.SEQ_AUDIT_CTRL, R.SEQ_LAP_SEAL, R.SEQ_AUDIT_STATUS, R.GLB_SPARE_STATUS,
    R.RLY_SETTINGS_DIGEST, R.TEL_GUN_TARGET, R.TEL_GUN_STATUS, R.CNT_SEQ, R.CNT_EMB, R.CNT_RLY, R.CNT_HST,
    R.CNT_TEL])⟩
  | .repeatBoundary _ _ => ⟨issueParts ++ [.pools, .sweeps, .host, .ports, .heldPkts, .tagUse, .tagGen], .of
    (issueCards ++ [R.SEQ_POSITION, R.EMB_STATUS, R.AKC_SWEEP_STATUS, R.RLY_TRIGGER, R.GLB_SPARE_STATUS,
    R.TEL_GUN_TARGET, R.TEL_GUN_STATUS, R.CNT_SEQ, R.CNT_EMB, R.CNT_RLY, R.CNT_HST, R.CNT_TEL])⟩
  | .failingBoundary _ => ⟨senseParts ++ [.mem, .cores, .hubs, .greqs, .pools, .sweeps, .host, .ports, .heldPkts,
    .tagUse, .tagGen, .free], .of (senseCards ++ [R.SEQ_POSITION, R.CLU_CORE_FAULT, R.CLU_BF_STATUS, R.EMB_STATUS,
    R.AKC_SWEEP_STATUS, R.RLY_TRIGGER, R.TEL_GUN_TARGET, R.TEL_GUN_STATUS, R.CNT_SEQ, R.CNT_CLU, R.CNT_EMB, R.CNT_RLY,
    R.CNT_TEL])⟩
  | .pacedDeadline _ | .close _ _ _ | .refresh _ _ _ => ⟨senseParts ++ [.mem, .cores, .hubs, .greqs, .ports, .free],
    .of (senseCards ++ [R.CLU_CORE_FAULT, R.CLU_BF_STATUS, R.EMB_STATUS, R.CNT_CLU, R.CNT_EMB, R.CNT_RLY])⟩
  | .peerStallTimeout _ _ _ _ | .readReg _ _ _ _ | .getSnapshot _ _ _ _ _ => ⟨eventParts, .of eventCards⟩
  | .nop _ _ _ | .send _ _ _ => ⟨issueParts, .of issueCards⟩
  | .mma _ _ _ | .mmaS _ _ _ | .mmaRd _ _ _ | .mmaLd _ _ _ | .vld _ _ _ | .vst _ _ _ | .vadd _ _ _ | .vsub _ _ _ |
    .vmul _ _ _ | .vfma _ _ _ | .vmax _ _ _ | .vmin _ _ _ | .vabs _ _ _ | .vneg _ _ _ | .vrcp _ _ _ | .vrsqrt _ _ _ |
    .vsqrt _ _ _ | .vexp2 _ _ _ | .vlog2 _ _ _ | .vtanh _ _ _ | .vdiv _ _ _ | .vcmp _ _ _ | .vsel _ _ _ | .vint _ _ _
    | .vcvti _ _ _ | .vrnd _ _ _ | .vreduce _ _ _ | .vperm _ _ _ | .vcbl _ _ _ | .vqnt _ _ _ | .vdqnt _ _ _ | .vxadd _
    _ _ | .vxrd _ _ _ | .vrng _ _ _ | .recv _ _ _ => ⟨issueParts, .of (issueCards ++ [R.CNT_SAT, R.CNT_BF_SAT])⟩
  | .vaccDyn _ _ _ | .tstamp _ _ _ | .cntrd _ _ _ => ⟨issueParts, .of (issueCards ++ [R.CNT_SEQ, R.CNT_SAT,
    R.CNT_BF_SAT])⟩
  | .gatherR _ _ _ | .gatherA _ _ _ | .scatterG _ _ _ | .scatterA _ _ _ => ⟨issueParts ++ [.greqNext], .of (issueCards
    ++ [R.CNT_SEQ])⟩
  | .dsend _ _ _ => ⟨issueParts ++ [.greqNext], .of issueCards⟩
  | .backfillDispatch _ _ => ⟨[.regs, .cores, .hubs], .of [R.CLU_BF_STATUS, R.CNT_CLU]⟩
  | .backfillTaskComplete _ _ _ _ => ⟨[.regs, .cores, .hubs, .greqs, .store], .of [R.CLU_BF_STATUS]⟩
  | .bfTaskWrite _ _ _ => ⟨[.regs, .hubs], .of [R.CLU_BF_STATUS, R.CNT_CLU]⟩
  | .bfLoadGo _ _ _ => ⟨[.regs, .hubs], .of [R.CLU_BF_LOAD_CTRL, R.CLU_BF_STATUS, R.CNT_GLB]⟩
  | .bfLoadEnd _ _ _ => ⟨senseParts ++ [.mem, .cores, .hubs, .host], .of (senseCards ++ [R.CLU_BF_STATUS])⟩
  | .memRead _ _ _ | .memWrite _ _ _ | .memFillZero _ _ _ | .bulkRead _ _ _ | .bulkWrite _ _ _ | .bulkFillZero _ _ _
    => ⟨senseParts ++ [.mem, .cores, .hubs, .greqs, .free], .of (senseCards ++ [R.CLU_CORE_FAULT, R.CLU_BF_STATUS,
    R.CNT_CLU])⟩
  | .memCmdComplete _ _ | .collectiveComplete _ _ | .postStoreReserved _ _ => ⟨[.regs, .parts], .of [R.RLY_TRIGGER,
    R.CNT_RLY]⟩
  | .hbmRefresh _ _ => ⟨eventParts, .of (eventCards ++ [R.HBM_STATUS])⟩
  | .patrolScrub _ _ _ => ⟨eventParts ++ [.gran, .scrubPos, .scrubRows, .repair], .of (eventCards ++ [R.HBM_STATUS,
    R.BLK_STATUS, R.CNT_HBM, R.CNT_BLK])⟩
  | .pageAttrApply _ => ⟨[.regs], .of [R.GLB_PAGE_ATTR]⟩
  | .stage _ _ _ | .collectiveBegin _ _ _ => ⟨senseParts ++ [.mem, .cores, .hubs, .greqs, .ports, .free], .of
    (senseCards ++ [R.CLU_CORE_FAULT, R.CLU_BF_STATUS, R.CNT_CLU, R.CNT_EMB, R.CNT_RLY])⟩
  | .release _ _ _ _ => ⟨[.regs, .parts], .of [R.CNT_EMB]⟩
  | .farRecordPost _ => ⟨eventParts ++ [.mem, .gran], .of (eventCards ++ [R.EMB_FAR_RING_PTR, R.CNT_HBM, R.CNT_BLK])⟩
  | .closeComplete _ _ => ⟨senseParts ++ [.mem, .ports], .of (raiseCards ++ [R.EMB_STATUS, R.RLY_TRIGGER, R.CNT_HBM,
    R.CNT_BLK, R.CNT_EMB, R.CNT_RLY])⟩
  | .rowRequestResolve _ _ => ⟨senseParts ++ [.mem, .cores, .hubs, .greqs, .free], .of (senseCards ++
    [R.CLU_CORE_FAULT, R.CLU_BF_STATUS, R.CNT_CLU, R.CNT_EMB])⟩
  | .caravanSend _ _ _ _ _ => ⟨eventParts ++ [.ports, .tagUse], .of (eventCards ++ [R.CNT_EMB, R.CNT_RLY])⟩
  | .requestSegment _ _ _ _ | .returnSegment _ _ _ | .reverseSegment _ _ _ | .closeSegment _ _ _ | .closeAckSegment _
    _ _ | .refreshSegment _ _ _ _ | .refreshRetSegment _ _ _ | .unknownSegment _ _ _ => ⟨senseParts ++ [.mem, .cores,
    .hubs, .greqs, .ports, .tagUse, .tagGen, .free], .of (senseCards ++ [R.CLU_CORE_FAULT, R.CLU_BF_STATUS,
    R.EMB_STATUS, R.CNT_SEQ, R.CNT_CLU, R.CNT_EMB, R.CNT_RLY])⟩
  | .caravanTimeout _ _ _ _ => ⟨raiseParts ++ [.ports, .tagUse, .tagGen], .of (raiseCards ++ [R.CNT_EMB, R.CNT_RLY])⟩
  | .update _ _ _ | .sweep _ _ _ | .drain _ _ _ => ⟨senseParts ++ [.mem, .pools, .sweeps], .of (senseCards ++
    [R.AKC_SWEEP_STATUS])⟩
  | .akcChunkDone _ _ _ _ _ => ⟨senseParts ++ [.mem, .phys, .pools], .of (senseCards ++ [R.AKC_ENGINES,
    R.AKC_ENGINE_FENCE, R.GLB_WEIGHT_DIGEST, R.CNT_EMB])⟩
  | .akcCmdComplete _ _ => ⟨senseParts ++ [.mem, .pools, .sweeps], .of (senseCards ++ [R.AKC_SWEEP_STATUS,
    R.RLY_TRIGGER, R.CNT_RLY])⟩
  | .sweepRowDone _ _ _ _ _ => ⟨issueParts ++ [.pools, .sweeps, .ports], .of (senseCards ++ [R.CLU_CORE_FAULT,
    R.CLU_BF_STATUS, R.AKC_ENGINES, R.AKC_ENGINE_FENCE, R.AKC_SWEEP_STATUS, R.GLB_WEIGHT_DIGEST, R.CNT_CLU, R.CNT_EMB,
    R.CNT_RLY])⟩
  | .akcEngineFenceWrite _ _ => ⟨raiseParts ++ [.phys, .pools], .of (raiseCards ++ [R.AKC_ENGINES, R.AKC_ENGINE_FENCE])⟩
  | .hashGo _ _ => ⟨[.regs], .of [R.AKC_HASH_CTRL, R.CNT_GLB]⟩
  | .hashEnd _ _ _ => ⟨senseParts, .of (senseCards ++ [R.AKC_HASH_CTRL, R.GLB_WEIGHT_DIGEST])⟩
  | .frameTransmit _ | .timeReq _ _ _ => ⟨[.regs, .ports, .out], .of [R.CNT_FAB]⟩
  | .frameReceive _ _ _ _ _ => ⟨raiseParts ++ [.ports, .ftime, .finc, .free], .of (eventCards ++ [R.FAB_LINK_STATUS,
    R.FAB_LANE_STATUS, R.FAB_PEER_UID, R.FAB_PEER, R.RLY_FABRIC_COORD, R.RLY_TIME_STATUS, R.CNT_FAB, R.CNT_RLY])⟩
  | .ackTimeout _ | .laneWindowEnd _ | .spareVerifyTimeout _ | .laserLoss _ | .portStageTimeout _ | .oerefLost |
    .frameLockLost _ | .symbolLockLoss _ _ => ⟨eventParts ++ [.ports], .of (eventCards ++ [R.FAB_LINK_STATUS,
    R.FAB_LANE_STATUS, R.CNT_FAB, R.CNT_RLY])⟩
  | .laserRestore _ | .wake _ | .portLockDone _ _ | .portDownRetry _ | .oerefReturn | .peerTrainingBegins _ =>
    ⟨[.regs, .ports], .of [R.FAB_LINK_STATUS, R.FAB_LANE_STATUS]⟩
  | .portEnable _ _ => ⟨eventParts ++ [.ports], .of (eventCards ++ [R.FAB_LINK_CTRL, R.FAB_LINK_STATUS,
    R.FAB_LANE_STATUS, R.CNT_FAB, R.CNT_RLY])⟩
  | .retrain _ => ⟨eventParts ++ [.ports], .of (eventCards ++ [R.FAB_LINK_STATUS, R.FAB_LANE_STATUS,
    R.RLY_FABRIC_COORD, R.CNT_FAB, R.CNT_RLY])⟩
  | .park _ => ⟨[.ports, .out], .of []⟩
  | .portParked _ => ⟨eventParts ++ [.ports], .of (eventCards ++ [R.FAB_LINK_STATUS, R.FAB_LANE_STATUS, R.CNT_RLY])⟩
  | .portTrainDone _ => ⟨[.regs, .ports, .out], .of [R.FAB_LINK_STATUS, R.FAB_LANE_STATUS]⟩
  | .credit _ _ => ⟨[.ports], .of []⟩
  | .linkInfo _ _ => ⟨eventParts ++ [.ports], .of (eventCards ++ [R.FAB_LINK_STATUS, R.FAB_LANE_STATUS,
    R.FAB_PEER_UID, R.FAB_PEER, R.CNT_FAB, R.CNT_RLY])⟩
  | .timeResp _ _ _ _ _ _ _ => ⟨raiseParts ++ [.ports, .ftime, .finc, .free], .of (eventCards ++ [R.FAB_LINK_STATUS,
    R.FAB_PEER, R.RLY_TIME_STATUS, R.CNT_FAB, R.CNT_RLY])⟩
  | .coord _ _ _ _ => ⟨raiseParts ++ [.ports], .of (eventCards ++ [R.FAB_LINK_STATUS, R.FAB_PEER, R.RLY_FABRIC_COORD])⟩
  | .timeExchangeStart => ⟨[.regs, .ports, .out], .of [R.RLY_TIME_STATUS]⟩
  | .timeHoldoverExpiry => ⟨raiseParts, .of (eventCards ++ [R.FAB_LINK_STATUS, R.RLY_TIME_STATUS])⟩
  | .timeWrap => ⟨raiseParts ++ [.ftime, .ffrac], .any⟩
  | .packetRoute _ _ => ⟨senseParts ++ [.mem, .cores, .hubs, .greqs, .ports, .heldPkts, .tagUse, .tagGen, .free], .of
    (senseCards ++ [R.CLU_CORE_FAULT, R.CLU_BF_STATUS, R.EMB_STATUS, R.TEL_GUN_TARGET, R.TEL_GUN_STATUS, R.CNT_SEQ,
    R.CNT_CLU, R.CNT_EMB, R.CNT_RLY, R.CNT_TEL])⟩
  | .chipIdWrite _ => ⟨[.regs, .ports, .out], .of [R.RLY_FABRIC_COORD, R.CNT_GLB]⟩
  | .timeSet _ => ⟨[.regs, .ftime, .ffrac], .of [R.CNT_GLB]⟩
  | .collectiveStart _ _ _ | .arm _ _ _ | .inc _ _ => ⟨senseParts ++ [.mem, .cores, .hubs, .greqs, .ports, .free], .of
    (senseCards ++ [R.CLU_CORE_FAULT, R.CLU_BF_STATUS, R.RLY_TRIGGER, R.CNT_CLU, R.CNT_EMB, R.CNT_RLY])⟩
  | .baton _ _ _ | .waycredit _ _ _ | .lead _ _ _ | .resync _ _ | .digest _ _ => ⟨senseParts ++ [.mem, .cores, .hubs,
    .greqs, .ports, .free], .of (senseCards ++ [R.CLU_CORE_FAULT, R.CLU_BF_STATUS, R.CNT_SEQ, R.CNT_CLU, R.CNT_EMB,
    R.CNT_RLY])⟩
  | .packetKindReserved _ => ⟨[.regs], .of [R.CNT_RLY]⟩
  | .batonTimeout _ _ => ⟨raiseParts ++ [.ports], .of (raiseCards ++ [R.CNT_RLY])⟩
  | .windowWrite _ _ _ _ | .hdmAccess _ _ _ _ _ _ | .commandFetch _ _ | .copyIn _ | .copyOut _ _ | .intakeCommit _ _ |
    .biasSet _ | .queueCreate _ _ => ⟨senseParts ++ [.mem, .host], .of senseCards⟩
  | .windowRead _ _ _ _ => ⟨senseParts ++ [.host], .of senseCards⟩
  | .sqDoorbell _ _ _ _ | .cqDoorbell _ _ _ _ => ⟨[.regs, .mem, .gran], .of [R.CNT_HBM, R.CNT_BLK, R.CNT_HST]⟩
  | .cmdNop _ | .queueDestroy _ => ⟨[.regs, .mem, .gran, .store, .host], .of [R.CNT_HBM, R.CNT_BLK, R.CNT_HST]⟩
  | .inlineWrite _ => ⟨senseParts ++ [.mem, .cores, .hubs, .greqs, .host, .free], .of (senseCards ++
    [R.CLU_CORE_FAULT, R.CLU_BF_STATUS, R.CNT_SEQ, R.CNT_CLU])⟩
  | .copyDone _ => ⟨senseParts ++ [.mem, .host], .of (senseCards ++ [R.RLY_TRIGGER, R.CNT_RLY])⟩
  | .intakeDigestClose _ => ⟨[.regs, .mem, .gran, .parts, .store, .host], .of [R.RLY_TRIGGER, R.HST_INTAKE_STATUS,
    R.CNT_HBM, R.CNT_BLK, R.CNT_RLY, R.CNT_HST]⟩
  | .backfill _ => ⟨[.regs, .mem, .gran, .hubs, .store, .host], .of [R.CLU_BF_STATUS, R.CNT_CLU, R.CNT_HBM, R.CNT_BLK,
    R.CNT_HST]⟩
  | .backfillLoad _ => ⟨senseParts ++ [.mem, .hubs, .host], .of (senseCards ++ [R.CLU_BF_LOAD_SRC, R.CLU_BF_LOAD_CTRL,
    R.CLU_BF_STATUS])⟩
  | .post _ _ | .hostCopyOut _ _ _ | .hostCopyIn _ _ _ | .intake _ _ => ⟨senseParts ++ [.mem, .host], .of (senseCards
    ++ [R.RLY_TRIGGER, R.HST_INTAKE_STATUS, R.CNT_RLY])⟩
  | .cplEntryPost _ => ⟨[.regs, .mem, .gran, .store, .host, .out], .of [R.CNT_HBM, R.CNT_BLK, R.CNT_HST]⟩
  | .interruptModTimeout _ | .atsInvalidation _ _ => ⟨[.host, .out], .of []⟩
  | .hostReadCompletion _ _ _ _ => ⟨eventParts ++ [.mem, .gran, .host, .free], .of (eventCards ++ [R.CNT_HBM,
    R.CNT_BLK, R.CNT_HST])⟩
  | .hostReadTimeout _ => ⟨senseParts ++ [.mem, .host, .free], .of senseCards⟩
  | .tagQuarantineExpiry _ => ⟨[.regs, .host, .out], .of [R.CNT_HST]⟩
  | .perstAssert | .hotReset | .linkLossTimeout => ⟨eventParts ++ [.mem, .gran, .host], .of (senseCards ++
    [R.HST_LINK_STATUS, R.HST_ATTACH])⟩
  | .flrPf0 | .heartbeatTimeout => ⟨eventParts ++ [.mem, .gran, .host], .of (senseCards ++ [R.HST_ATTACH])⟩
  | .flrVf _ => ⟨[.store, .host], .of []⟩
  | .attach => ⟨[.regs], .of [R.HST_ATTACH]⟩
  | .queueEnable _ | .queueDisable _ => ⟨[.regs, .mem, .gran, .store, .host], .of [R.CNT_GLB, R.CNT_HBM, R.CNT_BLK,
    R.CNT_HST]⟩
  | .partitionEnable _ _ | .partitionDisable _ => ⟨raiseParts ++ [.sec], .of raiseCards⟩
  | .partitionEnableDone _ => ⟨[.regs, .mem, .gran, .parts, .chip, .cores, .hubs, .greqs], .of [R.GLB_STATE,
    R.RLY_TRIGGER, R.GLB_PART_CONFIG]⟩
  | .hostkeyInstall _ _ | .hostkeyClear _ _ => ⟨[.regs, .host, .out], .of [R.SEC_HOSTKEY]⟩
  | .ideKmProgram _ _ _ | .getVersion _ | .getCapabilities _ | .negotiateAlgorithms _ | .keyExchange _ _ _ | .finish _
    _ _ | .keyUpdate _ _ | .endSession _ _ => ⟨[.sec, .out], .of []⟩
  | .getDigests _ | .getCertificate _ _ _ _ | .challenge _ _ _ | .getMeasurements _ _ _ | .heartbeat _ _ | .getpid |
    .getbcr | .getdcr | .getstatus | .getmrl | .getmwl | .unsupportedCcc => ⟨[.out], .of []⟩
  | .download | .verify | .activate | .confirm | .fwupEnd _ => ⟨[.regs, .host, .sec, .out], .of [R.SEC_FWUP_CTRL,
    R.SEC_FW_STATUS, R.CNT_GLB]⟩
  | .fenceRequest _ => ⟨raiseParts ++ [.phys], .of (raiseCards ++ [R.GLB_REMAP_STATUS, R.GLB_CLUSTER_REMAP,
    R.CLU_CORE_REMAP, R.GLB_FENCE_REQ, R.GLB_SPARE_STATUS])⟩
  | .meshLaneFail _ _ _ _ _ | .bridgeModuleFail _ _ _ => ⟨raiseParts ++ [.phys], .of (raiseCards ++
    [R.GLB_SPARE_STATUS])⟩
  | .entdaa _ | .rstdaa | .setnewda _ => ⟨eventParts, .of (eventCards ++ [R.MGT_I3C_STATUS])⟩
  | .setmrl _ => ⟨[.regs, .out], .of [R.MGT_I3C_STATUS]⟩
  | .setmwl _ | .rstact _ | .hotJoin | .ibi | .getEndpointId _ _ | .getEndpointUuid _ _ | .getMctpVersionSupport _ _ _
    | .getMessageTypeSupport _ _ | .getVendorDefinedMessageSupport _ _ _ | .getTid _ _ | .getPldmVersion _ _ _ |
    .getPldmTypes _ _ | .getPldmCommands _ _ _ | .getSensorReading _ _ _ | .getStateSensorReadings _ _ _ | .getPdr _ _
    _ | .getPdrRepositoryInfo _ _ | .setEventReceiver _ _ _ | .getIdentity _ _ | .getState _ _ | .getSensors _ _ _ _ |
    .readEvents _ _ _ _ | .getLapReport _ _ _ _ | .mctpPacketRead => ⟨[.mgt, .out], .of []⟩
  | .enec _ _ | .disec _ _ | .setEndpointId _ _ _ _ => ⟨[.regs, .mgt, .out], .of [R.MGT_I3C_STATUS]⟩
  | .mctpUnknownType _ _ => ⟨[.regs], .of [R.CNT_TEL]⟩
  | .admitTenant _ _ _ _ _ _ => ⟨[.sec, .mgt, .out], .of []⟩
  | .armGun _ _ _ _ => ⟨raiseParts ++ [.ports], .of (eventCards ++ [R.TEL_GUN_CTRL, R.TEL_GUN_TARGET,
    R.TEL_GUN_STATUS, R.CNT_RLY])⟩
  | .subscribe _ _ _ => ⟨[.subMask, .mgt, .out], .of []⟩
  | .eventNotify => ⟨[.notify, .mgt, .out, .free], .of []⟩
  | .notifyTimeout => ⟨[.regs, .notify], .of [R.CNT_TEL]⟩
  | .sensorSample _ _ _ _ _ _ _ => ⟨raiseParts ++ [.tel, .pkg], .of (raiseCards ++ [R.HBM_STATUS, R.TEL_SENSOR,
    R.CNT_TEL])⟩
  | .pmbusAlert _ => ⟨raiseParts ++ [.tel], .of raiseCards⟩
  | .gunArm _ | .gunFireNow _ => ⟨raiseParts ++ [.ports], .of (eventCards ++ [R.TEL_GUN_CTRL, R.TEL_GUN_STATUS,
    R.CNT_RLY])⟩
  | .snapIn => ⟨[.chip], .of []⟩
  | .gunFire => ⟨eventParts, .any⟩
  | .gun _ => ⟨raiseParts ++ [.ports], .of (eventCards ++ [R.TEL_GUN_TARGET, R.TEL_GUN_STATUS, R.CNT_RLY, R.CNT_TEL])⟩
  | .extest _ _ _ | .samplePreload _ _ | .idcode _ | .clamp _ | .highz _ | .bypass _ => ⟨[.pkg, .out], .of []⟩
  | .tapReset => ⟨[.pkg], .of []⟩
  | .freshnessExpiry _ => ⟨[.regs, .ports], .of [R.FAB_LINK_STATUS]⟩
  | .hostLinkUp _ _ _ => ⟨[.regs, .host], .of [R.HST_LINK_STATUS]⟩
  | .standbyResetEnd => ⟨[.mgt], .of []⟩

end Sys2Proof.Machine
end

