-- ==== Sys2Proof/Terms.lean ====
section
/-! DEFINITION. Words in which statements about several commands are made: an issue of a micro-operation and what it
leaves. -/

namespace Sys2Proof.Machine

open Sys2Proof

/-- What core `n` finds in cycle `c`: every result due by then is visible (R131, R132). -/
def State.landed (s : State) (n c : Nat) : State := (s.seen (s.corePart n) c).landTo n c

/-- What the meaning of issue `q` starts from: a backfill issue's cycle is counted once per core (Table 4-12), then the
hardware error `err` is met; the mark says whether the issue goes on. -/
def State.begun (s : State) (q : Issue) (c err : Nat) : State × Bool :=
  (if q.cue.ctx != 0 && (s.core q.n).bfCycle != c + 1 then
    (s.countCore q.n 10 1).updCore q.n (fun x => { x with bfCycle := c + 1 }) else s).issueErr q err (readsScratch q.e.op)

/-- Core `n` issues `q`, of opcode `op`, in cycle `c`: no cue of the core has a chain fault that is due, the entry is
sound, and the hardware error `err` lets the issue go on. Its meaning starts from `u`. -/
structure Issues (s : State) (n c op err : Nat) (q : Issue) (u : State) : Prop where
  form : s.InForm
  chain : (s.landed n c).chainFault n c = none
  issue : (s.landed n c).issueAt n c op = some q
  entry : q.e.fault = none
  begun : (s.landed n c).begun q c err = (u, true)

/-- The scratchpad ranges of a backfill issue lie in its context's region (R166); a primary issue has no region. -/
def State.inRegion (s : State) (q : Issue) (reads : List (Nat × Nat)) (effs : List Eff) : Prop :=
  q.cue.ctx ≠ 0 → ∀ r ∈ reads ++ effs.flatMap Eff.ranges, s.bfRegion q.p (q.cue.ctx - 1) r.1 r.2 = true

/-- From `u` to `t` issue `q` leaves results that become visible `lat` cycles later with their poison marks (R131, R137),
and changes nothing else but counters and calibration channels. -/
structure Leaves (u t : State) (q : Issue) (lat : Nat) (effs : List Eff) (consumed : Bool) : Prop where
  core : t.core q.n = { u.core q.n with
    pend := (u.core q.n).pend ++ effs.map (fun f =>
      ⟨q.cycle + lat, ((opInfo q.e.op).map (·.unit)).getD 5, q.cue.ctx, q.cue.start, q.idx, q.r, f.mark consumed⟩)
    live := (t.core q.n).live, chan := (t.core q.n).chan }
  others : ∀ m, m ≠ q.n → t.core m = u.core m
  rest : ∀ f, f ≠ Fd.cores → f ≠ Fd.regs → f.Same u t
  regs : ∀ a, (∀ d ∈ [R.CNT_CLU, R.CNT_SAT, R.CNT_BF_SAT], ¬ d.owns a) → Sp.find a t.regs = Sp.find a u.regs

/-- A G issue passes the checks its entry fixes: formats and addresses, room in the request buffer, and for a backfill task
its scratch region; a backfill task makes no SCATTER.G (R153, R166, R271, R571). -/
structure MayRequest (u : State) (q : Issue) : Prop where
  sound : q.gFault = none
  room : q.cue.ctx = 0 → (u.core q.n).heldCount < 1024
  region : q.cue.ctx ≠ 0 → q.e.op ≠ 0x42 ∧ ∀ r ∈ q.gRanges, u.bfRegion q.p (q.cue.ctx - 1) r.1 r.2 = true

/-- From `u` to `t` request `g` enters the buffer under the next number; a primary one counts on its token in cycle i + 48
and holds a buffer entry (R152, R153). -/
structure Requested (u t : State) (g : GReq) : Prop where
  greqs : t.greqs = u.greqs ++ [{ g with id := u.greqNext }]
  next : t.greqNext = u.greqNext + 1
  token : g.ctx = 0 → (t.part g.part).tokPend = (u.part g.part).tokPend ++ [(g.issued + 48, g.token, u.greqNext)]
  held : g.ctx = 0 → Sp.get 0 (t.core g.core).held g.token = Sp.get 0 (u.core g.core).held g.token + 1
  free : g.ctx ≠ 0 → t.parts = u.parts ∧ (t.core g.core).held = (u.core g.core).held
  counted : R.CNT_CLU.has (g.core / 16) 3 = true →
    t.rd R.CNT_CLU (g.core / 16) 3 = (u.rd R.CNT_CLU (g.core / 16) 3 + 1) % 2 ^ 64

/-- The commands that are issues of micro-operations, with their opcodes (R157). -/
def issueTable : List (Nat × (Nat → Nat → Nat → Instr)) :=
  [(0x00, .nop), (0x01, .mma), (0x02, .mmaS), (0x03, .mmaRd), (0x04, .mmaLd), (0x10, .vld), (0x11, .vst), (0x12, .vadd),
   (0x13, .vsub), (0x14, .vmul), (0x15, .vfma), (0x16, .vmax), (0x17, .vmin), (0x18, .vabs), (0x19, .vneg), (0x1A, .vrcp),
   (0x1B, .vrsqrt), (0x1C, .vsqrt), (0x1D, .vexp2), (0x1E, .vlog2), (0x1F, .vtanh), (0x20, .vdiv)] ++
  [(0x21, .vcmp), (0x22, .vsel), (0x23, .vint), (0x24, .vcvti), (0x25, .vrnd), (0x2B, .vreduce), (0x2C, .vperm), (0x2D, .vcbl),
   (0x2E, .vqnt), (0x2F, .vdqnt), (0x30, .vxadd), (0x31, .vxrd), (0x32, .vrng), (0x33, .vaccDyn), (0x40, .gatherR),
   (0x41, .gatherA), (0x42, .scatterG), (0x43, .scatterA), (0x44, .dsend), (0x50, .send), (0x51, .recv), (0x60, .tstamp),
   (0x61, .cntrd)]

end Sys2Proof.Machine
end

