-- ==== Sys2Proof/Certificates/Slice0/Obligations.lean ====
section
/-! DEFINITION. The statements for the provers: what the block does with each of its commands, by family. -/

open Sys2Proof Sys2Proof.Machine

/-! ## Steps -/

/-- A step runs the command at the front of the queue on the queue's rest. -/
def Obligations.StepRunsFront : Prop :=
  ∀ (c : Instr) (s : State), step { s with pending := c :: s.pending } = exec c s

/-- Every command takes its step to a next state: none faults and none is refused (NOTES.md, Stops). -/
def Obligations.EveryStepGoesOn : Prop := ∀ s : State, ∃ t, step s = .next t

/-- A step keeps the data's canonical forms: the memory's, the registers' order, the event log within its 1,024 records. -/
def Obligations.StepKeepsForm : Prop :=
  ∀ s t : State, s.InForm → step s = .next t → t.InForm

/-- A command changes only what its footprint names: the queue stays, what left the block is only added to, every other part of
the state is equal, and every register outside the cards of the footprint reads as before. -/
def Obligations.CommandFrame : Prop :=
  ∀ (c : Instr) (s t : State), exec c s = .next t →
    t.pending = s.pending ∧ s.out <+: t.out ∧ (∀ f, f ∉ (footprint c).parts → f.Same s t) ∧
    ∀ l, (footprint c).regs = .of l → ∀ a, (∀ d ∈ l, ¬ d.owns a) → Sp.find a t.regs = Sp.find a s.regs

/-- An idle step, the queue being empty, is one tick of the fabric clock (R357; that an idle step is a tick is the model's choice,
log 2): the 96-bit accumulator of fabric time takes INC, a NOW that waited is used up, and memory and the run state stay. -/
def Obligations.IdleStepTicks : Prop := ∀ s : State, s.pending = [] → ∃ t, step s = .next t ∧ t.pending = [] ∧
  t.ftime < 2 ^ 64 ∧ t.ffrac < 2 ^ 32 ∧
  t.ftime * 2 ^ 32 + t.ffrac = (s.ftime % 2 ^ 64 * 2 ^ 32 + s.ffrac % 2 ^ 32 + s.finc) % 2 ^ 96 ∧
  t.chip.gunNow = false ∧ t.chip.gunPins = (s.chip.gunPins.filter (1 < ·)).map (· - 1) ∧ t.mem = s.mem ∧ t.cores = s.cores ∧
  t.parts = s.parts ∧ (s.gunArmed = false → s.chip.gunNow = false → (∀ x ∈ s.chip.gunPins, 1 < x) →
    s.ftime % 2 ^ 64 * 2 ^ 32 + s.ffrac % 2 ^ 32 + s.finc < 2 ^ 96 → t.regs = s.regs ∧ t.log = s.log ∧ t.out = s.out)

/-- The state after reset has the canonical forms. Values the spec gives for reset (R494, R440 and the register cards): COLD,
partition 0 alone enabled, ports OFF, torus roles, and every register of the tables at its card's reset value. -/
def Obligations.ResetState : Prop :=
  (State.reset.InForm) ∧
  (State.reset.chipState = stCold ∧ State.reset.pending = [] ∧ State.reset.enabledParts = [0] ∧ State.reset.pState 0 = 0 ∧
  State.reset.mem = [] ∧ State.reset.log = [] ∧ State.reset.ftime = 0 ∧
  (∀ q, q < 8 → State.reset.portState q = psOff ∧ State.reset.rd R.FAB_ROLE q 0 = if q < 6 then 1 else 0) ∧
  (∀ c ∈ cardTable, ∀ u k, c.rst u k < 2 ^ c.width → State.reset.rd c u k = c.rst u k))

/-! ## Registers, resets and bring-up -/

/-- Register writes (R10, R13, R15, R393, R394): a closed or malformed access writes nothing, an effective image is read-only, and
a plain register takes each field by its access code; a condition that fails is counted. A write to a register that has a
command of its own does what that command does (R10 and the registers' own rules). The relay (R496): an access met by BUSY is
counted; a malformed one ends with ERROR 1 and reads zero; a read fills MGT_RELAY_DATA; a write to a plain register takes its
fields. -/
def Obligations.RegisterAccess : Prop :=
  (∀ (s : State) (o n v a b c : Nat), o < 2 ^ 29 →
  (s.barOpen o = false → exec (.regWrite o n v a b c) s = .next s) ∧
  (s.barOpen o = true → regAccess o n = none → exec (.regWrite o n v a b c) s = .next (s.regErr.event E.REG_ACCESS 0 o 0)) ∧
  (s.barOpen o = true → ∀ r, regAccess o n = some (r, true) → exec (.regWrite o n v a b c) s = .next s) ∧
  (s.barOpen o = true → ∀ r w, regAccess o n = some (r, false) → w = v % 2 ^ r.card.width →
    (∀ d ∈ [R.SEQ_RUN_CONTROL, R.SEQ_COURSE_ARM, R.SEQ_COURSE_STORE, R.CLU_BF_TASK, R.EMB_FAR_DOORBELL, R.AKC_ENGINE_FENCE,
      R.GLB_PAGE_ATTR, R.GLB_BRINGUP_CMD, R.GLB_PART_CONFIG, R.GLB_STATE, R.CRC_CCLK_SELECT, R.CRC_RESET_CTRL, R.FAB_LINK_CTRL,
      R.FAB_ROLE, R.RLY_FABRIC_DIMS, R.RLY_FABRIC_COORD, R.RLY_TIME_CTRL, R.RLY_TIME_SET, R.HST_HEARTBEAT, R.HST_ATTACH,
      R.QUE_ENABLE, R.SEC_FWUP_CTRL, R.TEL_GUN_CTRL], r.card.same d = false) →
    (∀ d ∈ ([(R.SEQ_COURSE_LOAD_CTRL, 0), (R.SEQ_STRIDE_LOAD_CTRL, 41), (R.CLU_BF_LOAD_CTRL, 0), (R.AKC_HASH_CTRL, 0),
      (R.GLB_FENCE_REQ, 63), (R.MGT_RELAY_CTRL, 0)] : List (Card × Nat)), r.card.same d.1 = true → bit w d.2 = false) →
    (s.regMay r w = false → exec (.regWrite o n v a b c) s = .next s.regErr) ∧
    (s.regMay r w = true → Ends (.regWrite o n v a b c) s (fun t => t.mem = s.mem ∧ t.chip = s.chip ∧ t.log = s.log ∧
      (∀ f ∈ r.card.fields, ∀ old new, old = bits (s.rd r.card r.unit r.idx) f.hi f.lo → new = bits w f.hi f.lo →
        bits (t.rd r.card r.unit r.idx) f.hi f.lo = match f.acc with
          | .rw | .rws | .rwl => new
          | .ro | .wo => old
          | .w1c => old ^^^ (old &&& new)
          | .w1s => old ||| new) ∧
      (∀ i, i < r.card.width → (∀ f ∈ r.card.fields, ¬ (f.lo ≤ i ∧ i ≤ f.hi)) →
        bit (t.rd r.card r.unit r.idx) i = bit (s.rd r.card r.unit r.idx) i) ∧
      (r.card.shadowed = true → t.rdEff r.card r.unit r.idx = s.rdEff r.card r.unit r.idx) ∧
      (r.card.same R.SEQ_LEG_TABLE = false → r.card.same R.SEQ_LAP_CONFIG = false → t.parts = s.parts ∧
        ∀ x, x ≠ r.card.addr r.unit r.idx → Sp.find x t.regs = Sp.find x s.regs))))) ∧
  (∀ (s : State) (o n v a b c u : Nat) (r : RegAt), o < 2 ^ 29 → s.barOpen o = true →
  regAccess o n = some (r, false) → v < 2 ^ r.card.width → u = r.unit →
  (∀ x ∈ ([(R.GLB_PAGE_ATTR, .pageAttrApply v), (R.RLY_FABRIC_COORD, .chipIdWrite v), (R.RLY_TIME_SET, .timeSet v),
      (R.HST_HEARTBEAT, .heartbeatWrite v), (R.AKC_ENGINE_FENCE, .akcEngineFenceWrite u v),
      (R.CRC_CCLK_SELECT, .cclkFreqWrite (v % 4) a b c)] : List (Card × Instr)),
    r.card = x.1 → exec (.regWrite o n v a b c) s = exec x.2 s) ∧
  (∀ x ∈ ([(R.SEQ_RUN_CONTROL, 1, .start u), (R.SEQ_RUN_CONTROL, 2, .resume u), (R.SEQ_RUN_CONTROL, 4, .holdNext u),
      (R.SEQ_RUN_CONTROL, 16, .stop u)] : List (Card × Nat × Instr)), r.card = x.1 → v = x.2.1 →
    ∃ w, w.mem = s.mem ∧ w.parts = s.parts ∧ (∀ y, y ≠ R.SEQ_RUN_CONTROL.addr u 0 → Sp.find y w.regs = Sp.find y s.regs) ∧
      exec (.regWrite o n v a b c) s = exec x.2.2 w) ∧
  (∀ x ∈ ([(R.AKC_HASH_CTRL, 0, .hashGo u v), (R.GLB_FENCE_REQ, 63, .fenceRequest v), (R.HST_ATTACH, 0, .attach)] :
      List (Card × Nat × Instr)), r.card = x.1 → bit v x.2.1 = true → exec (.regWrite o n v a b c) s = exec x.2.2 s) ∧
  (r.card = R.EMB_FAR_DOORBELL → ∀ d sl, d = F.EMB_FAR_DOORBELL_DIE.get v → sl = F.EMB_FAR_DOORBELL_SLOT.get v →
    (F.EMB_FAR_DOORBELL_OP.get v = 1 → exec (.regWrite o n v a b c) s = exec (.stage u d sl) s) ∧
    (F.EMB_FAR_DOORBELL_OP.get v = 2 → exec (.regWrite o n v a b c) s = exec (.release u d sl (v % 2 ^ 32)) s)) ∧
  (r.card = R.QUE_ENABLE → (bits v 17 16 = 1 → exec (.regWrite o n v a b c) s = exec (.queueEnable (v % 65536)) s) ∧
    (bits v 17 16 = 2 → exec (.regWrite o n v a b c) s = exec (.queueDisable (v % 65536)) s)) ∧
  (r.card = R.SEC_FWUP_CTRL → bit v 0 = true → ∀ x ∈ ([(0, .download), (1, .verify), (2, .activate), (3, .confirm)] :
      List (Nat × Instr)), bits v 4 3 = x.1 → exec (.regWrite o n v a b c) s = exec x.2 s) ∧
  (r.card = R.MGT_RELAY_CTRL → bit v 0 = true → (bit v 1 = false → exec (.regWrite o n v a b c) s = exec (.relayRead (bit v 2)) s) ∧
    (bit v 1 = true → exec (.regWrite o n v a b c) s = exec (.relayWrite (bit v 2) a b c) s))) ∧
  (∀ (s : State) (wide : Bool) (a b c : Nat),
  (∀ x ∈ ([.relayRead wide, .relayWrite wide a b c] : List Instr),
    (s.rdF R.MGT_RELAY_CTRL F.MGT_RELAY_CTRL_BUSY 0 0 = 1 → exec x s = .next s.regErr) ∧
    (s.rdF R.MGT_RELAY_CTRL F.MGT_RELAY_CTRL_BUSY 0 0 = 0 →
      regAccess (s.rdF R.MGT_RELAY_ADDR F.MGT_RELAY_ADDR_OFFSET 0 0) (if wide then 8 else 4) = none → Ends x s (fun t =>
        t.rdF R.MGT_RELAY_CTRL F.MGT_RELAY_CTRL_BUSY 0 0 = 1 ∧ t.mgt.relayErr = 1 ∧ t.mem = s.mem ∧
        t.rd R.CNT_GLB 0 4 = (s.rd R.CNT_GLB 0 4 + 1) % 2 ^ 64 ∧ (x = .relayRead wide → t.rd R.MGT_RELAY_DATA 0 0 = 0)))) ∧
  (s.rdF R.MGT_RELAY_CTRL F.MGT_RELAY_CTRL_BUSY 0 0 = 0 → ∀ r im,
    regAccess (s.rdF R.MGT_RELAY_ADDR F.MGT_RELAY_ADDR_OFFSET 0 0) (if wide then 8 else 4) = some (r, im) →
    r.card.same R.MGT_RELAY_CTRL = false →
    Ends (.relayRead wide) s (fun t => t.rd R.MGT_RELAY_DATA 0 0 = s.regValue r im % 2 ^ 64 ∧ t.mgt = { s.mgt with relayErr := 0 } ∧
      t.rdF R.MGT_RELAY_CTRL F.MGT_RELAY_CTRL_BUSY 0 0 = 1 ∧ t.rdF R.MGT_RELAY_CTRL F.MGT_RELAY_CTRL_DONE 0 0 = 0 ∧ t.mem = s.mem ∧
      ∀ y, y ≠ R.MGT_RELAY_CTRL.addr 0 0 → y ≠ R.MGT_RELAY_DATA.addr 0 0 → Sp.find y t.regs = Sp.find y s.regs) ∧
    (im = true → Ends (.relayWrite wide a b c) s (fun t => t.mem = s.mem ∧ t.mgt = { s.mgt with relayErr := 0 } ∧
      ∀ y, y ≠ R.MGT_RELAY_CTRL.addr 0 0 → Sp.find y t.regs = Sp.find y s.regs)) ∧
    (im = false → ∃ u : State, u.mem = s.mem ∧ u.parts = s.parts ∧ u.chip = s.chip ∧ u.mgt = { s.mgt with relayErr := 0 } ∧
      (∀ y, y ≠ R.MGT_RELAY_CTRL.addr 0 0 → Sp.find y u.regs = Sp.find y s.regs) ∧
      u.rdF R.MGT_RELAY_CTRL F.MGT_RELAY_CTRL_BUSY 0 0 = 1 ∧ exec (.relayWrite wide a b c) s =
        .next (u.writeReg r (s.rd R.MGT_RELAY_DATA 0 0 % 2 ^ (if wide then 64 else 32)) (a, b, c) true))) ∧
  (s.rdF R.MGT_RELAY_CTRL F.MGT_RELAY_CTRL_BUSY 0 0 = 0 → exec .relayAccessDone s = .next s) ∧
  (s.rdF R.MGT_RELAY_CTRL F.MGT_RELAY_CTRL_BUSY 0 0 = 1 → Ends .relayAccessDone s (fun t =>
    t.rdF R.MGT_RELAY_CTRL F.MGT_RELAY_CTRL_BUSY 0 0 = 0 ∧ t.rdF R.MGT_RELAY_CTRL F.MGT_RELAY_CTRL_DONE 0 0 = 1 ∧
    (s.mgt.relayErr < 2 → t.rdF R.MGT_RELAY_CTRL F.MGT_RELAY_CTRL_ERROR 0 0 = s.mgt.relayErr) ∧
    ∀ g : Fd, g ≠ .regs → g.Same s t)))

/-- Requested resets (R510, R512 to R517): one turned away or refused is recorded and counted; one accepted sets BUSY and does
what its level does; RESET_DONE ends it. Power-on reset (R494, R514, R553, R564): everything but the flash, the fused security
version, host memory and the standby island returns to reset; its end starts the management controller, unless the part is in
test mode. -/
def Obligations.Resets : Prop :=
  (∀ (s : State) (n cf : Nat) (m : Bool) (x : Nat × Instr), n < 1024 →
  x ∈ ([(1, .coreReset n), (2, .clusterReset n), (3, .partitionReset n), (4, .warmChipReset cf m), (5, .coldChipReset cf m)] :
    List (Nat × Instr)) → ∀ away err, (away ↔ s.resetBusy = true ∧ (x.1 < 4 ∨ x.1 ≤ s.resetLevel)) →
  err = (if x.1 = 1 then (if s.coreCount ≤ n then 1 else if s.unitIdle (n / 16) = true then 0 else 2)
    else if x.1 = 2 then (if s.clusterCount ≤ n then 1 else if s.unitIdle n = true then 0 else 2)
    else if x.1 = 3 then (if 64 ≤ n then 1 else if s.enabled n = true ∧ (s.part n).enabling = false then 0 else 2)
    else if cf = 0x5E7A then 0 else 3) →
  (away → exec x.2 s = .next (if x.1 < 4 then s.regErr else s)) ∧
  (¬ away → err ≠ 0 → Ends x.2 s (fun t => t.rdF R.CRC_RESET_STATUS F.CRC_RESET_STATUS_ERROR 0 0 = err ∧
    t.rdF R.CRC_RESET_STATUS F.CRC_RESET_STATUS_BUSY 0 0 = s.rdF R.CRC_RESET_STATUS F.CRC_RESET_STATUS_BUSY 0 0 ∧
    t.rd R.CNT_GLB 0 4 = (s.rd R.CNT_GLB 0 4 + 1) % 2 ^ 64 ∧ ∀ g : Fd, g ≠ .regs → g.Same s t)) ∧
  (¬ away → err = 0 → Ends x.2 s (fun t => t.resetBusy = true ∧ t.resetLevel = x.1 ∧ t.chip.resetTarget = (if x.1 < 4 then n else 0) ∧
    t.rdF R.CRC_RESET_STATUS F.CRC_RESET_STATUS_ERROR 0 0 = 0 ∧ t.rdF R.CRC_RESET_STATUS F.CRC_RESET_STATUS_DONE 0 0 = 0 ∧
    (x.1 = 4 → t.rdF R.CRC_RESET_STATUS F.CRC_RESET_STATUS_CAUSE 0 0 = 2 + (if m then 2 else 0)) ∧
    (x.1 = 5 → t.rdF R.CRC_RESET_STATUS F.CRC_RESET_STATUS_CAUSE 0 0 = 1 + (if m then 2 else 0)) ∧
    (x.1 = 1 → t.core n = { live := (t.core n).live } ∧ (∀ a, scratchAddr n 0 ≤ a → a < scratchAddr n 0x200000 → Sp.get 0 t.mem a = 0) ∧
      (∀ a, a < scratchAddr n 0 ∨ scratchAddr n 0x200000 ≤ a → Sp.get 0 t.mem a = Sp.get 0 s.mem a) ∧
      (∀ g ∈ t.greqs, g.core ≠ n) ∧ (∀ k, k / 16 ≠ n / 16 → t.core k = s.core k) ∧ t.parts = s.parts) ∧
    (x.1 = 2 → t.hub n = {} ∧ (∀ k, k < 16 → t.core (16 * n + k) = { live := (t.core (16 * n + k)).live }) ∧
      (∀ a, scratchAddr (16 * n) 0 ≤ a → a < scratchAddr (16 * n + 16) 0 → Sp.get 0 t.mem a = 0) ∧
      (∀ a, a < scratchAddr (16 * n) 0 ∨ scratchAddr (16 * n + 16) 0 ≤ a → Sp.get 0 t.mem a = Sp.get 0 s.mem a) ∧
      (∀ k, k / 16 ≠ n → t.core k = s.core k) ∧ (∀ p, s.partOfCluster n = some p → ∀ r ∈ (t.part p).course.routes,
        r.srcC ≠ n ∧ r.dstC ≠ n)) ∧
    (x.1 = 3 → (t.part n).course = {} ∧ (s.isRunning n = true → t.isRunning n = false) ∧
      ∀ c, c < s.clusterCount → bit (s.rd R.GLB_PART_CLUSTERS 0 n) c = true → ∀ k, k < 16 →
        t.core (16 * c + k) = { live := (t.core (16 * c + k)).live }) ∧
    (x.1 = 4 → t.chipState = stBringup ∧ t.chip.warm = true ∧ t.chip.fatal = false ∧ t.chip.trained = 0 ∧ t.cores = [] ∧ t.hubs = [] ∧
      t.phys = {} ∧ t.greqs = [] ∧ t.heldPkts = [] ∧ (∀ q, q < 8 → t.portState q = psOff ∧ t.portEnabled q = false) ∧
      (∀ p, s.enabled p = true → t.enabled p = true ∧ t.pState p = stBringup) ∧ (∀ i, i < 21 → t.rd R.CNT_GLB 0 i = 0) ∧
      t.rdF R.GLB_BRINGUP_STATUS F.GLB_BRINGUP_STATUS_DONE 0 0 = 0 ∧ t.rd R.GLB_ERR_FATAL 0 0 = 0 ∧
      t.rdF R.CRC_RESET_STATUS F.CRC_RESET_STATUS_WARM_COUNT 0 0 =
        min 65535 (s.rdF R.CRC_RESET_STATUS F.CRC_RESET_STATUS_WARM_COUNT 0 0 + 1) ∧
      (s.rdF R.GLB_BRINGUP_STATUS F.GLB_BRINGUP_STATUS_BUSY 0 0 = 1 →
        t.rdF R.GLB_BRINGUP_STATUS F.GLB_BRINGUP_STATUS_ERROR 0 0 = 7)) ∧
    (x.1 = 5 → t.chipState = stCold ∧ (∀ a, Sp.get 0 t.mem a = if a < hostBase then 0 else Sp.get 0 s.mem a) ∧
      (∀ a, ¬ R.CRC_RESET_STATUS.owns a → Sp.find a t.regs = none) ∧ t.parts = [] ∧ t.cores = [] ∧ t.hubs = [] ∧ t.ports = [] ∧
      t.log = [] ∧ t.ftime = State.reset.ftime ∧ t.pending = s.pending ∧ t.sec.svn = s.sec.svn))) ∧
  (s.resetBusy = false → exec .resetDone s = .next s) ∧
  (s.resetBusy = true → (s.resetLevel = 3 → s.chip.resetTarget < 64) → Ends .resetDone s (fun t => t.resetBusy = false ∧
    t.rdF R.CRC_RESET_STATUS F.CRC_RESET_STATUS_DONE 0 0 = 1 ∧
    t.rdF R.CRC_RESET_STATUS F.CRC_RESET_STATUS_ERROR 0 0 = (if s.resetLevel = 3 ∧ s.chip.fatal = true then 4 else 0) ∧
    (s.resetLevel = 3 → s.chip.fatal = false → t.pState s.chip.resetTarget = stReady ∧
      t.rdF R.SEQ_POSITION F.SEQ_POSITION_HOLD_CAUSE s.chip.resetTarget 0 = 0) ∧
    (s.resetLevel = 4 → t.chip.warming = false ∧ t.chipState = s.chipState ∧ t.mem = s.mem) ∧
    (s.resetLevel = 5 → t.chipState = (if s.pkg.testMode = true then s.chipState else stBringup) ∧ t.mem = s.mem) ∧
    (s.resetLevel < 3 → ∀ g : Fd, g ≠ .regs → g.Same s t)))) ∧
  (∀ (s : State) (m : Bool),
  Ends .powerOnReset s (fun t => t.regs = [] ∧ t.chipState = stCold ∧ (∀ a, Sp.get 0 t.mem a = if a < hostBase then 0 else Sp.get 0 s.mem a) ∧
    t.parts = [] ∧ t.cores = [] ∧ t.hubs = [] ∧ t.ports = [] ∧ t.phys = {} ∧ t.log = [] ∧ t.heldPkts = [] ∧ t.pkg = { por := true } ∧
    t.pending = s.pending ∧ t.sec.svn = s.sec.svn ∧ t.sec.slotA = s.sec.slotA ∧ t.sec.slotB = s.sec.slotB ∧ t.sec.recA = s.sec.recA ∧
    t.sec.savedA = s.sec.savedA ∧ t.sec.ideKey = [] ∧ t.mgt.standby = s.mgt.standby ∧
    t.out = (if s.pkg.tripped = true then s.out ++ [.pin "THERMTRIP_N" 1] else s.out)) ∧
  (s.pkg.por = false → exec (.powerOnResetEnd m) s = .next s) ∧
  (s.pkg.por = true → Ends (.powerOnResetEnd m) s (fun t => t.pkg = { s.pkg with por := false, testMode := m } ∧
    t.chipState = (if m = true then s.chipState else stBringup) ∧ t.mem = s.mem ∧ (m = true → t.regs = s.regs) ∧
    (m = false → s.fwRec = none → t.rdF R.SEC_FW_STATUS F.SEC_FW_STATUS_RECOVERY 0 0 = 1))))

/-- Bring-up routines (R497 to R499, R504, R507): a GO while one runs is counted; one refused ends at once with its ERROR and
changes nothing else; one accepted sets BUSY. OPTICS_UP enables its ports at once. -/
def Obligations.BringupRoutines : Prop := ∀ (s : State) (x : Nat × Instr) (st ch po ar : Nat) (f : Bool),
  st < 2 ^ 12 → ch < 256 → po < 256 → ar < 256 →
  x ∈ ([(1, .fuseLoad), (2, .bridgeTrain f), (3, .hbmTrain st f), (4, .bulkTrain ch f), (5, .opticsUp po f), (6, .memTest st ch f),
    (7, .discover ar), (8, .saveSettings), (9, .clearSettings), (10, .ready)] : List (Nat × Instr)) →
  ∀ refused : Nat → Prop, (refused = fun e => Ends x.2 s (fun t =>
    t.rdF R.GLB_BRINGUP_STATUS F.GLB_BRINGUP_STATUS_BUSY 0 0 = 0 ∧ t.rdF R.GLB_BRINGUP_STATUS F.GLB_BRINGUP_STATUS_END 0 0 = 1 ∧
    t.rdF R.GLB_BRINGUP_STATUS F.GLB_BRINGUP_STATUS_ERROR 0 0 = e ∧ t.rdF R.GLB_BRINGUP_STATUS F.GLB_BRINGUP_STATUS_LAST 0 0 = x.1 ∧
    t.rdF R.GLB_BRINGUP_STATUS F.GLB_BRINGUP_STATUS_DONE 0 0 = s.rdF R.GLB_BRINGUP_STATUS F.GLB_BRINGUP_STATUS_DONE 0 0 ∧
    (∀ g : Fd, g ≠ .regs → g ≠ .free → g.Same s t) ∧ ∀ a, ¬ R.GLB_BRINGUP_STATUS.owns a → ¬ R.GLB_BRINGUP_CMD.owns a →
      Sp.find a t.regs = Sp.find a s.regs)) →
  ∀ us, us = bitList ((if x.1 = 3 ∨ x.1 = 6 then st else 0) + (if x.1 = 4 ∨ x.1 = 6 then ch else 0) * 4096) 20 →
  (s.rdF R.GLB_BRINGUP_STATUS F.GLB_BRINGUP_STATUS_BUSY 0 0 = 1 → exec x.2 s = .next s.regErr) ∧
  (s.rdF R.GLB_BRINGUP_STATUS F.GLB_BRINGUP_STATUS_BUSY 0 0 = 0 →
    (s.rdF R.SEC_FW_STATUS F.SEC_FW_STATUS_RECOVERY 0 0 = 1 ∨ (s.chipState ≠ stBringup ∧ (s.chipState ≠ stReady ∨ (x.1 ≠ 8 ∧ x.1 ≠ 9))) →
      refused 3) ∧
    (s.rdF R.SEC_FW_STATUS F.SEC_FW_STATUS_RECOVERY 0 0 = 0 → s.chipState = stBringup ∨ (s.chipState = stReady ∧ (x.1 = 8 ∨ x.1 = 9)) →
      ∀ met, (met ↔ (x.1 = 2 → s.bringupDone 1 = true) ∧ (x.1 = 3 ∨ x.1 = 4 ∨ x.1 = 5 → s.bringupDone 2 = true) ∧
        (x.1 = 6 → ∀ u ∈ us, bit s.chip.trained u = true ∧
          (12 ≤ u → s.rdF R.BLK_STATUS F.BLK_STATUS_PRESENT (u - 12) 0 = 1)) ∧ (x.1 = 7 → s.bringupDone 5 = true)) →
      (¬ met → refused 2) ∧
      (x.1 = 10 → (∃ u, u < 20 ∧ s.memResult u = 1) → refused 9) ∧
      (x.1 = 10 → (∀ u, u < 20 → s.memResult u ≠ 1) → (s.remapLoaded = false ∨
        s.rdF R.CRC_CCLK_SELECT F.CRC_CCLK_SELECT_LOCKED 0 0 = 0 ∨ (∃ k, k < 12 ∧ s.rdF R.HBM_STATUS F.HBM_STATUS_TRAINED k 0 = 0) ∨
        (s.chip.warm = false ∧ ∃ b, b < 8 ∧ s.rdF R.BLK_STATUS F.BLK_STATUS_PRESENT b 0 = 1 ∧ s.memResult (12 + b) = 3) ∨
        s.bringupDone 7 = false ∨ s.bringupDone 5 = false) → refused 10) ∧
      (met → (x.1 = 10 → (∀ u, u < 20 → s.memResult u ≠ 1) ∧ s.remapLoaded = true ∧
        s.rdF R.CRC_CCLK_SELECT F.CRC_CCLK_SELECT_LOCKED 0 0 = 1 ∧ (∀ k, k < 12 → s.rdF R.HBM_STATUS F.HBM_STATUS_TRAINED k 0 = 1) ∧
        (s.chip.warm = true ∨ ∀ b, b < 8 → s.rdF R.BLK_STATUS F.BLK_STATUS_PRESENT b 0 = 1 → s.memResult (12 + b) ≠ 3) ∧
        s.bringupDone 7 = true ∧ s.bringupDone 5 = true) → Ends x.2 s (fun t =>
        t.rdF R.GLB_BRINGUP_STATUS F.GLB_BRINGUP_STATUS_BUSY 0 0 = 1 ∧ t.rdF R.GLB_BRINGUP_STATUS F.GLB_BRINGUP_STATUS_END 0 0 = 0 ∧
        t.rdF R.GLB_BRINGUP_STATUS F.GLB_BRINGUP_STATUS_ERROR 0 0 = 0 ∧
        t.rdF R.GLB_BRINGUP_STATUS F.GLB_BRINGUP_STATUS_LAST 0 0 = x.1 ∧
        F.GLB_BRINGUP_CMD_ROUTINE.get t.chip.routine = x.1 ∧ cmdUnits t.chip.routine = us ∧ t.mem = s.mem ∧ t.parts = s.parts ∧
        t.rdF R.GLB_BRINGUP_STATUS F.GLB_BRINGUP_STATUS_FALLBACK 0 0 = b2n (s.startFallback t.chip.routine) ∧
        (x.1 ≠ 5 → t.ports = s.ports) ∧ (x.1 = 5 → ∀ q, q < 8 → (bit po q = true → t.portEnabled q = true) ∧
          (bit po q = false → t.port q = s.port q ∧ t.portEnabled q = s.portEnabled q))))))

/-- The end of each routine and what it leaves (R500 to R503, R505, R508, R509): trained and tested units, cleared contents,
repairs queued, the saved record, and READY. One whose condition is not met goes on; DISCOVER times out with ERROR 5. -/
def Obligations.RoutineEnds : Prop := ∀ (s : State) (r : Bringup),
  (s.rdF R.GLB_BRINGUP_STATUS F.GLB_BRINGUP_STATUS_BUSY 0 0 = 0 → exec (.routineEnd r) s = .next s ∧ exec .discoverTimeout s = .next s) ∧
  (∀ k us (ends : Instr → Nat → (State → Prop) → Prop), s.rdF R.GLB_BRINGUP_STATUS F.GLB_BRINGUP_STATUS_BUSY 0 0 = 1 →
    k = F.GLB_BRINGUP_CMD_ROUTINE.get s.chip.routine → us = cmdUnits s.chip.routine →
    (ends = fun c e P => Ends c s (fun t =>
      t.rdF R.GLB_BRINGUP_STATUS F.GLB_BRINGUP_STATUS_BUSY 0 0 = 0 ∧ t.rdF R.GLB_BRINGUP_STATUS F.GLB_BRINGUP_STATUS_END 0 0 = 1 ∧
      t.rdF R.GLB_BRINGUP_STATUS F.GLB_BRINGUP_STATUS_ERROR 0 0 = e ∧ t.rdF R.GLB_BRINGUP_STATUS F.GLB_BRINGUP_STATUS_LAST 0 0 = k ∧
      (e = 0 → t.bringupDone k = true) ∧ (∀ j, (j ≠ k ∨ e ≠ 0) → t.bringupDone j = s.bringupDone j) ∧ P t)) →
    (k = 7 → ends .discoverTimeout 5 (fun t => t.chip = s.chip ∧ t.mem = s.mem)) ∧
    (k ≠ 7 → exec .discoverTimeout s = .next s) ∧
    (k = 1 → (r.fuseOk = true → ends (.routineEnd r) 0 (fun t => t.rdF R.GLB_REMAP_STATUS F.GLB_REMAP_STATUS_LOADED 0 0 = 1 ∧
        ∀ d p sl, d < 4 → p < 17 → sl < 17 → unitWord 1 d p sl 0 ∈ r.fuses → bit (t.slotMask (d * 17 + p)) sl = true)) ∧
      (r.fuseOk = false → ends (.routineEnd r) 4 (fun t => t.rdF R.GLB_REMAP_STATUS F.GLB_REMAP_STATUS_LOAD_ERROR 0 0 = 1 ∧
        t.phys = s.phys))) ∧
    (k = 2 → (∀ i, i < 4 → ∃ e ∈ r.missed, e.1 < 4 ∧ e.2 = i) → ends (.routineEnd r) 4 (fun t =>
      t.rdF R.CRC_CCLK_SELECT F.CRC_CCLK_SELECT_USABLE 0 0 = 0)) ∧
    (k = 2 → r.missed = [] → r.failed = [] → (∀ e ∈ r.avs, e.1 < 3) → ends (.routineEnd r) 0 (fun t =>
      t.rdF R.CRC_CCLK_SELECT F.CRC_CCLK_SELECT_USABLE 0 0 = 15 ∧ t.rdF R.CRC_CCLK_SELECT F.CRC_CCLK_SELECT_FREQ 0 0 = 0 ∧
      t.rdF R.CRC_CCLK_SELECT F.CRC_CCLK_SELECT_LOCKED 0 0 = 1 ∧
      t.rdF R.CRC_AVS F.CRC_AVS_TARGET_MV 0 0 = bits (s.rd R.CRC_AVS_FUSED 0 0) 15 0)) ∧
    (k = 3 → (∀ u ∈ us, u < 12) → ends (.routineEnd r) (if us.any (fun u => decide (u ∈ r.failed)) then 4 else 0) (fun t =>
      ∀ u ∈ us, (u ∈ r.failed → bit t.chip.trained u = bit s.chip.trained u) ∧ (u ∉ r.failed → bit t.chip.trained u = true ∧
        t.rdF R.HBM_STATUS F.HBM_STATUS_DEGRADED u 0 = b2n (decide (u ∈ r.degraded)) ∧
        (s.trainsFully s.chip.routine 2 u r = true → (∀ e ∈ t.repair, e.1 ≠ u) ∧ (s.chip.warm = true → ∀ a, hbmStackBytes * u ≤ a →
          a < hbmStackBytes * (u + 1) → Sp.get 0 t.mem a = 0)) ∧
        (s.trainsFully s.chip.routine 2 u r = false → ∀ a, hbmStackBytes * u ≤ a → a < hbmStackBytes * (u + 1) →
          Sp.get 0 t.mem a = Sp.get 0 s.mem a)))) ∧
    (k = 4 → (∀ u ∈ us, 12 ≤ u) → ends (.routineEnd r) (if us.any (fun u => decide (u ∈ r.failed)) then 4 else 0) (fun t =>
      ∀ b, 12 + b ∈ us → (12 + b ∈ r.failed ∨ (∀ m ∈ r.modules, m.1 ≠ b) → t.rdF R.BLK_STATUS F.BLK_STATUS_PRESENT b 0 = 0 ∧
          t.rdF R.BLK_STATUS F.BLK_STATUS_CAPACITY_GIB b 0 = 0) ∧
        (∀ m, r.modules.find? (fun x => x.1 = b) = some m → 12 + b ∉ r.failed → m.2.1 < 65536 → m.2.2.1 < 65536 →
          t.rdF R.BLK_STATUS F.BLK_STATUS_PRESENT b 0 = 1 ∧ t.rdF R.BLK_STATUS F.BLK_STATUS_CAPACITY_GIB b 0 = m.2.1 ∧
          t.rdF R.BLK_STATUS F.BLK_STATUS_SPEED_MTS b 0 = m.2.2.1 ∧ bit t.chip.trained (12 + b) = true))) ∧
    (k = 5 → ∀ qs, qs = bitList (F.GLB_BRINGUP_CMD_PORTS.get s.chip.routine) 8 →
      ((∃ q ∈ qs, (s.portState q = psOff ∨ s.portState q = psLock ∨ s.portState q = psDown) ∧ q ∉ r.failed) →
        exec (.routineEnd r) s = .next s) ∧
      ((∀ q ∈ qs, s.portState q = psOff ∨ s.portState q = psLock ∨ s.portState q = psDown → q ∈ r.failed) →
        ends (.routineEnd r) (if qs.any (fun q => decide (q ∈ r.failed)) then 4 else 0) (fun t => t.ports = s.ports))) ∧
    (k = 6 → ends (.routineEnd r) 0 (fun t => ∀ u ∈ us, (∀ a, (if u < 12 then hbmStackBytes * u else bulkBase + bulkSlot * (u - 12)) ≤ a →
        a < (if u < 12 then hbmStackBytes * (u + 1) else bulkBase + bulkSlot * (u - 11)) → Sp.get 0 t.mem a = 0) ∧
      (u ∈ r.spent → t.memResult u = 2) ∧ (u ∉ r.spent → (∀ e ∈ s.repair, e.1 ≠ u) → (∀ e ∈ r.rows, e.1 ≠ u) →
        t.memResult u = 0 ∧ bit t.chip.passed u = true ∧ (u < 12 → t.rdF R.HBM_STATUS F.HBM_STATUS_TRAINED u 0 = 1)))) ∧
    (k = 7 → (s.rdF R.RLY_FABRIC_COORD F.RLY_FABRIC_COORD_CONFLICT 0 0 = 1 → ends (.routineEnd r) 4 (fun _ => True)) ∧
      (s.rdF R.RLY_FABRIC_COORD F.RLY_FABRIC_COORD_CONFLICT 0 0 = 0 → ∀ ok, (ok ↔ (s.hasCoords = true ∨
          s.rdF R.RLY_FABRIC_DIMS F.RLY_FABRIC_DIMS_SPARE 0 0 = 1) ∧ (s.timeState = 1 ∨ s.isRoot = true)) →
        (ok → ends (.routineEnd r) 0 (fun t => t.chip = s.chip)) ∧ (¬ ok → exec (.routineEnd r) s = .next s))) ∧
    (k = 8 ∨ k = 9 → (r.flashFail = true → ends (.routineEnd r) 6 (fun t => t.sec = s.sec)) ∧
      (r.flashFail = false → ends (.routineEnd r) 0 (fun t => ∃ e, t.savedRec = some e ∧
        e.counter = (s.savedRec.map (·.counter)).getD 0 + 1 ∧ (k = 9 → e.ents = []) ∧
        (k = 8 → e.ents.map (fun x => (x.kind, x.unit)) = s.chip.everTrained)))) ∧
    (k = 10 → s.readyErr = 0 → (∀ p, s.enabled p = true → (s.part p).enabling = false) → s.chip.fatal = false →
      s.rdF R.GLB_STATE F.GLB_STATE_HOST_LOST 0 0 = 0 → ends (.routineEnd r) 0 (fun t => t.chipState = stReady ∧
        t.chip.everReady = true ∧ t.mem = s.mem ∧ (∀ p, s.enabled p = true → t.pState p = stReady) ∧
        ∀ b, b < 8 → s.rdF R.BLK_STATUS F.BLK_STATUS_PRESENT b 0 = 0 ∨ s.memResult (12 + b) = 2 →
          t.rdF R.BLK_STATUS F.BLK_STATUS_PRESENT b 0 = 0 ∧ t.rdF R.BLK_STATUS F.BLK_STATUS_CAPACITY_GIB b 0 = 0)) ∧
    (k = 10 → s.readyErr ≠ 0 → ends (.routineEnd r) s.readyErr (fun t => t.chip = s.chip ∧ t.chipState = s.chipState)))

/-- Droop, clocks and lanes of stacks (R39, R40, R476, R490, R491, R547, R548, R555): a droop episode is counted once and reported
once a lap; a CCLK setting is taken in BRINGUP and READY alone and the voltage moves first on a rise and last on a fall; a
lost SYSREF and a lane of a DEGRADED stack are class F. -/
def Obligations.ClocksAndDroop : Prop := ∀ (s : State),
  (∀ die, s.rdF R.CRC_DROOP_CTRL F.CRC_DROOP_CTRL_ENABLE 0 0 = 0 ∨ s.chip.droop = true → exec (.droopTrip die) s = .next s) ∧
  (∀ die, die < 4 → s.rdF R.CRC_DROOP_CTRL F.CRC_DROOP_CTRL_ENABLE 0 0 = 1 → s.chip.droop = false → Ends (.droopTrip die) s (fun t =>
    t.chip = { s.chip with droop := true } ∧ t.rd R.CNT_GLB 0 16 = (s.rd R.CNT_GLB 0 16 + 1) % 2 ^ 64 ∧
    (t.part 0).lapDroop = true ∧ ((s.part 0).lapDroop = true → t.log = s.log ∧ t.parts = s.parts) ∧
    ((s.part 0).lapDroop = false → t.log.getLast? = some ⟨0x0103, 7, s.leg 0, s.lap 0, die, 0, s.ftime % 2 ^ 64⟩))) ∧
  (∀ n, (s.chip.droop = false → exec (.droopStretchEnd n) s = .next s) ∧
    (s.chip.droop = true → Ends (.droopStretchEnd n) s (fun t => t.chip = { s.chip with droop := false } ∧ t.parts = s.parts ∧
      t.rd R.CNT_GLB 0 17 = (s.rd R.CNT_GLB 0 17 + n) % 2 ^ 64))) ∧
  (∀ fr n st mv, fr < 4 → n ≤ 3 → ∀ may old new, may = (decide (s.chipState = stBringup) && s.bringupDone 2 || s.inReady) →
    old = s.rdF R.CRC_CCLK_SELECT F.CRC_CCLK_SELECT_FREQ 0 0 → new = bits (s.rd R.CRC_AVS_FUSED 0 0) (16 * fr + 15) (16 * fr) →
    (may = false ∨ s.rdF R.CRC_CCLK_SELECT F.CRC_CCLK_SELECT_PENDING 0 0 = 1 ∨
        bit (s.rdF R.CRC_CCLK_SELECT F.CRC_CCLK_SELECT_USABLE 0 0) fr = false →
      exec (.cclkFreqWrite fr n st mv) s = .next (s.regErr.event E.CCLK_REJECTED 0 fr 0)) ∧
    (may = true → s.rdF R.CRC_CCLK_SELECT F.CRC_CCLK_SELECT_PENDING 0 0 = 0 →
        bit (s.rdF R.CRC_CCLK_SELECT F.CRC_CCLK_SELECT_USABLE 0 0) fr = true → Ends (.cclkFreqWrite fr n st mv) s (fun t =>
      t.rdF R.CRC_CCLK_SELECT F.CRC_CCLK_SELECT_FREQ 0 0 = fr ∧ t.rdF R.CRC_CCLK_SELECT F.CRC_CCLK_SELECT_PENDING 0 0 = 1 ∧
      t.rdF R.CRC_CCLK_SELECT F.CRC_CCLK_SELECT_LOCKED 0 0 = 0 ∧ t.chip.falling = decide (fr < old) ∧
      (fr ≤ old → t.out = s.out ∧ t.rd R.CRC_AVS 0 0 = s.rd R.CRC_AVS 0 0) ∧
      (old < fr → t.rd R.CNT_TEL 0 5 = (s.rd R.CNT_TEL 0 5 + n) % 2 ^ 64) ∧
      (old < fr → n < 3 → t.out = s.out ++ List.replicate (n + 1) (.bus "AVS" 0 new) ∧
        t.rdF R.CRC_AVS F.CRC_AVS_TARGET_MV 0 0 = new % 65536 ∧ t.rdF R.CRC_AVS F.CRC_AVS_READ_MV 0 0 = mv % 65536) ∧
      (old < fr → n = 3 → t.chipState = stFailed ∧ t.rd R.CRC_AVS 0 0 = s.rd R.CRC_AVS 0 0 ∧
        s.out ++ List.replicate 3 (.bus "AVS" 0 new) <+: t.out ∧
        (⟨0x0106, 4, s.leg 0, s.lap 0, new, st, s.ftime % 2 ^ 64⟩ : EventRec) ∈ t.log)))) ∧
  (∀ n st mv, n ≤ 3 → (s.rdF R.CRC_CCLK_SELECT F.CRC_CCLK_SELECT_PENDING 0 0 = 0 → exec (.cclkRelockDone n st mv) s = .next s) ∧
    (∀ fr new, fr = s.rdF R.CRC_CCLK_SELECT F.CRC_CCLK_SELECT_FREQ 0 0 →
      new = bits (s.rd R.CRC_AVS_FUSED 0 0) (16 * fr + 15) (16 * fr) →
      s.rdF R.CRC_CCLK_SELECT F.CRC_CCLK_SELECT_PENDING 0 0 = 1 → Ends (.cclkRelockDone n st mv) s (fun t =>
        t.rdF R.CRC_CCLK_SELECT F.CRC_CCLK_SELECT_PENDING 0 0 = 0 ∧ t.rdF R.CRC_CCLK_SELECT F.CRC_CCLK_SELECT_LOCKED 0 0 = 1 ∧
        t.rdF R.CRC_CCLK_SELECT F.CRC_CCLK_SELECT_FREQ 0 0 = fr ∧ t.chip.falling = false ∧
        (s.chip.falling = false → t.out = s.out ∧ t.rd R.CRC_AVS 0 0 = s.rd R.CRC_AVS 0 0) ∧
        (s.chip.falling = true → n < 3 → t.out = s.out ++ List.replicate (n + 1) (.bus "AVS" 0 new) ∧
          t.rdF R.CRC_AVS F.CRC_AVS_TARGET_MV 0 0 = new % 65536)))) ∧
  (∀ st l, st < 12 → ∀ u, u = unitWord 0x0A st (l % 256) (l / 256 % 256) 0xFFFF →
    (s.rdF R.HBM_STATUS F.HBM_STATUS_DEGRADED st 0 = 0 → exec (.tsvLaneFail st l) s = .next (s.event E.TSV_LANE 0 u 0)) ∧
    (s.rdF R.HBM_STATUS F.HBM_STATUS_DEGRADED st 0 = 1 → Ends (.tsvLaneFail st l) s (fun t => t.chipState = stFailed ∧
      ∀ p, s.enabled p = true → t.pState p = stFailed))) ∧
  Ends .sysrefLost s (fun t => t.chipState = stFailed ∧ ∀ p, s.enabled p = true → t.pState p = stFailed)

/-- Fences of slots, hubs, lanes and modules (R33, R35, R478 to R481, R484): FENCE_REQUEST with its ERROR, and the lane and module
failures that fence as it does. A fence of a unit that is absent or fenced already changes nothing. -/
def Obligations.UnitFences : Prop := ∀ (s : State) (v K d a b dir : Nat),
  K = F.GLB_FENCE_REQ_KIND.get v → d = F.GLB_FENCE_REQ_DIE.get v → a = F.GLB_FENCE_REQ_A.get v → b = F.GLB_FENCE_REQ_B.get v →
  dir = F.GLB_FENCE_REQ_DIR.get v → ∀ (req : Nat → Prop) (kept : State → Prop),
  (req = fun e => Ends (.fenceRequest v) s (fun t => (∀ f : Fd, f ≠ .regs → f.Same s t) ∧
    (∀ x, ¬ R.GLB_FENCE_REQ.owns x → Sp.find x t.regs = Sp.find x s.regs) ∧
    t.rd R.GLB_FENCE_REQ 0 0 = (v &&& 0x031F1F1F03000000) + e)) →
  (kept = fun t => ∀ p, (t.part p).stop = (s.part p).stop ∧ (t.part p).heldClusters = (s.part p).heldClusters) →
  (K = 0 ∨ 5 < K → req 1) ∧
  (K = 1 → (16 < a ∨ 16 < b → req 1) ∧ (a ≤ 16 → b ≤ 16 → ∀ j, j = d * 17 + a → (bit (s.slotMask j) b = true → req 2) ∧
    (bit (s.slotMask j) b = false → Ends (.fenceRequest v) s (fun t => t.phys = { s.phys with
      slots := Sp.set 0 s.phys.slots j (setBit (s.slotMask j) b true) } ∧ t.rdF R.GLB_FENCE_REQ F.GLB_FENCE_REQ_ERROR 0 0 = 0 ∧
      t.rd R.CNT_GLB 0 11 = (s.rd R.CNT_GLB 0 11 + 1) % 2 ^ 64 ∧ t.mem = s.mem ∧
      (s.clusterAt d a = none → kept t) ∧
      (∀ c, s.clusterAt d a = some c → c < 64 → t.rdF R.CLU_CORE_REMAP F.CLU_CORE_REMAP_SLOT_FENCED c 0 = t.slotMask j % 2 ^ 17 ∧
        (s.coreAt c b = none ∨ s.partOfCluster c = none → kept t) ∧
        (∀ p, s.partOfCluster c = some p → s.coreAt c b ≠ none → c ∈ (t.part p).heldClusters ∧
          (s.isRunning p = true → (s.part p).stop = 0 → (s.part p).journalOverflow = false → s.attempt p ≠ 3 →
            (s.part p).folded = false → (s.part p).atLap = false → (t.part p).stop = 1))))))) ∧
  (K = 2 → (16 < a → req 1) ∧ (a ≤ 16 → ∀ j, j = d * 17 + a → (s.hubFenced j = true → req 2) ∧
    (s.hubFenced j = false → Ends (.fenceRequest v) s (fun t => t.phys = { s.phys with hubs := setBit s.phys.hubs j true } ∧
      t.rdF R.GLB_FENCE_REQ F.GLB_FENCE_REQ_ERROR 0 0 = 0 ∧ t.rd R.CNT_GLB 0 12 = (s.rd R.CNT_GLB 0 12 + 1) % 2 ^ 64 ∧
      t.mem = s.mem ∧ (s.clusterAt d a = none → kept t) ∧
      (∀ c p, s.clusterAt d a = some c → s.partOfCluster c = some p → c ∈ (t.part p).heldClusters ∧
        (s.isRunning p = true → (s.part p).stop = 0 → (s.part p).journalOverflow = false → s.attempt p ≠ 3 →
          (s.part p).folded = false → (s.part p).atLap = false → (t.part p).stop = 1)))))) ∧
  (∀ kind, kind < 2 → K = 3 + kind → ∀ lim k m, lim = (if kind = 0 then 9 else 5) → k = laneKey kind d a dir →
    m = Sp.get 0 s.phys.lanes k →
    ((linkExists a dir = false ∨ lim ≤ b) → req 1 ∧ exec (.meshLaneFail kind d a dir b) s = .next s) ∧
    (linkExists a dir = true → b < lim → (bit m b = true → req 2 ∧ exec (.meshLaneFail kind d a dir b) s = .next s) ∧
      (bit m b = false → ∀ x ∈ ([.fenceRequest v, .meshLaneFail kind d a dir b] : List Instr), Ends x s (fun t =>
        t.phys.slots = s.phys.slots ∧ t.phys.hubs = s.phys.hubs ∧ t.phys.modules = s.phys.modules ∧ t.mem = s.mem ∧
        t.phys.lanes = Sp.set 0 s.phys.lanes k (setBit m b true) ∧
        (m ≠ 0 → t.chipState = stFailed ∧ ∀ p, s.enabled p = true → t.pState p = stFailed) ∧
        (m = 0 → b + 1 = lim → kept t ∧ t.phys.laneUse = s.phys.laneUse) ∧
        (m = 0 → b + 1 < lim → kind = 0 → (∀ p, p ∈ s.routesOn d → s.isRunning p = true → (s.part p).stop = 0 →
            (s.part p).journalOverflow = false → s.attempt p ≠ 3 → (s.part p).folded = false → (s.part p).atLap = false →
            (t.part p).stop = 1 ∨ t.chipState = stFailed) ∧
          Sp.get 0 t.phys.laneUse k = (if s.routesOn d = [] then 2 else 1)) ∧
        (m = 0 → b + 1 < lim → kind = 1 → kept t ∧ Sp.get 0 t.phys.laneUse k = (if s.noneRunning = true then 2 else 1)))))) ∧
  (K = 5 → ∀ m, m = Sp.get 0 s.phys.modules a → exec (.bridgeModuleFail a b true) s = .next s ∧
    ((5 < a ∨ bridgeModules a ≤ b) → req 1 ∧ exec (.bridgeModuleFail a b false) s = .next s) ∧
    (a ≤ 5 → b < bridgeModules a → (bit m b = true → req 2 ∧ exec (.bridgeModuleFail a b false) s = .next s) ∧
      (bit m b = false → ∀ x ∈ ([.fenceRequest v, .bridgeModuleFail a b false] : List Instr), Ends x s (fun t =>
        t.phys.slots = s.phys.slots ∧ t.phys.hubs = s.phys.hubs ∧ t.phys.lanes = s.phys.lanes ∧ t.mem = s.mem ∧
        t.phys.modules = Sp.set 0 s.phys.modules a (setBit m b true) ∧
        (m ≠ 0 → t.chipState = stFailed ∧ ∀ p, s.enabled p = true → t.pState p = stFailed) ∧
        (m = 0 → kept t) ∧ (m = 0 → b + 1 = bridgeModules a → t.phys.moduleUse = s.phys.moduleUse) ∧
        (m = 0 → b + 1 < bridgeModules a → Sp.get 0 t.phys.moduleUse a = (if s.noneRunning = true then 2 else 1))))))

/-! ## Errors and events -/

/-- A class F error stops every partition and the chip (R468), and is kept as the first of its kind since reset (R477). -/
def Obligations.ClassFStops : Prop := ∀ (s : State) (e : Ev) (p d0 d1 : Nat), p < 64 → e.cls.code = 4 → ∀ t, t = s.raise e p d0 d1 →
  t.chipState = stFailed ∧ t.chip.fatal = true ∧
  (∀ q, s.enabled q = true → t.pState q = stFailed ∧ (t.part q).stop = 2 ∧ (t.part q).running = false) ∧
  (bit (s.rd R.GLB_ERR_FATAL 0 0) 63 = false → bits (t.rd R.GLB_ERR_FATAL 0 0) 15 0 = e.code % 65536 ∧
    bit (t.rd R.GLB_ERR_FATAL 0 0) 63 = true) ∧
  (bit (s.rd R.GLB_ERR_FATAL 0 0) 63 = true → t.rd R.GLB_ERR_FATAL 0 0 = s.rd R.GLB_ERR_FATAL 0 0) ∧ t.mem = s.mem

/-- Every event enters the management log of 1,024 records with its class, lap, leg and data, is counted by its class, and is
delivered to PF0 and the functions of its scope that select its class, unless the function's limit for the window is used up
(R466, R472 to R475). -/
def Obligations.EventsRecorded : Prop := ∀ (s : State) (e : Ev) (p d0 d1 : Nat) (r : EventRec) (t : State), t = s.event e p d0 d1 →
  r = ⟨e.code, e.cls.code, s.leg p, s.lap p, d0, d1, s.ftime % 2 ^ 64⟩ →
  t.log = (if s.log.length < 1024 then s.log else s.log.drop 1) ++ [r] ∧ t.logNext = (s.logNext + 1) % 2 ^ 32 ∧
  t.mem = s.mem ∧ t.chip = s.chip ∧
  (e.cls.code ≤ 4 → t.rd R.CNT_GLB 0 (6 + e.cls.code) = (s.rd R.CNT_GLB 0 (6 + e.cls.code) + 1) % 2 ^ 64) ∧
  (∃ l, t.store = s.store ++ l ∧ ∀ x ∈ l, x.bytes = r.bytes ∧ (x.fn = 0 ∨ x.fn ∈ s.eventFns e.scope p 0 none) ∧
    (if e.cls.code ≤ 4 then bit (s.rd R.QUE_FN_EVENT 0 x.fn) (16 + e.cls.code) = true
      else s.rdF R.QUE_FN_EVENT F.QUE_FN_EVENT_NOCLASS 0 x.fn = 1)) ∧
  (∀ f, f ∈ s.eventFns e.scope p 0 none → e.cls.code = 3 ∨ e.cls.code = 4 ∨ s.rdF R.QUE_FN_EVENT F.QUE_FN_EVENT_LIMIT 0 f = 0 →
    (if e.cls.code ≤ 4 then bit (s.rd R.QUE_FN_EVENT 0 f) (16 + e.cls.code) = true
      else s.rdF R.QUE_FN_EVENT F.QUE_FN_EVENT_NOCLASS 0 f = 1) → ∃ x ∈ t.store.drop s.store.length, x.fn = f ∧ x.bytes = r.bytes)

/-! ## Laps, legs and boundaries -/

/-- Run control (R60 to R67, R72): START and its rejection, HOLD_NEXT, RESUME from where the hold left off and the cases it is
ignored in, and STOP. -/
def Obligations.RunControl : Prop := ∀ (s : State) (p : Nat),
  (s.enabled p = false ∨ s.pState p ≠ stReady ∨ s.chip.fatal = true ∨ s.configOk p = false →
    exec (.start p) s = .next (s.regErr.event E.START_REJECTED p 0 0)) ∧
  (s.enabled p = true → s.pState p = stReady → s.chip.fatal = false → s.configOk p = true →
    ∀ z a b x : State, z = (s.clearRun p).setPState p s.runCode → a = (z.applyLeg p).applyLap p →
    b = (if p = 0 then a.applyLapChip else a) → x = (b.swapArmed p (z.armLeg p ||| z.armLap p) (b.gen p)).applyGuard p →
    z.pState p = s.runCode ∧ (z.part p).record = [] ∧ (z.part p).journal = [] ∧
    ∀ n, n = x.rdF R.SEQ_LAP_NUMBERS F.SEQ_LAP_NUMBERS_START_LAP p 0 →
    Ends (.start p) s (fun t => ∃ y w : State, w = ((y.mapChecks p).lapStart p).applySubst p ∧
      y = ((x.setLap p n).intakeOpen p n).setPos p [(F.SEQ_POSITION_LEG, 0), (F.SEQ_POSITION_ATTEMPT, 0)] ∧
      y.lap p = n ∧ y.leg p = 0 ∧ y.attempt p = 0 ∧
      t = (if (w.part p).stop ≠ 0 then w else match w.loadReplay p n with
        | (v, true) => v.lapBegin p
        | (v, false) => v.holdFor p [9] 1))) ∧
  (s.isRunning p = true → Ends (.holdNext p) s (fun t => t.part p = { s.part p with holdReq := true } ∧ t.regs = s.regs)) ∧
  (s.isRunning p = false → exec (.holdNext p) s = .next s) ∧
  (∀ c ∈ [Instr.resume p, .stop p], s.enabled p = false ∨ (s.pState p ≠ stHeld ∧ s.pState p ≠ stDetached) → exec c s = .next s) ∧
  (s.enabled p = true → s.pState p = stHeld ∨ s.pState p = stDetached →
    (s.pState p = stDetached ∧ s.hostLostBit = true ∨ (s.part p).shapeLost = true ∨
        ((s.part p).configBad = true ∧ s.configOk p = false) →
      exec (.resume p) s = .next (s.event E.START_REJECTED p 0 0)) ∧
    (¬ (s.pState p = stDetached ∧ s.hostLostBit = true) → (s.part p).shapeLost = false →
      ((s.part p).configBad = true → s.configOk p = true) →
      (∀ lap b, (s.part p).owed = some (lap, b) → s.recBlocked p (s.part p).recPos (cdiv b.length 4096) = true →
        exec (.resume p) s = .next (s.event E.START_REJECTED p 0 0)) ∧
      ((s.part p).owed = none → Ends (.resume p) s (fun t => ∃ y w v : State, y = s.setPState p s.runCode ∧
        y.pState p = s.runCode ∧ w = (y.setPos p [(F.SEQ_POSITION_HOLD_CAUSE, 0)]).applySubst p ∧
        v = (if (s.part p).configBad then (w.lapApply p).updPart p (fun q => { q with configBad := false }) else w) ∧
        ((v.part p).stop ≠ 0 → t = v) ∧
        ((v.part p).stop = 0 → ((s.part p).resumeAt = 0 → ∀ k, v.nextLeg p (v.leg p) = some k → t = v.nextLegBegin p k) ∧
          ((s.part p).resumeAt = 1 → t = (match v.loadReplay p (v.lap p) with
            | (r, true) => r.lapBegin p
            | (r, false) => r.holdFor p [9] 1)) ∧
          (1 < (s.part p).resumeAt → ∀ a, a = min (v.attempt p + 1) 3 →
            t = (v.reexecRec p (v.leg p) (s.part p).lCode a).beginLeg p (v.leg p) a))))) ∧
    Ends (.stop p) s (fun t => t.pState p = stReady ∧ (t.part p).running = false ∧ (t.part p).record = [] ∧
      (t.part p).journal = [] ∧ (t.part p).held = [] ∧ (t.part p).owed = none ∧
      ∀ g ∈ t.greqs, g.part = p → g.ctx ≠ 0))

/-- The boundaries within a lap (R53, R74, R77, R101, R280, R467 to R469, R486): completion, repeat and failing boundaries, the
completions a final pace point awaits, and the deadlines of waits. -/
def Obligations.LegBoundaries : Prop := ∀ (s : State) (p : Nat),
  (∀ errs u, u = s.plant errs →
    (∀ b k, (u.part p).bound = some b → u.nextLeg p (u.leg p) = some k → u.enabled p = true → u.isRunning p = true →
      (u.part p).stop = 0 → (u.part p).atLap = false → ∀ y, y = u.toB40 p b →
        ((y.part p).stop ≠ 0 → exec (.completionBoundary p errs) s = .next y) ∧
        ((y.part p).stop = 0 → y.boundaryHolds p ≠ [] →
          exec (.completionBoundary p errs) s = .next (y.holdFor p (y.boundaryHolds p) 0)) ∧
        ((y.part p).stop = 0 → y.boundaryHolds p = [] → exec (.completionBoundary p errs) s = .next (y.nextLegBegin p k))) ∧
    ((u.part p).bound = none → exec (.completionBoundary p errs) s = .next u) ∧
    (∀ w, (u.part p).pace = some w → u.legRunning p = true → w.endLeg = true → (u.part p).folded = false →
      (u.part p).tokensZero 0xFFFFFFFF = true → (u.part p).tokPend = [] →
      ((u.nextLeg p (u.leg p)).isSome = true ∨ u.sweepsBefore p (u.lap p) = false →
        Ends (.ledgerFold p errs) s (fun t => t.part p = { (u.ledgerFold p).part p with folded := true })) ∧
      (u.nextLeg p (u.leg p) = none → u.sweepsBefore p (u.lap p) = true → exec (.ledgerFold p errs) s = .next u)) ∧
    (u.legRunning p = false ∨ (u.part p).pace = none → exec (.ledgerFold p errs) s = .next u)) ∧
  (∀ (y : State) (l : List Nat) at_ t, p < 64 → t = y.holdFor p l at_ → t.pState p = (if l.foldl min 0xFF = 2 then stDetached
    else stHeld) ∧ (t.part p).running = false ∧ (t.part p).resumeAt = at_ ∧ (t.part p).holdReq = false) ∧
  (∀ (y : State) k a, p < 64 → ∃ z : State, z.leg p = k % 32 ∧ z.attempt p = a % 4 ∧ (z.part p).running = true ∧
    (z.part p).word = F.SEQ_LEG_TABLE_STRIDE_START.get (y.legEff p k) ∧ (z.part p).cycle = 0 ∧ (z.part p).tokens = [] ∧
    (z.part p).loops = [] ∧ (z.part p).bound = none ∧
    (z.slotValid p (z.legSlot p k) = false → y.beginLeg p k a = z.raise E.COURSE_MISSING p (z.posWord p (z.part p).word) 0) ∧
    (z.slotValid p (z.legSlot p k) = true → ∃ w x : State, w = z.loadCourse p (z.legSlot p k) ∧
      (w.part p).course = parseCourse (z.slotImage p (z.legSlot p k)) ∧ y.beginLeg p k a = x.retryHeld)) ∧
  (∀ cycles, s.enabled p = true → s.isRunning p = true → (s.part p).stop = 1 → ∀ y, y = (((s.drainDiscard p).setPos p
      [(F.SEQ_POSITION_IN_BOUNDARY, 1)]).updPart p (fun x => { x with lapCycles := x.lapCycles + (s.part p).cycle + cycles
        })).applySubst p → ∀ z, z = y.updPart p (fun x => { x with stop := 0 }) →
    ((y.part p).stop = 2 → exec (.repeatBoundary p cycles) s = .next y) ∧
    ((y.part p).stop ≠ 2 → (y.part p).shapeLost = true → exec (.repeatBoundary p cycles) s = .next (z.holdFor p [1] 2)) ∧
    ((y.part p).stop ≠ 2 → (y.part p).shapeLost = false → ∀ a, a = min (z.attempt p + 1) 3 → exec (.repeatBoundary p cycles) s =
      .next ((z.reexecRec p (z.leg p) (s.part p).lCode a).beginLeg p (z.leg p) a))) ∧
  (∀ cycles, s.enabled p = false ∨ s.isRunning p = false → exec (.repeatBoundary p cycles) s = .next s) ∧
  (s.enabled p = true → (s.part p).stop = 2 → Ends (.failingBoundary p) s (fun t => ∃ y : State, t = y.retryHeld ∧
    y.pState p = stFailed ∧ (y.part p).running = false ∧ (y.part p).stop = 0 ∧ (y.part p).journal = [] ∧
    (y.rly p).colls = [])) ∧
  (s.enabled p = false ∨ (s.part p).stop ≠ 2 → exec (.failingBoundary p) s = .next s) ∧
  (s.legRunning p = true → (s.part p).staged = none → Ends (.courseStagingDone p) s (fun t =>
    t.part p = { s.part p with staged := some (s.courseAhead p) } ∧ t.regs = s.regs)) ∧
  (s.legRunning p = false ∨ (s.part p).staged ≠ none → exec (.courseStagingDone p) s = .next s) ∧
  (s.legRunning p = true → s.pacedLeg p = true → s.replayOn p = false → (s.part p).deadline = false →
    Ends (.pacedDeadline p) s (fun t => ∃ y : State, t = (y.embDeadline p).rlyDeadline p ∧
      y.part p = { s.part p with deadline := true })) ∧
  (s.legRunning p = false ∨ s.pacedLeg p = false ∨ s.replayOn p = true ∨ (s.part p).deadline = true →
    exec (.pacedDeadline p) s = .next s) ∧
  (∀ peer qp seq, s.isRunning p = true → (s.part p).stallSeen = false →
    s.effF R.SEQ_LAP_CONFIG F.SEQ_LAP_CONFIG_STALL_LIMIT_MS p 0 ≠ 0 →
    ((s.part p).pace ≠ none ∧ s.legKind p = 3 ∧ s.pacedLeg p = false) ∨
      ((s.part p).atLap = true ∧ ∃ r, (s.part p).rly.digest = some r ∧ r.done = false) →
    Ends (.peerStallTimeout p peer qp seq) s (fun t => ∃ y : State, (y.part p).stallSeen = true ∧
      t = y.event E.PEER_STALL p (formP peer qp seq) 0)) ∧
  (∀ peer qp seq, s.isRunning p = false ∨ (s.part p).stallSeen = true ∨
    s.effF R.SEQ_LAP_CONFIG F.SEQ_LAP_CONFIG_STALL_LIMIT_MS p 0 = 0 → exec (.peerStallTimeout p peer qp seq) s = .next s)

/-- The lap boundary (R54, R72, R389) and the end of a lap-state block (R435): the first command closes the lap and begins the
digest relay, the boundary ends once the relay is done, and the lap number rises by one. -/
def Obligations.LapBoundary : Prop := ∀ (s : State) (p cycles : Nat),
  (∀ errs u b, u = s.plant errs → (u.part p).bound = some b → u.nextLeg p (u.leg p) = none → u.enabled p = true →
    u.isRunning p = true → (u.part p).stop = 0 → ∀ y, y = (if (u.part p).atLap then u else
      (u.toB40 p b).updPart p (fun x => { x with atLap := true })) →
    ((y.part p).stop ≠ 0 → exec (.lapBoundary p cycles errs) s = .next y) ∧
    ((y.part p).stop = 0 → ∀ z, z = (if (y.rly p).digest.isSome then y else y.lapClose p) →
      ((z.rly p).digest = none → exec (.lapBoundary p cycles errs) s = .next z) ∧
      (∀ r, (z.rly p).digest = some r → r.done = false ∨ (z.part p).stop ≠ 0 → exec (.lapBoundary p cycles errs) s = .next z) ∧
      (∀ r x, (z.rly p).digest = some r → r.done = true → (z.part p).stop = 0 →
        x = z.updPart p (fun q => { q with lapCycles := q.lapCycles + cycles }) →
        (x.lapRest p r.acc = none → exec (.lapBoundary p cycles errs) s = .next z) ∧
        (∀ t, x.lapRest p r.acc = some t → exec (.lapBoundary p cycles errs) s = .next t ∧
          (p < 64 → t.lap p = (x.lap p + 1) % 2 ^ 32))))) ∧
  (∀ errs u, u = s.plant errs → (u.part p).bound = none ∨ u.isRunning p = false ∨ (u.part p).stop ≠ 0 →
    exec (.lapBoundary p cycles errs) s = .next u) ∧
  (∀ (y : State) n, p < 64 → n < 2 ^ 32 → (y.setLap p n).lap p = n ∧
    (y.setLap p n).rdF R.SEQ_POSITION F.SEQ_POSITION_LAP_EPOCH p 0 = n % 256 ∧ (y.setLap p n).leg p = y.leg p) ∧
  (∀ (y : State) e, ((y.addRec p e).part p).record = (y.part p).record ++ [{ e with time := y.ftime % 2 ^ 64 }]) ∧
  (∀ a, (s.part p).lapStateOpen = some a →
    ((∀ k, k < 12 → s.sweepsOf k = []) → Ends (.lapStateFinal p) s (fun t => (t.part p).lapStateOpen = none ∧
      t.mem = ((s.save (a + 0x10) ((List.range 4).flatMap (fun j => leBytes 8 ((s.rd R.GLB_WEIGHT_DIGEST p j +
        ((s.part p).delta.map (fun e => e.2.getD j 0)).sum) % 2 ^ 64)))).saveN (a + 6) 2 1).mem)) ∧
    ((∃ k, k < 12 ∧ s.sweepsOf k ≠ []) → exec (.lapStateFinal p) s = .next s)) ∧
  ((s.part p).lapStateOpen = none → exec (.lapStateFinal p) s = .next s)

/-! ## The sequencer -/

/-- The issue of a stride word (R49, R113 to R122): where it traps, and otherwise the slots' effects in its first cycle, then its
end: the pace wait, the loop step of R116, or the next word. -/
def Obligations.StrideWords : Prop := ∀ (s : State) (p err w v u : Nat), w = (s.part p).word → v = s.storeWord w →
  u = (s.part p).cycle →
  (s.canIssue p = false → exec (.strideWordIssue p err) s = .next s) ∧
  (s.canIssue p = true →
    (262144 ≤ w → exec (.strideWordIssue p err) s = .next (s.raise E.LEG_OVERRUN p (s.posWord p (w - 1)) 0)) ∧
    (w < 262144 → s.bankOk p w = false ∨ s.guarded p w = false →
      exec (.strideWordIssue p err) s = .next (s.raise E.STRIDE_UNGUARDED p (s.posWord p w) 0)) ∧
    (w < 262144 → s.bankOk p w = true → s.guarded p w = true →
      (err = 2 → ∀ a, a = bits (s.rdEff R.SEQ_STRIDE_MASTER p 0) 47 8 * 256 +
          256 * (w - F.SEQ_STRIDE_GUARD_LO.get (s.rd R.SEQ_STRIDE_GUARD p 0)) →
        (s.check (s.progReq p .seq 0) a 256 = .refused →
          exec (.strideWordIssue p err) s = .next (s.raise E.STRIDE_MASTER p (s.posWord p w) 0)) ∧
        (∀ z, z = s.sense a 256 p (s.progReq p .seq 0).word → s.check (s.progReq p .seq 0) a 256 = .ok →
          (z.poisoned a 256 = true → exec (.strideWordIssue p err) s = .next (z.raise E.STRIDE_MASTER p (z.posWord p w) 0)) ∧
          (z.poisoned a 256 = false → exec (.strideWordIssue p err) s = .next ((({ z with
            mem := storeRaw z.mem (strideAddr w) (z.load a 256) } : State).count R.CNT_SEQ p 9 1).raise E.STRIDE_UE p
              (z.posWord p w) 0)))) ∧
      (∀ z, z = (if err = 1 then s.count R.CNT_SEQ p 7 1 else s) → err ≠ 2 →
        (strideFault (s.myClusters p) v = true →
          exec (.strideWordIssue p err) s = .next (z.raise E.STRIDE_ENCODING p (z.posWord p w) 0)) ∧
        (strideFault (s.myClusters p) v = false → swPace v = true → swResume v ≤ (s.part p).sched + swRepeat v + 1 →
          exec (.strideWordIssue p err) s = .next (z.raise E.PACE_ORDER p (z.posWord p w) 0)) ∧
        (strideFault (s.myClusters p) v = false → (swPace v = true → (s.part p).sched + swRepeat v + 1 < swResume v) →
          ∀ x, x = (z.seen p u).applyTok p u → exec (.strideWordIssue p err) s = .next ((State.issueSlots ((bitList (x.myClusters p)
            64).foldl (fun y c => y.hubSlot p c (swCluster v c) u w) x) p w v 4 0).wordEnd p w v u))))) ∧
  (∀ (y : State) (e : EngCmd), (y.issueEngine e).2 = true →
    ((y.issueEngine e).1.part e.part).outstanding = (y.part e.part).outstanding ++ [{ e with id := (y.part e.part).cmdNext }] ∧
    Sp.get 0 ((y.issueEngine e).1.part e.part).tokens e.token = Sp.get 0 (y.part e.part).tokens e.token + 1 ∧
    (y.bindingOf e).target = e.target) ∧
  (∀ (y t : State), t = y.wordEnd p w v u →
    (swPace v = true → (t.part p).pace = some ⟨swAwait v, swResume v, u + swRepeat v, swEndLeg v, swLoopOp v = 1, swLoopId v, w⟩) ∧
    (swPace v = false → swEndLeg v = false →
      (swLoopOp v ≠ 1 → (t.part p).word = w + 1 ∧ (t.part p).cycle = u + swRepeat v + 1 ∧
        (t.part p).sched = (y.part p).sched + swRepeat v + 1) ∧
      (swLoopOp v = 1 → ∀ body cnt start n, (y.part p).course.loops.getD (swLoopId v) (0, 0) = (body, cnt) → cnt ≠ 0 →
        start = F.SEQ_LEG_TABLE_STRIDE_START.get (y.legEff p (y.leg p)) → body ≤ w - start →
        n = Sp.get 0 (y.part p).loops (swLoopId v) → (t.part p).cycle = u + swRepeat v + 1 ∧
        ((n = 0 ∧ 1 < cnt) ∨ 1 < n → (t.part p).word = start + body ∧
          Sp.get 0 (t.part p).loops (swLoopId v) = (if n = 0 then cnt else n) - 1) ∧
        ((n = 0 ∧ cnt = 1) ∨ n = 1 → (t.part p).word = w + 1 ∧ Sp.get 0 (t.part p).loops (swLoopId v) = 0))))

/-- Cluster slots of a stride word (R110 to R112, R37): a HOLD changes nothing, a DISPATCH starts its cue on every core of its
group, a REST opens a rest run on them, and a lockstep difference is an error. -/
def Obligations.ClusterSlots : Prop := ∀ (s : State) (p c g u w : Nat),
  exec (.hold p c) s = .next s ∧
  (∀ cue param, ((s.part p).course.stages.getD c {}).enabled = true →
    (∀ n ∈ s.groupCores p c g, (s.core n).entryAt 0 cue ≠ none ∧ (s.core n).busy u = false) →
    Ends (.dispatch p c cue g param u w) s (fun t => ∀ n ∈ s.groupCores p c g, ∃ q ∈ (t.core n).cues,
      q.ctx = 0 ∧ q.first = cue ∧ q.param = param ∧ q.start = u + 3 ∧ q.word = w)) ∧
  (∀ cue param, ((s.part p).course.stages.getD c {}).enabled = false ∨
      (∃ n ∈ s.groupCores p c g, (s.core n).entryAt 0 cue = none) →
    exec (.dispatch p c cue g param u w) s = .next (s.raise E.CUE_INVALID p (s.posCluster p w c) cue)) ∧
  (∀ cue param, ((s.part p).course.stages.getD c {}).enabled = true →
    (∀ n ∈ s.groupCores p c g, (s.core n).entryAt 0 cue ≠ none) → (∃ n ∈ s.groupCores p c g, (s.core n).busy u = true) →
    exec (.dispatch p c cue g param u w) s = .next (s.raise E.CUE_OVERLAP p (s.posCluster p w c) cue)) ∧
  (∀ len, (∀ n ∈ s.groupCores p c g, (s.core n).busy u = false) →
    Ends (.rest p c g len u w) s (fun t => ∀ n ∈ s.groupCores p c g, (t.core n).rest = some (u, u + len))) ∧
  (∀ len, (∃ n ∈ s.groupCores p c g, (s.core n).busy u = true) →
    exec (.rest p c g len u w) s = .next (s.raise E.CUE_OVERLAP p (s.posCluster p w c) 0)) ∧
  exec (.seqLockstep p w true) s = .next (s.raise E.SEQ_LOCKSTEP p (s.posWord p w) 0) ∧
  exec (.seqLockstep p w false) s = .next s

/-- A pace point (R68, R69, R113): it waits until everything it awaits is in; then the next word's cycle is R68's, an excess is
counted and recorded, and the boundary, the loop step or the next word follows. -/
def Obligations.PacePoints : Prop := ∀ (s : State) (p c cause : Nat) (u : State), u = s.applyTok p c →
  ((u.part p).pace = none → exec (.pacePoint p c cause) s = .next u) ∧
  (∀ w, (u.part p).pace = some w →
    ((u.part p).paceReady w = false ∨ (u.part p).stop ≠ 0 → exec (.pacePoint p c cause) s = .next u) ∧
    ((u.part p).paceReady w = true → (u.part p).stop = 0 → ∀ nxt, nxt = max (max w.resume (c + 4)) (w.last + 1) →
      Ends (.pacePoint p c cause) s (fun t => ∃ z : State, t = z.afterPace p nxt w ∧ (z.part p).pace = none ∧
        (z.part p).cycle = nxt ∧ (z.part p).sched = w.resume ∧ (z.part p).paceIdx = (u.part p).paceIdx + 1 ∧
        (nxt = w.resume → (z.part p).record = (u.part p).record) ∧
        (nxt ≠ w.resume → (∃ e, (z.part p).record = (u.part p).record ++ [e] ∧ e.typ = 0x20 ∧ e.code = cause ∧
          e.item = (u.part p).paceIdx ∧ e.value = nxt - w.resume) ∧ (R.CNT_SEQ.has p 0 = true →
          z.rd R.CNT_SEQ p 0 = (u.rd R.CNT_SEQ p 0 + 1) % 2 ^ 64 ∧
          z.rd R.CNT_SEQ p 1 = (u.rd R.CNT_SEQ p 1 + (nxt - w.resume)) % 2 ^ 64))))) ∧
  ∀ (z t : State) (nxt : Nat) (w : PaceWait), t = z.afterPace p nxt w →
    (w.endLeg = true → (t.part p).bound = some nxt ∧ (R.SEQ_POSITION.has p 0 = true →
      t.rdF R.SEQ_POSITION F.SEQ_POSITION_IN_BOUNDARY p 0 = 1)) ∧
    (w.endLeg = false → w.loopOp = false → (t.part p).word = w.word + 1) ∧
    (w.endLeg = false → w.loopOp = true → ∀ y r, z.loopStep p w.loopId w.word
        (F.SEQ_LEG_TABLE_STRIDE_START.get (z.legEff p (z.leg p))) = (y, r) →
      (r = none → t = y) ∧ ∀ n, r = some n → (t.part p).word = n ∧ (t.part p).loops = (y.part p).loops)

/-- The course loader, the arm bits and the staging (R56, R101 to R104). The stride loader and writes through the store image
(R36, R122 to R125). -/
def Obligations.CoursesAndStrideLoads : Prop :=
  (∀ (s : State) (p : Nat), p < 64 →
  (∀ v, s.pState p = stReady → Ends (.courseStoreWrite p v) s (fun t => (∀ k, k < 64 → t.slotValid p k = false) ∧
    t.rd R.SEQ_COURSE_STORE p 0 = (bits v 47 24 * 2 ^ 24 + bits v 4 0) % 2 ^ 64)) ∧
  (∀ v, s.pState p ≠ stReady → exec (.courseStoreWrite p v) s = .next s.regErr) ∧
  (∀ v, s.rdF R.SEQ_COURSE_LOAD_STATUS F.SEQ_COURSE_LOAD_STATUS_BUSY p 0 = 1 → exec (.courseLoadGo p v) s = .next s.regErr) ∧
  (∀ v slot len src, s.rdF R.SEQ_COURSE_LOAD_STATUS F.SEQ_COURSE_LOAD_STATUS_BUSY p 0 ≠ 1 → slot = F.SEQ_COURSE_LOAD_CTRL_SLOT.get v →
    slot < 32 → len = F.SEQ_COURSE_LOAD_CTRL_LENGTH.get v → src = bits (s.rd R.SEQ_COURSE_LOAD_SRC p 0) 47 6 * 64 →
    (bit (s.armLeg p) slot = true ∨ bit (s.armLap p) slot = true → Ends (.courseLoadGo p v) s (fun t => ∃ z : State,
      t = z.event E.COURSE_LOADED p slot 0x0F ∧ (z.part p).courseLoad = none ∧
      z.rdF R.SEQ_COURSE_LOAD_STATUS F.SEQ_COURSE_LOAD_STATUS_ERROR p 0 = 0x0F ∧
      z.rdF R.SEQ_COURSE_LOAD_STATUS F.SEQ_COURSE_LOAD_STATUS_DONE p 0 = 1)) ∧
    (bit (s.armLeg p) slot = false → bit (s.armLap p) slot = false →
      (len = 0 ∨ len % 64 ≠ 0 ∨ bits (s.rd R.SEQ_COURSE_STORE p 0) 4 0 * 2 ^ 20 < len →
        Ends (.courseLoadGo p v) s (fun t => ∃ z : State, t = z.event E.COURSE_LOADED p slot 2 ∧
          z.rdF R.SEQ_COURSE_LOAD_STATUS F.SEQ_COURSE_LOAD_STATUS_ERROR p 0 = 2 ∧
          z.rdF R.SEQ_COURSE_LOAD_STATUS F.SEQ_COURSE_LOAD_STATUS_ERR_OFFSET p 0 = 8 ∧
          z.slotValid p (slot + 32) = false)) ∧
      (len ≠ 0 → len % 64 = 0 → len ≤ bits (s.rd R.SEQ_COURSE_STORE p 0) 4 0 * 2 ^ 20 →
        Ends (.courseLoadGo p v) s (fun t => (t.part p).courseLoad = some ⟨0, src, slot, len⟩ ∧
          t.rdF R.SEQ_COURSE_LOAD_STATUS F.SEQ_COURSE_LOAD_STATUS_BUSY p 0 = 1 ∧ t.slotValid p (slot + 32) = false ∧
          t.mem = s.mem)))) ∧
  (∀ errs op (u y : State), u = s.plant errs → (u.part p).courseLoad = some op → op.first < 32 →
    y = u.wrF R.SEQ_SLOT_STATUS F.SEQ_SLOT_STATUS_BUSY p (op.first + 32) 0 →
    Ends (.courseLoadDone p errs) s (fun t => ∃ (z : State) (code : Nat),
      t = z.event E.COURSE_LOADED p op.first code ∧ (z.part p).courseLoad = none ∧
      z.rdF R.SEQ_COURSE_LOAD_STATUS F.SEQ_COURSE_LOAD_STATUS_BUSY p 0 = 0 ∧
      z.rdF R.SEQ_COURSE_LOAD_STATUS F.SEQ_COURSE_LOAD_STATUS_DONE p 0 = 1 ∧
      z.rdF R.SEQ_COURSE_LOAD_STATUS F.SEQ_COURSE_LOAD_STATUS_ERROR p 0 = code % 256 ∧
      (y.check (y.loaderReq p) op.src op.count ≠ .ok → code = 0x10) ∧
      (y.check (y.loaderReq p) op.src op.count = .ok → ∀ x b, x = y.sense op.src op.count p (y.loaderReq p).word →
        b = x.load op.src op.count →
        (x.poisoned op.src op.count = true → code = 0x10) ∧
        (x.poisoned op.src op.count = false → code = ((x.save (u.areaAddr p ((u.part p).area (op.first + 32))) b).courseErr p
          op.count b).1 ∧ (code = 0 → z.slotValid p (op.first + 32) = true))))) ∧
  (∀ errs, (s.part p).courseLoad = none → Ends (.courseLoadDone p errs) s (fun t => t.parts = s.parts ∧ t.regs = s.regs)) ∧
  (∀ v, (∀ k, k < 32 → bit v k = false ∧ bit v (k + 32) = false) → Ends (.courseArmWrite p v) s (fun t => t = s.restage p)) ∧
  (∀ k, k < 32 → ∀ v ∈ [2 ^ k, 2 ^ (k + 32)],
    (s.slotValid p (k + 32) = true → Ends (.courseArmWrite p v) s (fun t =>
      t.rd R.SEQ_COURSE_ARM p 0 = (s.rd R.SEQ_COURSE_ARM p 0 ||| v) % 2 ^ 64)) ∧
    (s.slotValid p (k + 32) = false → exec (.courseArmWrite p v) s = .next ((s.event E.ARM_INVALID p k 0).restage p)))) ∧
  (∀ (s : State) (p : Nat), p < 64 →
  (∀ c ∈ [Instr.strideLoadGo p, .strideDigestGo p],
    (∀ v, s.rdF R.SEQ_STRIDE_LOAD_STATUS F.SEQ_STRIDE_LOAD_STATUS_BUSY p 0 = 1 → exec (c v) s = .next s.regErr) ∧
    (∀ v first cnt, first = F.SEQ_STRIDE_LOAD_CTRL_FIRST.get v → cnt = F.SEQ_STRIDE_LOAD_CTRL_COUNT.get v →
      s.rdF R.SEQ_STRIDE_LOAD_STATUS F.SEQ_STRIDE_LOAD_STATUS_BUSY p 0 ≠ 1 →
      (s.strideRangeBad p first cnt = true → Ends (c v) s (fun t => (t.part p).strideLoad = none ∧
        t.rdF R.SEQ_STRIDE_LOAD_STATUS F.SEQ_STRIDE_LOAD_STATUS_ERROR p 0 = 1 ∧
        t.rdF R.SEQ_STRIDE_LOAD_STATUS F.SEQ_STRIDE_LOAD_STATUS_DONE p 0 = 1)) ∧
      (s.strideRangeBad p first cnt = false → (∃ i, i < cnt ∧ s.guardBlocks (first + i) = true) → Ends (c v) s (fun t =>
        (t.part p).strideLoad = none ∧ t.rdF R.SEQ_STRIDE_LOAD_STATUS F.SEQ_STRIDE_LOAD_STATUS_ERROR p 0 = 2 ∧
        t.rdF R.SEQ_STRIDE_LOAD_STATUS F.SEQ_STRIDE_LOAD_STATUS_DONE p 0 = 1)) ∧
      (s.strideRangeBad p first cnt = false → (∀ i, i < cnt → s.guardBlocks (first + i) = false) → Ends (c v) s (fun t =>
        (t.part p).strideLoad = some ⟨F.SEQ_STRIDE_LOAD_CTRL_MODE.get v, bits (s.rd R.SEQ_STRIDE_LOAD_SRC p 0) 47 8 * 256, first, cnt⟩ ∧
        t.rdF R.SEQ_STRIDE_LOAD_STATUS F.SEQ_STRIDE_LOAD_STATUS_BUSY p 0 = 1 ∧ t.mem = s.mem)))) ∧
  (∀ errs op (u z : State) r, u = s.plant errs → (u.part p).strideLoad = some op → op.mode ≠ 1 →
    State.strideLoadWords p op op.count 0 u = (z, r) → Ends (.strideLoadEnd p errs) s (fun t => (t.part p).strideLoad = none ∧
      t.mem = z.mem ∧ t.rdF R.SEQ_STRIDE_LOAD_STATUS F.SEQ_STRIDE_LOAD_STATUS_BUSY p 0 = 0 ∧
      t.rdF R.SEQ_STRIDE_LOAD_STATUS F.SEQ_STRIDE_LOAD_STATUS_DONE p 0 = 1 ∧
      t.rdF R.SEQ_STRIDE_LOAD_STATUS F.SEQ_STRIDE_LOAD_STATUS_ERROR p 0 = (match r with
        | some e => e.1
        | none => if sha256 (z.load op.src (256 * op.count)) = z.rdDigest R.SEQ_STRIDE_EXPECT p 0 then 0 else 4) % 256)) ∧
  (∀ op d, (s.part p).strideLoad = some op → op.mode ≠ 0 →
    d = sha256 ((List.range (256 * op.count)).map (fun i => s.raw (strideAddr op.first + i))) →
    (d = s.rdDigest R.SEQ_STRIDE_EXPECT p 0 → op.count ≠ 0 → op.first + op.count ≤ 262144 → Ends (.strideDigestEnd p) s (fun t =>
      (t.part p).strideLoad = none ∧ t.rdF R.SEQ_STRIDE_LOAD_STATUS F.SEQ_STRIDE_LOAD_STATUS_ERROR p 0 = 0 ∧
      t.rdF R.SEQ_STRIDE_GUARD_PENDING F.SEQ_STRIDE_GUARD_PENDING_LO p 0 = op.first ∧
      t.rdF R.SEQ_STRIDE_GUARD_PENDING F.SEQ_STRIDE_GUARD_PENDING_HI p 0 = op.first + op.count - 1 ∧
      t.rdF R.SEQ_STRIDE_GUARD_PENDING F.SEQ_STRIDE_GUARD_PENDING_VALID p 0 = 1)) ∧
    (d ≠ s.rdDigest R.SEQ_STRIDE_EXPECT p 0 → Ends (.strideDigestEnd p) s (fun t => (t.part p).strideLoad = none ∧
      t.rdF R.SEQ_STRIDE_LOAD_STATUS F.SEQ_STRIDE_LOAD_STATUS_ERROR p 0 = 4 ∧
      t.rd R.SEQ_STRIDE_GUARD_PENDING p 0 = s.rd R.SEQ_STRIDE_GUARD_PENDING p 0))) ∧
  (∀ a bs, strideBase ≤ a → a + bs.length ≤ strideBase + 0x4000000 → bs ≠ [] → ∀ w, w = (a - strideBase) / 256 →
    (s.guardBlocks w = false → s.guardBlocks ((a + bs.length - 1 - strideBase) / 256) = false →
      exec (.strideImageWrite a bs false) s = .next { s with mem := storeRaw s.mem a bs }) ∧
    (∀ poison, poison = true ∨ s.guardBlocks w = true ∨ s.guardBlocks ((a + bs.length - 1 - strideBase) / 256) = true →
      ∃ q, exec (.strideImageWrite a bs poison) s = .next ((s.count R.CNT_SEQ q 8 1).event E.STRIDE_GUARD q w 0))))

/-! ## The core -/

/-- Where an issue traps or waits (R133, R158, R159): a chain fault that is due, an unsound entry, and a hardware error end it;
where no cue of the core issues the opcode in the cycle, only results become visible. -/
def Obligations.IssueFaults : Prop := ∀ x ∈ issueTable, ∀ (s : State) (n c err : Nat),
  (∀ q code e, (s.landed n c).chainFault n c = some (q, code, e) →
    exec (x.2 n c err) s = .next ((s.landed n c).cueFault n q code e 0)) ∧
  ((s.landed n c).chainFault n c = none →
    ((s.landed n c).issueAt n c x.1 = none → exec (x.2 n c err) s = .next (s.landed n c)) ∧
    ∀ q, (s.landed n c).issueAt n c x.1 = some q →
      (∀ code, q.e.fault = some code →
        exec (x.2 n c err) s = .next ((s.landed n c).cueFault n q.cue code q.idx q.r)) ∧
      (∀ u, q.e.fault = none → (s.landed n c).begun q c err = (u, false) →
        exec (x.2 n c err) s = .next (match opCount x.1 with
          | some i => u.countCore n i 1
          | none => u)))

/-- A cue fault of a primary cue (R158): it is counted, class P with EV_CUE_FAULT, and the first one of the core in the leg
attempt is written to CLU_CORE_FAULT with its code, entry, first entry, issue and PARAM, unless a record is valid there. -/
def Obligations.CueFaultRecord : Prop := ∀ (s : State) (n code e r : Nat) (q : RunCue), s.InForm → q.ctx = 0 → n < 1024 →
  code < 256 → e < 256 → q.first < 256 → r < 65536 → q.param < 1024 →
  ∃ u : State, s.cueFault n q code e r = u.raise E.CUE_FAULT (s.corePart n) (s.posCluster (s.corePart n) q.word (n / 16)) e ∧
    ((s.core n).faulted = false → bit (s.rd R.CLU_CORE_FAULT (n / 16) (n % 16)) 63 = false →
      u.rd R.CLU_CORE_FAULT (n / 16) (n % 16) = 2 ^ 63 + code * 2 ^ 48 + e * 2 ^ 40 + q.first * 2 ^ 32 + r * 2 ^ 16 + q.param) ∧
    ((s.core n).faulted = true ∨ bit (s.rd R.CLU_CORE_FAULT (n / 16) (n % 16)) 63 = true →
      u.rd R.CLU_CORE_FAULT (n / 16) (n % 16) = s.rd R.CLU_CORE_FAULT (n / 16) (n % 16)) ∧
    (u.core n).faulted = true ∧ (u.core n).cues = (s.core n).cues.erase q ∧
    u.rd R.CNT_CLU (n / 16) 14 = (s.rd R.CNT_CLU (n / 16) 14 + 1) % 2 ^ 64

/-- Lane arithmetic on vector registers (R145, R146, R149, R157): lane i of D becomes the function of lane i of the sources, under
the mask, LAT cycles after the issue. -/
def Obligations.LaneArithmetic : Prop := ∀ (s : State) (n c err : Nat) (q : Issue) (u : State),
  (∀ x ∈ ([(0x12, .vadd, fadd, 4), (0x13, .vsub, fsub, 4), (0x14, .vmul, fmul, 4), (0x16, .vmax, fmax, 2), (0x17, .vmin, fmin, 2),
      (0x20, .vdiv, fdiv, 32)] : List (Nat × (Nat → Nat → Nat → Instr) × (Nat → Nat → Nat) × Nat)),
    Issues s n c x.1 err q u → Ends (x.2.1 n c err) s (fun t => Leaves u t q x.2.2.2
      [u.toVreg q (fun i => x.2.2.1 ((u.va q).lane i) ((u.vb q).lane i))] ((u.va q).poison || (u.vb q).poison))) ∧
  (∀ x ∈ ([(0x18, .vabs, fun a => if (f32 a).isNan then nan32 else a % 2 ^ 31, 1),
      (0x19, .vneg, fun a => if (f32 a).isNan then nan32 else (a ^^^ 2 ^ 31) % 2 ^ 32, 1), (0x1A, .vrcp, frcp, 24),
      (0x1B, .vrsqrt, frsqrt, 24), (0x1C, .vsqrt, fsqrt, 24), (0x1D, .vexp2, fexp2, 24), (0x1E, .vlog2, flog2, 24),
      (0x1F, .vtanh, ftanh, 24)] : List (Nat × (Nat → Nat → Nat → Instr) × (Nat → Nat) × Nat)),
    Issues s n c x.1 err q u → Ends (x.2.1 n c err) s (fun t => Leaves u t q x.2.2.2
      [u.toVreg q (fun i => x.2.2.1 ((u.va q).lane i))] (u.va q).poison)) ∧
  (Issues s n c 0x15 err q u → Ends (.vfma n c err) s (fun t => Leaves u t q 4
    [u.toVreg q (fun i => ffma ((u.va q).lane i) ((u.vb q).lane i) ((u.vd q).lane i))]
    ((u.va q).poison || (u.vb q).poison || (u.vd q).poison))) ∧
  (Issues s n c 0x32 err q u → Ends (.vrng n c err) s (fun t => Leaves u t q 12 [u.toVreg q (fun i => u.draw q q.e.imm i)] false))

/-- Comparison, selection, integers, permutation and reduction (R147, R150). VCMP with IMM[2:0] = 7 and VINT with IMM above 10 are
cue faults 0x01. Loads into lanes (R148, R151): what VLD and VCBL put into the lanes, and the cue faults that stop them. -/
def Obligations.LaneSelectionAndLoads : Prop :=
  (∀ (s : State) (n c err : Nat) (q : Issue) (u : State),
  (Issues s n c 0x21 err q u → (bits q.e.imm 2 0 = 7 → exec (.vcmp n c err) s = .next (u.cueFault n q.cue 1 q.idx q.r)) ∧
    (bits q.e.imm 2 0 ≠ 7 → ∃ keep v, Ends (.vcmp n c err) s (fun t => Leaves u t q 2 [.mask q.regD keep v]
        ((u.va q).poison || (u.vb q).poison)) ∧
      ∀ i, i < 64 → keep.testBit i = !u.laneOn q i ∧
        v.testBit i = (u.laneOn q i && cmpLane (bits q.e.imm 2 0) (f32 ((u.va q).lane i)) (f32 ((u.vb q).lane i))))) ∧
  (Issues s n c 0x22 err q u → Ends (.vsel n c err) s (fun t => Leaves u t q 2
    [u.toVreg q (fun i => if bit ((u.core n).mask q.e.auxMask) i then (u.va q).lane i else (u.vb q).lane i)]
    ((u.va q).poison || (u.vb q).poison))) ∧
  (Issues s n c 0x23 err q u → (10 < q.e.imm → exec (.vint n c err) s = .next (u.cueFault n q.cue 1 q.idx q.r)) ∧
    (q.e.imm ≤ 10 → Ends (.vint n c err) s (fun t => Leaves u t q 2
      [u.toVreg q (fun i => intLane q.e.imm ((u.va q).lane i) ((u.vb q).lane i) % 2 ^ 32)]
      ((u.va q).poison || (u.vb q).poison)))) ∧
  (Issues s n c 0x2C err q u → Ends (.vperm n c err) s (fun t => Leaves u t q 3
    [u.toVreg q (fun i => (u.va q).lane ((u.vb q).lane i % 64))] ((u.va q).poison || (u.vb q).poison))) ∧
  (Issues s n c 0x2B err q u → Ends (.vreduce n c err) s (fun t => Leaves u t q 14
    [u.toVreg q (fun i => if i = 0 then redLevels (redFn (bits q.e.imm 1 0)) 6 (u.va q).lanes else 0)] (u.va q).poison))) ∧
  (∀ (s : State) (n c err : Nat) (q : Issue) (u : State) (w : Nat), w = fmtWidth q.e.fmtA →
  let data := unpack w 64 (u.scr n q.addrA.toNat (8 * w))
  (Issues s n c 0x10 err q u →
    (isCbFmt q.e.fmtA = true ∨ q.e.fmtA = 16 → exec (.vld n c err) s = .next (u.cueFault n q.cue 2 q.idx q.r)) ∧
    (isCbFmt q.e.fmtA = false → q.e.fmtA ≠ 16 →
      (∀ f, scrFault q.addrA (8 * w) 16 = some f → exec (.vld n c err) s = .next (u.cueFault n q.cue f q.idx q.r)) ∧
      (scrFault q.addrA (8 * w) 16 = none → u.inRegion q [(q.addrA.toNat, 8 * w)] [] →
        Ends (.vld n c err) s (fun t => Leaves u t q 6 [u.toVreg q (fun i => loadLane q.e.fmtA (data.getD i 0))]
          (u.scrPoison n q.addrA.toNat (8 * w)))))) ∧
  (Issues s n c 0x2D err q u →
    (isCbFmt q.e.fmtA = false → exec (.vcbl n c err) s = .next (u.cueFault n q.cue 2 q.idx q.r)) ∧
    (isCbFmt q.e.fmtA = true → scrFault q.addrA (8 * w) 16 = none →
      ((u.core n).cbVals q.e.auxSlot q.e.fmtA = none → exec (.vcbl n c err) s = .next (u.cueFault n q.cue 7 q.idx q.r)) ∧
      (∀ vs, (u.core n).cbVals q.e.auxSlot q.e.fmtA = some vs → u.inRegion q [(q.addrA.toNat, 8 * w)] [] →
        Ends (.vcbl n c err) s (fun t => Leaves u t q 6 [u.toVreg q (fun i => toF32 (vs.getD (data.getD i 0) .nan))]
          (u.scrPoison n q.addrA.toNat (8 * w)))))))

/-- Stores and conversions of lanes, quantisation and the exact accumulator (R148, R195 to R203): each issue leaves what its
conversion computes, or is the cue fault it finds. VQNT (R199 to R202): without pairs each issue stores its groups; with
groups of 128 the even issue keeps its register and the odd one of the next position stores the whole group. -/
def Obligations.LaneConversions : Prop :=
  (∀ (s : State) (n c err : Nat) (q : Issue) (u : State),
  ∀ x ∈ ([(0x11, .vst, State.vstRes, [], 6), (0x24, .vcvti, State.vcvtiRes, [], 4), (0x25, .vrnd, State.vrndRes, [], 4),
      (0x2F, .vdqnt, State.vdqntRes, q.vdqntReads, if bits q.e.imm 9 8 = 2 ∧ q.r % 2 = 0 then 12 else 10),
      (0x30, .vxadd, State.vxaddRes, [(q.addrD.toNat, 1152)], 10), (0x31, .vxrd, State.vxrdRes, [(q.addrA.toNat, 1152)], 10)] :
      List (Nat × (Nat → Nat → Nat → Instr) × (State → Issue → OpRes) × List (Nat × Nat) × Nat)),
    Issues s n c x.1 err q u →
    (∀ effs b cal, x.2.2.1 u q = .ok effs b cal → u.inRegion q x.2.2.2.1 effs →
      Ends (x.2.1 n c err) s (fun t => Leaves u t q x.2.2.2.2 effs b)) ∧
    (∀ f, x.2.2.1 u q = .fault f → exec (x.2.1 n c err) s = .next (u.cueFault n q.cue f q.idx q.r))) ∧
  (∀ (s : State) (n c err : Nat) (q : Issue) (u : State), Issues s n c 0x2E err q u →
  (bits q.e.imm 9 8 ≠ 2 →
    (∀ effs b cal, u.vqntRes q none = .ok effs b cal → u.inRegion q [] effs →
      Ends (.vqnt n c err) s (fun t => Leaves u t q 12 effs b)) ∧
    (∀ f, u.vqntRes q none = .fault f → exec (.vqnt n c err) s = .next (u.cueFault n q.cue f q.idx q.r))) ∧
  (bits q.e.imm 9 8 = 2 → q.r % 2 = 0 → ∀ effs b cal, u.vqntRes q none = .ok effs b cal → u.inRegion q [] effs →
    Ends (.vqnt n c err) s (fun t => Leaves (u.updCore n (fun x => { x with pair := some (q.idx, q.r, u.va q) })) t q 12 effs b)) ∧
  (bits q.e.imm 9 8 = 2 → q.r % 2 = 1 → ∀ k r v, (u.core n).pair = some (k, r, v) → k = q.idx → r + 1 = q.r →
    ∀ effs b cal, u.vqntRes q (some v) = .ok effs b cal → u.inRegion q [] effs →
      Ends (.vqnt n c err) s (fun t => Leaves u t q 12 effs b)))

/-- The matrix unit (R139 to R144): each issue leaves the tile or bytes it computes, at its latency (MMA's is its interval plus
12, MMA.S's plus 14), or is the cue fault it finds. -/
def Obligations.MatrixIssues : Prop := ∀ (s : State) (n c err : Nat) (q : Issue) (u : State),
  ∀ x ∈ ([(0x01, .mma, fun s q => s.mmaRes q false, q.mmaReads false, (u.core n).interval q.e + 12),
      (0x02, .mmaS, fun s q => s.mmaRes q true, q.mmaReads true, (u.core n).interval q.e + 14),
      (0x03, .mmaRd, State.mmaRdRes, [], 40), (0x04, .mmaLd, State.mmaLdRes, [(q.addrA.toNat, 8192)], 36)] :
      List (Nat × (Nat → Nat → Nat → Instr) × (State → Issue → OpRes) × List (Nat × Nat) × Nat)),
    Issues s n c x.1 err q u →
    (∀ effs b cal, x.2.2.1 u q = .ok effs b cal → u.inRegion q x.2.2.2.1 effs →
      Ends (x.2.1 n c err) s (fun t => Leaves u t q x.2.2.2.2 effs b)) ∧
    (∀ f, x.2.2.1 u q = .fault f → exec (x.2.1 n c err) s = .next (u.cueFault n q.cue f q.idx q.r))

/-- An integer MMA wraps (R141): every cell it leaves is the accumulated sum of products modulo 2^32. -/
def Obligations.IntegerMma : Prop := ∀ (s : State) (q : Issue), isMmaInt q.e.fmtA = true → q.mmaFault (s.core q.n) false = none →
  ((s.core q.n).accTile q q.regD).typ = 0 ∨ ((s.core q.n).accTile q q.regD).typ = 2 → ∃ lanes b, s.mmaRes q false = .ok [.tile q.regD { typ := 2, lanes := lanesOf lanes }] b none ∧
    lanes.length = 2048 ∧
    ∀ i j, i < 64 → j < 32 → lanes.getD (32 * i + j) 0 = wrapI 32 (((List.range 32).map (fun k =>
      elemInt q.e.fmtA ((unpack (fmtWidth q.e.fmtA) 2048 (s.scr q.n q.addrA.toNat (256 * fmtWidth q.e.fmtA))).getD (32 * i + k) 0) *
      elemInt q.e.fmtB ((unpack (fmtWidth q.e.fmtB) 1024 (s.scr q.n q.addrB.toNat (128 * fmtWidth q.e.fmtB))).getD (32 * j + k) 0))).foldl
      (· + ·) (i32 (Sp.get 0 ((s.core q.n).accTile q q.regD).lanes (32 * i + j))))

/-- NOP, and the operations marked V (R9, R157, R426): each V issue of a primary cue is counted, is refused in strict mode, and
otherwise leaves the inbox sum, fabric time or the live counter in D. -/
def Obligations.ControlIssues : Prop := ∀ (s : State) (n c err : Nat) (q : Issue) (u : State),
  (Issues s n c 0x00 err q u → exec (.nop n c err) s = .next u) ∧
  (∀ w, (q.cue.ctx ≠ 0 ∧ w = u ∨ q.cue.ctx = 0 ∧ u.vIssue q.p (u.posCluster q.p q.cue.word (n / 16)) = (w, true)) →
    (Issues s n c 0x60 err q u → ∀ v, v = w.ftime % 2 ^ 64 → Ends (.tstamp n c err) s (fun t => Leaves w t q 4
      [w.toVreg q (fun i => if i = 0 then v % 2 ^ 32 else if i = 1 then v / 2 ^ 32 else 0)] false)) ∧
    (Issues s n c 0x61 err q u → (15 ≤ q.e.imm → exec (.cntrd n c err) s = .next (w.cueFault n q.cue 1 q.idx q.r)) ∧
      (q.e.imm < 15 → ∀ v, v = Sp.get 0 (u.core n).live q.e.imm % 2 ^ 64 → Ends (.cntrd n c err) s (fun t => Leaves w t q 4
        [w.toVreg q (fun i => if i = 0 then v % 2 ^ 32 else if i = 1 then v / 2 ^ 32 else 0)] false))) ∧
    (Issues s n c 0x33 err q u → ∀ es, es = (u.core n).inbox.take 16 → Ends (.vaccDyn n c err) s (fun t => Leaves
      (w.updCore n (fun x => { x with inbox := x.inbox.drop 16 })) t q 20
      [w.toVreg q (fun i => es.foldl (fun a v => fadd a (v.lane i)) ((u.vd q).lane i))] ((u.vd q).poison || es.any VReg.poison)))) ∧
  (∀ w, q.cue.ctx = 0 → u.vIssue q.p (u.posCluster q.p q.cue.word (n / 16)) = (w, false) →
    ∀ x ∈ ([(0x60, .tstamp), (0x61, .cntrd), (0x33, .vaccDyn)] : List (Nat × (Nat → Nat → Nat → Instr))), Issues s n c x.1 err q u →
      exec (x.2 n c err) s = .next (w.updCore n (fun y => { y with cues := y.cues.erase q.cue })))

/-- Stream ports (R155, R156): a SEND's 32 bytes reach its route's queue at the end of cycle i + T, a RECV takes the head of its
queue; without a route, in a backfill task, and on an empty queue they are cue faults. -/
def Obligations.StreamPorts : Prop := ∀ (s : State) (n c err : Nat) (q : Issue) (u : State),
  (Issues s n c 0x50 err q u →
    (q.cue.ctx ≠ 0 → exec (.send n c err) s = .next (u.cueFault n q.cue 0x0D q.idx q.r)) ∧
    (q.cue.ctx = 0 → scrFault q.addrA 32 16 = none → ∀ f : Route → Bool,
      f = (fun r => r.srcC = n / 16 && r.srcK = n % 16 && r.srcPort = q.e.d.off % 4) →
      ((u.part q.p).course.routes.find? f = none → exec (.send n c err) s = .next (u.cueFault n q.cue 0x0D q.idx q.r)) ∧
      (∀ r m, (u.part q.p).course.routes.find? f = some r → m = 16 * r.dstC + r.dstK → Ends (.send n c err) s (fun t =>
        (t.core m).arr = (u.core m).arr ++ [(c + r.latency + 1, r.dstPort, u.scr n q.addrA.toNat 32, u.scrPoison n q.addrA.toNat 32)] ∧
        (∀ k, (t.core k).rxq = (u.core k).rxq ∧ (t.core k).pend = (u.core k).pend) ∧
        ∀ k, k ≠ m → (t.core k).arr = (u.core k).arr)))) ∧
  (Issues s n c 0x51 err q u →
    (q.cue.ctx ≠ 0 → exec (.recv n c err) s = .next (u.cueFault n q.cue 0x0D q.idx q.r)) ∧
    (q.cue.ctx = 0 → scrFault q.addrD 32 16 = none → ∀ k, k = q.e.a.off % 4 →
      (Sp.get [] (u.core n).rxq k = [] → exec (.recv n c err) s = .next (u.cueFault n q.cue 0x0A q.idx q.r)) ∧
      (∀ b p l, Sp.get [] (u.core n).rxq k = (b, p) :: l → Ends (.recv n c err) s (fun t => Leaves
        (u.updCore n (fun x => { x with rxq := Sp.set [] x.rxq k l })) t q 2 [.scratch [(q.addrD.toNat, b)] p] p))))

/-- A result that becomes visible (R131, R137, R150): the lanes, mask bits or tile it names, and nothing else. A write within one
granule (R137, R227, R230): its bytes stand, the granule's other bytes stay, or become what a reader saw where the key has
changed, every other granule keeps its bytes and mark, and the mark is set by a marked write and cleared by an unmarked write
of the whole granule. -/
def Obligations.ResultsAndGranules : Prop :=
  (∀ (s : State) (n i : Nat),
  (∀ l p, l.length = 64 → ((s.core n).vreg i).lanes.length = 64 → ∀ v, v = ((s.landEff n (.vreg i l p)).core n).vreg i →
    (∀ j, j < 64 → v.lane j = ((l.getD j none).getD (((s.core n).vreg i).lane j))) ∧
    (v.poison = if l.all Option.isSome then p else (p || ((s.core n).vreg i).poison)) ∧
    (∀ j, j ≠ i → ((s.landEff n (.vreg i l p)).core n).vreg j = (s.core n).vreg j)) ∧
  (∀ k v, ((s.landEff n (.mask i k v)).core n).mask i = ((s.core n).mask i &&& k) ||| v) ∧
  (∀ t, ((s.landEff n (.tile i t)).core n).tile i = t) ∧
  (∀ l p, s.landEff n (.scratch l p) = l.foldl (fun s e => s.save (scratchAddr n e.1) e.2 p) s) ∧
  ∀ e m, m ≠ n → (s.landEff n e).core m = s.core m) ∧
  (∀ (s : State) (a : Nat) (b : List Byte) (p : Bool), 1 ≤ b.length → a % 64 + b.length ≤ 64 →
  ∀ t, t = s.save a b p →
    (∀ j, j < b.length → t.raw (a + j) = b.getD j 0) ∧
    (∀ x, x / 64 = a / 64 → (x < a ∨ a + b.length ≤ x) → t.raw x = if (s.granAt a).key = s.keyOf a then s.raw x else s.byteAt x) ∧
    (∀ x, x / 64 ≠ a / 64 → t.raw x = s.raw x ∧ t.granAt x = s.granAt x) ∧
    (t.granAt a).key = s.keyOf a ∧
    (t.granAt a).poison = (p || ((s.granAt a).poison && b.length != 64)))

/-- Requests of the gather/scatter unit (R152 to R154, R571, R572): each issue that passes its checks puts its request into the
buffer with what its entry, its index entry and its register give; an index entry read from a poisoned granule makes none. A
request completes (R152): a row request once its slice has done its part, a GATHER.A or SCATTER.A with its granules moved, a
DSEND once the inbox has room, which then holds its register; it leaves the buffer, and a completion before cycle i + 48 takes
its token's addition with it. -/
def Obligations.GatherRequests : Prop :=
  (∀ (s : State) (n c err : Nat) (q : Issue) (u : State),
  (∀ x ∈ ([(0x40, .gatherR), (0x41, .gatherA), (0x42, .scatterG), (0x43, .scatterA)] : List (Nat × (Nat → Nat → Nat → Instr))),
    Issues s n c x.1 err q u → MayRequest u q →
    (q.cue.ctx = 0 → x.1 = 0x40 → (u.part q.p).closed 0 = false) → (q.cue.ctx = 0 → x.1 = 0x42 → (u.part q.p).closed 1 = false) →
    ∀ entry, entry = leNat (u.scr n q.addrA.toNat 8) →
    (u.scrPoison n q.addrA.toNat 8 = false → (x.1 = 0x41 ∨ x.1 = 0x43 → bits entry 63 48 = 0 ∧ entry % 64 = 0) →
      (x.1 = 0x41 → u.regionOf entry ≠ .reg) → Ends (x.2 n c err) s (fun t => Requested u t
        { id := u.greqNext, op := x.1, core := n, part := q.p, ctx := q.cue.ctx, task := q.cue.tag, token := bits q.e.aux 4 0
          issued := c, entry := entry, local_ := (if x.1 = 0x40 ∨ x.1 = 0x41 then q.addrD else q.addrB).toNat
          first := bits q.e.imm 15 8, count := bits q.e.imm 7 0, fmt := q.e.fmtB, word := q.cue.word })) ∧
    (u.scrPoison n q.addrA.toNat 8 = false → x.1 = 0x41 ∨ x.1 = 0x43 → bits entry 63 48 ≠ 0 ∨ entry % 64 ≠ 0 →
      ∃ g, g = u.gMake q entry ∧ exec (x.2 n c err) s = .next ((u.gAtOnce g).gRefuse g .unmapped (bits entry 47 0))) ∧
    (u.scrPoison n q.addrA.toNat 8 = true → x.1 = 0x42 ∨ x.1 = 0x43 →
      exec (x.2 n c err) s = .next ((u.countCore n 6 1).gAtOnce (u.gMake q entry)))) ∧
  (Issues s n c 0x44 err q u → MayRequest u q → ∀ dst, dst = q.e.imm → dst < u.coreCount → q.cue.ctx = 0 →
    u.partOfCluster (dst / 16) = some q.p → ((u.core n).vreg q.regA).poison = false →
    Ends (.dsend n c err) s (fun t => Requested u t
      { id := u.greqNext, op := 0x44, core := n, part := q.p, ctx := 0, task := q.cue.tag, token := bits q.e.aux 4 0
        issued := c, entry := dst, data := (u.core n).vreg q.regA, fmt := q.e.fmtB, word := q.cue.word })) ∧
  (∀ x ∈ ([(0x40, .gatherR), (0x41, .gatherA), (0x42, .scatterG), (0x43, .scatterA), (0x44, .dsend)] :
      List (Nat × (Nat → Nat → Nat → Instr))), Issues s n c x.1 err q u →
    (∀ code, q.gFault = some code → ¬ (q.cue.ctx ≠ 0 ∧ x.1 = 0x42) → exec (x.2 n c err) s = .next (u.cueFault n q.cue code q.idx q.r)) ∧
    (q.cue.ctx ≠ 0 → x.1 = 0x42 → exec (x.2 n c err) s = .next (u.cueFault n q.cue 0x0F q.idx q.r)) ∧
    (q.gFault = none → q.cue.ctx = 0 → 1024 ≤ (u.core n).heldCount →
      exec (x.2 n c err) s = .next (u.cueFault n q.cue 0x0C q.idx q.r)))) ∧
  (∀ (s : State) (id c : Nat) (errs : List (Nat × Nat)) (g : GReq) (u : State),
  u = s.plant errs → u.greqs.find? (fun h => h.id = id) = some g →
  (g.op = 0x40 ∨ g.op = 0x42 → (g.reqDone = true → exec (.gRequestComplete id c errs) s = .next (u.reqEnd g c)) ∧
    (g.reqDone = false → exec (.gRequestComplete id c errs) s = .next u)) ∧
  (g.op = 0x41 → u.progCheck (u.gReqOf g.part g.ctx g.core) g.entry (64 * g.count) false = .ok →
    exec (.gRequestComplete id c errs) s = .next (((List.range g.count).foldl (fun s i => s.gatherGran g i) u).reqEnd g c)) ∧
  (g.op = 0x43 → u.progCheck (u.gReqOf g.part g.ctx g.core) g.entry (64 * g.count) true = .ok →
    exec (.gRequestComplete id c errs) s = .next (((List.range g.count).foldl (fun s i => s.scatterGran g i) u).reqEnd g c)) ∧
  (g.op = 0x44 → ((u.core g.entry).inbox.length < 16 → exec (.gRequestComplete id c errs) s =
      .next ((u.updCore g.entry (fun x => { x with inbox := x.inbox ++ [g.data] })).reqEnd g c)) ∧
    (16 ≤ (u.core g.entry).inbox.length → exec (.gRequestComplete id c errs) s = .next u)) ∧
  (∀ v t, t = State.reqEnd v g c → (g.ctx ≠ 0 → t = { v with greqs := v.greqs.filter (fun h => h.id != g.id) }) ∧
    (g.ctx = 0 → (∀ e ∈ (v.part g.part).tokPend, c < e.1) → (g.issued + 48, g.token, g.id) ∈ (v.part g.part).tokPend →
      (t.part g.part).tokPend = (v.part g.part).tokPend.filter (fun e => e.2.2 != g.id) ∧
      (t.part g.part).tokens = (v.part g.part).tokens)))

/-- Backfill tasks (R163, R164, R167, R168): a write queues a task or is rejected and counted, a bank load starts or ends with its
ERROR, a task that fits the rest run of its cores starts there, and a finished one posts its completion. The end of a rest run
(R162, R165): tiles, vector registers and mask registers of the core read as zero, its rest run is over, and the results of
backfill issues still on their way are gone. -/
def Obligations.BackfillTasks : Prop :=
  (∀ (s : State) (c x : Nat), c < 64 → x < 3 →
  (∀ v, F.CLU_BF_TASK_LENGTH.get v ≠ 0 → F.CLU_BF_TASK_CORE_MASK.get v ≠ 0 →
    ((s.hub c).queue.filter (fun t => t.ctx = x)).length < 16 → Ends (.bfTaskWrite c x v) s (fun t =>
      (t.hub c).queue = (s.hub c).queue ++ [⟨x, bits v 63 48, bits v 47 40, bits v 39 34, bits v 33 24, bits v 17 0,
        s.bfFn ((s.partOfCluster c).getD 0) x, 0⟩] ∧
      (t.hub c).running = (s.hub c).running)) ∧
  (∀ v, F.CLU_BF_TASK_LENGTH.get v = 0 ∨ F.CLU_BF_TASK_CORE_MASK.get v = 0 ∨
    16 ≤ ((s.hub c).queue.filter (fun t => t.ctx = x)).length → Ends (.bfTaskWrite c x v) s (fun t =>
      t.hubs = s.hubs ∧ t.rd R.CNT_CLU c 13 = (s.rd R.CNT_CLU c 13 + 1) % 2 ^ 64)) ∧
  (∀ v, s.rdF R.CLU_BF_STATUS F.CLU_BF_STATUS_BUSY c x = 0 → ∀ mask first cnt, mask = F.CLU_BF_LOAD_CTRL_CORE_MASK.get v →
    first = F.CLU_BF_LOAD_CTRL_FIRST.get v → cnt = F.CLU_BF_LOAD_CTRL_COUNT.get v →
    (cnt = 0 ∨ 64 < first + cnt → Ends (.bfLoadGo c x v) s (fun t => t.rdF R.CLU_BF_STATUS F.CLU_BF_STATUS_ERROR c x = 1 ∧
      t.rdF R.CLU_BF_STATUS F.CLU_BF_STATUS_DONE c x = 1 ∧ t.rdF R.CLU_BF_STATUS F.CLU_BF_STATUS_BUSY c x = 0)) ∧
    (cnt ≠ 0 → first + cnt ≤ 64 → (s.hub c).bankBusy x mask = true → Ends (.bfLoadGo c x v) s (fun t =>
      t.rdF R.CLU_BF_STATUS F.CLU_BF_STATUS_ERROR c x = 2 ∧ t.rdF R.CLU_BF_STATUS F.CLU_BF_STATUS_DONE c x = 1)) ∧
    (cnt ≠ 0 → first + cnt ≤ 64 → (s.hub c).bankBusy x mask = false → Ends (.bfLoadGo c x v) s (fun t =>
      t.rdF R.CLU_BF_STATUS F.CLU_BF_STATUS_BUSY c x = 1 ∧ t.rdF R.CLU_BF_STATUS F.CLU_BF_STATUS_DONE c x = 0 ∧
      Sp.find x (t.hub c).load = some (bits (s.rd R.CLU_BF_LOAD_SRC c x) 47 5 * 32, mask, first, cnt)))) ∧
  (∀ h t, s.bfPick c h = some t → Ends (.backfillDispatch c h) s (fun u =>
    (u.hub c).running = (s.hub c).running ++ [{ t with at_ := h }] ∧ (u.hub c).queue = (s.hub c).queue.erase t ∧
    (u.hub c).next = (t.ctx + 1) % 3 ∧ ∀ k, k < 16 → (u.core (16 * c + k)).cues = (s.core (16 * c + k)).cues ++
      if t.mask.testBit k then
        [{ ctx := t.ctx + 1, first := t.cue, param := t.param, start := h + 3, tag := t.tag
           il := ((s.core (16 * c + k)).plan (t.ctx + 1) t.cue).il }] else [])) ∧
  (∀ h, s.bfPick c h = none → exec (.backfillDispatch c h) s = .next s) ∧
  (∀ tag h t, (s.hub c).running.find? (fun t => t.ctx = x && t.tag = tag && s.bfFinished c h t) = some t →
    Ends (.backfillTaskComplete c x tag h) s (fun u => (u.hub c).running = (s.hub c).running.erase t ∧
      (∃ e, u.store = s.store ++ [e] ∧ e.queue = s.rdF R.QUE_FN_RANGE F.QUE_FN_RANGE_FIRST 0 t.fn + 1 ∧ e.fn = t.fn ∧
        fieldAt e.bytes 0 2 = 3 ∧ fieldAt e.bytes 4 2 = t.tag % 65536) ∧
      ∀ k, k < 16 → t.mask.testBit k = true → (u.core (16 * c + k)).cues =
        (s.core (16 * c + k)).cues.filter (fun q => q.ctx != t.ctx + 1)))) ∧
  (∀ (s : State) (n a b : Nat), (s.core n).rest = some (a, b) →
  Ends (.restRunEnd n) s (fun t => (∀ i, (t.core n).tile i = {} ∧ (t.core n).vreg i = {} ∧ (t.core n).mask i = 0) ∧
    (t.core n).rest = none ∧ ∀ e ∈ (t.core n).pend, e.ctx = 0))

/-! ## Memory and Akcel -/

/-- MEM and BULK streams (R221 to R223, R230): the engine of a binding takes its oldest command; a bad descriptor or a refused
access starts no block, otherwise every granule of every block moves; a completion counts its token down. Refresh, patrol
scrub, page attributes and the end of a bank load (R163, R219, R224, R227, R231). -/
def Obligations.MemoryStreams : Prop :=
  (∀ (s : State) (p b : Nat) (errs : List (Nat × Nat)) (u : State), u = s.plant errs →
  ∀ x ∈ ([(1, 1, .memRead), (1, 2, .memWrite), (1, 3, .memFillZero), (2, 1, .bulkRead), (2, 2, .bulkWrite), (2, 3, .bulkFillZero)] :
    List (Nat × Nat × (Nat → Nat → List (Nat × Nat) → Instr))),
  (u.engNext p b = none → exec (x.2.2 p b errs) s = .next u) ∧
  (∀ c a, u.engNext p b = some c → a = (u.bindingOf c).base + 64 * c.desc →
    (c.target ≠ x.1 ∨ (1 ≤ c.opcode ∧ c.opcode ≤ 3 ∧ c.opcode ≠ x.2.1) → exec (x.2.2 p b errs) s = .next u) ∧
    (c.target = x.1 → c.opcode = 0 ∨ 3 < c.opcode →
      exec (x.2.2 p b errs) s = .next ((u.engStart c).memRefuse c (u.bindingOf c).inst a)) ∧
    (c.target = x.1 → c.opcode = x.2.1 → ∀ v r, (u.engStart c).fetchDesc c (u.bindingOf c) (if x.1 = 1 then .hbm else .blk) = (v, r) →
      (r = none → exec (x.2.2 p b errs) s = .next v) ∧
      (∀ bytes, r = some bytes → v.poisoned a 64 = true ∨ v.memBad c (u.bindingOf c).inst bytes = true →
        exec (x.2.2 p b errs) s = .next (v.memRefuse c (u.bindingOf c).inst a)) ∧
      (∀ bytes d rq, r = some bytes → v.poisoned a 64 = false → v.memBad c (u.bindingOf c).inst bytes = false →
        d = memDesc bytes → rq = v.progReq p (if x.1 = 1 then .hbm else .blk) (u.bindingOf c).inst →
        (∀ y, v.memFirstBad rq c d = some (.unmapped, y) → exec (x.2.2 p b errs) s = .next (v.unmappedErr rq y)) ∧
        (∀ y, v.memFirstBad rq c d = some (.refused, y) → exec (x.2.2 p b errs) s = .next (v.refusedErr rq y)) ∧
        (v.memFirstBad rq c d = none → exec (x.2.2 p b errs) s = .next ((List.range (if c.count = 0 then d.blocks else c.count)).foldl
          (fun y i => (List.range (d.block / 64)).foldl (fun y g => y.memGran rq c d i g) y) v)) ∧
        (∀ (y : State) (i g m n o : Nat), m = (((d.base + c.offset : Nat) : Int) + i * d.stride).toNat + 64 * g → n = d.core + i % d.span →
          o = d.scr + i / d.span * d.scrStride + 64 * g → State.memGran y rq c d i g =
            (if x.2.1 = 1 then (y.readGran rq m).1.scrPut n o (y.readGran rq m).2.1 (y.readGran rq m).2.2
             else if x.2.1 = 2 then ((y.settle n).snoop m).save m ((y.settle n).scr n o 64) ((y.settle n).scrPoison n o 64)
             else (y.snoop m).save m (List.replicate 64 0)))))) ∧
  (∀ id c, (s.part p).outstanding.find? (fun c => c.id = id && c.started && (c.target = 1 || c.target = 2)) = some c →
    c.part = p → c.trig = false → Ends (.memCmdComplete p id) s (fun t =>
      (t.part p).outstanding = (s.part p).outstanding.filter (fun e => e.id != c.id) ∧
      Sp.get 0 (t.part p).tokens c.token = Sp.get 0 (s.part p).tokens c.token - 1 ∧ t.regs = s.regs)) ∧
  (∀ id, (s.part p).outstanding.find? (fun c => c.id = id && c.started && (c.target = 1 || c.target = 2)) = none →
    exec (.memCmdComplete p id) s = .next s)) ∧
  (∀ s : State,
  (∀ k temp, k < 12 → temp < 256 → ∀ x2, x2 = s.rdF R.HBM_STATUS F.HBM_STATUS_REFRESH_2X k 0 →
    (x2 = 0 → 85 < temp → Ends (.hbmRefresh k temp) s (fun t => ∃ y : State, t = y.event E.HBM_REFRESH_2X 0 k temp ∧ y.mem = s.mem ∧
      y.rdF R.HBM_STATUS F.HBM_STATUS_REFRESH_2X k 0 = 1 ∧ y.rdF R.HBM_STATUS F.HBM_STATUS_TEMP_C k 0 = temp)) ∧
    (x2 = 1 → temp < 80 → Ends (.hbmRefresh k temp) s (fun t => t.mem = s.mem ∧
      t.rdF R.HBM_STATUS F.HBM_STATUS_REFRESH_2X k 0 = 0 ∧ t.rdF R.HBM_STATUS F.HBM_STATUS_TEMP_C k 0 = temp)) ∧
    ((x2 = 0 ∧ temp ≤ 85) ∨ (x2 = 1 ∧ 80 ≤ temp) → Ends (.hbmRefresh k temp) s (fun t => t.mem = s.mem ∧
      t.rdF R.HBM_STATUS F.HBM_STATUS_REFRESH_2X k 0 = x2 ∧ t.rdF R.HBM_STATUS F.HBM_STATUS_TEMP_C k 0 = temp))) ∧
  (∀ ch, exec (.bulkRefresh ch) s = .next s) ∧
  (∀ unit err row, s.scrubRuns unit = false → exec (.patrolScrub unit err row) s = .next (s.setScrubActive unit 0)) ∧
  (∀ unit err row a y pos, s.scrubRuns unit = true → y = s.setScrubActive unit 1 → pos = Sp.get 0 s.scrubPos unit →
    a = (y.scrubRange unit).1 + 64 * pos → Ends (.patrolScrub unit err row) s (fun t => t.mem = s.mem ∧
      Sp.get 0 t.scrubPos unit = (if (y.scrubRange unit).2 ≤ 64 * (pos + 1) then 0 else pos + 1) ∧
      (max err (s.granAt a).latent = 0 → t.gran = s.gran) ∧
      (max err (s.granAt a).latent = 1 → (t.granAt a).latent = 0 ∧ (t.granAt a).poison = (s.granAt a).poison) ∧
      (1 < max err (s.granAt a).latent → (t.granAt a).latent = 0 ∧ (t.granAt a).poison = true))) ∧
  (∀ v, Ends (.pageAttrApply v) s (fun t => t.mem = s.mem ∧
    F.GLB_PAGE_ATTR_BASE.get (t.rd R.GLB_PAGE_ATTR 0 0) = F.GLB_PAGE_ATTR_BASE.get v ∧
    F.GLB_PAGE_ATTR_ENABLE.get (t.rd R.GLB_PAGE_ATTR 0 0) = F.GLB_PAGE_ATTR_ENABLE.get v ∧
    (F.GLB_PAGE_ATTR_APPLY.get v = 1 → s.calm = true → t.effF R.GLB_PAGE_ATTR F.GLB_PAGE_ATTR_BASE 0 0 = F.GLB_PAGE_ATTR_BASE.get v ∧
      t.attrOn = decide (F.GLB_PAGE_ATTR_ENABLE.get v = 1)) ∧
    (F.GLB_PAGE_ATTR_APPLY.get v ≠ 1 ∨ s.calm = false → t.rdEff R.GLB_PAGE_ATTR 0 0 = s.rdEff R.GLB_PAGE_ATTR 0 0))) ∧
  (∀ c x errs u src mask first cnt, u = s.plant errs → c < 64 → x < 3 →
    Sp.find x (u.hub c).load = some (src, mask, first, cnt) →
    ((u.hub c).bankBusy x mask = true → Ends (.bfLoadEnd c x errs) s (fun t => ∃ y q, t = State.bfLoadReport y c x q ∧
      y.cores = u.cores ∧ y.rdF R.CLU_BF_STATUS F.CLU_BF_STATUS_ERROR c x = 2 ∧
      y.rdF R.CLU_BF_STATUS F.CLU_BF_STATUS_DONE c x = 1 ∧ y.rdF R.CLU_BF_STATUS F.CLU_BF_STATUS_BUSY c x = 0)) ∧
    (∀ v rq, rq = u.bfLoadReq c x → v = u.sense src (32 * cnt) rq.part rq.word → (u.hub c).bankBusy x mask = false →
      u.check rq src (32 * cnt) = .ok → v.poisoned src (32 * cnt) = false → Ends (.bfLoadEnd c x errs) s (fun t => ∃ y q,
        t = State.bfLoadReport y c x q ∧ y.rdF R.CLU_BF_STATUS F.CLU_BF_STATUS_ERROR c x = 0 ∧
        y.rdF R.CLU_BF_STATUS F.CLU_BF_STATUS_DONE c x = 1 ∧ y.rdF R.CLU_BF_STATUS F.CLU_BF_STATUS_BUSY c x = 0 ∧
        ∀ k i, k < 16 → mask.testBit k = true → i < cnt →
          Sp.find (64 * x + first + i) (y.core (16 * c + k)).bank = some (v.load (src + 32 * i) 32)))) ∧
  (∀ c x errs, (∀ u, u = s.plant errs → Sp.find x (u.hub c).load = none → exec (.bfLoadEnd c x errs) s = .next u)))

/-- Akcel commands at their engine (R275, R283, R286, R293, R297, R299, R303): a command is refused under R283 or enters its pool,
whose head an idle pool takes by the table of R293, a captured sweep or a drained stack. -/
def Obligations.AkcelCommands : Prop := ∀ (s : State) (p b : Nat) (errs : List (Nat × Nat)) (u : State), u = s.plant errs →
  (∀ x ∈ ([(1, .update p b errs), (2, .sweep p b errs), (3, .drain p b errs)] : List (Nat × Instr)),
    (u.engNext p b = none → exec x.2 s = .next u) ∧
    (∀ c, u.engNext p b = some c → ∀ bd a, bd = u.bindingOf c → a = bd.base + 64 * c.desc →
      (c.target ≠ 5 → exec x.2 s = .next u) ∧
      (c.target = 5 → c.opcode = 0 ∨ 3 < c.opcode → exec x.2 s = .next ((u.engStart c).raise E.AKC_COMMAND c.part c.pos a)) ∧
      (c.target = 5 → c.opcode ≠ 0 → c.opcode ≤ 3 → c.opcode ≠ x.1 → exec x.2 s = .next u) ∧
      (c.target = 5 → c.opcode = x.1 →
        (∀ z, (u.engStart c).fetchDesc c bd .hbm = (z, none) → exec x.2 s = .next z) ∧
        (∀ z l, (u.engStart c).fetchDesc c bd .hbm = (z, some l) →
          (z.poisoned a 64 = true ∨ z.akcBad c l = true → exec x.2 s = .next (z.raise E.AKC_COMMAND c.part c.pos a)) ∧
          (z.poisoned a 64 = false → z.akcBad c l = false → x.1 = 3 ∨ z.unitPages p bd.inst (unitOf l) = none →
            Ends x.2 s (fun t => ∃ y : State, t = y.poolTake bd.inst bd.queue ∧ y.mem = z.mem ∧
              y.pool bd.inst bd.queue = z.pool bd.inst bd.queue ++ [{ cmd := c, desc := a }])) ∧
          (z.poisoned a 64 = false → z.akcBad c l = false → x.1 ≠ 3 → ∀ e m, z.unitPages p bd.inst (unitOf l) = some (e, m) →
            exec x.2 s = .next (if e = .unmapped then z.unmappedErr (z.progReq p .hbm bd.inst) m
              else z.refusedErr (z.progReq p .hbm bd.inst) m)))))) ∧
  (∀ (v : State) k pool j rest, v.pool k pool = j :: rest → j.taken = false →
    (v.akcActive k pool = 0 → v.poolTake k pool =
      (v.setPool k pool rest).raise E.AKC_NO_POOL j.cmd.part (engineWord k pool 0) 0) ∧
    (v.akcActive k pool ≠ 0 → j.cmd.opcode = 1 → ∀ lap st, lap = v.lap j.cmd.part → st = v.loadN (j.desc + 0x34) 1 % 4 →
      (v.loadN (j.desc + 0x30) 4 = lap → st = 2 → (v.poolTake k pool).pool k pool = { j with taken := true, skip := true } :: rest ∧
        (v.poolTake k pool).mem = v.mem ∧ (k < 12 → (v.poolTake k pool).rd R.CNT_HBM k 7 = (v.rd R.CNT_HBM k 7 + 1) % 2 ^ 64)) ∧
      (∀ y, y = (if v.loadN (j.desc + 0x30) 4 = lap ∧ st = 1 then v else
          ((v.saveN (j.desc + 0x30) 4 lap).saveN (j.desc + 0x34) 1 1).saveN (j.desc + 0x38) 4 0) →
        ¬ (v.loadN (j.desc + 0x30) 4 = lap ∧ st = 2) → ∀ z l f, y.readParams j.cmd.part k (unitOf (v.load j.desc 64)) =
          (z, some (l, f)) → (v.poolTake k pool).mem = z.mem ∧ ∃ j', (v.poolTake k pool).pool k pool = j' :: rest ∧
            j'.taken = true ∧ j'.skip = false ∧ j'.lap = lap ∧ j'.cmd = j.cmd ∧ j'.desc = j.desc ∧ j'.params = l ∧
            ((unitOf (v.load j.desc 64)).kind = 0 → v.loadN (j.desc + 0x30) 4 = lap → st = 1 → j'.next = z.loadN (j.desc + 0x38) 4) ∧
            ((unitOf (v.load j.desc 64)).kind ≠ 0 ∨ v.loadN (j.desc + 0x30) 4 ≠ lap ∨ st ≠ 1 → j'.next = 0)) ∧
      (∀ z, ¬ (v.loadN (j.desc + 0x30) 4 = lap ∧ st = 2) → (if v.loadN (j.desc + 0x30) 4 = lap ∧ st = 1 then v else
          ((v.saveN (j.desc + 0x30) 4 lap).saveN (j.desc + 0x34) 1 1).saveN (j.desc + 0x38) 4 0).readParams j.cmd.part k
            (unitOf (v.load j.desc 64)) = (z, none) →
        v.poolTake k pool = (z.poolDrop k pool).raise E.AKC_COMMAND j.cmd.part j.cmd.pos j.desc)) ∧
    (v.akcActive k pool ≠ 0 → j.cmd.opcode = 2 →
      ((∃ w ∈ v.sweepsOf k, w.lap ≠ v.lap j.cmd.part) → v.poolTake k pool = v) ∧
      ((∀ w ∈ v.sweepsOf k, w.lap = v.lap j.cmd.part) → ∀ d l, v.table j.cmd.part (unitOf (v.load j.desc 64)).id = some d →
        v.ledgerFor j.cmd.part d = some l →
        ((∃ i ∈ v.ldUsed l, v.ldState l i = 3 ∧ v.ldLap l i = v.lap j.cmd.part) ∨ v.totals j.cmd.part d l true = [] →
          v.poolTake k pool = v.setPool k pool ({ j with taken := true, skip := true } :: rest)) ∧
        ((∀ i ∈ v.ldUsed l, ¬ (v.ldState l i = 3 ∧ v.ldLap l i = v.lap j.cmd.part)) → v.totals j.cmd.part d l true ≠ [] →
          ∀ z ps f, v.readParams j.cmd.part k (unitOf (v.load j.desc 64)) = (z, some (ps, f)) →
          (v.poolTake k pool).sweepsOf k = z.sweepsOf k ++
            [⟨j.cmd.part, j.desc, v.lap j.cmd.part, v.totals j.cmd.part d l true, ps, f, j.cmd.pos⟩] ∧
          (v.poolTake k pool).mem = ((v.totals j.cmd.part d l true).foldl (fun s i => s.ldMark l i 3 (v.lap j.cmd.part)) z).mem ∧
          (v.poolTake k pool).pool k pool = { j with taken := true, skip := true } :: rest))) ∧
    (v.akcActive k pool ≠ 0 → j.cmd.opcode = 3 → v.poolTake k pool =
      if v.sweepsOf k = [] then v.setPool k pool ({ j with taken := true, skip := true } :: rest) else v))

/-- Engines at work (R273, R275, R283, R293, R294, R297, R302, R303): chunks and entries done, a failed check, completion, swept
rows, and engines fenced by software. The hash operation (R304 to R306): a start in READY sets BUSY, one elsewhere ends with
ERROR 2, and the end adds to the four lanes, or takes from them, the hash of every near digest row, or reports ERROR 1 or 3. -/
def Obligations.AkcelEnginesAndHash : Prop :=
  (∀ (s : State) (k pool e : Nat) (errs : List (Nat × Nat)) (u : State), u = s.plant errs →
  (∀ fail j rest, u.pool k pool = j :: rest →
    (j.taken = false ∨ j.isOver = true ∨ bit (u.akcActive k pool) e = false →
      exec (.akcChunkDone k pool e fail errs) s = .next u) ∧
    (j.taken = true → j.isOver = false → bit (u.akcActive k pool) e = true →
      (fail = true → Ends (.akcChunkDone k pool e fail errs) s (fun t => ∃ y : State, y = (u.count R.CNT_HBM k 11 1).raise
        E.AKC_ENGINE_ERR 0 (engineWord k pool e) 0 ∧ y.mem = u.mem ∧ y.pools = u.pools ∧
        t = (y.fenceEngine k pool e).poolLost k pool e)) ∧
      (fail = false → (unitOf (u.load j.desc 64)).kind = 0 → Ends (.akcChunkDone k pool e fail errs) s (fun t => ∃ y : State,
        y.mem = ((u.doChunk j.cmd.part k j j.next).saveN (j.desc + 0x38) 4 (j.next + 1)).mem ∧
        y.pool k pool = { j with next := j.next + 1 } :: rest ∧
        t = (if ({ j with next := j.next + 1 } : AkcJob).isOver then y.saveN (j.desc + 0x34) 1 2 else y))) ∧
      (fail = false → (unitOf (u.load j.desc 64)).kind ≠ 0 → ∀ z ok, u.doEntry j.cmd.part k j (j.todo.getD j.next 0) = (z, ok) →
        (ok = false → exec (.akcChunkDone k pool e fail errs) s = .next z) ∧
        (ok = true → Ends (.akcChunkDone k pool e fail errs) s (fun t => ∃ y : State, y.mem = z.mem ∧
          y.pool k pool = { j with next := j.next + 1 } :: rest ∧
          t = (if ({ j with next := j.next + 1 } : AkcJob).isOver then y.saveN (j.desc + 0x34) 1 2 else y)))))) ∧
  (∀ fail, u.pool k pool = [] → exec (.akcChunkDone k pool e fail errs) s = .next u) ∧
  (∀ j rest, s.pool k pool = j :: rest → (j.isOver = false → exec (.akcCmdComplete k pool) s = .next (s.poolTake k pool)) ∧
    (j.isOver = true → Ends (.akcCmdComplete k pool) s (fun t => ∃ y : State, y.pool k pool = rest ∧
      y.mem = (if j.skip then s else s.saveN (j.desc + 0x34) 1 2).mem ∧ t = (y.cmdDone j.cmd).poolTake k pool))) ∧
  (s.pool k pool = [] → exec (.akcCmdComplete k pool) s = .next s) ∧
  (∀ fail y, y = u.sweepRow k pool e fail →
    exec (.sweepRowDone k pool e fail errs) s = .next (y.enabledParts.foldl (fun v p => v.embResume p) y) ∧
    (u.sweepsOf k = [] → y = u) ∧
    (∀ w rest i more, u.sweepsOf k = w :: rest → w.todo = i :: more →
      (b2n (unitOf (u.load w.desc 64)).priv ≠ pool ∨ bit (u.akcActive k pool) e = false → y = u) ∧
      (b2n (unitOf (u.load w.desc 64)).priv = pool → bit (u.akcActive k pool) e = true → fail = true → y = u.engineFail k pool e) ∧
      (∀ d l a, b2n (unitOf (u.load w.desc 64)).priv = pool → bit (u.akcActive k pool) e = true → fail = false →
        u.table w.part (unitOf (u.load w.desc 64)).id = some d → u.ledgerFor w.part d = some l →
        u.rowAt w.part d (u.ldLocal l i) = .addr a true →
        u.check { u.progReq w.part .hbm k with write := true } a d.rowBytes = .ok →
        ∃ z : State, z.mem = ((u.doRow w.part k (unitOf (u.load w.desc 64)) w.lap w.factor w.params (some w.lap) d l i a).ldMark l i
            11 w.lap).mem ∧ z.sweepsOf k = (if more = [] then rest else { w with todo := more } :: rest) ∧
          y = (if more = [] then (z.poolTake k 0).poolTake k 1 else z)))) ∧
  (∀ v, k < 12 → Ends (.akcEngineFenceWrite k v) s (fun t => t.mem = s.mem ∧
    (∀ i, i < 34 → bit (t.akcFenced k 0) i = (bit (s.akcFenced k 0) i || bit v i)) ∧
    (∀ i, i < 5 → bit (t.akcFenced k 1) i = (bit (s.akcFenced k 1) i || bit v (34 + i))) ∧
    ∀ m pool, m ≠ k → t.akcFenced m pool = s.akcFenced m pool)) ∧
  (∀ v, 12 ≤ k → exec (.akcEngineFenceWrite k v) s = .next s) ∧
  (∀ (v : State) i, k < 12 → pool < 2 → i < poolSize pool → bit (v.akcFenced k pool) i = false →
    bit ((v.fenceEngine k pool i).akcActive k pool) i = false ∧ bit ((v.fenceEngine k pool i).akcFenced k pool) i = true)) ∧
  (∀ (s : State) (k : Nat), k < 12 →
  (∀ v, s.rdF R.AKC_HASH_CTRL F.AKC_HASH_CTRL_BUSY k 0 = 1 → exec (.hashGo k v) s = .next s.regErr) ∧
  (∀ v, s.rdF R.AKC_HASH_CTRL F.AKC_HASH_CTRL_BUSY k 0 = 0 →
    Ends (.hashGo k v) s (fun t => t.rdF R.AKC_HASH_CTRL F.AKC_HASH_CTRL_SUBTRACT k 0 = F.AKC_HASH_CTRL_SUBTRACT.get v ∧
      t.mem = s.mem ∧ (s.inReady = true → t.rdF R.AKC_HASH_CTRL F.AKC_HASH_CTRL_BUSY k 0 = 1 ∧
        t.rdF R.AKC_HASH_CTRL F.AKC_HASH_CTRL_DONE k 0 = 0 ∧ t.rdF R.AKC_HASH_CTRL F.AKC_HASH_CTRL_ERROR k 0 = 0) ∧
      (s.inReady = false → t.rdF R.AKC_HASH_CTRL F.AKC_HASH_CTRL_BUSY k 0 = 0 ∧
        t.rdF R.AKC_HASH_CTRL F.AKC_HASH_CTRL_DONE k 0 = 1 ∧ t.rdF R.AKC_HASH_CTRL F.AKC_HASH_CTRL_ERROR k 0 = 2))) ∧
  (∀ p errs u, u = s.plant errs → u.rdF R.AKC_HASH_CTRL F.AKC_HASH_CTRL_BUSY k 0 = 0 → exec (.hashEnd k p errs) s = .next u) ∧
  (∀ p errs u a rq z, u = s.plant errs → u.rdF R.AKC_HASH_CTRL F.AKC_HASH_CTRL_BUSY k 0 = 1 →
    a = u.rdF R.AKC_HASH_SRC F.AKC_HASH_SRC_DESC k 0 * 64 → rq = u.progReq p .hbm k → u.check rq a 64 = .ok →
    z = u.sense a 64 p rq.word → Ends (.hashEnd k p errs) s (fun t =>
      t.rdF R.AKC_HASH_CTRL F.AKC_HASH_CTRL_BUSY k 0 = 0 ∧ t.rdF R.AKC_HASH_CTRL F.AKC_HASH_CTRL_DONE k 0 = 1 ∧
      (z.poisoned a 64 = true → t.rdF R.AKC_HASH_CTRL F.AKC_HASH_CTRL_ERROR k 0 = 3) ∧
      (z.poisoned a 64 = false → unitForm (z.load a 64) = false ∨ z.unitFits p k (unitOf (z.load a 64)) = false →
        t.rdF R.AKC_HASH_CTRL F.AKC_HASH_CTRL_ERROR k 0 = 1) ∧
      (z.poisoned a 64 = false → unitForm (z.load a 64) = true → z.unitFits p k (unitOf (z.load a 64)) = true →
        z.digestRows p (unitOf (z.load a 64)) = [] → t.rdF R.AKC_HASH_CTRL F.AKC_HASH_CTRL_ERROR k 0 = 0 ∧
          (p < 64 → ∀ j, j < 4 → t.rd R.GLB_WEIGHT_DIGEST p j = z.rd R.GLB_WEIGHT_DIGEST p j)))) ∧
  (∀ (v : State) p d, p < 64 → (v.addLanes p none d).mem = v.mem ∧ ∀ j, j < 4 →
    (v.addLanes p none d).rd R.GLB_WEIGHT_DIGEST p j = (v.rd R.GLB_WEIGHT_DIGEST p j + d.getD j 0) % 2 ^ 64))

/-! ## The embedding exchange -/

/-- The far tier's doorbells and its ring (R241 to R243): a STAGE is accepted or refused with a record of Table 7-7, a RELEASE
waits or is discarded, and the oldest waiting record enters a ring that has room. -/
def Obligations.FarTier : Prop := ∀ (s : State) (p : Nat),
  (∀ die k rec, rec = (fun kind reason item : Nat => leBytes 1 kind ++ leBytes 1 reason ++ leBytes 1 die ++ leBytes 1 0 ++
      leBytes 4 (s.lap p) ++ leBytes 8 item ++ leBytes 4 k ++ leBytes 4 0 ++ leBytes 8 (s.ftime % 2 ^ 64)) →
    (s.stageReason p die k = 0 → Ends (.stage p die k) s (fun t => ∃ y : State, t = y.embResume p ∧
      y.mem = (s.saveN (s.farSlot p die k + 0x0C) 1 1).mem ∧
      (y.part p).farIdx = (s.part p).farIdx ++ [(die, s.loadN (s.farSlot p die k) 8, k)] ∧
      (y.part p).farWait = (s.part p).farWait ++ [rec 0x10 0 (s.loadN (s.farSlot p die k) 8)])) ∧
    (s.stageReason p die k ≠ 0 → Ends (.stage p die k) s (fun t => ∃ y : State, t = y.embResume p ∧ y.mem = s.mem ∧
      (y.part p).farIdx = (s.part p).farIdx ∧
      (y.part p).farWait = (s.part p).farWait ++ [rec 0x11 (s.stageReason p die k)
        (if s.stageReason p die k = 7 then 0 else s.loadN (s.farSlot p die k) 8)] ∧
      (p < 64 → y.rd R.CNT_EMB p 3 = (s.rd R.CNT_EMB p 3 + 1) % 2 ^ 64)))) ∧
  (∀ die k lap, ((s.part p).farQ.length < 256 → Ends (.release p die k lap) s (fun t =>
      t.part p = { s.part p with farQ := (s.part p).farQ ++ [(die, k, lap)] } ∧ t.regs = s.regs ∧ t.mem = s.mem)) ∧
    (256 ≤ (s.part p).farQ.length → p < 64 → Ends (.release p die k lap) s (fun t => t.parts = s.parts ∧ t.mem = s.mem ∧
      t.rd R.CNT_EMB p 4 = (s.rd R.CNT_EMB p 4 + 1) % 2 ^ 64))) ∧
  ((s.part p).farWait = [] → exec (.farRecordPost p) s = .next s) ∧
  (∀ b rest ring n prod cons, (s.part p).farWait = b :: rest → p < 64 → ring = s.rd R.EMB_FAR_RING p 0 →
    n = 2 ^ F.EMB_FAR_RING_LOG2_ENTRIES.get ring → prod = s.rdF R.EMB_FAR_RING_PTR F.EMB_FAR_RING_PTR_PRODUCER p 0 →
    cons = s.rdF R.EMB_FAR_RING_PTR F.EMB_FAR_RING_PTR_CONSUMER p 0 →
    (s.rdF R.HST_ATTACH F.HST_ATTACH_ATTACHED 0 0 = 0 → hostBase ≤ F.EMB_FAR_RING_BASE.get ring * 32 →
      exec (.farRecordPost p) s = .next s) ∧
    (s.rdF R.HST_ATTACH F.HST_ATTACH_ATTACHED 0 0 ≠ 0 ∨ F.EMB_FAR_RING_BASE.get ring * 32 < hostBase →
      (n ≤ (prod + 2 ^ 32 - cons) % 2 ^ 32 → (s.part p).farFull = true → exec (.farRecordPost p) s = .next s) ∧
      (n ≤ (prod + 2 ^ 32 - cons) % 2 ^ 32 → (s.part p).farFull = false → Ends (.farRecordPost p) s (fun t => ∃ y : State,
        t = y.event E.FAR_RING_FULL p 0 0 ∧ y.part p = { s.part p with farFull := true } ∧ y.regs = s.regs)) ∧
      ((prod + 2 ^ 32 - cons) % 2 ^ 32 < n → Ends (.farRecordPost p) s (fun t => ∃ y : State,
        y.mem = (s.save (F.EMB_FAR_RING_BASE.get ring * 32 + 32 * (prod % n)) b).mem ∧
        y.rdF R.EMB_FAR_RING_PTR F.EMB_FAR_RING_PTR_PRODUCER p 0 = (prod + 1) % 2 ^ 32 ∧
        y.rdF R.EMB_FAR_RING_PTR F.EMB_FAR_RING_PTR_CONSUMER p 0 = cons ∧ (y.part p).farWait = rest ∧
        (y.part p).farFull = false ∧ t = (if prod = cons then y.event E.FAR_RECORD p 0 0 else y)))))

/-- The exchange engine's commands (R259, R260, R269): a command that breaks R259 raises EMB_COMMAND; CLOSE resolves what is new,
closes the direction's caravans and makes its closing messages due; REFRESH walks the hot directories; either completes when
R260's conditions hold. Row requests are resolved in R252's order: padding, errors of the table entry, rows out of range, rows
of this chip, hot replicas, and the caravan to the owner; scattered gradients join the ledger or a reverse caravan (R248). -/
def Obligations.ExchangeAndRows : Prop :=
  (∀ (s : State) (p b : Nat) (errs : List (Nat × Nat)) (u : State), u = s.plant errs →
  (∀ x ∈ [Instr.close p b errs, .refresh p b errs],
    (u.engNext p b = none → exec x s = .next u) ∧
    (∀ c, u.engNext p b = some c → c.target ≠ 3 → exec x s = .next u) ∧
    (∀ c, u.engNext p b = some c → c.target = 3 →
      c.opcode = 0 ∨ 2 < c.opcode ∨ (u.bindingOf c).inst ≠ 0 ∨ 1 < c.offset ∨ (c.opcode = 2 ∧ c.offset ≠ 0) ∨
        2 * c.opcode + c.offset % 2 ∈ (u.emb p).issued →
      exec x s = .next ((u.engStart c).raise E.EMB_COMMAND p c.pos 0))) ∧
  (∀ c, u.engNext p b = some c → c.target = 3 → (u.bindingOf c).inst = 0 → c.offset ≤ 1 →
    2 * c.opcode + c.offset % 2 ∉ (u.emb p).issued → ∀ y, y = (u.engStart c).updEmb p (fun e =>
      { e with issued := e.issued ++ [2 * c.opcode + c.offset % 2] }) →
    (c.opcode = 1 → exec (.refresh p b errs) s = .next u ∧
      Ends (.close p b errs) s (fun t => ∃ z : State, z = (y.resolveAll p [0]).closeDir p c.offset ∧
        t = (if c.offset = 1 then z.embLate p else z))) ∧
    (c.opcode = 2 → c.offset = 0 → exec (.close p b errs) s = .next u ∧
      Ends (.refresh p b errs) s (fun t => ∃ z : State, t = z.closeDir p 0 ∧ z = (y.tables p).foldl (fun v d =>
        if d.hot then (List.range d.hotCount).foldl (fun v i => v.refreshRow p d (v.hotEntry d i).1 (v.hotEntry d i).2) v
        else v) y))) ∧
  (∀ (v : State) dir o, (∀ c ∈ ((v.closeDir p dir).emb p).cars, c.dir = dir → c.stage ≠ 0) ∧
    (o ∈ v.peers p → ∃ x ∈ ((v.closeDir p dir).emb p).outs, isOut o dir (v.convoy p) x = true ∧ x.due = true)) ∧
  (∀ dir c, (s.part p).outstanding.find? (fun c => c.started && c.target = 3 &&
      ((c.opcode = 1 && c.offset = dir) || (c.opcode = 2 && dir = 0))) = some c →
    (s.dirDone p dir = false → exec (.closeComplete p dir) s = .next s) ∧
    (s.dirDone p dir = true → exec (.closeComplete p dir) s = .next ((if dir = 1 then s.embReplayLate p else s).cmdDone c))) ∧
  (∀ dir, (s.part p).outstanding.find? (fun c => c.started && c.target = 3 &&
      ((c.opcode = 1 && c.offset = dir) || (c.opcode = 2 && dir = 0))) = none → exec (.closeComplete p dir) s = .next s)) ∧
  (∀ (s : State) (id : Nat) (errs : List (Nat × Nat)) (u : State), u = s.plant errs →
  (u.greqs.find? (fun g => g.id = id && (g.op = 0x40 || g.op = 0x42) && decide (g.wait < 3) && !g.reqDone) = none →
    exec (.rowRequestResolve id errs) s = .next u) ∧
  (∀ g d n r chip, u.greqs.find? (fun g => g.id = id && (g.op = 0x40 || g.op = 0x42) && decide (g.wait < 3) && !g.reqDone) =
      some g → u.table g.part g.table = some d → g.row < d.rows → g.row ≠ 2 ^ 48 - 1 → u.scratchRange g n = none →
      u.own g.part d g.row = (chip, r) →
    (g.op = 0x40 → n = (if g.count = 0 then d.dataGran else g.count) → (g.count = 0 → d.dataGran ≤ 64 ∧ g.first = 0) →
      (g.count ≠ 0 → g.first + g.count ≤ d.dataGran) →
      (chip = u.myChip → (∀ a, u.findRow g.part d r = .at_ a → Ends (.rowRequestResolve id errs) s (fun t => ∃ y : State,
          y = (u.count R.CNT_EMB g.part 5 n).owe g.part d r (b2n (u.countable g.part g)) ∧
          (y.check (y.gReqOf g.part g.ctx g.core) (a + 64 * g.first) (64 * n) = .ok → t =
            (y.deliverRow g (y.gReqOf g.part g.ctx g.core) (a + 64 * g.first) n).reqReady id))) ∧
        (∀ die, u.findRow g.part d r = .far die → exec (.rowRequestResolve id errs) s = .next
          ((u.farMiss g.part 1 die (rowKey d.num r)).updReq id (fun h => { h with wait := 1 }))) ∧
        (u.findRow g.part d r = .sweep → g.wait ≠ 2 → exec (.rowRequestResolve id errs) s = .next
          ((u.count R.CNT_EMB g.part 15 1).updReq id (fun h => { h with wait := 2 })))) ∧
      (chip ≠ u.myChip → (∀ v k, u.replicaFor g.part d g.row = (v, some k) → exec (.rowRequestResolve id errs) s = .next
          ((v.count R.CNT_EMB g.part 6 1).serveLocal g (d.replicaAddr k + 64 * (1 + g.first)) n)) ∧
        (∀ v, u.replicaFor g.part d g.row = (v, none) → (g.ctx ≠ 0 → exec (.rowRequestResolve id errs) s = .next
            (v.backfillFar g)) ∧
          (g.ctx = 0 → exec (.rowRequestResolve id errs) s = .next ((v.caravanPut g.part (g.core / 256) chip 0 false
            (v.countable g.part g) { table := d.num, row := g.row, first := g.first, grans := n, mult := 1, reqs := [id] }).updReq
              id (fun h => { h with wait := 3 })))))) ∧
    (g.op = 0x42 → n = (if g.count = 0 then cdiv d.elems (if g.fmt = 0 then 16 else 32) else g.count) →
      g.first + n ≤ cdiv d.elems (if g.fmt = 0 then 16 else 32) → ∀ v data mask, v = u.settle g.core →
      data = v.scr g.core g.local_ (64 * n) →
      mask = ((List.range n).map (fun i => b2n (v.scrPoison g.core (g.local_ + 64 * i) 64) * 2 ^ i)).sum →
      v.own g.part d g.row = (chip, r) →
      (chip = v.myChip → d.grad = true → exec (.rowRequestResolve id errs) s = .next
        ((v.ledgerAdd g.part d r g.row g.first g.fmt data mask).reqReady id)) ∧
      (chip ≠ v.myChip → exec (.rowRequestResolve id errs) s = .next ((v.caravanPut g.part (g.core / 256) chip 1 false false
        { table := d.num, row := g.row, first := g.first, grans := n, fmt := g.fmt, data := data, mask := mask }).reqReady id)))) ∧
  (∀ g, u.greqs.find? (fun g => g.id = id && (g.op = 0x40 || g.op = 0x42) && decide (g.wait < 3) && !g.reqDone) = some g →
    (g.row = 2 ^ 48 - 1 → g.op = 0x42 → exec (.rowRequestResolve id errs) s = .next (u.reqReady id)) ∧
    (g.row ≠ 2 ^ 48 - 1 → u.table g.part g.table = none →
      exec (.rowRequestResolve id errs) s = .next ((u.tableInvalid g.part g.entry u.myChip).reqDead id))) ∧
  (∀ v : State, (v.reqReady id).greqs = v.greqs.map (fun g => if g.id = id then { g with reqDone := true } else g)))

/-- Caravans leave in their order under free tags within the window, and go out again when unanswered, until the retries are used
up (R257, R258, R267). Segments received (R261 to R267, R269, R467): each kind's command acts on its own kind alone; a failed
partition discards it, a reserved kind is counted; requests are served and entered in their convoy, gradients entered, returns
filled in, closings and their acknowledgements taken. -/
def Obligations.Caravans : Prop :=
  (∀ (s : State) (p owner dir tag : Nat),
  (∀ slice, ((s.emb p).cars.find? (fun c => (c.slice = slice && c.owner = owner && c.dir = dir) && c.stage = 1) = none →
      exec (.caravanSend p slice owner dir tag) s = .next s) ∧
    (∀ c, (s.emb p).cars.find? (fun c => (c.slice = slice && c.owner = owner && c.dir = dir) && c.stage = 1) = some c →
      (dir = 0 → s.effF R.EMB_CTRL F.EMB_CTRL_WINDOW p 0 ≤ ((s.emb p).cars.filter (fun c => (c.slice = slice && c.owner = owner &&
          c.dir = dir) && c.stage = 2)).length ∨ s.tagFree tag = false →
        exec (.caravanSend p slice owner dir tag) s = .next s) ∧
      (dir ≠ 0 ∨ (((s.emb p).cars.filter (fun c => (c.slice = slice && c.owner = owner && c.dir = dir) && c.stage = 2)).length <
          s.effF R.EMB_CTRL F.EMB_CTRL_WINDOW p 0 ∧ s.tagFree tag = true) →
        Ends (.caravanSend p slice owner dir tag) s (fun t => ∃ (y : State) (idx : Nat) (c' : Caravan),
          c' = { c with index := idx, stage := 2, tag := if dir = 0 then tag else 0, gen := if dir = 0 then s.tagGenOf tag else 0 } ∧
          c' ∈ (y.emb p).cars ∧ (y.emb p).cars.length = (s.emb p).cars.length ∧
          y.tagUse = (if dir = 0 then s.tagUse ++ [tag] else s.tagUse) ∧ y.out = s.out ∧
          t = ((y.sendCaravan p c').count R.CNT_EMB p 9 1).closeDue p owner dir)))) ∧
  (∀ fresh, ((s.emb p).cars.find? (fun c => c.stage = 2 && c.dir = 0 && c.tag = tag) = none →
      exec (.caravanTimeout p 0 tag fresh) s = .next s) ∧
    (∀ c, (s.emb p).cars.find? (fun c => c.stage = 2 && c.dir = 0 && c.tag = tag) = some c →
      (s.embRetries p ≤ c.tries → exec (.caravanTimeout p 0 tag fresh) s = .next
        ((s.tagRelease tag).raise E.CARAVAN_TIMEOUT p (formP c.owner (s.embQp p) c.convoy) 0)) ∧
      (c.tries < s.embRetries p → (s.tagRelease tag).tagFree fresh = true → Ends (.caravanTimeout p 0 tag fresh) s (fun t =>
        ∃ (y : State) (c' : Caravan), c' = { c with tag := fresh, gen := (s.tagRelease tag).tagGenOf fresh, tries := c.tries + 1 } ∧
          c' ∈ (y.emb p).cars ∧ y.tagUse = s.tagUse.filter (· != tag) ++ [fresh] ∧
          t = (y.sendCaravan p c').count R.CNT_EMB p 11 1)))) ∧
  (∀ fresh o, dir < 2 → (s.emb p).outs.find? (fun o => isOut owner dir (s.convoy p) o && o.closed && !o.acked) = some o →
    (s.embRetries p ≤ o.tries → exec (.caravanTimeout p (dir + 1) owner fresh) s = .next
      (s.raise E.CARAVAN_TIMEOUT p (formP owner (s.embQp p) o.convoy) 0)) ∧
    (o.tries < s.embRetries p → Ends (.caravanTimeout p (dir + 1) owner fresh) s (fun t => ∃ y : State,
      (y.emb p).outs = (s.emb p).outs.map (fun x => if isOut owner dir o.convoy x then { x with tries := x.tries + 1 } else x) ∧
      y.out = s.out ∧ t = ((if dir = 1 then ((y.emb p).cars.filter (fun c => c.owner = owner && c.dir = 1 && c.stage = 2)).foldl
        (fun v c => (v.sendCaravan p c).count R.CNT_EMB p 11 1) y else y)).sendClosing p o)))) ∧
  (∀ (s : State) (p qp : Nat) (b : List Byte) (errs : List (Nat × Nat)),
  (∀ x ∈ ([(1, .requestSegment p qp b errs, s.plant errs), (2, .returnSegment p qp b, s), (3, .reverseSegment p qp b, s),
      (4, .closeSegment p qp b, s), (5, .closeAckSegment p qp b, s), (6, .refreshSegment p qp b errs, s.plant errs),
      (7, .refreshRetSegment p qp b, s)] : List (Nat × Instr × State)), ∀ u, u = x.2.2 →
    ((segOf b).kind ≠ x.1 → exec x.2.1 s = .next s) ∧
    ((segOf b).kind = x.1 → u.pState p = stFailed ∨ u.chip.fatal = true → exec x.2.1 s = .next (u.count R.CNT_GLB 0 19 1)) ∧
    ((segOf b).kind = x.1 → u.pState p ≠ stFailed → u.chip.fatal = false → ∀ y z, y = u.journalAdd p b.length →
      z = (if (segOf b).last then y.count R.CNT_EMB p 10 1 else y) →
      Ends x.2.1 s (fun t => (x.1 = 1 ∨ x.1 = 6 → t = (z.serveSeg p qp b).inSeg p qp 0 b) ∧ (x.1 = 3 → t = z.inSeg p qp 1 b) ∧
        (x.1 = 4 → t = y.inSeg p qp (b2n (segOf b).grad) b) ∧ (x.1 = 5 → t = y.ackSeg p b) ∧
        (x.1 = 2 ∨ x.1 = 7 → t = y.retSeg p b)))) ∧
  ((segOf b).kind ≠ 0 → (segOf b).kind ≤ 7 → exec (.unknownSegment p qp b) s = .next s) ∧
  ((segOf b).kind = 0 ∨ 7 < (segOf b).kind → exec (.unknownSegment p qp b) s = .next (if s.pState p = stFailed ∨ s.chip.fatal = true
    then s.count R.CNT_GLB 0 19 1 else s.count R.CNT_RLY 0 16 1)) ∧
  (∀ (v : State) g, g = segOf b →
    (v.emb p).ins.any (isIn g.src 1 g.convoy) = false → serialNewer 24 (v.convoy p) g.convoy = false → g.kind = 3 → g.last = false →
      ((v.inSeg p qp 1 b).emb p).ins = (v.emb p).ins ++ [
        { src := g.src, dir := 1, convoy := g.convoy, attempt := g.attempt, qp := qp
          cars := [{ index := g.index, segs := [b], last := false }] }]) ∧
  (∀ (v : State) g, g = segOf b →
    ((∀ c ∈ (v.emb p).cars, ¬ (c.stage = 2 ∧ c.dir = 0 ∧ c.tag = g.tag ∧ c.gen = g.gen ∧ g.tag ∈ v.tagUse)) →
      v.retSeg p b = v.count R.CNT_RLY 0 8 1) ∧
    (∀ o ∈ (v.emb p).outs, isOut g.src (b2n g.grad) g.convoy o = true → o.attempt = g.attempt → o.closed = true →
      ((v.ackSeg p b).emb p).outs = (v.emb p).outs.map (fun o => if isOut g.src (b2n g.grad) g.convoy o && o.attempt = g.attempt
        then { o with acked := true, result := g.result } else o))))

/-! ## The fabric -/

/-- Frames on a port (R326, R330 to R334, R339): what is sent at a frame boundary, what a received frame does by its SEQ, and the
acknowledgement timeout. Wavelengths of a port (R335 to R337): the end of a symbol window, a lost symbol lock, and a spare
that did not verify. -/
def Obligations.LinkFrames : Prop :=
  (∀ (s : State) (q : Nat), q < 8 →
  (s.portState q ≠ psUp → s.portState q ≠ psParam → exec (.frameTransmit q) s = .next s) ∧
  (s.portState q = psParam → Ends (.frameTransmit q) s (fun t => t.out = s.out ++
    [.frame q (s.frameBytes q ((s.port q).seq + 4095) true false (List.replicate 2560 0))] ∧
    t.port q = { s.port q with nakDue := false })) ∧
  (s.portState q = psUp → ∀ n f, (s.port q).resend = some n →
    (s.port q).replay.find? (fun f => (f.seq + 4096 - n) % 4096 < 2048) = some f → Ends (.frameTransmit q) s (fun t =>
      t.out = s.out ++ [.frame q (s.frameBytes q f.seq false true f.slots)] ∧
      t.rd R.CNT_FAB q 6 = (s.rd R.CNT_FAB q 6 + 1) % 2 ^ 64 ∧ (t.port q).seq = (s.port q).seq ∧
      (t.port q).replay = (s.port q).replay.map (fun g => if g.seq = f.seq then { g with sends := g.sends + 1 } else g))) ∧
  (s.portState q = psUp → (s.port q).resend = none →
    ((s.port q).parkDue = true ∨ 1024 ≤ (s.port q).replay.length ∨ (s.port q).nextFlit (s.ftime % 2 ^ 64) = none →
      Ends (.frameTransmit q) s (fun t => t.out = s.out ++
        [.frame q (s.frameBytes q ((s.port q).seq + 4095) true false (List.replicate 2560 0))] ∧
        (t.port q).seq = (s.port q).seq ∧ (t.port q).replay = (s.port q).replay)) ∧
    ((s.port q).parkDue = false → (s.port q).replay.length < 1024 → (s.port q).nextFlit (s.ftime % 2 ^ 64) ≠ none →
      ∀ b pk x, fillSlots 40 (s.ftime % 2 ^ 64) (s.port q) = (b, pk, x) → Ends (.frameTransmit q) s (fun t =>
        (∃ y : State, y.port q = x ∧ y.regs = s.regs ∧ t.out = s.out ++ [.frame q (y.frameBytes q (s.port q).seq false false b)]) ∧
        (t.port q).seq = ((s.port q).seq + 1) % 4096 ∧ (t.port q).txq = x.txq ∧
        ∃ l, (t.port q).replay = x.replay ++ [⟨(s.port q).seq, b, 1, l⟩]))) ∧
  (∀ u l ok b, s.portState q ≠ psUp → s.portState q ≠ psParam → exec (.frameReceive q u l ok b) s = .next s) ∧
  (∀ u ok b h, s.portState q = psUp ∨ s.portState q = psParam → (s.port q).spareReq = 15 → h = fieldAt b 0 6 →
    (u = true → Ends (.frameReceive q u [] ok b) s (fun t => t.ports = s.ports ∧
      t.rd R.CNT_FAB q 1 = (s.rd R.CNT_FAB q 1 + 1) % 2 ^ 64)) ∧
    (u = false → b.length ≠ 2570 ∨ crc32c (b.take 2566) ≠ fieldAt b 2566 4 → Ends (.frameReceive q u [] ok b) s (fun t =>
      t.ports = s.ports ∧ t.rd R.CNT_FAB q 2 = (s.rd R.CNT_FAB q 2 + 1) % 2 ^ 64)) ∧
    (u = false → b.length = 2570 → crc32c (b.take 2566) = fieldAt b 2566 4 → ∀ d, d = (bits h 11 0 + 4096 - (s.port q).expect) % 4096 →
      (bit h 24 = true → exec (.frameReceive q u [] ok b) s = .next (s.headerIn q h)) ∧
      (bit h 24 = false → d = 0 → ∀ slots, slots = (List.range 40).map (fun i => sliceB b (6 + 64 * i) 64) →
        badKinds (s.port q).rxNeed slots = false → Ends (.frameReceive q u [] ok b) s (fun t => ∃ y z : State,
          y.port q = { s.port q with expect := ((s.port q).expect + 1) % 4096, gapSeen := false } ∧ z = y.headerIn q h ∧
          t = slots.foldl (fun v f => v.slotIn q (bit h 26) f) z)) ∧
      (bit h 24 = false → 2048 ≤ d → exec (.frameReceive q u [] ok b) s = .next ((s.count R.CNT_FAB q 4 1).headerIn q h)) ∧
      (bit h 24 = false → 0 < d → d < 2048 → (s.port q).gapSeen = false → bit h 25 = false →
        Ends (.frameReceive q u [] ok b) s (fun t =>
          (t.port q).expect = (s.port q).expect ∧ (t.port q).nakDue = true ∧ (t.port q).gapSeen = true ∧
          t.rd R.CNT_FAB q 3 = (s.rd R.CNT_FAB q 3 + 1) % 2 ^ 64 ∧ t.rd R.CNT_FAB q 5 = (s.rd R.CNT_FAB q 5 + 1) % 2 ^ 64)))) ∧
  (∀ (v : State) h, bit h 25 = false → ((v.headerIn q h).port q).replay =
    (v.port q).replay.filter (fun f => !((bits h 23 12 + 4096 - f.seq) % 4096 < 2048))) ∧
  (∀ f r, (s.port q).replay = f :: r → s.portState q = psUp → f.seq < 4096 → ∀ lim,
    lim = s.rdF R.FAB_LINK_TUNE F.FAB_LINK_TUNE_REPLAY_LIMIT q 0 →
    (f.sends < lim → Ends (.ackTimeout q) s (fun t => (t.port q).resend = some f.seq ∧ (t.port q).replay = f :: r ∧
      t.rd R.CNT_FAB q 7 = (s.rd R.CNT_FAB q 7 + 1) % 2 ^ 64)) ∧
    (lim ≤ f.sends → Ends (.ackTimeout q) s (fun t => t.portState q = psRetrain ∧ (t.port q).replay = f :: r))) ∧
  ((s.port q).replay = [] ∨ s.portState q ≠ psUp → exec (.ackTimeout q) s = .next s)) ∧
  (∀ (s : State) (q : Nat), q < 8 →
  (∀ worst w, w = (s.port q).win →
    worst = (List.range 9).foldl (fun a k => if Sp.get 0 w a < Sp.get 0 w k then k else a) 0 →
    Ends (.laneWindowEnd q) s (fun t => ∃ y : State, (y.port q).win = [] ∧
      y.rdF R.FAB_LANE_STATUS F.FAB_LANE_STATUS_WORST_LANE q 0 = worst ∧
      y.rdF R.FAB_LANE_STATUS F.FAB_LANE_STATUS_WORST_SYM q 0 = Sp.get 0 w worst % 2 ^ 32 ∧
      t = ((List.range 9).filter (fun k => s.rdF R.FAB_LINK_TUNE F.FAB_LINK_TUNE_LANE_THRESH q 0 < Sp.get 0 w k)).foldl
        (fun v k => v.laneFails q k) y)) ∧
  (∀ k, k < 9 → Ends (.symbolLockLoss q k) s (fun t => ∃ y : State, t = y.laneFails q k ∧ y.ports = s.ports ∧
    ∀ i, i < 9 → bit (y.rdF R.FAB_LANE_STATUS F.FAB_LANE_STATUS_RX_LOCKED q 0) i =
      (bit (s.rdF R.FAB_LANE_STATUS F.FAB_LANE_STATUS_RX_LOCKED q 0) i && i != k))) ∧
  (∀ k, s.portState q = psUp → (s.port q).failing = [] → (s.port q).spareReq = 15 → (s.port q).spareUse = 15 →
    (s.port q).width4 = false → k < 8 → ∀ t, t = s.laneFails q k →
      t.port q = { s.port q with failing := [k], spareReq := k, good := 0 } ∧ t.portState q = psUp) ∧
  (∀ k x, s.portState q = psUp → k < 9 → k ∉ (s.port q).failing → (s.port q).failing.length < 5 → x = (s.port q).spareReq →
    x ≠ 15 ∨ (s.port q).spareUse ≠ 15 → ∀ t, t = s.laneFails q k →
      t.portState q = psRetrain ∧ (t.port q).width4 = true ∧ t.rdF R.FAB_LINK_STATUS F.FAB_LINK_STATUS_WIDTH4 q 0 = 1) ∧
  ((s.port q).spareReq ≠ 15 → s.portState q = psUp → Ends (.spareVerifyTimeout q) s (fun t => t.portState q = psRetrain ∧
    (t.port q).replay = (s.port q).replay)) ∧
  ((s.port q).spareReq = 15 ∨ s.portState q ≠ psUp → exec (.spareVerifyTimeout q) s = .next s))

/-- The port state machine (R325, R338, R340, R341, R555; Table 11-8): each event's next state and the events that do nothing. -/
def Obligations.PortStates : Prop := ∀ (s : State) (q : Nat), q < 8 →
  (∀ x ∈ [Instr.frameLockLost q, .retrain q], s.portState q = psUp → Ends x s (fun t => t.portState q = psRetrain ∧
    (t.port q).replay = (s.port q).replay ∧ t.rd R.CNT_FAB q 9 = (s.rd R.CNT_FAB q 9 + 1) % 2 ^ 64)) ∧
  (s.portState q ≠ psUp → exec (.frameLockLost q) s = .next s ∧ exec (.park q) s = .next s ∧ exec (.portParked q) s = .next s) ∧
  (s.portState q = psDown → Ends (.retrain q) s (fun t => t.portState q =
    if s.laserOk q = true ∧ s.portEnabled q = true ∧ (s.port q).noRef = false then psLock else psDown)) ∧
  (∀ e, q ∈ portsOfEngine e → Ends (.laserLoss e) s (fun t => t.laserOk q = false ∧
    (s.portState q = psOff → t.portState q = psOff) ∧ (s.portState q ≠ psOff → t.portState q = psDown ∧
      t.linkF F.FAB_LINK_STATUS_DOWN_CAUSE q = 1 ∧ (t.port q).replay = []))) ∧
  (∀ e, q ∈ portsOfEngine e → Ends (.laserRestore e) s (fun t => t.laserOk q = true ∧ t.portState q =
    if s.portEnabled q = true ∧ (s.port q).noRef = false ∧ (s.portState q = psOff ∨ (s.portState q = psDown ∧
      s.linkF F.FAB_LINK_STATUS_DOWN_CAUSE q = 1)) then psLock else s.portState q)) ∧
  (∀ e, q ∉ portsOfEngine e → Ends (.laserLoss e) s (fun t => t.portState q = s.portState q ∧ t.laserOk q = s.laserOk q) ∧
    Ends (.laserRestore e) s (fun t => t.portState q = s.portState q ∧ t.laserOk q = s.laserOk q)) ∧
  Ends (.portEnable q true) s (fun t => t.portEnabled q = true ∧ t.portState q =
    if s.portState q = psOff ∧ s.laserOk q = true ∧ (s.port q).noRef = false then psLock else s.portState q) ∧
  Ends (.portEnable q false) s (fun t => t.portEnabled q = false ∧ t.portState q = psOff ∧
    (s.portState q ≠ psOff → (t.port q).replay = [] ∧ t.linkF F.FAB_LINK_STATUS_DOWN_CAUSE q = 0)) ∧
  (s.portState q = psUp → Ends (.park q) s (fun t => t.port q = { s.port q with parkDue := true } ∧
    t.out = s.out ++ [.flit q (s.linkInfoFlit q true)])) ∧
  (s.portState q = psUp → (s.port q).parkDue = true → (s.port q).replay = [] → Ends (.portParked q) s (fun t =>
    t.portState q = psParked ∧ t.rdF R.FAB_LANE_STATUS F.FAB_LANE_STATUS_TX_ACTIVE q 0 = 0)) ∧
  (s.portState q = psUp → (s.port q).parkDue = false ∨ (s.port q).replay ≠ [] → exec (.portParked q) s = .next s) ∧
  (∀ x ∈ [Instr.wake q, .peerTrainingBegins q], (s.portState q = psParked → Ends x s (fun t => t.portState q = psLock ∧
      (t.port q).saved = true)) ∧ (s.portState q ≠ psParked → exec x s = .next s)) ∧
  (∀ m, (s.portState q = psLock → popCount (m % 512) 9 = 9 ∨ ((s.port q).width4 = true ∧ 4 ≤ popCount (m % 512) 9) →
      Ends (.portLockDone q m) s (fun t => t.portState q = psTrain ∧
        t.rdF R.FAB_LANE_STATUS F.FAB_LANE_STATUS_RX_LOCKED q 0 = m % 512)) ∧
    (s.portState q ≠ psLock ∨ popCount (m % 512) 9 < 4 ∨ ((s.port q).width4 = false ∧ popCount (m % 512) 9 ≠ 9) →
      exec (.portLockDone q m) s = .next s)) ∧
  (s.portState q = psTrain ∨ s.portState q = psRetrain → Ends (.portTrainDone q) s (fun t => t.portState q = psParam ∧
    ∃ f, t.out = s.out ++ [.flit q f])) ∧
  (s.portState q ≠ psTrain → s.portState q ≠ psRetrain → exec (.portTrainDone q) s = .next s) ∧
  (∀ n, n = min 255 (s.linkF F.FAB_LINK_STATUS_FAILED_TRAINS q + 1) →
    (s.portState q = psLock ∨ s.portState q = psTrain ∨ s.portState q = psParam → Ends (.portStageTimeout q) s (fun t =>
      t.linkF F.FAB_LINK_STATUS_FAILED_TRAINS q = n ∧ (n < Config.retrainLimit → t.portState q = psLock) ∧
      (Config.retrainLimit ≤ n → t.portState q = psDown ∧
        t.linkF F.FAB_LINK_STATUS_DOWN_CAUSE q = if s.portState q = psLock then 2 else 3))) ∧
    (s.portState q = psRetrain → Ends (.portStageTimeout q) s (fun t => t.linkF F.FAB_LINK_STATUS_FAILED_TRAINS q = n ∧
      ((s.port q).retrainFails < 2 → t.portState q = psRetrain ∧ (t.port q).retrainFails = (s.port q).retrainFails + 1) ∧
      (2 ≤ (s.port q).retrainFails → t.portState q = psDown ∧ t.linkF F.FAB_LINK_STATUS_DOWN_CAUSE q = 4)))) ∧
  (s.portState q ∉ [psLock, psTrain, psParam, psRetrain] → exec (.portStageTimeout q) s = .next s) ∧
  (s.portState q = psDown → s.rdF R.FAB_LINK_CTRL F.FAB_LINK_CTRL_DOWN_RETRY_S q 0 ≠ 0 → s.laserOk q = true →
    s.portEnabled q = true → (s.port q).noRef = false → Ends (.portDownRetry q) s (fun t => t.portState q = psLock)) ∧
  (s.portState q ≠ psDown ∨ s.rdF R.FAB_LINK_CTRL F.FAB_LINK_CTRL_DOWN_RETRY_S q 0 = 0 ∨ s.laserOk q = false ∨
    s.portEnabled q = false ∨ (s.port q).noRef = true → exec (.portDownRetry q) s = .next s) ∧
  Ends .oerefLost s (fun t => (t.port q).noRef = true ∧ (s.portState q = psOff → t.portState q = psOff) ∧
    (s.portState q ≠ psOff → t.portState q = psDown ∧ t.linkF F.FAB_LINK_STATUS_DOWN_CAUSE q = 2)) ∧
  Ends .oerefReturn s (fun t => (t.port q).noRef = false ∧ t.portState q = if (s.port q).noRef = true ∧ s.portEnabled q = true ∧
    s.laserOk q = true ∧ (s.portState q = psDown ∨ s.portState q = psOff) then psLock else s.portState q)

/-- Fabric time (R357 to R363): the exchange's times and offset, steps and holdover, staleness, the wrap and the root's set. -/
def Obligations.FabricTime : Prop := ∀ (s : State) (q : Nat), q < 8 →
  (∀ e t2 t3 dep sy, Ends (.timeReq q true e) s (fun t => t.ports = s.ports ∧
      t.rd R.CNT_FAB q 12 = (s.rd R.CNT_FAB q 12 + 1) % 2 ^ 64) ∧
    Ends (.timeResp q true e t2 t3 dep sy) s (fun t => t.ports = s.ports ∧
      t.rd R.CNT_FAB q 12 = (s.rd R.CNT_FAB q 12 + 1) % 2 ^ 64) ∧
    Ends (.timeReq q false e) s (fun t => ∃ f, (t.port q).ctrl = (s.port q).ctrl ++ [f] ∧ t.out = s.out ++ [.flit q f] ∧
      fieldAt f 0 1 = 0x83 ∧ fieldAt f 8 2 = e % 65536 ∧ fieldAt f 16 8 = s.ftime % 2 ^ 64)) ∧
  (∀ e t2 t3 dep sy, (∀ x ∈ (s.port q).t1s, x.1 ≠ e) → exec (.timeResp q false e t2 t3 dep sy) s = .next s) ∧
  (∀ e t1 t2 t3 dep sy n theta, (s.port q).t1s.find? (fun x => x.1 = e) = some (e, t1) →
    n = timeDiff t2 t1 - timeDiff s.ftime t3 - sext 32 (s.rd R.FAB_TIME_ASYM q 0) →
    theta = n / 2 + (if n % 2 = 1 ∧ Config.thetaRound n = true then 1 else 0) → Ends (.timeResp q false e t2 t3 dep sy) s (fun t =>
      (t.port q).t1s = (s.port q).t1s.filter (fun y => y.1 != e) ∧ (t.port q).peerDepth = dep ∧ (t.port q).peerSync = sy ∧
      (t.port q).goodExch = decide (-256000 ≤ theta ∧ theta ≤ 256000) ∧
      t.rdF R.FAB_PEER F.FAB_PEER_RTT q 0 = wrapI 32 (timeDiff s.ftime t1 - timeDiff t3 t2) ∧
      (s.isRoot = true → t.ftime = s.ftime ∧ t.finc = s.finc) ∧
      (s.isRoot = false → t.chip.parent = some q → t.rdF R.RLY_TIME_STATUS F.RLY_TIME_STATUS_LAST_OFFSET 0 0 = wrapI 32 theta ∧
        (-256000 ≤ theta → theta ≤ 256000 → t.ftime = s.ftime ∧ t.timeState = 1 ∧ nominalInc - nominalInc * 220 / 1000000 ≤ t.finc ∧
          t.finc ≤ nominalInc + nominalInc * 220 / 1000000) ∧
        (theta < -256000 ∨ 256000 < theta → t.ftime = wrapI 64 (((s.ftime % 2 ^ 64 : Nat) : Int) + theta) ∧ t.timeState = 3)))) ∧
  (s.rdF R.RLY_TIME_CTRL F.RLY_TIME_CTRL_ENABLE 0 0 = 0 → exec .timeExchangeStart s = .next s) ∧
  (s.rdF R.RLY_TIME_CTRL F.RLY_TIME_CTRL_ENABLE 0 0 = 1 → Ends .timeExchangeStart s (fun t =>
    (s.portState q = psUp → (t.port q).exch = ((s.port q).exch + 1) % 65536 ∧ ∃ f, (t.port q).ctrl = (s.port q).ctrl ++ [f] ∧
      fieldAt f 0 1 = 0x82 ∧ fieldAt f 8 2 = ((s.port q).exch + 1) % 65536) ∧
    (s.portState q ≠ psUp → t.port q = s.port q) ∧ (s.isRoot = false → s.timeState = 1 → s.chip.parent = none ∨
      (∃ r, s.chip.parent = some r ∧ (s.portState r ≠ psUp ∨ (s.port r).t1s ≠ [])) → t.timeState = 2) ∧
    (s.isRoot = true ∨ s.timeState ≠ 1 → t.timeState = s.timeState))) ∧
  (s.isRoot = false → s.timeOk = true → Ends .timeHoldoverExpiry s (fun t => t.timeState = 3 ∧ t.ftime = s.ftime ∧
    t.linkF F.FAB_LINK_STATUS_FRESH q = 0)) ∧
  (s.isRoot = true ∨ s.timeOk = false → exec .timeHoldoverExpiry s = .next s) ∧
  Ends (.freshnessExpiry q) s (fun t => t.port q = { s.port q with goodExch := false } ∧
    t.linkF F.FAB_LINK_STATUS_FRESH q = 0) ∧
  (∀ v, v = s.ftime % 2 ^ 64 * 2 ^ 32 + s.ffrac % 2 ^ 32 + s.finc →
    (2 ^ 96 ≤ v → exec .timeWrap s = .next s.tick) ∧ (v < 2 ^ 96 → exec .timeWrap s = .next s) ∧
    s.tick.ftime = v / 2 ^ 32 % 2 ^ 64 ∧ s.tick.ffrac = v % 2 ^ 32 ∧
    (2 ^ 96 ≤ v → s.tick.rdF R.RLY_TIME_STATUS F.RLY_TIME_STATUS_WRAP_EPOCH 0 0 =
      1 - s.rdF R.RLY_TIME_STATUS F.RLY_TIME_STATUS_WRAP_EPOCH 0 0)) ∧
  (∀ v, (s.isRoot = true → s.calm = true → Ends (.timeSet v) s (fun t => t.ftime = v % 2 ^ 64 ∧ t.ffrac = 0 ∧ t.regs = s.regs)) ∧
    (s.isRoot = false ∨ s.calm = false → exec (.timeSet v) s = .next s.regErr))

/-- Control flits, coordinates and routing (R343, R345 to R356, R362): credits, the peer's LINK_INFO, coordinates from a peer or
from software, and the oldest packet that may pass. -/
def Obligations.DiscoveryAndRouting : Prop := ∀ (s : State) (q : Nat), q < 8 →
  (∀ f, Ends (.credit q f) s (fun t => t.regs = s.regs ∧ (t.port q).txq = (s.port q).txq ∧
    (fieldAt f 1 1 = 1 → ∀ w k, w = fieldAt f 4 4 → k = bits w 5 0 * 4 + bits w 7 6 →
      (t.port q).credit k = (s.port q).credit k + bits w 23 8 ∧ ∀ j, j ≠ k → (t.port q).credit j = (s.port q).credit j))) ∧
  (∀ f, (s.portState q = psUp → Ends (.linkInfo q f) s (fun t => t.port q = if bit (fieldAt f 20 1) 1 then
      { s.port q with parkDue := true } else s.port q)) ∧
    (s.portState q ≠ psUp → s.portState q ≠ psParam → exec (.linkInfo q f) s = .next s) ∧
    (s.portState q = psParam → (s.port q).savedKey = none → s.linkOk q (fieldAt f 16 1) (fieldAt f 17 1) = false →
      Ends (.linkInfo q f) s (fun t => t.portState q = psDown ∧ t.linkF F.FAB_LINK_STATUS_DOWN_CAUSE q = 5 ∧
        t.rd R.FAB_PEER_UID q 0 = fieldAt f 8 8)) ∧
    (s.portState q = psParam → (s.port q).savedKey = none → s.linkOk q (fieldAt f 16 1) (fieldAt f 17 1) = true →
      Ends (.linkInfo q f) s (fun t => t.portState q = psUp ∧ t.rd R.FAB_PEER_UID q 0 = fieldAt f 8 8 ∧
        t.rdF R.FAB_PEER F.FAB_PEER_CHIP q 0 = fieldAt f 18 2 ∧ t.linkF F.FAB_LINK_STATUS_FAILED_TRAINS q = 0 ∧
        (t.port q).replay = ((s.port q).replay.filter (fun g => (g.seq + 4096 - fieldAt f 22 2 % 4096) % 4096 < 2048)).map
          (fun g => { g with sends := 0 })))) ∧
  (∀ n dims o, (5 < q ∨ s.rdF R.RLY_FABRIC_DIMS F.RLY_FABRIC_DIMS_SPARE 0 0 = 1 → exec (.coord q n dims o) s = .next s) ∧
    (q < 6 → s.rdF R.RLY_FABRIC_DIMS F.RLY_FABRIC_DIMS_SPARE 0 0 = 0 → n < 65536 →
      (s.hasCoords = false → Ends (.coord q n dims o) s (fun t => t.hasCoords = true ∧ t.chip.origin = some o ∧
        t.myChip = s.impliedCoords q n ∧ t.peerChip q = n)) ∧
      (s.hasCoords = true → s.impliedCoords q n ≠ s.myChip ∨ dims ≠ s.rd R.RLY_FABRIC_DIMS 0 0 % 65536 ∨ s.chip.origin ≠ some o →
        Ends (.coord q n dims o) s (fun t => t.linkF F.FAB_LINK_STATUS_CONFLICT q = 1 ∧ t.myChip = s.myChip ∧
          t.rdF R.RLY_FABRIC_COORD F.RLY_FABRIC_COORD_CONFLICT 0 0 = 1 ∧ t.portUp q = false)) ∧
      (s.hasCoords = true → s.impliedCoords q n = s.myChip → dims = s.rd R.RLY_FABRIC_DIMS 0 0 % 65536 → s.chip.origin = some o →
        Ends (.coord q n dims o) s (fun t => t.peerChip q = n ∧ t.ports = s.ports ∧ t.portUp q = s.portUp q)))) ∧
  (∀ v, (s.rdF R.RLY_FABRIC_DIMS F.RLY_FABRIC_DIMS_SPARE 0 0 = 1 → s.inReady = true → Ends (.chipIdWrite v) s (fun t =>
      t.myChip = v % 65536 ∧ t.hasCoords = true)) ∧
    (s.rdF R.RLY_FABRIC_DIMS F.RLY_FABRIC_DIMS_SPARE 0 0 = 0 ∨ s.inReady = false → exec (.chipIdWrite v) s = .next s.regErr)) ∧
  (∀ errs u n, u = s.plant errs → n < 9 →
    (∀ b ∈ (u.port n).rxq, u.mayPass n b = false) → exec (.packetRoute n errs) s = .next u) ∧
  (∀ errs u n l b r, u = s.plant errs → n < 9 → (u.port n).rxq = l ++ b :: r → (∀ c ∈ l, u.mayPass n c = false) →
    u.mayPass n b = true → Ends (.packetRoute n errs) s (fun t => ∃ y z : State, (y.port n).rxq = l ++ r ∧
      z = y.giveBack n b ∧ t = (if pkDst b = z.myChip then z.deliverLocal n b else z.route b))) ∧
  (∀ (v : State) b, pkDst b ≠ v.myChip → (pkHops b = 255 ∨ ∃ a, a < 3 ∧ v.dim a ≤ coordOf (pkDst b) a) →
    ∃ port, v.route b = (v.count R.CNT_RLY 0 2 1).event E.FAB_UNROUTABLE 0 (pkDst b) port)

/-! ## The relay -/

/-- The relay engine's commands (R373, R377 to R380): a command refused under R377, a counter outside the partition's range, INC,
a START that queues its collective, and an ARM that registers its trigger. -/
def Obligations.RelayCommands : Prop := ∀ (s : State) (p b : Nat) (errs : List (Nat × Nat)),
  (∀ x ∈ ([(1, .collectiveStart p b errs, s.plant errs), (2, .arm p b errs, s.plant errs), (3, .inc p b, s)] :
      List (Nat × Instr × State)), ∀ u, u = x.2.2 →
    (u.engNext p b = none → exec x.2.1 s = .next u) ∧
    (∀ c, u.engNext p b = some c → ∀ bd a, bd = u.bindingOf c → a = bd.base + 64 * c.desc →
      (c.target ≠ 4 → exec x.2.1 s = .next u) ∧
      (c.target = 4 → c.opcode = 0 ∨ 3 < c.opcode → exec x.2.1 s = .next ((u.engStart c).raise E.RLY_DESC c.part c.pos a)) ∧
      (c.target = 4 → c.opcode ≠ 0 → c.opcode ≤ 3 → c.opcode ≠ x.1 → exec x.2.1 s = .next u) ∧
      (c.target = 4 → c.opcode = x.1 → ∀ y, y = u.engStart c →
        (x.1 = 3 → c.desc ≠ 0 ∨ c.count = 0 ∨ 65535 < c.count ∨ 4096 ≤ c.offset →
          exec x.2.1 s = .next (y.raise E.RLY_DESC c.part c.pos 0)) ∧
        (x.1 = 3 → c.desc = 0 → c.count ≠ 0 → c.count ≤ 65535 → c.offset < 4096 →
          (y.trigOk p c.offset = false → exec x.2.1 s = .next (y.trigRefuse p c.offset)) ∧
          (y.trigOk p c.offset = true → Ends x.2.1 s (fun t => ∃ z : State, t = (z.fireTrigs p).cmdDone c ∧ z.parts = y.parts ∧
            z.rd R.RLY_TRIGGER 0 c.offset = (y.rd R.RLY_TRIGGER 0 c.offset + c.count) % 2 ^ 32))) ∧
        (x.1 ≠ 3 → c.count ≠ 0 ∨ c.offset ≠ 0 → exec x.2.1 s = .next (y.raise E.RLY_DESC c.part c.pos a)) ∧
        (x.1 ≠ 3 → c.count = 0 → c.offset = 0 → (∀ z, y.fetchDesc c bd .rly = (z, none) → exec x.2.1 s = .next z) ∧
          (∀ z l, y.fetchDesc c bd .rly = (z, some l) →
            (z.poisoned a 64 = true → exec x.2.1 s = .next (z.raise E.RLY_DESC c.part c.pos a)) ∧
            (z.poisoned a 64 = false → x.1 = 1 →
              (z.collOk p c.binding l = false → exec x.2.1 s = .next (z.raise E.RLY_DESC c.part c.pos a)) ∧
              (z.collOk p c.binding l = true → (collOf l).doneCtr ≠ 0xFFFF → z.trigOk p (collOf l).doneCtr = false →
                exec x.2.1 s = .next (z.trigRefuse p (collOf l).doneCtr)) ∧
              (z.collOk p c.binding l = true → ((collOf l).doneCtr ≠ 0xFFFF → z.trigOk p (collOf l).doneCtr = true) → c.part = p →
                ∀ n seq, n = Sp.get 0 (z.rly p).started (collOf l).comm → seq = z.lap p % 256 * 65536 + n % 65536 →
                (∀ o ∈ (z.rly p).colls, ¬ (o.comm = (collOf l).comm ∧ o.seq = seq)) → Ends x.2.1 s (fun t => ∃ o : Coll,
                  (t.rly p).colls = (z.rly p).colls ++ [o] ∧ o.stage = 0 ∧ o.comm = (collOf l).comm ∧ o.id = (collOf l).id ∧
                  o.seq = seq ∧ o.qp = bd.queue + n % (collOf l).qpCount ∧ o.cmd = some c.id ∧ o.d = l ∧
                  Sp.get 0 (t.rly p).started (collOf l).comm = n + 1 ∧ t.mem = z.mem))) ∧
            (z.poisoned a 64 = false → x.1 = 2 → (trigOf c (l.take 32) = none →
                exec x.2.1 s = .next (z.raise E.RLY_DESC c.part c.pos a)) ∧
              (∀ g, trigOf c (l.take 32) = some g → (z.bindingOf g.cmd).target = g.cmd.target → z.trigOk p g.ctr = true →
                (z.part p).queueCount g.cmd.binding < 64 → (g.next ≠ 0xFFFF → z.trigOk p g.next = true) → Ends x.2.1 s (fun t =>
                  ∃ v : State, t = v.fireTrigs p ∧ v.regs = z.regs ∧ (v.part p).trigs = (z.part p).trigs ++ [g] ∧
                  (v.part p).outstanding = (z.part p).outstanding.filter (fun e => e.id != c.id) ∧
                  (v.part p).tokens = (z.part p).tokens)))))))) ∧
  (∀ ctr, s.trigOk p ctr = decide (ctr < 4096 ∧ 64 * s.rdF R.GLB_PART_SHARE F.GLB_PART_SHARE_TRIG_FIRST 0 p ≤ ctr ∧
    ctr < 64 * (s.rdF R.GLB_PART_SHARE F.GLB_PART_SHARE_TRIG_LAST 0 p + 1)))

/-- Relay packets received (R374, R376, R381, R382, R385, R388, R467): each kind's command acts on its own kind alone; a failed
partition discards the packet; a baton's copy, its order and its arrival before its phase are told apart, credits release what
they acknowledge, and a packet out of order raises COLL_ORDER. -/
def Obligations.RelayPackets : Prop := ∀ (s : State) (p : Nat) (b : List Byte) (errs : List (Nat × Nat)),
  (∀ x ∈ ([(2, .baton p b errs, s.plant errs), (3, .waycredit p b errs, s.plant errs), (4, .lead p b errs, s.plant errs),
      (5, .resync p b, s), (6, .digest p b, s)] : List (Nat × Instr × State)), ∀ u, u = x.2.2 →
    (pkKind b ≠ x.1 → exec x.2.1 s = .next s) ∧
    (pkKind b = x.1 → u.pState p = stFailed ∨ u.chip.fatal = true → exec x.2.1 s = .next (u.count R.CNT_GLB 0 19 1)) ∧
    (pkKind b = x.1 → u.pState p ≠ stFailed → u.chip.fatal = false → Ends x.2.1 s (fun t => ∃ y z : State,
      y = u.journalAdd p (pkLen b) ∧
      (x.1 = 6 → (z.rly p).earlyDigest = (y.rly p).earlyDigest ++ [b] ∧ t = z.digestRetry p 8) ∧
      (x.1 ≠ 6 → (z.rly p).early = (y.rly p).early ++ [b] ∧ t = z.rlyGo p ∧
        (z.part p).journal = (y.part p).journal ++ (if x.1 = 2 ∨ x.1 = 4 then [b] else []))))) ∧
  (∀ k, (k = 0 ∨ 7 < k → exec (.packetKindReserved k) s = .next (s.count R.CNT_RLY 0 16 1)) ∧
    (k ≠ 0 → k ≤ 7 → exec (.packetKindReserved k) s = .next s)) ∧
  (∀ (c : Coll) f ph h g, h = rlyHeadOf (pkBody b) → ∀ r, c.run? ph = some r → ∀ n, n = pkOpaque b - s.inBase p (collOf c.d) f ph →
    (n ≤ r.bIn → s.onBaton p c f ph b g = ((s.count R.CNT_EMB p 12 1).wayCredit p c f ph 0 r.bIn 0, true)) ∧
    (r.bIn + 1 < n → s.onBaton p c f ph b g = (s, true)) ∧
    (n = r.bIn + 1 → r.lead < 2 → s.onBaton p c f ph b g = (s, false)) ∧
    (bit h.flags 2 = false → bit h.flags 1 = false → ∀ un, un = r.unacked.filter (fun x => decide (h.index <
        s.outBase p (collOf c.d) f ph + x.bseq)) → r.outq = [] → c ∈ (s.rly p).colls →
      (∀ o ∈ (s.rly p).colls, sameColl c o = true → o = c) → ∀ t ok, s.onCredit p c f ph b = (t, ok) → ok = true ∧
        ∃ c' r', c' ∈ (t.rly p).colls ∧ sameColl c c' = true ∧ c'.run? ph = some r' ∧ r'.credits = r.credits + h.bytes ∧
          r'.unacked = un)) ∧
  (∀ (c : Coll) f ph, c.run? ph = none → ∀ g, s.onBaton p c f ph b g = (s, false)) ∧
  (∀ c, (s.rly p).colls.find? (fun c => (c.qp = pkQp b && decide (1 ≤ c.stage)) && c.seq = pkSeq b) = some c → ∀ h g,
    h = rlyHeadOf (pkBody b) →
    (c.id ≠ h.id ∨ s.phase p (collOf c.d) h.phase = none → s.rlyTry p b g = (s.collOrder p b, true)) ∧
    (∀ f, c.id = h.id → s.phase p (collOf c.d) h.phase = some f →
      (pkSrc b ≠ (if pkKind b = 3 then s.succ f.ring else s.pred f.ring) → s.rlyTry p b g = (s.collOrder p b, true)) ∧
      (pkSrc b = s.pred f.ring → pkKind b = 2 → s.rlyTry p b g = s.onBaton p c f h.phase b g))) ∧
  s.collOrder p b = (s.count R.CNT_RLY 0 15 1).raise E.COLL_ORDER p (formP (pkSrc b) (pkQp b) (pkSeq b))
    ((rlyHeadOf (pkBody b)).comm + 65536 * (rlyHeadOf (pkBody b)).id)

/-- Collectives (R362, R373 to R375, R380): the oldest queued one begins when its queue pair is free, a complete one completes its
command and counts in DONE_CTR, unacknowledged batons go out again until the retries are used up, and a stuck trigger is told.
The arithmetic of collectives (R370, R371) and of the digest relay (Table 12-6): sums, maxima and minima element by element,
exact shards that tile their region, and digests that combine to minima, maxima and sums. -/
def Obligations.Collectives : Prop :=
  (∀ (s : State) (p : Nat),
  (∀ comm errs u, u = s.plant errs →
    ((u.rly p).colls.find? (fun c => c.comm = comm && c.stage = 0) = none → exec (.collectiveBegin p comm errs) s = .next u) ∧
    (∀ c, (u.rly p).colls.find? (fun c => c.comm = comm && c.stage = 0) = some c →
      (u.timeOk = false ∨ (∃ o ∈ (u.rly p).colls, o.qp = c.qp ∧ o.stage = 1) → exec (.collectiveBegin p comm errs) s = .next u) ∧
      (u.timeOk = true → (∀ o ∈ (u.rly p).colls, ¬ (o.qp = c.qp ∧ o.stage = 1)) → Ends (.collectiveBegin p comm errs) s (fun t =>
        ∃ y : State, (y.rly p).colls = (u.rly p).colls.map (fun o => if o.comm = c.comm && o.seq = c.seq then { c with stage := 1 }
          else o) ∧ y.regs = u.regs ∧ t = (y.enterPhase p { c with stage := 1 } 0).rlyGo p)))) ∧
  (∀ qp, ((∀ c ∈ (s.rly p).colls, c.qp = qp → c.complete = false) → exec (.collectiveComplete p qp) s = .next s) ∧
    (∀ c, (s.rly p).colls.find? (fun c => c.qp = qp && c.complete) = some c → Ends (.collectiveComplete p qp) s (fun t =>
      ∃ y z : State, y.rd R.CNT_RLY 0 12 = (s.rd R.CNT_RLY 0 12 + 1) % 2 ^ 64 ∧
      (y.rly p).colls = (s.rly p).colls.map (fun o => if o.comm = c.comm && o.seq = c.seq then { c with stage := 2 } else o) ∧
      (∀ x, (s.part p).outstanding.find? (fun x => some x.id = c.cmd) = some x → z = y.cmdDone x) ∧
      ((s.part p).outstanding.find? (fun x => some x.id = c.cmd) = none → z = y) ∧
      t = (if (collOf c.d).doneCtr = 0xFFFF then z else z.trigInc p (collOf c.d).doneCtr 1)))) ∧
  (∀ qp, ((∀ c ∈ (s.rly p).colls, c.qp = qp → c.stage = 1 → ∀ r ∈ c.runs, r.unacked = []) →
      exec (.batonTimeout p qp) s = .next s) ∧
    (∀ c r f, (s.rly p).colls.find? (fun c => c.qp = qp && c.stage = 1 && c.runs.any (fun r => r.unacked != [])) = some c →
      c.runs = [r] → s.phase p (collOf c.d) r.phase = some f →
      (s.effF R.RLY_CTRL F.RLY_CTRL_RETRIES p 0 ≤ c.tries → exec (.batonTimeout p qp) s = .next
        (s.raise E.RELAY_TIMEOUT p (formP (s.succ f.ring) qp c.seq) (c.comm + 65536 * c.id))) ∧
      (c.tries < s.effF R.RLY_CTRL F.RLY_CTRL_RETRIES p 0 → Ends (.batonTimeout p qp) s (fun t => ∃ y : State,
        y.out = s.out ∧ (y.rly p).colls = (s.rly p).colls.map (fun o => if o.comm = c.comm && o.seq = c.seq then
          { c with tries := c.tries + 1 } else o) ∧ t = r.unacked.foldl (fun v x => (v.count R.CNT_RLY 0 11 1).sendRly p
            (v.succ f.ring) 2 c (v.outBase p (collOf c.d) f r.phase + x.bseq) { comm := 0, id := 0, phase := r.phase
                                                                                step := x.step, flags := b2n x.empty
                                                                                index := x.index, bytes := x.data.length
                                                                                poison := x.poison, absent := r.absents } x.data) y)))) ∧
  ((s.part p).trigs = [] → exec (.triggerStall p) s = .next s) ∧
  (∀ g r, (s.part p).trigs = g :: r →
    (s.effF R.RLY_CTRL F.RLY_CTRL_STALL_MS p 0 = 0 ∨ (s.part p).pace = none → exec (.triggerStall p) s = .next s) ∧
    (∀ w, s.effF R.RLY_CTRL F.RLY_CTRL_STALL_MS p 0 ≠ 0 → (s.part p).pace = some w →
      exec (.triggerStall p) s = .next (if w.endLeg then s.raise E.TRIGGER_STUCK p g.ctr 0 else s)))) ∧
  ((∀ (d : CollD) (a b : List Byte) i, a.length = b.length → d.width * (i + 1) ≤ a.length →
    fieldAt (combineData d a b) (d.width * i) d.width =
      combineEl d.op d.dtype (fieldAt a (d.width * i) d.width) (fieldAt b (d.width * i) d.width) % 2 ^ (8 * d.width)) ∧
  (∀ op a b, a < 2 ^ 32 → b < 2 ^ 32 → combineEl 0 2 a b = (a + b) % 2 ^ 32 ∧ combineEl op 3 a b = (a + b) % 2 ^ 64 ∧
    sext 32 (combineEl 1 2 a b) = max (sext 32 a) (sext 32 b) ∧ sext 32 (combineEl 2 2 a b) = min (sext 32 a) (sext 32 b)) ∧
  (∀ a b, combineEl 0 0 a b = fadd a b ∧ combineEl 1 0 a b = fmax a b ∧ combineEl 2 0 a b = fmin a b) ∧
  (∀ lo hi k, lo ≤ hi → 0 < k → (shard lo hi k 0).1 = lo ∧ (shard lo hi k (k - 1)).2 = hi ∧
    ∀ j, (shard lo hi k j).2 = (shard lo hi k (j + 1)).1 ∧ (shard lo hi k j).1 ≤ (shard lo hi k j).2 ∧
      (shard lo hi k j).2 - (shard lo hi k j).1 ≤ (hi - lo) / k + 1) ∧
  (∀ a b : List Byte, a.length = 192 → b.length = 192 → ∀ r, r = digestCombine a b → r.length = 192 ∧
    beNat (sliceB r 0 32) = min (beNat (sliceB a 0 32)) (beNat (sliceB b 0 32)) ∧
    beNat (sliceB r 0x20 32) = max (beNat (sliceB a 0x20 32)) (beNat (sliceB b 0x20 32)) ∧
    beNat (sliceB r 0x40 32) = min (beNat (sliceB a 0x40 32)) (beNat (sliceB b 0x40 32)) ∧
    beNat (sliceB r 0x60 32) = max (beNat (sliceB a 0x60 32)) (beNat (sliceB b 0x60 32)) ∧
    (∀ j, j < 5 → fieldAt r (0x80 + 8 * j) 8 = (fieldAt a (0x80 + 8 * j) 8 + fieldAt b (0x80 + 8 * j) 8) % 2 ^ 64) ∧
    fieldAt r 0xA8 8 = max (fieldAt a 0xA8 8) (fieldAt b 0xA8 8)))

/-! ## The host interface -/

/-- Window accesses (R394, R396, R397, R399; Table 17-7): a closed window does nothing, one that a warm-chip reset meets is
absorbed, a refused one is counted and reported once a lap, a write to a committed intake segment is refused, and an allowed
one writes or reads memory with its poison mark. -/
def Obligations.HostWindows : Prop := ∀ (s : State) (f o : Nat),
  (s.winOpen f = false ∨ 2 ^ s.winLog2 f ≤ o → ∀ b po n errs, exec (.windowWrite f o b po) s = .next s ∧
    exec (.windowRead f o n errs) s = .next s) ∧
  (s.winOpen 0 = false → ∀ w a n b po errs, exec (.hdmAccess w a n b po errs) s = .next s) ∧
  (∀ b po a valid x, (x = .windowWrite f o b po ∧ s.winOpen f = true ∧ o < 2 ^ s.winLog2 f ∧ s.winMap f o = (valid, a)) ∨
      (f = 0 ∧ valid = true ∧ s.winOpen 0 = true ∧ ∃ n errs, x = .hdmAccess true a n b po errs) →
    (s.chip.warming = true → exec x s = .next (s.count R.CNT_GLB 0 20 1)) ∧
    (s.chip.warming = false → ∀ rq, rq = s.hostReq f .window .hst true →
      (s.winCheck f a b.length valid true = .refused → exec x s = .next (s.winRefuse f a rq)) ∧
      (s.winCheck f a b.length valid true = .unmapped → exec x s = .next ((s.unmappedErr rq a).winRefuse f a rq)) ∧
      (s.winCheck f a b.length valid true = .ok → (∀ p k, s.intakeAt a = some (p, k) → s.segState p k ≠ 0 → Ends x s (fun t =>
          t.mem = s.mem ∧ ∃ y : State, y.rd R.CNT_HST 0 11 = (s.rd R.CNT_HST 0 11 + 1) % 2 ^ 64 ∧
            t = y.eventAs E.INTAKE_WRITE 7 rq.part (bits a 47 0) rq.word f none)) ∧
        ((∀ p k, s.intakeAt a = some (p, k) → s.segState p k = 0) → Ends x s (fun t => t.mem = (s.save a b po).mem ∧
          t.gran = (s.save a b po).gran ∧ (po = true → t.rd R.CNT_HST 0 3 = (s.rd R.CNT_HST 0 3 + 1) % 2 ^ 64)))))) ∧
  (∀ n errs u a valid x, u = s.plant errs → (x = .windowRead f o n errs ∧ s.winOpen f = true ∧ o < 2 ^ s.winLog2 f ∧
      s.winMap f o = (valid, a)) ∨ (f = 0 ∧ valid = true ∧ s.winOpen 0 = true ∧ ∃ b po, x = .hdmAccess false a n b po errs) →
    (u.chip.warming = true → Ends x s (fun t => t.out = u.out ++ [.hostCpl 1 [] false] ∧ t.mem = u.mem)) ∧
    (u.chip.warming = false → ∀ rq, rq = u.hostReq f .window .hst false →
      (u.winCheck f a n valid false = .refused → exec x s = .next ((u.winRefuse f a rq).emit (.hostCpl 1 [] false))) ∧
      (u.winCheck f a n valid false = .unmapped →
        exec x s = .next (((u.unmappedErr rq a).winRefuse f a rq).emit (.hostCpl 1 [] false))) ∧
      (u.winCheck f a n valid false = .ok → ∀ y, y = u.senseRaw a n rq.part rq.word → Ends x s (fun t =>
        t.out = y.out ++ [.hostCpl 0 (y.load a n) (y.poisoned a n)] ∧ t.mem = y.mem)))) ∧
  (∀ a rq, (f ∈ s.host.winSeen → s.winRefuse f a rq = s.count R.CNT_HST 0 5 1) ∧ (f ∉ s.host.winSeen →
    (s.winRefuse f a rq).host.winSeen = s.host.winSeen ++ [f] ∧
    (s.winRefuse f a rq).rd R.CNT_HST 0 5 = (s.rd R.CNT_HST 0 5 + 1) % 2 ^ 64))

/-- Queues, doorbells and interrupts (R395, R404, R405, R410, R412, R452). -/
def Obligations.HostQueues : Prop := ∀ (s : State),
  (∀ f i v w, ∀ x ∈ [Instr.sqDoorbell f i v w, .cqDoorbell f i v w], ∀ q c, q = (if f = 0 then i else s.fnFirst f + i) → c = s.que q →
    (s.chip.everReady = false → exec x s = .next s) ∧
    (s.chip.everReady = true →
      (w = true ∨ 65536 ≤ q ∨ (f ≠ 0 ∧ 8192 ≤ i) ∨ qEnable c = false ∨ qFn c ≠ f ∨ (f ≠ 0 ∧ s.fnCount f ≤ i) ∨ qKind c = 0 ∨
          3 < qKind c ∨ (qKind c = 1 ∧ qSize c < (v + 2 ^ 32 - qHead c) % 2 ^ 32) ∨
          (1 < qKind c ∧ qUsed c < (qTail c + 2 ^ 32 - v % 2 ^ 32) % 2 ^ 32) →
        Ends x s (fun t => t.mem = s.mem ∧ t.rd R.CNT_HST 0 7 = (s.rd R.CNT_HST 0 7 + 1) % 2 ^ 64)) ∧
      (w = false → q < 65536 → (f ≠ 0 → i < 8192 ∧ i < s.fnCount f) → qEnable c = true → qFn c = f →
        (qKind c = 1 → (v + 2 ^ 32 - qHead c) % 2 ^ 32 ≤ qSize c → exec x s = .next (s.setQueTail q v)) ∧
        (qKind c = 2 ∨ qKind c = 3 → (qTail c + 2 ^ 32 - v % 2 ^ 32) % 2 ^ 32 ≤ qUsed c →
          exec x s = .next (s.setQueHead q v))))) ∧
  (∀ q, q < 65536 → (s.queOk q (s.que q) = false → exec (.queueEnable q) s = .next s.regErr) ∧
    (s.queOk q (s.que q) = true → Ends (.queueEnable q) s (fun t => q ∈ t.host.enabledQ ∧
      t.mem = (s.saveN (s.queAddr q) 1 (setBit (fieldAt (s.que q) 0 1) 3 true)).mem)) ∧
    (qEnable (s.que q) = false → exec (.queueDisable q) s = .next s) ∧
    (qEnable (s.que q) = true → s.host.stopping = [] → (∃ c ∈ s.host.cmds, c.sq = q ∧ c.id ≠ 0) →
      Ends (.queueDisable q) s (fun t => t.host.stopping = [(q, 0)] ∧ t.mem = s.mem)) ∧
    (qEnable (s.que q) = true → s.host.stopping = [] → (∀ c ∈ s.host.cmds, c.sq ≠ q ∧ c.id ≠ 0) →
      Ends (.queueDisable q) s (fun t => t.host.stopping = [] ∧ q ∉ t.host.enabledQ ∧
        t.mem = ((s.setQueFlag q 3 false).setQueFlag q 5 false).mem))) ∧
  (∀ q c, c = s.que q → ((∀ e ∈ s.store, e.queue ≠ q) → exec (.cplEntryPost q) s = .next s) ∧
    (∀ l e r, s.store = l ++ e :: r → (∀ x ∈ l, x.queue ≠ q) → e.queue = q →
      (qEnable c = false ∨ (qKind c ≠ 2 ∧ qKind c ≠ 3) ∨ (qInHbm c = false ∧ s.attached = false) →
        exec (.cplEntryPost q) s = .next s) ∧
      (qEnable c = true → qKind c = 2 ∨ qKind c = 3 → qInHbm c = true ∨ s.attached = true →
        (qSize c ≤ qUsed c → e.waited = true → exec (.cplEntryPost q) s = .next s) ∧
        (qSize c ≤ qUsed c → e.waited = false → Ends (.cplEntryPost q) s (fun t => t.store = l ++ { e with waited := true } :: r ∧
          t.rd R.CNT_HST 0 10 = (s.rd R.CNT_HST 0 10 + 1) % 2 ^ 64)) ∧
        (qUsed c < qSize c → ∀ at_, at_ = (if qKind c = 3 then 2 else 1) → Ends (.cplEntryPost q) s (fun t => t.store = l ++ r ∧
          ∃ y : State, y = (s.save (qSlot c 32 (qTail c)) (putField e.bytes at_ 1
              (setBits (fieldAt e.bytes at_ 1) 7 7 (qPhase c)))).setQueTail q (qTail c + 1) ∧
            t.mem = (if (qTail c + 1) % qSize c = 0 then y.saveN (y.queAddr q + 0x18) 1 (1 - qPhase c) else y).mem))))) ∧
  (∀ q, (Sp.get 0 s.host.irqCnt q = 0 ∨ qModUs (s.que q) = 0 → exec (.interruptModTimeout q) s = .next s) ∧
    (Sp.get 0 s.host.irqCnt q ≠ 0 → qModUs (s.que q) ≠ 0 → Ends (.interruptModTimeout q) s (fun t =>
      Sp.get 0 t.host.irqCnt q = 0 ∧ t.out = s.out ++ if s.attached then [.irq (qFn (s.que q)) (qLink (s.que q))] else [])))

/-- Commands of submission queues (R163, R400, R404, R406 to R410, R415 to R417; Table 13-8): the fetch, each command's effect and
status, and the completion entry that ends it. -/
def Obligations.HostCommands : Prop := ∀ (s : State) (id : Nat) (errs : List (Nat × Nat)) (u : State), u = s.plant errs →
  (∀ q x, x = u.que q → (65536 ≤ q ∨ qKind x ≠ 1 ∨ qEnable x = false ∨ qError x = true ∨ u.attached = false ∨ qUsed x = 0 ∨
      u.shareFull (qFn x) = true ∨ (∃ e ∈ u.host.stopping, e.1 = q) → exec (.commandFetch q errs) s = .next u) ∧
    (q < 65536 → qKind x = 1 → qEnable x = true → qError x = false → u.attached = true → qUsed x ≠ 0 →
      u.shareFull (qFn x) = false → (∀ e ∈ u.host.stopping, e.1 ≠ q) → Sp.find q u.host.fetched = none →
      ∀ a rq, a = qSlot x 64 (qHead x) → rq = u.hostReq (qFn x) .command .que false →
      (qInHbm x = true → u.check rq a 64 = .ok → ∀ y, y = u.sense a 64 rq.part rq.word →
        exec (.commandFetch q errs) s = .next (if y.poisoned a 64 then y.queError q else y.cmdBegin q (y.load a 64))) ∧
      (qInHbm x = false → (∀ r ∈ u.host.reads, r.use ≠ .sq q) → ∀ t, u.freeTag = some t → u.host.ats = false →
        Ends (.commandFetch q errs) s (fun v => v.host.reads = u.host.reads ++ [⟨t, .sq q, a - hostBase, 64⟩] ∧
          v.out = u.out ++ [.hostRead t (Sp.get 0 u.host.gens t) (a - hostBase) 64])))) ∧
  (∀ (v : State) q b x, x = v.que q → bit (fieldAt b 1 1) 0 = false ∨ (∀ c ∈ v.host.cmds, c.sq ≠ q) → cmdForm b = true →
    (v.cmdBegin q b).host.cmds = v.host.cmds ++ [⟨v.host.cmdNext, q, qFn x, b⟩] ∧
    (v.cmdBegin q b).mem = (v.setQueHead q (qHead x + 1)).mem) ∧
  (∀ (v : State) c st val det, v.host.stopping = [] → (v.hostDone c st val det).host.cmds = v.host.cmds.filter (fun d => d.id != c.id) ∧
    (v.hostDone c st val det).mem = v.mem ∧
    ((v.hostDone c st val det).store = v.store ++ if st = 0 ∧ bit (fieldAt c.bytes 1 1) 1 = true then [] else [⟨c.fn,
      qLink (v.que c.sq), leBytes 1 1 ++ leBytes 1 st ++ leBytes 2 c.sq ++ leBytes 2 (fieldAt c.bytes 2 2) ++
        leBytes 2 0 ++ leBytes 8 val ++ leBytes 4 (v.lap (v.fnPartOr0 c.fn)) ++ leBytes 4 det ++ leBytes 8 (v.ftime % 2 ^ 64), false⟩])) ∧
  (s.hcmd id 0 = none → exec (.cmdNop id) s = .next s) ∧
  (∀ c, s.hcmd id 0 = some c → exec (.cmdNop id) s = .next (s.hostDone c 0 0 0)) ∧
  (∀ c, s.hcmd id 1 = some c → (s.cmdCheck c.fn (hcA0 c) (hcLen c) true = .ok → exec (.inlineWrite id) s = .next
      (((s.snoop (hcA0 c)).writeTo (hcA0 c) (sliceB c.bytes 0x10 (hcLen c)) false).hostDone c 0 (hcLen c) 0)) ∧
    (∀ r, s.cmdCheck c.fn (hcA0 c) (hcLen c) true = r → r ≠ .ok → exec (.inlineWrite id) s = .next (s.cmdBadAddr c r (hcA0 c)))) ∧
  (∀ x ∈ ([(true, .copyIn id, s), (false, .copyOut id errs, u)] : List (Bool × Instr × State)), ∀ v c, v = x.2.2 →
    v.hcmd id (if x.1 then 2 else 3) = some c → (∀ j ∈ v.host.copies, j.cmd ≠ some id) →
      (v.mayCopy c.fn = false → exec x.2.1 s = .next (v.hostDone c 2 0 0)) ∧
      (v.mayCopy c.fn = true → v.cmdCheck c.fn (hcA0 c) (hcLen c) x.1 = .ok → exec x.2.1 s = .next
        (if hcLen c = 0 then v.hostDone c 0 0 0
          else v.copyStart x.1 none (some id) c.fn (hcA0 c) (hcA1 c % 2 ^ 46) (hcLen c)))) ∧
  (∀ j v, s.host.copies.find? (fun j => j.id = id) = some j → v = s.flushAgain id →
    (j.running = false ∨ j.next < j.len → exec (.copyDone id) s = .next v) ∧
    (j.running = true → j.len ≤ j.next → j.inn = true → (∀ r ∈ s.host.reads, ∀ a, r.use ≠ .piece id a ∧ r.use ≠ .flush id) →
      ∀ y, y = s.host! (fun h => { h with copies := h.copies.filter (fun x => x.id != id) }) →
      (∀ p n c, j.prog = some (p, n) → (s.part p).outstanding.find? (fun x => x.id = n) = some c →
        exec (.copyDone id) s = .next (State.dealCopies 9 (y.cmdDone c) true)) ∧
      (∀ c, j.prog = none → s.host.cmds.find? (fun c => some c.id = j.cmd) = some c → exec (.copyDone id) s = .next
        (State.dealCopies 9 (y.hostDone c (if j.timedOut then 4 else if j.poisoned then 5 else 0) j.len
          (if j.timedOut || j.poisoned then j.failAt else 0)) true)))) ∧
  (∀ c p n k, u.hcmd id 5 = some c → p = u.fnPartOr0 c.fn → n = hcArg c % 2 ^ 32 → k = u.segOfLap p n → (u.part p).closing = none →
    (u.segSize p = 0 ∨ u.segState p k ≠ 0 ∨ Sp.find k (u.part p).segLap ≠ some n ∨
        u.rdF R.HST_INTAKE_STATUS F.HST_INTAKE_STATUS_NEXT_COMMIT p 0 ≠ n ∨ u.segSize p < hcLen c →
      exec (.intakeCommit id errs) s = .next (u.hostDone c 6 0 0)) ∧
    (u.segSize p ≠ 0 → u.segState p k = 0 → Sp.find k (u.part p).segLap = some n →
      u.rdF R.HST_INTAKE_STATUS F.HST_INTAKE_STATUS_NEXT_COMMIT p 0 = n → hcLen c ≤ u.segSize p →
      ∀ y, y = u.senseRaw (u.segBase p k) (hcLen c) p (u.hostReq c.fn .command .hst false).word →
      (y.poisoned (u.segBase p k) (hcLen c) = true → exec (.intakeCommit id errs) s = .next (y.hostDone c 5 0 0)) ∧
      (y.poisoned (u.segBase p k) (hcLen c) = false → Ends (.intakeCommit id errs) s (fun t =>
        (t.part p).closing = some (id, n, k, sha256 (y.load (u.segBase p k) (hcLen c))))))) ∧
  (∀ p, ((s.part p).closing = none → exec (.intakeDigestClose p) s = .next s) ∧
    (∀ n k d, (s.part p).closing = some (id, n, k, d) → k < 16 → p < 64 → (∀ c ∈ s.host.cmds, c.id ≠ id) →
      Ends (.intakeDigestClose p) s (fun t => ∃ y : State, t = y.intakeServe p ∧ (y.part p).closing = none ∧ y.segState p k = 1 ∧
        Sp.find k (y.part p).segDigest = some d ∧
        y.rdF R.HST_INTAKE_STATUS F.HST_INTAKE_STATUS_NEXT_COMMIT p 0 = (n + 1) % 2 ^ 32))) ∧
  (∀ c, s.hcmd id 6 = some c → (s.rangeMapped (hcA0 c) (hcLen c * 65536) = false →
      exec (.biasSet id) s = .next (s.cmdBadAddr c .unmapped (hcA0 c))) ∧
    (s.rangeMapped (hcA0 c) (hcLen c * 65536) = true → s.attrOn = false → (∃ k, s.regionOf (hcA0 c) = .hbm k ∨
      s.regionOf (hcA0 c) = .bulk k) → ∀ base x, base = setBits (s.rd R.HST_BIAS_TABLE 0 0) 11 0 0 →
      x = (if hcA0 c < bulkBase then hcA0 c / 2 ^ 16 else 9437184 + (hcA0 c - bulkBase) / 2 ^ 16) → hcLen c = 1 →
      exec (.biasSet id) s = .next ((s.saveN (base + x / 4) 1 (setBits (s.raw (base + x / 4)).toNat (2 * (x % 4) + 1) (2 * (x % 4))
        (hcArg c % 4))).hostDone c 0 0 0)) ∧
    (s.rangeMapped (hcA0 c) (hcLen c * 65536) = true → (∀ k, s.regionOf (hcA0 c) ≠ .hbm k ∧ s.regionOf (hcA0 c) ≠ .bulk k) →
      exec (.biasSet id) s = .next (s.hostDone c 2 0 0))) ∧
  (∀ x ∈ ([(7, .queueCreate id errs, u), (8, .queueDestroy id, s)] : List (Nat × Instr × State)), ∀ v c j, v = x.2.2 →
    v.hcmd id x.1 = some c → j = hcArg c % 65536 → (∀ e ∈ v.host.stopping, e.2 ≠ id) →
    (c.fn ≠ 0 → j < 2 → exec x.2.1 s = .next (v.hostDone c 2 0 0)) ∧
    (c.fn = 0 ∨ 2 ≤ j → v.fnCount c.fn ≤ j → exec x.2.1 s = .next (v.hostDone c 8 0 0)) ∧
    (c.fn = 0 ∨ 2 ≤ j → j < v.fnCount c.fn →
      (x.1 = 8 → exec x.2.1 s = .next (if qEnable (v.que (v.fnFirst c.fn + j)) then v.queStop (v.fnFirst c.fn + j) id
        else v.hostDone c 6 0 0)) ∧
      (x.1 = 7 → v.cmdCheck c.fn (hcA0 c) 64 false = .ok → ∀ y q l, y = v.sense (hcA0 c) 64 (v.fnPartOr0 c.fn)
          (v.hostReq c.fn .command .hst false).word → q = v.fnFirst c.fn + j → l = y.load (hcA0 c) 64 →
        (y.poisoned (hcA0 c) 64 = true → exec x.2.1 s = .next (y.hostDone c 5 0 0)) ∧
        (y.poisoned (hcA0 c) 64 = false → exec x.2.1 s = .next (if qEnable (y.que q) then y.hostDone c 6 0 0
          else if qFn l ≠ c.fn ∨ y.queOk q l = false then y.hostDone c 8 0 0
          else ((y.save (y.queAddr q) l).queEnable q).hostDone c 0 0 0))))) ∧
  (∀ c cl x, s.hcmd id 9 = some c → cl = hcA0 c % 64 → x = hcA0 c / 256 % 4 → exec (.backfill id) s = .next
    (if s.mayBackfill c.fn cl x = false then s.hostDone c 2 0 0
      else (s.bfTaskWrite cl x (hcArg c)).hostDone c (if s.bfTaskBad cl x (hcArg c) then 9 else 0) 0 0)) ∧
  (∀ c cl x, s.hcmd id 0x0A = some c → cl = hcA1 c % 64 → x = hcA1 c / 256 % 4 → (∀ e ∈ (s.hub cl).loadCmd, e.2 ≠ id) →
    (s.rdF R.CLU_BF_STATUS F.CLU_BF_STATUS_BUSY cl x = 1 → exec (.backfillLoad id) s = .next s) ∧
    (s.rdF R.CLU_BF_STATUS F.CLU_BF_STATUS_BUSY cl x = 0 →
      (s.mayBackfill c.fn cl x = false → exec (.backfillLoad id) s = .next (s.hostDone c 2 0 0)) ∧
      (s.mayBackfill c.fn cl x = true → s.cmdCheck c.fn (hcA0 c) (32 * F.CLU_BF_LOAD_CTRL_COUNT.get (hcArg c)) false = .ok →
        Ends (.backfillLoad id) s (fun t => ∃ y z : State, z = y.bfLoadGo cl x (hcArg c) ∧
          y.rd R.CLU_BF_LOAD_SRC cl x = (s.wr R.CLU_BF_LOAD_SRC cl x (hcA0 c)).rd R.CLU_BF_LOAD_SRC cl x ∧
          (y.hub cl).loadCmd = (s.hub cl).loadCmd ++ [(x, id)] ∧
          t = (if z.rdF R.CLU_BF_STATUS F.CLU_BF_STATUS_BUSY cl x = 1 then z else z.bfLoadReport cl x false)))))

/-- The program's HOST target (R413, R414, R416): a refused command, a POST held for the completion boundary or waiting for an
entry, copies, and INTAKE. Host reads (R401 to R403): a completion of the current generation delivers its data, a failed one
leaves values the rules do not state (log 37) under poison, a stale one is counted and may end a quarantine, a timeout raises
class P and retires the tag's generation, and an invalidation ends once nothing uses its entries. -/
def Obligations.HostTargetAndReads : Prop :=
  (∀ (s : State) (p b : Nat) (errs : List (Nat × Nat)),
  (∀ x ∈ ([(1, .post p b, s), (2, .hostCopyOut p b errs, s.plant errs), (3, .hostCopyIn p b errs, s.plant errs),
      (4, .intake p b, s)] : List (Nat × Instr × State)), ∀ u, u = x.2.2 →
    (u.engNext p b = none → exec x.2.1 s = .next u) ∧
    (∀ c, u.engNext p b = some c → ∀ bd y, bd = u.bindingOf c → y = u.engStart c →
      (c.target ≠ 6 → exec x.2.1 s = .next u) ∧
      (c.target = 6 → u.hostBad c bd = true → exec x.2.1 s = .next (y.raise E.HOST_COMMAND p c.pos 0)) ∧
      (c.target = 6 → u.hostBad c bd = false → c.opcode ≠ x.1 → exec x.2.1 s = .next u) ∧
      (c.target = 6 → u.hostBad c bd = false → c.opcode = x.1 →
        (x.1 = 1 → exec x.2.1 s = .next (if y.shareFull bd.tenant then y else y.postHeld c)) ∧
        (x.1 = 4 → exec x.2.1 s = .next (y.intakeServe p)) ∧
        (x.1 = 2 ∨ x.1 = 3 → ∀ a, a = bd.base + 64 * c.desc →
          (∀ z, y.fetchDesc c bd .hst = (z, none) → exec x.2.1 s = .next z) ∧
          (∀ z d, y.fetchDesc c bd .hst = (z, some d) →
            (z.poisoned a 64 = true ∨ z.copyDesc d = false → exec x.2.1 s = .next (z.raise E.HOST_COMMAND p c.pos (bits a 47 0))) ∧
            (z.poisoned a 64 = false → z.copyDesc d = true → z.mayCopy bd.tenant = false →
              exec x.2.1 s = .next (z.raise E.HOST_KEY_MISSING p bd.tenant 0)) ∧
            (z.poisoned a 64 = false → z.copyDesc d = true → z.mayCopy bd.tenant = true → ∀ rq, rq = { z.progReq p .hst 0 with
                write := x.1 = 3 } → z.check rq (fieldAt d 0 8) (fieldAt d 0x10 8) = .ok → exec x.2.1 s = .next (z.copyStart
                  (x.1 = 3) (some (p, c.id)) none bd.tenant (fieldAt d 0 8) (fieldAt d 8 8) (fieldAt d 0x10 8)))))))) ∧
  (∀ c, (s.postHeld c) = (s.updPart c.part (fun x => { x with held := x.held ++ [⟨(s.bindingOf c).tenant,
      (s.bindingOf c).queue, leBytes 1 2 ++ leBytes 5 0 ++ leBytes 1 (s.leg c.part) ++ leBytes 1 0 ++
        leBytes 8 (atBits 31 0 c.offset + atBits 47 32 c.count) ++ leBytes 4 (s.lap c.part) ++ leBytes 4 0 ++
        leBytes 8 (s.ftime % 2 ^ 64), false⟩] })).cmdDone c) ∧
  (∀ id, ((∀ c ∈ (s.part p).outstanding, ¬ (c.id = id ∧ c.started = true ∧ c.target = 6 ∧ c.opcode = 1)) →
      exec (.postStoreReserved p id) s = .next s) ∧
    (∀ c, (s.part p).outstanding.find? (fun c => c.id = id && c.started && c.target = 6 && c.opcode = 1) = some c →
      exec (.postStoreReserved p id) s = .next (if s.shareFull (s.bindingOf c).tenant then s else s.postHeld c))) ∧
  (∀ n k, n = s.lap p → k = s.segOfLap p n → (s.segState p k = 0 ∨ s.segState p k = 3 ∨ Sp.find k (s.part p).segLap ≠ some n →
    s.intakeServe p = s) ∧ (s.segState p k = 1 ∨ s.segState p k = 2 → Sp.find k (s.part p).segLap = some n → ∀ l,
      l = (s.part p).outstanding.filter (fun c => c.target = 6 && c.opcode = 4 && c.started) → l ≠ [] →
      s.intakeServe p = l.foldl (fun v c => v.cmdDone c) (s.setSegState p k 2)))) ∧
  (∀ (s : State),
  (∀ tf st po b t r, t = tf % 4096 → s.host.reads.find? (fun r => r.tag = t) = some r →
    (tf / 4096 % 4 ≠ Sp.get 0 s.host.gens t % 4 → Ends (.hostReadCompletion tf st po b) s (fun v => v.host = s.host ∧ v.mem = s.mem ∧
      v.rd R.CNT_HST 0 0 = (s.rd R.CNT_HST 0 0 + 1) % 2 ^ 64)) ∧
    (tf / 4096 % 4 = Sp.get 0 s.host.gens t % 4 → st = 0 → po = false → b.length = r.len →
      exec (.hostReadCompletion tf st po b) s = .next (((s.dropRead t).readEnd r b false false).copyReadsAll)) ∧
    (tf / 4096 % 4 = Sp.get 0 s.host.gens t % 4 → st ≠ 0 → Ends (.hostReadCompletion tf st po b) s (fun v => ∃ y : State,
      y.rd R.CNT_HST 0 3 = (s.rd R.CNT_HST 0 3 + 1) % 2 ^ 64 ∧ y.free = s.free + 1 ∧ y.host = (s.dropRead t).host ∧
      v = (y.readEnd r ((List.range r.len).map (Config.failedByte s.free)) true false).copyReadsAll))) ∧
  (∀ tf st po b t, t = tf % 4096 → (∀ r ∈ s.host.reads, r.tag ≠ t) →
    (t ∈ s.host.quarantine → tf / 4096 % 4 = (Sp.get 0 s.host.gens t + 3) % 4 → Ends (.hostReadCompletion tf st po b) s (fun v =>
      ∃ y : State, y.host.quarantine = s.host.quarantine.filter (· != t) ∧
        y.rd R.CNT_HST 0 0 = (s.rd R.CNT_HST 0 0 + 1) % 2 ^ 64 ∧ v = y.copyReadsAll)) ∧
    (t ∉ s.host.quarantine ∨ tf / 4096 % 4 ≠ (Sp.get 0 s.host.gens t + 3) % 4 → Ends (.hostReadCompletion tf st po b) s (fun v =>
      v.host = s.host ∧ v.rd R.CNT_HST 0 0 = (s.rd R.CNT_HST 0 0 + 1) % 2 ^ 64))) ∧
  (∀ t, (∀ r ∈ s.host.reads, r.tag ≠ t) → exec (.hostReadTimeout t) s = .next s) ∧
  (∀ t r, s.host.reads.find? (fun r => r.tag = t) = some r → Ends (.hostReadTimeout t) s (fun v => ∃ y z : State,
    y = (s.count R.CNT_HST 0 1 1).raise E.HOST_CPL_TIMEOUT (s.readOwner r.use).1 (bits (hostBase + r.addr) 47 0)
      (s.readOwner r.use).2.word ∧ z.host.quarantine = s.host.quarantine ++ [t] ∧
    Sp.get 0 z.host.gens t = (Sp.get 0 s.host.gens t + 1) % 16 ∧ z.host.reads = s.host.reads.filter (fun x => x.tag != t) ∧
    v = (z.readEnd r ((List.range r.len).map (Config.failedByte y.free)) true true).copyReadsAll)) ∧
  (∀ (v : State) id dev b j bad, v.copyJob id = some j → j.key = none → ∀ r : HRead, r.use = .piece id dev →
    (v.readEnd r b bad false).mem = (v.save dev b bad).mem ∧ (v.readEnd r b bad false).gran = (v.save dev b bad).gran) ∧
  (∀ t, (t ∉ s.host.quarantine → exec (.tagQuarantineExpiry t) s = .next s) ∧ (t ∈ s.host.quarantine →
    Ends (.tagQuarantineExpiry t) s (fun v => ∃ y : State, y.host.quarantine = s.host.quarantine.filter (· != t) ∧
      y.rd R.CNT_HST 0 2 = (s.rd R.CNT_HST 0 2 + 1) % 2 ^ 64 ∧ v = y.copyReadsAll))) ∧
  (∀ a n, ((∃ r ∈ s.host.reads, r.addr < a + n ∧ a < r.addr + max 1 r.len) → exec (.atsInvalidation a n) s = .next s) ∧
    ((∀ r ∈ s.host.reads, ¬ (r.addr < a + n ∧ a < r.addr + max 1 r.len)) → Ends (.atsInvalidation a n) s (fun v =>
      (∀ g, g ∈ v.host.atc ↔ g ∈ s.host.atc ∧ ¬ (4096 * g < a + n ∧ a < 4096 * g + 4096)) ∧
      v.out = s.out ++ [.bus "ATS_INVALIDATE_DONE" a n]))))

/-- Loss and return of the host (R391, R394, R412, R418 to R421): resets and timeouts take the host away once, running partitions
are asked to hold, held ones become detached, reads and commands end; the link and ATTACH bring it back. -/
def Obligations.HostLoss : Prop := ∀ (s : State),
  (∀ x ∈ ([(.perstAssert, s.hostIfReset.linkOut 0), (.hotReset, s.hostIfReset.linkOut 1), (.flrPf0, s.hostIfReset),
      (.linkLossTimeout, s.linkOut (min 1 s.host.link))] : List (Instr × State)), exec x.1 s = .next x.2.hostLoss) ∧
  (s.rdF R.HST_HOST_WATCH F.HST_HOST_WATCH_HEARTBEAT_MS 0 0 = 0 → exec .heartbeatTimeout s = .next s) ∧
  (s.rdF R.HST_HOST_WATCH F.HST_HOST_WATCH_HEARTBEAT_MS 0 0 ≠ 0 → exec .heartbeatTimeout s = .next s.hostLoss) ∧
  (s.attached = false → s.hostLoss = s) ∧
  (s.attached = true → ∀ t, t = s.hostLoss → t.hostLostBit = true ∧ t.attached = false ∧ t.host.reads = [] ∧ t.host.cmds = [] ∧
    t.host.stopping = [] ∧ t.rd R.CNT_HST 0 12 = (s.rd R.CNT_HST 0 12 + 1) % 2 ^ 64 ∧
    (∀ r ∈ s.host.reads, r.tag ∈ t.host.quarantine) ∧ ∀ p, p < 64 → s.enabled p = true →
      (s.isRunning p = true → (t.part p).hostLostReq = true ∧ t.pState p = s.pState p) ∧
      (s.isRunning p = false → s.pState p = stHeld → t.pState p = stDetached)) ∧
  s.hostIfReset.regs = s.regs ∧ s.hostIfReset.host.vfEnable = false ∧ s.hostIfReset.host.busMaster = [] ∧
  s.hostIfReset.host.reads = s.host.reads ∧ s.hostIfReset.host.quarantine = s.host.quarantine ∧
  (∀ l, (s.linkOut l).rdF R.HST_LINK_STATUS F.HST_LINK_STATUS_UP 0 0 = 0 ∧ (s.linkOut l).host.link = l) ∧
  exec (.flrVf 0) s = .next s ∧
  (∀ f, f ≠ 0 → Ends (.flrVf f) s (fun t => (∀ e ∈ t.store, e.fn ≠ f) ∧ (∀ e ∈ s.store, e.fn ≠ f → e ∈ t.store) ∧
    f ∉ t.host.busMaster ∧ t.regs = s.regs)) ∧
  (∀ v, (v % 2 = 1 → Ends (.heartbeatWrite v) s (fun t => t.host = { s.host with lastBeat := s.ftime } ∧ t.regs = s.regs)) ∧
    (v % 2 = 0 → exec (.heartbeatWrite v) s = .next s)) ∧
  Ends .attach s (fun t => t.rdF R.HST_ATTACH F.HST_ATTACH_ERROR 0 0 = (if s.rdF R.HST_LINK_STATUS F.HST_LINK_STATUS_UP 0 0 = 0 then 1
      else if 0 ∉ s.host.busMaster then 2 else if s.hostLostBit = false then 3 else 0) ∧
    t.attached = (s.attached || (s.rdF R.HST_LINK_STATUS F.HST_LINK_STATUS_UP 0 0 = 1 && decide (0 ∈ s.host.busMaster) &&
      s.hostLostBit))) ∧
  (s.host.link = 0 → Ends .perstDeassert s (fun t => t.host.link = 1 ∧ t.regs = s.regs)) ∧
  (s.host.link ≠ 0 → exec .perstDeassert s = .next s) ∧
  (∀ fl sp w, (s.host.link ≠ 1 → exec (.hostLinkUp fl sp w) s = .next s) ∧
    (s.host.link = 1 → fl = false → Ends (.hostLinkUp fl sp w) s (fun t => t.host = s.host ∧
      t.rdF R.HST_LINK_STATUS F.HST_LINK_STATUS_NO_FLIT 0 0 = 1)) ∧
    (s.host.link = 1 → fl = true → sp ∈ [4, 5, 6] → w ∈ [4, 8, 16] → Ends (.hostLinkUp fl sp w) s (fun t => t.host.link = 2 ∧
      t.rdF R.HST_LINK_STATUS F.HST_LINK_STATUS_UP 0 0 = 1 ∧ t.rdF R.HST_LINK_STATUS F.HST_LINK_STATUS_SPEED 0 0 = sp ∧
      t.rdF R.HST_LINK_STATUS F.HST_LINK_STATUS_WIDTH 0 0 = w))) ∧
  (∀ f r v, Ends (.configSpaceWrite f r v) s (fun t => t.regs = s.regs ∧ t.mem = s.mem ∧
    (r = 0 → f = 0 → s.chip.everReady = true → t.host = { s.host with vfEnable := decide (v % 2 = 1) }) ∧
    (r = 2 → (f ∈ t.host.busMaster ↔ v % 2 = 1)) ∧ (r = 3 → t.host.ats = decide (v % 2 = 1)) ∧
    (r = 4 → v ∈ [128, 256, 512] → t.host.mps = v) ∧ (r = 5 → v ∈ [128, 256, 512, 1024, 2048, 4096] → t.host.mrrs = v) ∧
    (r = 6 → v < 4 → t.host.cplRange = v) ∧ (7 < r → t = s)))

/-! ## Security and management -/

/-- Partitions are enabled and disabled (R446 to R449): an accepted enable writes the configuration with STATE 0x1, its end zeroes
cores, triggers and the partition's state and draws a key; a disable needs READY or FAILED and no enabled queue of a tenant.
Keys from sessions (R456 to R458): a message is malformed (result 1), not from the tenant's admitted session (2), or sets or
clears the function's key and answers 0; IDE keys are programmed over DOE. -/
def Obligations.PartitionsAndKeys : Prop :=
  (∀ (s : State) (p : Nat), p < 64 →
  (∀ v, s.enabled p = true → exec (.partitionEnable p v) s = .next s) ∧
  (∀ v w, s.enabled p = false → w = setBit v 63 true → (s.enableOk p w = false →
      exec (.partitionEnable p v) s = .next (s.regErr.event E.PART_CONFIG 0 p 0)) ∧
    (s.enableOk p w = true → v < 2 ^ 64 → Ends (.partitionEnable p v) s (fun t => t.enabled p = true ∧ t.pState p = 1 ∧
      bits (t.rd R.GLB_PART_CONFIG 0 p) 55 12 = bits v 55 12 ∧ (t.part p).enabling = true ∧ t.mem = s.mem))) ∧
  (s.enabled p = false → exec (.partitionDisable p) s = .next s) ∧
  (s.enabled p = true → (s.pState p ≠ stReady ∧ s.pState p ≠ stFailed) ∨
      (∃ q ∈ s.host.enabledQ, qPart (s.que q) = p ∧ qFn (s.que q) ≠ 0) → exec (.partitionDisable p) s = .next s.regErr) ∧
  (s.enabled p = true → s.pState p = stReady ∨ s.pState p = stFailed →
    (∀ q ∈ s.host.enabledQ, ¬ (qPart (s.que q) = p ∧ qFn (s.que q) ≠ 0)) → Ends (.partitionDisable p) s (fun t =>
      t.enabled p = false ∧ t.pState p = 0 ∧ t.mem = s.mem ∧ (t.part p).keyId = s.chip.nextKey ∧
      t.chip.nextKey = s.chip.nextKey + 1 ∧
      ∀ e, e ∈ t.sec.admitted ↔ e ∈ s.sec.admitted ∧ e.1 ∉ cfgFns (s.rd R.GLB_PART_CONFIG 0 p))) ∧
  (s.enabled p = false ∨ (s.part p).enabling = false → exec (.partitionEnableDone p) s = .next s) ∧
  (s.enabled p = true → (s.part p).enabling = true → Ends (.partitionEnableDone p) s (fun t =>
    t.part p = { keyId := s.chip.nextKey } ∧ t.chip.nextKey = s.chip.nextKey + 1 ∧
    (stBringup < s.chipState → t.pState p = stReady) ∧ (s.chipState ≤ stBringup → t.pState p = s.pState p) ∧
    (∀ c, c < 64 → bit (s.rd R.GLB_PART_CLUSTERS 0 p) c = true → t.hub c = {} ∧ ∀ k, k < 16 → t.core (16 * c + k) = {}) ∧
    (∀ c, c < 64 → bit (s.rd R.GLB_PART_CLUSTERS 0 p) c = false → t.hub c = s.hub c ∧ ∀ k, k < 16 → t.core (16 * c + k) =
      s.core (16 * c + k)) ∧
    ∀ n, s.trigOk p n = true → t.rd R.RLY_TRIGGER 0 n = 0))) ∧
  (∀ (s : State) (sid : Nat) (b : List Byte),
  (∀ x ∈ ([(1, .hostkeyInstall sid b), (2, .hostkeyClear sid b)] : List (Nat × Instr)),
    ((∀ e ∈ s.sec.sessions, e.id ≠ sid) → exec x.2 s = .next s) ∧
    (∀ e f, s.sec.sessions.find? (fun e => e.id = sid) = some e → f = fieldAt b 1 1 →
      (b.length ≠ 72 ∨ fieldAt b 0 1 ≠ x.1 ∨ fieldAt b 2 2 ≠ 0 ∨ (x.1 = 2 ∧ ∃ y ∈ sliceB b 8 64, y ≠ 0) →
        exec x.2 s = .next (s.emit (.spdm e.transport "VENDOR_DEFINED_RESPONSE" (leBytes 1 1)))) ∧
      (b.length = 72 → fieldAt b 0 1 = x.1 → fieldAt b 2 2 = 0 → (x.1 = 2 → ∀ y ∈ sliceB b 8 64, y = 0) →
        (s.sessMay e f = false → exec x.2 s = .next (s.emit (.spdm e.transport "VENDOR_DEFINED_RESPONSE" (leBytes 1 2)))) ∧
        (s.sessMay e f = true → Ends x.2 s (fun t =>
          t.out = s.out ++ [.spdm e.transport "VENDOR_DEFINED_RESPONSE" (leBytes 1 0)] ∧
          (x.1 = 1 → Sp.find f t.host.hostKey = some (sliceB b 8 64) ∧ t.rd R.SEC_HOSTKEY 0 f = 2 ^ 63 + fieldAt b 4 4) ∧
          (x.1 = 2 → Sp.find f t.host.hostKey = none ∧ t.rd R.SEC_HOSTKEY 0 f = 0) ∧
          ∀ g, g ≠ f → Sp.find g t.host.hostKey = Sp.find g s.host.hostKey))))) ∧
  (∀ k, s.fwUp = true → 3 ≤ s.spdmStage 2 → (∃ e ∈ s.sec.sessions, e.id = sid ∧ e.transport = 2 ∧ e.up = true) →
    (k < 5 → Ends (.ideKmProgram sid k b) s (fun t => Sp.find k t.sec.ideKey = some b ∧
      t.out = s.out ++ [.spdm 2 "IDE_KM_ACK" (leBytes 1 k)])) ∧
    (5 ≤ k → exec (.ideKmProgram sid k b) s = .next (s.emit (.spdm 2 "ERROR" (leBytes 1 1))))) ∧
  (∀ k, s.fwUp = true → 3 ≤ s.spdmStage 2 → (∀ e ∈ s.sec.sessions, ¬ (e.id = sid ∧ e.transport = 2 ∧ e.up = true)) →
    exec (.ideKmProgram sid k b) s = .next (s.emit (.spdm 2 "ERROR" (leBytes 1 2)))))

/-- SPDM requests (R460; the answers to requests out of order are the model's, log 48): negotiation, certificates, measurements
and sessions over I3C and DOE. -/
def Obligations.SpdmRequests : Prop := ∀ (s : State) (t : Nat), t = 0 ∨ t = 2 →
  (∀ sl nc ix off len sid, ∀ x ∈ ([(0, .getVersion t), (1, .getCapabilities t), (2, .negotiateAlgorithms t), (3, .getDigests t),
      (3, .getCertificate t sl off len), (3, .challenge t sl nc), (3, .getMeasurements t ix nc), (3, .keyExchange t sl nc),
      (3, .finish t sid nc), (3, .heartbeat t sid), (3, .keyUpdate t sid), (3, .endSession t sid)] : List (Nat × Instr)),
    (s.fwUp = true → s.spdmStage t < x.1 → exec x.2 s = .next (s.emit (.spdm t "ERROR" (leBytes 1 4)))) ∧
    (s.fwUp = false → exec x.2 s = .next (if t = 0 ∧ s.mgt.standby = true then s.emit (.spdm t "ERROR" (leBytes 1 3)) else s))) ∧
  (s.fwUp = true →
    Ends (.getVersion t) s (fun u => u.spdmStage t = 1 ∧ u.out = s.out ++ [.spdm t "VERSION" (leBytes 1 0x13)]) ∧
    (1 ≤ s.spdmStage t → Ends (.getCapabilities t) s (fun u => u.spdmStage t = 2 ∧ u.out = s.out ++ [.spdm t "CAPABILITIES" []])) ∧
    (2 ≤ s.spdmStage t → Ends (.negotiateAlgorithms t) s (fun u => u.spdmStage t = 3 ∧ u.sec.sessions = s.sec.sessions)) ∧
    (3 ≤ s.spdmStage t → ∀ nc,
      Ends (.getDigests t) s (fun u => u.out = s.out ++ [.spdm t "DIGESTS" (leBytes 1 1 ++ sha384 s.certs)] ∧ u.regs = s.regs) ∧
      (∀ off len, Ends (.getCertificate t 0 off len) s (fun u =>
        u.out = s.out ++ [.spdm t "CERTIFICATE" ((s.certs.drop off).take len)] ∧ u.regs = s.regs)) ∧
      Ends (.challenge t 0 nc) s (fun u => u.out = s.out ++ [.spdm t "CHALLENGE_AUTH" (sha384 s.certs ++ s.sign nc)] ∧
        u.regs = s.regs) ∧
      (∀ ix b, ix ≠ 0xFF → s.measurement ix = some b → ∀ m, m = leBytes 1 ix ++ leBytes 2 b.length ++ b →
        Ends (.getMeasurements t ix nc) s (fun u => u.out = s.out ++ [.spdm t "MEASUREMENTS" (m ++ s.sign (nc ++ m))] ∧
          u.regs = s.regs)) ∧
      (∀ ix, ix ≠ 0xFF → s.measurement ix = none →
        exec (.getMeasurements t ix nc) s = .next (s.emit (.spdm t "ERROR" (leBytes 1 1)))) ∧
      Ends (.keyExchange t 0 nc) s (fun u => (∃ e ∈ u.sec.sessions, e.id = s.sec.sessNext ∧ e.transport = t ∧ e.up = false) ∧
        u.sec.sessNext = s.sec.sessNext + 1 ∧
        u.out = s.out ++ [.spdm t "KEY_EXCHANGE_RSP" (leBytes 4 s.sec.sessNext ++ s.sign nc)]) ∧
      (∀ sl, sl ≠ 0 → ∀ x ∈ [Instr.getCertificate t sl 0 0, .challenge t sl nc, .keyExchange t sl nc],
        exec x s = .next (s.emit (.spdm t "ERROR" (leBytes 1 1)))) ∧
      (∀ sid e, e ∈ s.sec.sessions → e.id = sid → e.transport = t →
        (e.up = false → Ends (.finish t sid nc) s (fun u => { e with up := true, cert := nc } ∈ u.sec.sessions ∧
          u.out = s.out ++ [.spdm t "FINISH_RSP" []])) ∧
        (e.up = true → Ends (.heartbeat t sid) s (fun u => u.out = s.out ++ [.spdm t "HEARTBEAT_ACK" []] ∧ u.sec = s.sec) ∧
          Ends (.keyUpdate t sid) s (fun u => { e with updates := e.updates + 1 } ∈ u.sec.sessions) ∧
          Ends (.endSession t sid) s (fun u => ∀ x, x ∈ u.sec.sessions ↔ x ∈ s.sec.sessions ∧ x.id ≠ sid))) ∧
      (∀ sid, (∀ e ∈ s.sec.sessions, ¬ (e.id = sid ∧ e.transport = t)) →
        ∀ x ∈ [Instr.finish t sid nc, .heartbeat t sid, .keyUpdate t sid, .endSession t sid],
          exec x s = .next (s.emit (.spdm t "ERROR" (leBytes 1 2)))))) ∧
  (s.measurement 1 = some Config.romDigest ∧ s.measurement 4 = some (leBytes 4 (s.rd R.GLB_DEVICE_ID 0 0) ++ leBytes 8 s.sec.svn ++
    leBytes 4 s.sec.debug) ∧ s.measurement 0 = none)

/-- Firmware operations (R459, R461, R462, R464): a start sets BUSY or ends at once with its ERROR, and the end of each operation
writes the slot, its verify mark, the activation record and the fused version, or reports why not. -/
def Obligations.FirmwareOperations : Prop := ∀ (s : State),
  (∀ x ∈ ([(0, .download), (1, .verify), (2, .activate), (3, .confirm)] : List (Nat × Instr)), ∀ trial active,
    trial = (s.fwRec.map (·.trial)).getD false → active = (s.fwRec.map (·.active)).getD 0 →
    (s.rdF R.SEC_FWUP_CTRL F.SEC_FWUP_CTRL_BUSY 0 0 = 1 → exec x.2 s = .next s.regErr) ∧
    (s.rdF R.SEC_FWUP_CTRL F.SEC_FWUP_CTRL_BUSY 0 0 = 0 →
      ((s.rdF R.SEC_FW_STATUS F.SEC_FW_STATUS_RECOVERY 0 0 = 1 ∧ 1 < x.1) ∨ ((x.1 = 0 ∨ x.1 = 2) ∧ trial = true) ∨
          (x.1 = 3 ∧ (trial = false ∨ s.fwRunning ≠ active)) → Ends x.2 s (fun t =>
        t.rdF R.SEC_FWUP_CTRL F.SEC_FWUP_CTRL_ERROR 0 0 = 4 ∧ t.rdF R.SEC_FWUP_CTRL F.SEC_FWUP_CTRL_DONE 0 0 = 1 ∧
        t.rdF R.SEC_FWUP_CTRL F.SEC_FWUP_CTRL_BUSY 0 0 = 0)) ∧
      (x.1 ≠ 0 → (s.rdF R.SEC_FW_STATUS F.SEC_FW_STATUS_RECOVERY 0 0 = 0 ∨ x.1 = 1) → (x.1 = 2 → trial = false) →
          (x.1 = 3 → trial = true ∧ s.fwRunning = active) → Ends x.2 s (fun t => t.sec = { s.sec with fwOp := x.1 } ∧
        t.rdF R.SEC_FWUP_CTRL F.SEC_FWUP_CTRL_BUSY 0 0 = 1 ∧ t.rdF R.SEC_FWUP_CTRL F.SEC_FWUP_CTRL_DONE 0 0 = 0)) ∧
      (x.1 = 0 → trial = false → ∀ src, src = s.rd R.SEC_FWUP_SRC 0 0 →
        (4095 < bits src 63 48 → Ends x.2 s (fun t => t.rdF R.SEC_FWUP_CTRL F.SEC_FWUP_CTRL_ERROR 0 0 = 5 ∧
          t.rdF R.SEC_FWUP_CTRL F.SEC_FWUP_CTRL_BUSY 0 0 = 0)) ∧
        (bits src 63 48 ≤ 4095 → setBits (src % 2 ^ 48) 11 0 0 < hostBase ∨ s.attached = false → Ends x.2 s (fun t =>
          t.rdF R.SEC_FWUP_CTRL F.SEC_FWUP_CTRL_ERROR 0 0 = 1 ∧ t.rdF R.SEC_FWUP_CTRL F.SEC_FWUP_CTRL_BUSY 0 0 = 0)) ∧
        (bits src 63 48 ≤ 4095 → hostBase ≤ setBits (src % 2 ^ 48) 11 0 0 → s.attached = true → Ends x.2 s (fun t =>
          t.rdF R.SEC_FWUP_CTRL F.SEC_FWUP_CTRL_BUSY 0 0 = 1 ∧ t.fwSlot s.fwInactive = {} ∧ t.host.fwPages = []))))) ∧
  (∀ ff, s.rdF R.SEC_FWUP_CTRL F.SEC_FWUP_CTRL_BUSY 0 0 = 0 → exec (.fwupEnd ff) s = .next s) ∧
  (∀ ff k, s.rdF R.SEC_FWUP_CTRL F.SEC_FWUP_CTRL_BUSY 0 0 = 1 → k = s.fwInactive →
    (s.sec.fwOp = 0 → (s.host.fwFail = true ∨ s.attached = false → Ends (.fwupEnd ff) s (fun t =>
        t.rdF R.SEC_FWUP_CTRL F.SEC_FWUP_CTRL_ERROR 0 0 = 1 ∧ t.rdF R.SEC_FWUP_CTRL F.SEC_FWUP_CTRL_DONE 0 0 = 1)) ∧
      (s.host.fwFail = false → s.attached = true → ff = false → s.host.fwPages.length =
        s.rdF R.SEC_FWUP_SRC F.SEC_FWUP_SRC_PAGES 0 0 → Ends (.fwupEnd ff) s (fun t => t.fwSlot k =
          ⟨false, some ((List.range s.host.fwPages.length).flatMap (fun i => Sp.get [] s.host.fwPages i)), none⟩ ∧
          t.rdF R.SEC_FWUP_CTRL F.SEC_FWUP_CTRL_ERROR 0 0 = 0 ∧ t.rdF R.SEC_FWUP_CTRL F.SEC_FWUP_CTRL_DONE 0 0 = 1))) ∧
    (s.sec.fwOp = 1 → ff = false → (s.fwSlot k).present = true → Ends (.fwupEnd ff) s (fun t =>
      (s.slotOk (s.fwSlot k) = true → t.fwSlot k = { s.fwSlot k with mark := some (fwDigest (s.fwSlot k).bytes) } ∧
        t.rdF R.SEC_FWUP_CTRL F.SEC_FWUP_CTRL_ERROR 0 0 = 0) ∧
      (s.slotOk (s.fwSlot k) = false → t.sec = s.sec ∧ t.rdF R.SEC_FWUP_CTRL F.SEC_FWUP_CTRL_ERROR 0 0 = 2 ∧
        t.rd R.CNT_GLB 0 2 = (s.rd R.CNT_GLB 0 2 + 1) % 2 ^ 64))) ∧
    (s.sec.fwOp = 2 → ff = false → ((s.fwSlot k).mark ≠ some (fwDigest (s.fwSlot k).bytes) → Ends (.fwupEnd ff) s (fun t =>
        t.sec = s.sec ∧ t.rdF R.SEC_FWUP_CTRL F.SEC_FWUP_CTRL_ERROR 0 0 = 2)) ∧
      ((s.fwSlot k).mark = some (fwDigest (s.fwSlot k).bytes) → Ends (.fwupEnd ff) s (fun t =>
        t.rdF R.SEC_FWUP_CTRL F.SEC_FWUP_CTRL_ERROR 0 0 = 0 ∧ ∃ r, t.fwRec = some r ∧ r.active = k ∧ r.trial = true ∧ r.boots = 0 ∧
          r.previous = (s.fwRec.map (·.active)).getD 0 ∧ r.counter = (s.fwRec.map (·.counter)).getD 0 + 1 ∧
          t.fwRunning = s.fwRunning))) ∧
    (s.sec.fwOp = 3 → ff = false → ∀ r, s.fwRec = some r → Ends (.fwupEnd ff) s (fun t =>
      t.rdF R.SEC_FWUP_CTRL F.SEC_FWUP_CTRL_ERROR 0 0 = 0 ∧ (∃ n, t.fwRec = some n ∧ n.active = r.active ∧ n.trial = false) ∧
      t.sec.svn = max s.sec.svn (fwSvn (s.fwSlot r.active).bytes))) ∧
    (s.sec.fwOp = 1 ∨ s.sec.fwOp = 2 ∨ s.sec.fwOp = 3 → ff = true → (s.fwSlot k).present = true →
      (s.sec.fwOp = 2 → (s.fwSlot k).mark = some (fwDigest (s.fwSlot k).bytes)) → s.fwRec ≠ none → Ends (.fwupEnd ff) s (fun t =>
        t.sec = s.sec ∧ t.rdF R.SEC_FWUP_CTRL F.SEC_FWUP_CTRL_ERROR 0 0 = 3)))

/-- What a target that has a dynamic address answers to the directed CCCs of Table 18-1 (R518, R519, R521), and that one without
an address takes no part. GETSTATUS is the model's reading (log 50). The broadcast CCCs and the target's own bus events, once
the standby island is up (R518, R520, R521, R551). -/
def Obligations.I3cCommands : Prop :=
  (∀ s : State,
  (s.mgt.standby = true → s.dynAddr ≠ 0 →
    exec .getpid s = .next (s.emit (.ccc true (beBytes 6 provisionalId))) ∧
    exec .getbcr s = .next (s.emit (.ccc true [0x06])) ∧
    exec .getdcr s = .next (s.emit (.ccc true [0x00])) ∧
    exec .getstatus s = .next (s.emit (.ccc true [0x00, if s.mgt.packets = [] then 0x00 else 0x01])) ∧
    exec .getmrl s = .next (s.emit (.ccc true (beBytes 2 (s.rdF R.MGT_I3C_STATUS F.MGT_I3C_STATUS_MRL 0 0)))) ∧
    exec .getmwl s = .next (s.emit (.ccc true (beBytes 2 s.mgt.mwl))) ∧
    ∀ a, (a % 128 = 0 → exec (.setnewda a) s = .next (s.emit (.ccc false []))) ∧
      (a % 128 ≠ 0 → Ends (.setnewda a) s (fun t => ∃ u : State, t = u.event E.MGT_ADDR 0 (a % 128) 0 ∧
        u.dynAddr = a % 128 ∧ u.eid = s.eid ∧ u.mgt = s.mgt ∧ u.out = s.out ++ [.ccc true []]))) ∧
  (¬ (s.mgt.standby = true ∧ s.dynAddr ≠ 0) →
    ∀ c ∈ [Instr.getpid, .getbcr, .getdcr, .getstatus, .getmrl, .getmwl], exec c s = .next s)) ∧
  (∀ s : State,
  (s.mgt.standby = false → ∃ t, exec .standbyResetEnd s = .next t ∧ t.mgt = { s.mgt with standby := true, joinDue := true }) ∧
  (s.mgt.standby = true →
    (∀ a, s.dynAddr = 0 → a % 128 ≠ 0 → Ends (.entdaa a) s (fun t => ∃ u : State, t = u.event E.MGT_ADDR 0 (a % 128) 0 ∧
      u.dynAddr = a % 128 ∧ u.mgt = { s.mgt with joinDue := false } ∧
      u.out = s.out ++ [.ccc true (beBytes 6 provisionalId ++ [0x06, 0x00])])) ∧
    (∀ a, s.dynAddr ≠ 0 → exec (.entdaa a) s = .next s) ∧
    (s.dynAddr = 0 → Ends .rstdaa s (fun t => t.out = s.out ++ [.ccc true []] ∧ t.dynAddr = 0 ∧ t.eid = 0)) ∧
    (s.dynAddr ≠ 0 → Ends .rstdaa s (fun t => ∃ u : State, t = u.event E.MGT_ADDR 0 0 0 ∧ u.dynAddr = 0 ∧ u.eid = 0 ∧
      (∀ p ∈ u.mgt.packets, p.answer = false) ∧ u.mgt.announced = false ∧ u.out = s.out ++ [.ccc true []])) ∧
    (∀ n, 32 ≤ n → n ≤ 255 → Ends (.setmrl n) s (fun t =>
      t.rdF R.MGT_I3C_STATUS F.MGT_I3C_STATUS_MRL 0 0 = n ∧ t.dynAddr = s.dynAddr ∧ t.out = s.out ++ [.ccc true []])) ∧
    (∀ n, 32 ≤ n → n ≤ 255 → Ends (.setmwl n) s (fun t => t.mgt.mwl = n ∧ t.out = s.out ++ [.ccc true []])) ∧
    (∀ n, n < 32 ∨ 255 < n → exec (.setmrl n) s = .next (s.emit (.ccc false [])) ∧
      exec (.setmwl n) s = .next (s.emit (.ccc false []))) ∧
    (∀ i h, Ends (.enec i h) s (fun t => t.ibiOn = (i || s.ibiOn) ∧ t.mgt.hotJoin = (h || s.mgt.hotJoin) ∧
      t.mgt.packets = s.mgt.packets ∧ t.out = s.out ++ [.ccc true []])) ∧
    (∀ i h, Ends (.disec i h) s (fun t => t.ibiOn = (!i && s.ibiOn) ∧ t.mgt.hotJoin = (!h && s.mgt.hotJoin) ∧
      t.mgt.packets = s.mgt.packets ∧ t.out = s.out ++ [.ccc true []])) ∧
    (∀ a, Ends (.rstact a) s (fun t => t.mgt.rstAct = a % 256 ∧ t.out = s.out ++ [.ccc true []])) ∧
    exec .unsupportedCcc s = .next (s.emit (.ccc false [])) ∧
    (s.mgt.joinDue = true → s.mgt.hotJoin = true → s.dynAddr = 0 →
      Ends .hotJoin s (fun t => t.mgt.joinDue = false ∧ t.out = s.out ++ [.hotJoin])) ∧
    (s.ibiOn = true → s.dynAddr ≠ 0 → s.mgt.packets ≠ [] → s.mgt.announced = false →
      Ends .ibi s (fun t => t.mgt.announced = true ∧ t.mgt.packets = s.mgt.packets ∧ t.out = s.out ++ [.ibi 0xAE])) ∧
    (s.ibiOn = false ∨ s.dynAddr = 0 ∨ s.mgt.packets = [] ∨ s.mgt.announced = true → exec .ibi s = .next s) ∧
    ∀ p l, s.mgt.packets = p :: l → s.mgt.announced = true → Ends .mctpPacketRead s (fun t =>
      t.mgt.packets = l ∧ t.mgt.announced = false ∧ t.out = s.out ++ [.mctp 0 p.bytes])))

/-- MCTP control messages (R522): each that reaches the device is answered on its transport; their bytes follow the standard as
the model reads it (log 50). PLDM requests that reach the device with its firmware up (R522 to R524), and the answer
ERROR_NOT_READY before that (R552); their bytes follow the standard as the model reads it (log 50). -/
def Obligations.MctpAndPldm : Prop :=
  (∀ (s : State) (t i : Nat), s.mctpReach t = true →
  let say (cmd : Nat) (b : List Byte) : Host.Outcome State Fault Refusal :=
    .next (s.mctpSend t ([0x00] ++ leBytes 1 (i % 32) ++ leBytes 1 cmd ++ b) true)
  (∀ op e, op ≤ 1 → 1 ≤ e → e ≤ 254 → Ends (.setEndpointId t i op e) s (fun u => u.eid = e ∧ u.dynAddr = s.dynAddr ∧
    ∃ v : State, v.out = s.out ∧ v.mgt = s.mgt ∧
      u = v.mctpSend t ([0x00] ++ leBytes 1 (i % 32) ++ [0x01] ++ ([0x00, 0x00] ++ leBytes 1 e ++ [0x00])) true)) ∧
  (∀ op e, 1 < op ∨ e = 0 ∨ 254 < e → exec (.setEndpointId t i op e) s = say 1 [0x02]) ∧
  exec (.getEndpointId t i) s = say 2 ([0x00] ++ leBytes 1 s.eid ++ [0x00, 0x00]) ∧
  exec (.getEndpointUuid t i) s = say 3 ([0x00] ++ Config.endpointUuid) ∧
  (∀ y, y = 0xFF ∨ y = 0 ∨ y ∈ mctpTypes t → exec (.getMctpVersionSupport t i y) s =
    say 4 ([0x00] ++ leBytes 1 ((Config.mctpVersions y).length / 4) ++ Config.mctpVersions y)) ∧
  (∀ y, y ≠ 0xFF → y ≠ 0 → y ∉ mctpTypes t → exec (.getMctpVersionSupport t i y) s = say 4 [0x80]) ∧
  (t = 0 → exec (.getMessageTypeSupport t i) s = say 5 [0x00, 0x04, 0x01, 0x05, 0x06, 0x7E]) ∧
  (t = 1 → exec (.getMessageTypeSupport t i) s = say 5 [0x00, 0x02, 0x01, 0x7E]) ∧
  exec (.getVendorDefinedMessageSupport t i 0) s =
    say 6 ([0x00, 0xFF, 0x00] ++ beBytes 2 Config.pciVendor.toNat ++ [0x00, 0x01]) ∧
  (∀ k, k ≠ 0 → exec (.getVendorDefinedMessageSupport t i k) s = say 6 [0x02]) ∧
  ∀ y, (y ≠ 0 → y ∉ mctpTypes t → Ends (.mctpUnknownType t y) s (fun u =>
      u.rd R.CNT_TEL 0 2 = (s.rd R.CNT_TEL 0 2 + 1) % 2 ^ 64 ∧ u.mgt = s.mgt ∧ u.out = s.out)) ∧
    (y = 0 ∨ y ∈ mctpTypes t → exec (.mctpUnknownType t y) s = .next s)) ∧
  (∀ (s : State) (t i : Nat), s.mctpReach t = true →
  let say (u : State) (typ cmd : Nat) (b : List Byte) : Host.Outcome State Fault Refusal :=
    .next (u.mctpSend t ([0x01] ++ leBytes 1 (i % 32) ++ leBytes 1 typ ++ leBytes 1 cmd ++ b) true)
  (s.fwUp = false → exec (.getTid t i) s = say s 0 2 [0x04] ∧ ∀ n, exec (.getSensorReading t i n) s = say s 2 0x11 [0x04]) ∧
  (s.fwUp = true →
    exec (.getTid t i) s = say s 0 2 [0x00, Config.pldmTid] ∧
    (∀ y ∈ [0, 2, 0x3F], exec (.getPldmVersion t i y) s = say s 0 3 ([0x00] ++ Config.pldmVersion y)) ∧
    exec (.getPldmTypes t i) s = say s 0 4 ([0x00] ++ leBytes 8 (2 ^ 0 + 2 ^ 2 + 2 ^ 63)) ∧
    exec (.getPldmCommands t i 2) s =
      say s 0 5 ([0x00] ++ leBytes 32 (2 ^ 0x04 + 2 ^ 0x11 + 2 ^ 0x21 + 2 ^ 0x50 + 2 ^ 0x51)) ∧
    (∀ n ∈ sensorIds, exec (.getSensorReading t i n) s = say s 2 0x11
      ([0x00, 0x05] ++ leBytes 1 (if (s.rd R.TEL_SENSOR 0 n).testBit 32 then 0 else 2) ++ leBytes 4 (s.rd R.TEL_SENSOR 0 n))) ∧
    (∀ n, n ∉ sensorIds → exec (.getSensorReading t i n) s = say s 2 0x11 [0x80]) ∧
    (∀ n, n < 65536 → exec (.getStateSensorReadings t i n) s = say s 2 0x21 [0x80]) ∧
    (∀ h id, 1 ≤ h → sensorIds[h - 1]? = some id → exec (.getPdr t i h) s = say s 2 0x51
      ([0x00] ++ leBytes 4 (if h < 63 then h + 1 else 0) ++ leBytes 2 id ++ Config.pdr id)) ∧
    (∀ h, 63 < h → exec (.getPdr t i h) s = say s 2 0x51 [0x82]) ∧
    exec (.getPdrRepositoryInfo t i) s = say s 2 0x50 ([0x00] ++ leBytes 4 63 ++ Config.pdrInfo) ∧
    (∀ on, exec (.setEventReceiver t i on) s =
      say { s with mgt := { s.mgt with receiver := if on then some t else none } } 2 0x04 [0x00]) ∧
    (∀ pf fn c h, t ≠ 1 ∨ pf = false → exec (.admitTenant t i pf fn c h) s = say s 0x3F Config.admitCode.toNat [0x05]) ∧
    ∀ fn c h, t = 1 → fn ≤ 255 → c ≤ 3 → h.length = 48 → exec (.admitTenant t i true fn c h) s =
      say { s with sec := { s.sec with admitted := (fn, c, h) :: s.sec.admitted.filter (fun e => e.1 != fn) } }
        0x3F Config.admitCode.toNat [0x00]))

/-- Buzeik requests that reach the device with its firmware up and room for an answer (R525 to R527): what each answers and
writes. The messages' frame is `bzBytes` (Table 18-3). Where a Buzeik request is not carried out (R526, R552): it cannot reach
the device, eight answers wait to be read over I3C, or the firmware is not up. Notifications of subscribed events (R526): the
oldest goes out under an instance number of the device's own choice, or is dropped and counted. -/
def Obligations.BuzeikMessages : Prop :=
  (∀ (s : State) (t i : Nat), s.mctpReach t = true → s.fwUp = true →
  ¬ (t = 0 ∧ 8 ≤ s.bzHeld) →
  let say (u : State) (cmd status : Nat) (b : List Byte) : Host.Outcome State Fault Refusal :=
    .next (u.mctpSend t (bzBytes cmd (i % 32) status b) true)
  exec (.getIdentity t i) s = say s 1 0 (leBytes 4 (s.rd R.GLB_DEVICE_ID 0 0) ++ leBytes 8 Config.deviceUid.toNat ++
    leBytes 8 (s.rd R.SEC_FW_STATUS 0 0) ++ leBytes 4 (s.rd R.RLY_FABRIC_COORD 0 0)) ∧
  exec (.getState t i) s = say s 2 0 (leBytes 4 (s.rd R.GLB_STATE 0 0) ++
    (List.range 64).flatMap (fun p => leBytes 1 (bits (s.rd R.GLB_PART_CONFIG 0 p) 63 56))) ∧
  (∀ o n r im, regAccess o n = some (r, im) → exec (.readReg t i o n) s = say s 3 0 (leBytes 8 (s.regValue r im))) ∧
  (∀ o n, regAccess o n = none → exec (.readReg t i o n) s = say (s.badAccess o) 3 1 []) ∧
  (∀ o n v, inBlock .mgt o = false → inBlock .tel o = false → exec (.writeReg t i o n v) s = say s 4 2 []) ∧
  (∀ v, Ends (.writeReg t i (R.TEL_GUN_TARGET.addr 0 0) 8 v) s (fun u => u.rd R.TEL_GUN_TARGET 0 0 = v % 2 ^ 64 ∧
    .next u = say (s.wr R.TEL_GUN_TARGET 0 0 v) 4 0 [])) ∧
  (∀ a n, 1 ≤ a → 1 ≤ n → n ≤ 64 → a + n ≤ 128 → exec (.getSensors t i a n) s = say s 5 0
    ((List.range n).flatMap (fun j => leBytes 2 (a + j) ++
      leBytes 2 (bits (s.regValue ⟨R.TEL_SENSOR, 0, a + j⟩ false) 47 32) ++
      leBytes 4 (s.regValue ⟨R.TEL_SENSOR, 0, a + j⟩ false % 2 ^ 32)))) ∧
  (∀ b f n offs, 1 ≤ n → n ≤ 120 → offs = (List.range n).map (fun j => b + (f + 8 * j) % imageOff + imageOff) →
    (∀ o ∈ offs, ∃ r im, regAccess o 8 = some (r, im) ∧ r.card.hasSnap = true) →
    exec (.getSnapshot t i b f n) s = say s 6 0 (leBytes 2 (s.rdF R.TEL_GUN_STATUS F.TEL_GUN_STATUS_SEQ 0 0) ++
      leBytes 8 (s.rd R.TEL_GUN_FIRE_TIME 0 0) ++ offs.flatMap (fun o => leBytes 8 (s.regRead o 8).2))) ∧
  (∀ g c, c.testBit 5 = true → c.testBit 6 = false → Ends (.armGun t i g c) s (fun u =>
    u.gunTarget = g % 2 ^ 64 ∧ u.gunArmed = true ∧ u.chip.gunSeq = 0)) ∧
  (∀ l, l = 4 ∨ l = 5 → ∃ u : State, .next u = say s 8 0 [] ∧ exec (.reset t i l 0x5E7A) s = .next (u.resetRequest l 0 true true)) ∧
  (∀ l c, (l ≠ 4 ∧ l ≠ 5) ∨ c ≠ 0x5E7A → exec (.reset t i l c) s = say s 8 1 []) ∧
  (∀ q n, 1 ≤ n → n ≤ 32 → exec (.readEvents t i q n) s = say s 9 0 (s.readLog q n)) ∧
  (∀ m, exec (.subscribe t i m) s = say { s with mgt := { s.mgt with subscriber := t }, subMask := m % 64 } 10 0 []) ∧
  (∀ p l b, s.reportOf p l = some b → exec (.getLapReport t i p l) s = say s 11 0 b) ∧
  (∀ p l, s.reportOf p l = none → exec (.getLapReport t i p l) s = say s 11 4 []) ∧
  (∀ v, F.TEL_POWER_CTRL_WARN_C.get v ≤ 24 → 80 ≤ F.TEL_POWER_CTRL_THROTTLE_C.get v →
    F.TEL_POWER_CTRL_THROTTLE_C.get v ≤ 105 → 500 ≤ F.TEL_POWER_CTRL_POWER_LIMIT_W.get v →
    F.TEL_POWER_CTRL_POWER_LIMIT_W.get v ≤ 2000 → v < 2 ^ 32 → Ends (.setPower t i v) s (fun u =>
      u.rd R.TEL_POWER_CTRL 0 0 = R.TEL_POWER_CTRL.write (s.rd R.TEL_POWER_CTRL 0 0) v % 2 ^ 32 ∧ u.regs = (s.wr
        R.TEL_POWER_CTRL 0 0 (R.TEL_POWER_CTRL.write (s.rd R.TEL_POWER_CTRL 0 0) v)).regs))) ∧
  (∀ (s : State) (t i : Nat), ∀ c ∈ [(Instr.readReg t i 0 4, 3), (.writeReg t i 0 4 0, 4),
    (.getSensors t i 1 1, 5), (.armGun t i 0 0, 7), (.readEvents t i 0 1, 9), (.subscribe t i 0, 10), (.getLapReport t i 0 0, 11),
    (.setPower t i 0, 12)],
  (s.mctpReach t = false → exec c.1 s = .next s) ∧
  (s.mctpReach t = true → t = 0 → 8 ≤ s.bzHeld → exec c.1 s = .next (s.mctpSend t (bzBytes c.2 (i % 32) 3 []) true)) ∧
  (s.mctpReach t = true → ¬ (t = 0 ∧ 8 ≤ s.bzHeld) → s.fwUp = false →
    exec c.1 s = .next (s.mctpSend t (bzBytes c.2 (i % 32) 4 []) true))) ∧
  (∀ (s : State) (r : EventRec) (l : List EventRec), s.notify = r :: l →
  (s.fwUp = true → s.mctpReach s.mgt.subscriber = true →
    Ends .eventNotify s (fun t => t.notify = l ∧ t.free = s.free + 1 ∧ t = ({ s with notify := l, free := s.free + 1 } : State).mctpSend
      s.mgt.subscriber (bzBytes 0x80 (128 + (Config.notifyInst s.free).toNat) 0 r.bytes) false)) ∧
  Ends .notifyTimeout s (fun t => t.notify = l ∧ t.rd R.CNT_TEL 0 3 = (s.rd R.CNT_TEL 0 3 + 1) % 2 ^ 64))

/-- The gun (R531 to R536): arming, a fire asked for now, an edge of SNAP_IN, the fire itself, a fire that is missed, and a GUN
packet newer than the last. -/
def Obligations.GunFires : Prop := ∀ s : State,
  (∀ v, v.testBit 7 = false → v.testBit 6 = false → Ends (.gunArm v) s (fun t => t.gunArmed = true ∧ t.chip.gunSeq = 0 ∧
    t.gunTarget = s.gunTarget ∧ t.chip.gunNow = s.chip.gunNow)) ∧
  (∀ v, v.testBit 5 = false → Ends (.gunFireNow v) s (fun t => t.chip.gunNow = true ∧ t.gunArmed = s.gunArmed)) ∧
  (s.rdF R.TEL_GUN_CTRL F.TEL_GUN_CTRL_PIN_EN 0 0 = 1 → Ends .snapIn s (fun t => t.chip.gunPins = s.chip.gunPins ++ [2])) ∧
  (s.rdF R.TEL_GUN_CTRL F.TEL_GUN_CTRL_PIN_EN 0 0 = 0 → exec .snapIn s = .next s) ∧
  (s.gunArmed = true → timeBefore s.ftime s.gunTarget = false → s.rdF R.TEL_GUN_CTRL F.TEL_GUN_CTRL_LOCK 0 0 = 0 →
    s.timeOk = true → Ends .gunFire s (fun t => ∃ (u : State) (n : Nat), t = u.event E.GUN_FIRED 0 (s.ftime % 2 ^ 64) n ∧
      n = (s.snapshot.rdF R.TEL_GUN_STATUS F.TEL_GUN_STATUS_SEQ 0 0 + 1) % 65536 ∧ u.gunArmed = false ∧
      u.rdF R.TEL_GUN_STATUS F.TEL_GUN_STATUS_SEQ 0 0 = n ∧ u.rdF R.TEL_GUN_STATUS F.TEL_GUN_STATUS_FIRED 0 0 = 1 ∧
      u.rd R.TEL_GUN_FIRE_TIME 0 0 = s.ftime % 2 ^ 64)) ∧
  (s.gunArmed = true → timeBefore s.ftime s.gunTarget = false →
    s.rdF R.TEL_GUN_CTRL F.TEL_GUN_CTRL_LOCK 0 0 = 1 → Ends .gunFire s (fun t => ∃ u : State, t = u.event E.GUN_MISSED 0
      s.gunTarget s.chip.gunSeq ∧ u.gunArmed = false ∧ u.rdF R.TEL_GUN_STATUS F.TEL_GUN_STATUS_MISSED 0 0 = 1)) ∧
  (s.gunArmed = false → exec .gunFire s = .next s) ∧
  ∀ b seq, seq = fieldAt b 8 2 →
    (serialNewer 16 seq (s.rdF R.TEL_GUN_STATUS F.TEL_GUN_STATUS_SEQ_IN 0 0) = false → exec (.gun b) s = .next s) ∧
    (serialNewer 16 seq (s.rdF R.TEL_GUN_STATUS F.TEL_GUN_STATUS_SEQ_IN 0 0) = true →
      s.rdF R.TEL_GUN_CTRL F.TEL_GUN_CTRL_GUN_RX_EN 0 0 = 1 → timeBefore (fieldAt b 0 8) s.ftime = false →
      Ends (.gun b) s (fun t => ∃ u : State, t = u.gunSpread (fieldAt b 0 8) seq (fieldAt b 0x0C 2) (fieldAt b 0x0A 1 % 4) ∧
        u.gunArmed = true ∧ u.gunTarget = fieldAt b 0 8 ∧ u.chip.gunSeq = seq ∧
        u.rdF R.TEL_GUN_STATUS F.TEL_GUN_STATUS_SEQ_IN 0 0 = seq))

/-- The test access ports (R560 to R563): the port that is first after a TAP reset keeps access, the scan instructions take effect
only in COLD or in an idle BRINGUP, and IDCODE is Table 19-12's word. -/
def Obligations.TestAccess : Prop := ∀ (s : State) (h : Bool),
  let who := if h then 2 else 1
  (s.pkg.tap = 0 ∨ s.pkg.tap = who →
    (∀ x, Ends (.samplePreload h x) s (fun t => t.pkg.tap = who ∧ t.out = s.out ++ [.tap "BOUNDARY" 3954 (x % 2 ^ 3954)])) ∧
    Ends (.idcode h) s (fun t => t.pkg.tap = who ∧ t.out = s.out ++ [.tap "IDCODE" 32 (atBits 31 28
      (bits (s.rd R.GLB_DEVICE_ID 0 0) 19 16) + atBits 27 12 0x0009 + atBits 11 1 Config.jedecId.toNat + 1)]) ∧
    Ends (.bypass h) s (fun t => t.pkg.tap = who ∧ t.out = s.out ++ [.tap "BYPASS" 1 0]) ∧
    (s.chipState = stCold ∨ s.chipState = stBringup ∧ s.rdF R.GLB_BRINGUP_STATUS F.GLB_BRINGUP_STATUS_BUSY 0 0 = 0 →
      (∀ d x, Ends (.extest h d x) s (fun t => t.pkg.tap = who ∧ t.pkg.scan = true ∧
        t.out = s.out ++ [.pin "EXTEST" d, .tap "BOUNDARY" 3954 (x % 2 ^ 3954)])) ∧
      Ends (.clamp h) s (fun t => t.pkg.scan = true ∧ t.out = s.out ++ [.pin "CLAMP" 1, .tap "BYPASS" 1 0]) ∧
      Ends (.highz h) s (fun t => t.pkg.scan = true ∧ t.out = s.out ++ [.pin "HIGHZ" 1, .tap "BYPASS" 1 0])) ∧
    (s.chipState ≠ stCold → s.chipState ≠ stBringup → ∀ c ∈ [Instr.extest h 0 0, .clamp h, .highz h],
      Ends c s (fun t => t.pkg.scan = s.pkg.scan ∧ t.out = s.out ++ [.tap "BYPASS" 1 0]))) ∧
  (s.pkg.tap ≠ 0 → s.pkg.tap ≠ who → ∀ c ∈ [Instr.extest h 0 0, .samplePreload h 0, .idcode h, .clamp h, .highz h, .bypass h],
    exec c s = .next s) ∧
  exec .tapReset s = .next { s with pkg := { s.pkg with tap := 0 } }

/-- Sensors and power (R528 to R530, R537, R549, R550): what a sample writes and checks; the threshold, hotspot, refresh, throttle
and rail rules; an alert reads the rails' status. Nothing happens before the firmware runs or for a number that is no sensor. -/
def Obligations.SensorSamples : Prop := ∀ (s : State) (id value : Nat) (fault : Bool) (w word n : Nat),
  (∀ ok, s.fwUp = false ∨ id ∉ sensorIds → exec (.sensorSample id value ok fault w word n) s = .next s) ∧
  (∀ l, s.fwUp = false → exec (.pmbusAlert l) s = .next s) ∧
  (s.fwUp = true → id ∈ sensorIds →
    (∀ ok, Ends (.sensorSample id value ok fault w word n) s (fun t => t.mem = s.mem ∧ (s.chip.throttle ≠ 0 →
      t.rd R.CNT_TEL 0 0 = (s.rd R.CNT_TEL 0 0 + n) % 2 ^ 64) ∧ (s.chip.throttle = 0 → t.rd R.CNT_TEL 0 0 = s.rd R.CNT_TEL 0 0))) ∧
    (∀ ok, 32 ≤ id → s.railPresent (railOf id) = false → Ends (.sensorSample id value ok fault w word n) s (fun t =>
      t.rdF R.TEL_SENSOR F.TEL_SENSOR_VALID 0 id = 0 ∧ t.tel = s.tel ∧ t.chip = s.chip)) ∧
    (id < 32 ∨ s.railPresent (railOf id) = true →
      Ends (.sensorSample id value false fault w word n) s (fun t => t.rdF R.TEL_SENSOR F.TEL_SENSOR_STALE 0 id = 1 ∧
        t.rdF R.TEL_SENSOR F.TEL_SENSOR_VALUE 0 id = s.rdF R.TEL_SENSOR F.TEL_SENSOR_VALUE 0 id ∧ t.tel = s.tel ∧ t.chip = s.chip ∧
        (32 ≤ id → t.rd R.CNT_TEL 0 4 = (s.rd R.CNT_TEL 0 4 + 1) % 2 ^ 64)) ∧
      (∀ x v thr was, x = (if id = 26 then s.packagePower else if id = 27 then s.tel.energy / 1000000 else value) → v = sext 32 x →
        thr = sext 32 (s.rd R.TEL_SENSOR_THRESH 0 id) → was = bit s.tel.high id →
        Ends (.sensorSample id value true fault w word n) s (fun t =>
          t.rdF R.TEL_SENSOR F.TEL_SENSOR_VALUE 0 id = x % 2 ^ 32 ∧ t.rdF R.TEL_SENSOR F.TEL_SENSOR_VALID 0 id = 1 ∧
          t.rdF R.TEL_SENSOR F.TEL_SENSOR_STALE 0 id = 0 ∧ Sp.get 0 t.tel.at_ id = s.ftime ∧
          (∀ j, j ≠ id → bit t.tel.high j = bit s.tel.high j) ∧
          bit t.tel.high id = (decide (thr ≠ 0) && (if was = true then decide (100 * thr - (thr.natAbs : Int) < 100 * v) else
            decide (thr < v))) ∧
          (thr ≠ 0 → was = false → thr < v →
            (⟨0x1203, 7, s.leg 0, s.lap 0, id, wrapI 32 v, s.ftime % 2 ^ 64⟩ : EventRec) ∈ t.log) ∧
          (id ≤ 5 → 110 * 256 ≤ v → s.pkg.tripped = false → t.chipState = stFailed ∧ t.pkg.tripped = true ∧
            .pin "THERMTRIP_N" 0 ∈ t.out.drop s.out.length) ∧
          (5 < id ∨ v < 110 * 256 ∨ s.pkg.tripped = true → t.pkg = s.pkg) ∧
          (6 ≤ id → id ≤ 17 → ∀ x2, x2 = s.rdF R.HBM_STATUS F.HBM_STATUS_REFRESH_2X (id - 6) 0 →
            t.rdF R.HBM_STATUS F.HBM_STATUS_REFRESH_2X (id - 6) 0 = (if 85 < (v / 256).toNat then 1 else
              if (v / 256).toNat < 80 then 0 else x2)) ∧
          (id = 26 → t.tel.energy = s.tel.energy + v.toNat ∧ ∀ p, s.enabled p = true → (t.part p).lapPeak =
            max (s.part p).lapPeak (v.toNat / 1000)) ∧
          (id ≠ 26 → t.tel.energy = s.tel.energy) ∧
          (id = 26 → s.chip.throttle = 0 → ((1000 : Int) * s.rdF R.TEL_POWER_CTRL F.TEL_POWER_CTRL_POWER_LIMIT_W 0 0 < v →
            t.chip.throttle = 1 ∧ (t.part 0).lapThrottle = true)) ∧
          (32 ≤ id → s.pkg.por = false → railOf id ≠ 0 → Sp.get 0 t.tel.railWarn (railOf id) = w % 16 ∧
            (fault = true → t.chipState = stFailed) ∧ (fault = false → t.chipState = s.chipState)))))) ∧
  (∀ r, s.fwUp = true → (s.pkg.por = true ∨ s.railPresent r = false ∨ r = 0 ∨ 11 < r →
      exec (.pmbusAlert [(r, fault, w, word)]) s = .next s) ∧
    (s.pkg.por = false → s.railPresent r = true → 0 < r → r ≤ 11 → Ends (.pmbusAlert [(r, fault, w, word)]) s (fun t =>
      t.tel = { s.tel with railWarn := Sp.set 0 s.tel.railWarn r (w % 16) } ∧ t.mem = s.mem ∧
      (fault = true → t.chipState = stFailed ∧ ∀ p, s.enabled p = true → t.pState p = stFailed) ∧
      (fault = false → t.chip = s.chip ∧ ∀ p, t.pState p = s.pState p) ∧
      (∀ i, i < 4 → bit w i = true → bit (Sp.get 0 s.tel.railWarn r) i = false →
        (⟨0x1103, 7, s.leg 0, s.lap 0, r, word, s.ftime % 2 ^ 64⟩ : EventRec) ∈ t.log))))
end

