-- ==== Sys2Proof/Laws/Sparse.lean ====
section
/-! SUPPORT. Laws of sparse maps: reading after writing, and the canonical form. -/

namespace Sys2Proof.Machine

variable {α : Type}

/-! ## Reading after writing -/

/-- Reading after a filter of keys. -/
theorem Sp.find_filter {α : Type} (q : Nat → Bool) (a : Nat) (m : Sp α) :
    Sp.find a (m.filter (fun e => q e.1)) = if q a then Sp.find a m else none := by
  induction m with
  | nil => simp [Sp.find]
  | cons e r ih =>
    obtain ⟨j, v⟩ := e
    by_cases hj : j = a
    · subst hj
      cases hq : q j <;> simp [Sp.find, hq, ih]
    · cases hq : q j <;> simp [Sp.find, hq, hj, ih]

theorem Sp.find_put (m : Sp α) (k j : Nat) (v : α) :
    Sp.find j (Sp.put k v m) = if k = j then some v else Sp.find j m := by
  induction m with
  | nil => by_cases h : k = j <;> simp [Sp.put, Sp.find, h]
  | cons e r ih =>
    obtain ⟨i, w⟩ := e
    by_cases h1 : i = k
    · subst h1
      by_cases h2 : i = j <;> simp [Sp.put, Sp.find, h2]
    · by_cases h3 : k < i
      · simp [Sp.put, Sp.find, h1, h3]
      · simp only [Sp.put, h1, h3, if_false, Sp.find, ih]
        by_cases h4 : i = j
        · have : k ≠ j := fun h => h1 (h4.trans h.symm)
          simp [h4, this]
        · simp [h4]

theorem Sp.find_none_of_lt {m : Sp α} {k : Nat} (h : ∀ e ∈ m, k < e.1) : Sp.find k m = none := by
  induction m with
  | nil => rfl
  | cons e r ih =>
    have h0 : k < e.1 := h e (by simp)
    have : e.1 ≠ k := by omega
    simp only [Sp.find, this, if_false]
    exact ih (fun e he => h e (by simp [he]))

theorem Sp.mem_del {m : Sp α} {k : Nat} {e : Nat × α} (h : e ∈ Sp.del k m) : e ∈ m := by
  induction m with
  | nil => exact h
  | cons f r ih =>
    obtain ⟨i, w⟩ := f
    by_cases h1 : i = k
    · simp only [Sp.del, h1, if_true] at h
      exact List.mem_cons_of_mem _ (ih h)
    · simp only [Sp.del, h1, if_false, List.mem_cons] at h
      rcases h with h | h
      · simp [h]
      · exact List.mem_cons_of_mem _ (ih h)

theorem Sp.find_del (m : Sp α) (k j : Nat) :
    Sp.find j (Sp.del k m) = if k = j then none else Sp.find j m := by
  induction m with
  | nil => simp [Sp.del, Sp.find]
  | cons e r ih =>
    obtain ⟨i, w⟩ := e
    by_cases h1 : i = k
    · subst h1
      rw [Sp.del, if_pos rfl, ih]
      by_cases h2 : i = j <;> simp [Sp.find, h2]
    · simp only [Sp.del, h1, if_false, Sp.find, ih]
      by_cases h4 : i = j
      · have : k ≠ j := fun h => h1 (h4.trans h.symm)
        simp [h4, this]
      · simp [h4]

/-- Reading a map after a write. -/
theorem Sp.get_set [DecidableEq α] {d : α} (m : Sp α) (k j : Nat) (v : α) :
    Sp.get d (Sp.set d m k v) j = if k = j then v else Sp.get d m j := by
  unfold Sp.set Sp.get
  split
  · rename_i hv
    rw [Sp.find_del]
    by_cases h : k = j <;> simp [h, hv]
  · rw [Sp.find_put]
    by_cases h : k = j <;> simp [h]

/-! ## The canonical form -/

theorem Sp.mem_put {m : Sp α} {k : Nat} {v : α} {e : Nat × α} (h : e ∈ Sp.put k v m) : e = (k, v) ∨ e ∈ m := by
  induction m with
  | nil => simp only [Sp.put, List.mem_singleton] at h; exact .inl h
  | cons f r ih =>
    obtain ⟨i, w⟩ := f
    simp only [Sp.put] at h
    split at h
    · rcases List.mem_cons.mp h with h | h
      · exact .inl h
      · exact .inr (List.mem_cons_of_mem _ h)
    · split at h
      · rcases List.mem_cons.mp h with h | h
        · exact .inl h
        · exact .inr h
      · rcases List.mem_cons.mp h with h | h
        · exact .inr (by simp [h])
        · exact (ih h).imp id (List.mem_cons_of_mem _)

theorem Sp.sorted_put {m : Sp α} (h : Sp.Sorted m) (k : Nat) (v : α) : Sp.Sorted (Sp.put k v m) := by
  induction m with
  | nil => exact List.pairwise_singleton _ _
  | cons f r ih =>
    obtain ⟨i, w⟩ := f
    have hr := List.pairwise_cons.mp h
    simp only [Sp.put]
    split
    · rename_i he
      exact List.pairwise_cons.mpr ⟨fun e he' => he ▸ hr.1 e he', hr.2⟩
    · split
      · rename_i hlt
        refine List.pairwise_cons.mpr ⟨fun e he => ?_, h⟩
        rcases List.mem_cons.mp he with he | he
        · subst he; exact hlt
        · exact Nat.lt_trans hlt (hr.1 e he)
      · rename_i h1 h2
        refine List.pairwise_cons.mpr ⟨fun e he => ?_, ih hr.2⟩
        rcases Sp.mem_put he with he | he
        · subst he; show i < k; omega
        · exact hr.1 e he

theorem Sp.sorted_del {m : Sp α} (h : Sp.Sorted m) (k : Nat) : Sp.Sorted (Sp.del k m) := by
  induction m with
  | nil => exact List.Pairwise.nil
  | cons f r ih =>
    obtain ⟨i, w⟩ := f
    have hr := List.pairwise_cons.mp h
    simp only [Sp.del]
    split
    · exact ih hr.2
    · exact List.pairwise_cons.mpr ⟨fun e he => hr.1 e (Sp.mem_del he), ih hr.2⟩

theorem Sp.sorted_filter {m : Sp α} (h : Sp.Sorted m) (f : Nat × α → Bool) : Sp.Sorted (m.filter f) :=
  List.Pairwise.filter f h

theorem Sp.sorted_putAll {m l : Sp α} (h : Sp.Sorted m) (g : Nat → Nat) :
    Sp.Sorted (l.foldl (fun m e => Sp.put (g e.1) e.2 m) m) := by
  induction l generalizing m with
  | nil => exact h
  | cons e r ih => exact ih (Sp.sorted_put h _ _)

theorem Sp.wf_nil {d : α} : Sp.wf d ([] : Sp α) := ⟨List.Pairwise.nil, fun _ he => nomatch he⟩

theorem Sp.wf_set [DecidableEq α] {d : α} {m : Sp α} (h : Sp.wf d m) (k : Nat) (v : α) : Sp.wf d (Sp.set d m k v) := by
  unfold Sp.set
  split
  · exact ⟨Sp.sorted_del h.1 k, fun e he => h.2 e (Sp.mem_del he)⟩
  · rename_i hv
    refine ⟨Sp.sorted_put h.1 k v, fun e he => ?_⟩
    rcases Sp.mem_put he with he | he
    · subst he; exact hv
    · exact h.2 e he

theorem Sp.wf_upd [DecidableEq α] {d : α} {m : Sp α} (h : Sp.wf d m) (k : Nat) (f : α → α) : Sp.wf d (Sp.upd d m k f) :=
  Sp.wf_set h k _

theorem Sp.wf_filter {d : α} {m : Sp α} (h : Sp.wf d m) (f : Nat × α → Bool) : Sp.wf d (m.filter f) :=
  ⟨Sp.sorted_filter h.1 f, fun e he => h.2 e (List.mem_filter.mp he).1⟩

theorem Sp.wf_clearRange {d : α} {m : Sp α} (h : Sp.wf d m) (a b : Nat) : Sp.wf d (Sp.clearRange a b m) :=
  Sp.wf_filter h _

/-- Changing values, keys kept, and dropping what became the default. -/
theorem Sp.wf_mapFilter [BEq α] [LawfulBEq α] {d : α} {m : Sp α} (h : Sp.wf d m) (g : Nat × α → Nat × α)
    (hg : ∀ e, (g e).1 = e.1) : Sp.wf d ((m.map g).filter (fun e => e.2 != d)) := by
  constructor
  · refine List.Pairwise.filter _ (List.pairwise_map.mpr (h.1.imp ?_))
    intro a b hab
    rw [hg, hg]; exact hab
  · intro e he
    have := (List.mem_filter.mp he).2
    simpa using this

/-- Storing bytes keeps a memory canonical. -/
theorem storeRaw_wf {m : List Host.Cell} (h : Sp.wf 0 m) (a : Nat) (bs : List Byte) : Sp.wf 0 (storeRaw m a bs) := by
  induction bs generalizing m a with
  | nil => exact h
  | cons b r ih => exact ih (Sp.wf_set h a b) (a + 1)

/-- A byte read after a store: the stored byte inside the range, what was there outside it. -/
theorem storeRaw_get (m : List Host.Cell) (a j : Nat) (bs : List Byte) :
    Sp.get 0 (storeRaw m a bs) j = if a ≤ j ∧ j < a + bs.length then bs.getD (j - a) 0 else Sp.get 0 m j := by
  induction bs generalizing m a with
  | nil =>
    rw [if_neg (by simp only [List.length_nil]; omega)]
    rfl
  | cons b r ih =>
    rw [storeRaw, ih _ (a + 1), Sp.get_set]
    by_cases h1 : a = j
    · subst h1
      rw [if_neg (by omega), if_pos rfl, if_pos (by simp only [List.length_cons]; omega), Nat.sub_self]
      rfl
    · by_cases h2 : a + 1 ≤ j ∧ j < a + 1 + r.length
      · rw [if_pos h2, if_pos (by simp only [List.length_cons]; omega), show j - a = (j - (a + 1)) + 1 by omega]
        rfl
      · rw [if_neg h2, if_neg h1, if_neg (by simp only [List.length_cons]; omega)]

end Sys2Proof.Machine
end

