-- ==== Sys2Proof/Laws/State.lean ====
section
/-! SUPPORT. The state's fields after each of the base operations, and what a register, a partition, a core or a port reads
as after a write of it. -/

namespace Sys2Proof.Machine

variable (s : State)

/-! ### wr -/

@[simp] theorem State.wr_pending (c : Card) (u k v : Nat) : (s.wr c u k v).pending = s.pending := rfl
@[simp] theorem State.wr_mem (c : Card) (u k v : Nat) : (s.wr c u k v).mem = s.mem := rfl
@[simp] theorem State.wr_gran (c : Card) (u k v : Nat) : (s.wr c u k v).gran = s.gran := rfl
@[simp] theorem State.wr_parts (c : Card) (u k v : Nat) : (s.wr c u k v).parts = s.parts := rfl
@[simp] theorem State.wr_chip (c : Card) (u k v : Nat) : (s.wr c u k v).chip = s.chip := rfl
@[simp] theorem State.wr_cores (c : Card) (u k v : Nat) : (s.wr c u k v).cores = s.cores := rfl
@[simp] theorem State.wr_hubs (c : Card) (u k v : Nat) : (s.wr c u k v).hubs = s.hubs := rfl
@[simp] theorem State.wr_greqs (c : Card) (u k v : Nat) : (s.wr c u k v).greqs = s.greqs := rfl
@[simp] theorem State.wr_greqNext (c : Card) (u k v : Nat) : (s.wr c u k v).greqNext = s.greqNext := rfl
@[simp] theorem State.wr_phys (c : Card) (u k v : Nat) : (s.wr c u k v).phys = s.phys := rfl
@[simp] theorem State.wr_scrubPos (c : Card) (u k v : Nat) : (s.wr c u k v).scrubPos = s.scrubPos := rfl
@[simp] theorem State.wr_scrubRows (c : Card) (u k v : Nat) : (s.wr c u k v).scrubRows = s.scrubRows := rfl
@[simp] theorem State.wr_repair (c : Card) (u k v : Nat) : (s.wr c u k v).repair = s.repair := rfl
@[simp] theorem State.wr_pools (c : Card) (u k v : Nat) : (s.wr c u k v).pools = s.pools := rfl
@[simp] theorem State.wr_sweeps (c : Card) (u k v : Nat) : (s.wr c u k v).sweeps = s.sweeps := rfl
@[simp] theorem State.wr_log (c : Card) (u k v : Nat) : (s.wr c u k v).log = s.log := rfl
@[simp] theorem State.wr_logNext (c : Card) (u k v : Nat) : (s.wr c u k v).logNext = s.logNext := rfl
@[simp] theorem State.wr_logLost (c : Card) (u k v : Nat) : (s.wr c u k v).logLost = s.logLost := rfl
@[simp] theorem State.wr_subMask (c : Card) (u k v : Nat) : (s.wr c u k v).subMask = s.subMask := rfl
@[simp] theorem State.wr_notify (c : Card) (u k v : Nat) : (s.wr c u k v).notify = s.notify := rfl
@[simp] theorem State.wr_store (c : Card) (u k v : Nat) : (s.wr c u k v).store = s.store := rfl
@[simp] theorem State.wr_host (c : Card) (u k v : Nat) : (s.wr c u k v).host = s.host := rfl
@[simp] theorem State.wr_sec (c : Card) (u k v : Nat) : (s.wr c u k v).sec = s.sec := rfl
@[simp] theorem State.wr_mgt (c : Card) (u k v : Nat) : (s.wr c u k v).mgt = s.mgt := rfl
@[simp] theorem State.wr_tel (c : Card) (u k v : Nat) : (s.wr c u k v).tel = s.tel := rfl
@[simp] theorem State.wr_pkg (c : Card) (u k v : Nat) : (s.wr c u k v).pkg = s.pkg := rfl
@[simp] theorem State.wr_windows (c : Card) (u k v : Nat) : (s.wr c u k v).windows = s.windows := rfl
@[simp] theorem State.wr_ports (c : Card) (u k v : Nat) : (s.wr c u k v).ports = s.ports := rfl
@[simp] theorem State.wr_heldPkts (c : Card) (u k v : Nat) : (s.wr c u k v).heldPkts = s.heldPkts := rfl
@[simp] theorem State.wr_tagUse (c : Card) (u k v : Nat) : (s.wr c u k v).tagUse = s.tagUse := rfl
@[simp] theorem State.wr_tagGen (c : Card) (u k v : Nat) : (s.wr c u k v).tagGen = s.tagGen := rfl
@[simp] theorem State.wr_ftime (c : Card) (u k v : Nat) : (s.wr c u k v).ftime = s.ftime := rfl
@[simp] theorem State.wr_ffrac (c : Card) (u k v : Nat) : (s.wr c u k v).ffrac = s.ffrac := rfl
@[simp] theorem State.wr_finc (c : Card) (u k v : Nat) : (s.wr c u k v).finc = s.finc := rfl
@[simp] theorem State.wr_out (c : Card) (u k v : Nat) : (s.wr c u k v).out = s.out := rfl
@[simp] theorem State.wr_free (c : Card) (u k v : Nat) : (s.wr c u k v).free = s.free := rfl
@[simp] theorem State.wr_part (c : Card) (u k v : Nat) (j : Nat) : (s.wr c u k v).part j = s.part j := rfl
@[simp] theorem State.wr_core (c : Card) (u k v : Nat) (j : Nat) : (s.wr c u k v).core j = s.core j := rfl
@[simp] theorem State.wr_hub (c : Card) (u k v : Nat) (j : Nat) : (s.wr c u k v).hub j = s.hub j := rfl
@[simp] theorem State.wr_port (c : Card) (u k v : Nat) (j : Nat) : (s.wr c u k v).port j = s.port j := rfl

/-! ### wrEff -/

@[simp] theorem State.wrEff_pending (c : Card) (u k v : Nat) : (s.wrEff c u k v).pending = s.pending := rfl
@[simp] theorem State.wrEff_mem (c : Card) (u k v : Nat) : (s.wrEff c u k v).mem = s.mem := rfl
@[simp] theorem State.wrEff_gran (c : Card) (u k v : Nat) : (s.wrEff c u k v).gran = s.gran := rfl
@[simp] theorem State.wrEff_parts (c : Card) (u k v : Nat) : (s.wrEff c u k v).parts = s.parts := rfl
@[simp] theorem State.wrEff_chip (c : Card) (u k v : Nat) : (s.wrEff c u k v).chip = s.chip := rfl
@[simp] theorem State.wrEff_cores (c : Card) (u k v : Nat) : (s.wrEff c u k v).cores = s.cores := rfl
@[simp] theorem State.wrEff_hubs (c : Card) (u k v : Nat) : (s.wrEff c u k v).hubs = s.hubs := rfl
@[simp] theorem State.wrEff_greqs (c : Card) (u k v : Nat) : (s.wrEff c u k v).greqs = s.greqs := rfl
@[simp] theorem State.wrEff_greqNext (c : Card) (u k v : Nat) : (s.wrEff c u k v).greqNext = s.greqNext := rfl
@[simp] theorem State.wrEff_phys (c : Card) (u k v : Nat) : (s.wrEff c u k v).phys = s.phys := rfl
@[simp] theorem State.wrEff_scrubPos (c : Card) (u k v : Nat) : (s.wrEff c u k v).scrubPos = s.scrubPos := rfl
@[simp] theorem State.wrEff_scrubRows (c : Card) (u k v : Nat) : (s.wrEff c u k v).scrubRows = s.scrubRows := rfl
@[simp] theorem State.wrEff_repair (c : Card) (u k v : Nat) : (s.wrEff c u k v).repair = s.repair := rfl
@[simp] theorem State.wrEff_pools (c : Card) (u k v : Nat) : (s.wrEff c u k v).pools = s.pools := rfl
@[simp] theorem State.wrEff_sweeps (c : Card) (u k v : Nat) : (s.wrEff c u k v).sweeps = s.sweeps := rfl
@[simp] theorem State.wrEff_log (c : Card) (u k v : Nat) : (s.wrEff c u k v).log = s.log := rfl
@[simp] theorem State.wrEff_logNext (c : Card) (u k v : Nat) : (s.wrEff c u k v).logNext = s.logNext := rfl
@[simp] theorem State.wrEff_logLost (c : Card) (u k v : Nat) : (s.wrEff c u k v).logLost = s.logLost := rfl
@[simp] theorem State.wrEff_subMask (c : Card) (u k v : Nat) : (s.wrEff c u k v).subMask = s.subMask := rfl
@[simp] theorem State.wrEff_notify (c : Card) (u k v : Nat) : (s.wrEff c u k v).notify = s.notify := rfl
@[simp] theorem State.wrEff_store (c : Card) (u k v : Nat) : (s.wrEff c u k v).store = s.store := rfl
@[simp] theorem State.wrEff_host (c : Card) (u k v : Nat) : (s.wrEff c u k v).host = s.host := rfl
@[simp] theorem State.wrEff_sec (c : Card) (u k v : Nat) : (s.wrEff c u k v).sec = s.sec := rfl
@[simp] theorem State.wrEff_mgt (c : Card) (u k v : Nat) : (s.wrEff c u k v).mgt = s.mgt := rfl
@[simp] theorem State.wrEff_tel (c : Card) (u k v : Nat) : (s.wrEff c u k v).tel = s.tel := rfl
@[simp] theorem State.wrEff_pkg (c : Card) (u k v : Nat) : (s.wrEff c u k v).pkg = s.pkg := rfl
@[simp] theorem State.wrEff_windows (c : Card) (u k v : Nat) : (s.wrEff c u k v).windows = s.windows := rfl
@[simp] theorem State.wrEff_ports (c : Card) (u k v : Nat) : (s.wrEff c u k v).ports = s.ports := rfl
@[simp] theorem State.wrEff_heldPkts (c : Card) (u k v : Nat) : (s.wrEff c u k v).heldPkts = s.heldPkts := rfl
@[simp] theorem State.wrEff_tagUse (c : Card) (u k v : Nat) : (s.wrEff c u k v).tagUse = s.tagUse := rfl
@[simp] theorem State.wrEff_tagGen (c : Card) (u k v : Nat) : (s.wrEff c u k v).tagGen = s.tagGen := rfl
@[simp] theorem State.wrEff_ftime (c : Card) (u k v : Nat) : (s.wrEff c u k v).ftime = s.ftime := rfl
@[simp] theorem State.wrEff_ffrac (c : Card) (u k v : Nat) : (s.wrEff c u k v).ffrac = s.ffrac := rfl
@[simp] theorem State.wrEff_finc (c : Card) (u k v : Nat) : (s.wrEff c u k v).finc = s.finc := rfl
@[simp] theorem State.wrEff_out (c : Card) (u k v : Nat) : (s.wrEff c u k v).out = s.out := rfl
@[simp] theorem State.wrEff_free (c : Card) (u k v : Nat) : (s.wrEff c u k v).free = s.free := rfl
@[simp] theorem State.wrEff_part (c : Card) (u k v : Nat) (j : Nat) : (s.wrEff c u k v).part j = s.part j := rfl
@[simp] theorem State.wrEff_core (c : Card) (u k v : Nat) (j : Nat) : (s.wrEff c u k v).core j = s.core j := rfl
@[simp] theorem State.wrEff_hub (c : Card) (u k v : Nat) (j : Nat) : (s.wrEff c u k v).hub j = s.hub j := rfl
@[simp] theorem State.wrEff_port (c : Card) (u k v : Nat) (j : Nat) : (s.wrEff c u k v).port j = s.port j := rfl

/-! ### wrF -/

@[simp] theorem State.wrF_pending (c : Card) (f : Fld) (u k v : Nat) : (s.wrF c f u k v).pending = s.pending := rfl
@[simp] theorem State.wrF_mem (c : Card) (f : Fld) (u k v : Nat) : (s.wrF c f u k v).mem = s.mem := rfl
@[simp] theorem State.wrF_gran (c : Card) (f : Fld) (u k v : Nat) : (s.wrF c f u k v).gran = s.gran := rfl
@[simp] theorem State.wrF_parts (c : Card) (f : Fld) (u k v : Nat) : (s.wrF c f u k v).parts = s.parts := rfl
@[simp] theorem State.wrF_chip (c : Card) (f : Fld) (u k v : Nat) : (s.wrF c f u k v).chip = s.chip := rfl
@[simp] theorem State.wrF_cores (c : Card) (f : Fld) (u k v : Nat) : (s.wrF c f u k v).cores = s.cores := rfl
@[simp] theorem State.wrF_hubs (c : Card) (f : Fld) (u k v : Nat) : (s.wrF c f u k v).hubs = s.hubs := rfl
@[simp] theorem State.wrF_greqs (c : Card) (f : Fld) (u k v : Nat) : (s.wrF c f u k v).greqs = s.greqs := rfl
@[simp] theorem State.wrF_greqNext (c : Card) (f : Fld) (u k v : Nat) : (s.wrF c f u k v).greqNext = s.greqNext := rfl
@[simp] theorem State.wrF_phys (c : Card) (f : Fld) (u k v : Nat) : (s.wrF c f u k v).phys = s.phys := rfl
@[simp] theorem State.wrF_scrubPos (c : Card) (f : Fld) (u k v : Nat) : (s.wrF c f u k v).scrubPos = s.scrubPos := rfl
@[simp] theorem State.wrF_scrubRows (c : Card) (f : Fld) (u k v : Nat) : (s.wrF c f u k v).scrubRows = s.scrubRows := rfl
@[simp] theorem State.wrF_repair (c : Card) (f : Fld) (u k v : Nat) : (s.wrF c f u k v).repair = s.repair := rfl
@[simp] theorem State.wrF_pools (c : Card) (f : Fld) (u k v : Nat) : (s.wrF c f u k v).pools = s.pools := rfl
@[simp] theorem State.wrF_sweeps (c : Card) (f : Fld) (u k v : Nat) : (s.wrF c f u k v).sweeps = s.sweeps := rfl
@[simp] theorem State.wrF_log (c : Card) (f : Fld) (u k v : Nat) : (s.wrF c f u k v).log = s.log := rfl
@[simp] theorem State.wrF_logNext (c : Card) (f : Fld) (u k v : Nat) : (s.wrF c f u k v).logNext = s.logNext := rfl
@[simp] theorem State.wrF_logLost (c : Card) (f : Fld) (u k v : Nat) : (s.wrF c f u k v).logLost = s.logLost := rfl
@[simp] theorem State.wrF_subMask (c : Card) (f : Fld) (u k v : Nat) : (s.wrF c f u k v).subMask = s.subMask := rfl
@[simp] theorem State.wrF_notify (c : Card) (f : Fld) (u k v : Nat) : (s.wrF c f u k v).notify = s.notify := rfl
@[simp] theorem State.wrF_store (c : Card) (f : Fld) (u k v : Nat) : (s.wrF c f u k v).store = s.store := rfl
@[simp] theorem State.wrF_host (c : Card) (f : Fld) (u k v : Nat) : (s.wrF c f u k v).host = s.host := rfl
@[simp] theorem State.wrF_sec (c : Card) (f : Fld) (u k v : Nat) : (s.wrF c f u k v).sec = s.sec := rfl
@[simp] theorem State.wrF_mgt (c : Card) (f : Fld) (u k v : Nat) : (s.wrF c f u k v).mgt = s.mgt := rfl
@[simp] theorem State.wrF_tel (c : Card) (f : Fld) (u k v : Nat) : (s.wrF c f u k v).tel = s.tel := rfl
@[simp] theorem State.wrF_pkg (c : Card) (f : Fld) (u k v : Nat) : (s.wrF c f u k v).pkg = s.pkg := rfl
@[simp] theorem State.wrF_windows (c : Card) (f : Fld) (u k v : Nat) : (s.wrF c f u k v).windows = s.windows := rfl
@[simp] theorem State.wrF_ports (c : Card) (f : Fld) (u k v : Nat) : (s.wrF c f u k v).ports = s.ports := rfl
@[simp] theorem State.wrF_heldPkts (c : Card) (f : Fld) (u k v : Nat) : (s.wrF c f u k v).heldPkts = s.heldPkts := rfl
@[simp] theorem State.wrF_tagUse (c : Card) (f : Fld) (u k v : Nat) : (s.wrF c f u k v).tagUse = s.tagUse := rfl
@[simp] theorem State.wrF_tagGen (c : Card) (f : Fld) (u k v : Nat) : (s.wrF c f u k v).tagGen = s.tagGen := rfl
@[simp] theorem State.wrF_ftime (c : Card) (f : Fld) (u k v : Nat) : (s.wrF c f u k v).ftime = s.ftime := rfl
@[simp] theorem State.wrF_ffrac (c : Card) (f : Fld) (u k v : Nat) : (s.wrF c f u k v).ffrac = s.ffrac := rfl
@[simp] theorem State.wrF_finc (c : Card) (f : Fld) (u k v : Nat) : (s.wrF c f u k v).finc = s.finc := rfl
@[simp] theorem State.wrF_out (c : Card) (f : Fld) (u k v : Nat) : (s.wrF c f u k v).out = s.out := rfl
@[simp] theorem State.wrF_free (c : Card) (f : Fld) (u k v : Nat) : (s.wrF c f u k v).free = s.free := rfl
@[simp] theorem State.wrF_part (c : Card) (f : Fld) (u k v : Nat) (j : Nat) : (s.wrF c f u k v).part j = s.part j := rfl
@[simp] theorem State.wrF_core (c : Card) (f : Fld) (u k v : Nat) (j : Nat) : (s.wrF c f u k v).core j = s.core j := rfl
@[simp] theorem State.wrF_hub (c : Card) (f : Fld) (u k v : Nat) (j : Nat) : (s.wrF c f u k v).hub j = s.hub j := rfl
@[simp] theorem State.wrF_port (c : Card) (f : Fld) (u k v : Nat) (j : Nat) : (s.wrF c f u k v).port j = s.port j := rfl

/-! ### wrFs -/

@[simp] theorem State.wrFs_pending (c : Card) (u k : Nat) (l : List (Fld × Nat)) : (s.wrFs c u k l).pending = s.pending := rfl
@[simp] theorem State.wrFs_mem (c : Card) (u k : Nat) (l : List (Fld × Nat)) : (s.wrFs c u k l).mem = s.mem := rfl
@[simp] theorem State.wrFs_gran (c : Card) (u k : Nat) (l : List (Fld × Nat)) : (s.wrFs c u k l).gran = s.gran := rfl
@[simp] theorem State.wrFs_parts (c : Card) (u k : Nat) (l : List (Fld × Nat)) : (s.wrFs c u k l).parts = s.parts := rfl
@[simp] theorem State.wrFs_chip (c : Card) (u k : Nat) (l : List (Fld × Nat)) : (s.wrFs c u k l).chip = s.chip := rfl
@[simp] theorem State.wrFs_cores (c : Card) (u k : Nat) (l : List (Fld × Nat)) : (s.wrFs c u k l).cores = s.cores := rfl
@[simp] theorem State.wrFs_hubs (c : Card) (u k : Nat) (l : List (Fld × Nat)) : (s.wrFs c u k l).hubs = s.hubs := rfl
@[simp] theorem State.wrFs_greqs (c : Card) (u k : Nat) (l : List (Fld × Nat)) : (s.wrFs c u k l).greqs = s.greqs := rfl
@[simp] theorem State.wrFs_greqNext (c : Card) (u k : Nat) (l : List (Fld × Nat)) : (s.wrFs c u k l).greqNext = s.greqNext := rfl
@[simp] theorem State.wrFs_phys (c : Card) (u k : Nat) (l : List (Fld × Nat)) : (s.wrFs c u k l).phys = s.phys := rfl
@[simp] theorem State.wrFs_scrubPos (c : Card) (u k : Nat) (l : List (Fld × Nat)) : (s.wrFs c u k l).scrubPos = s.scrubPos := rfl
@[simp] theorem State.wrFs_scrubRows (c : Card) (u k : Nat) (l : List (Fld × Nat)) : (s.wrFs c u k l).scrubRows = s.scrubRows := rfl
@[simp] theorem State.wrFs_repair (c : Card) (u k : Nat) (l : List (Fld × Nat)) : (s.wrFs c u k l).repair = s.repair := rfl
@[simp] theorem State.wrFs_pools (c : Card) (u k : Nat) (l : List (Fld × Nat)) : (s.wrFs c u k l).pools = s.pools := rfl
@[simp] theorem State.wrFs_sweeps (c : Card) (u k : Nat) (l : List (Fld × Nat)) : (s.wrFs c u k l).sweeps = s.sweeps := rfl
@[simp] theorem State.wrFs_log (c : Card) (u k : Nat) (l : List (Fld × Nat)) : (s.wrFs c u k l).log = s.log := rfl
@[simp] theorem State.wrFs_logNext (c : Card) (u k : Nat) (l : List (Fld × Nat)) : (s.wrFs c u k l).logNext = s.logNext := rfl
@[simp] theorem State.wrFs_logLost (c : Card) (u k : Nat) (l : List (Fld × Nat)) : (s.wrFs c u k l).logLost = s.logLost := rfl
@[simp] theorem State.wrFs_subMask (c : Card) (u k : Nat) (l : List (Fld × Nat)) : (s.wrFs c u k l).subMask = s.subMask := rfl
@[simp] theorem State.wrFs_notify (c : Card) (u k : Nat) (l : List (Fld × Nat)) : (s.wrFs c u k l).notify = s.notify := rfl
@[simp] theorem State.wrFs_store (c : Card) (u k : Nat) (l : List (Fld × Nat)) : (s.wrFs c u k l).store = s.store := rfl
@[simp] theorem State.wrFs_host (c : Card) (u k : Nat) (l : List (Fld × Nat)) : (s.wrFs c u k l).host = s.host := rfl
@[simp] theorem State.wrFs_sec (c : Card) (u k : Nat) (l : List (Fld × Nat)) : (s.wrFs c u k l).sec = s.sec := rfl
@[simp] theorem State.wrFs_mgt (c : Card) (u k : Nat) (l : List (Fld × Nat)) : (s.wrFs c u k l).mgt = s.mgt := rfl
@[simp] theorem State.wrFs_tel (c : Card) (u k : Nat) (l : List (Fld × Nat)) : (s.wrFs c u k l).tel = s.tel := rfl
@[simp] theorem State.wrFs_pkg (c : Card) (u k : Nat) (l : List (Fld × Nat)) : (s.wrFs c u k l).pkg = s.pkg := rfl
@[simp] theorem State.wrFs_windows (c : Card) (u k : Nat) (l : List (Fld × Nat)) : (s.wrFs c u k l).windows = s.windows := rfl
@[simp] theorem State.wrFs_ports (c : Card) (u k : Nat) (l : List (Fld × Nat)) : (s.wrFs c u k l).ports = s.ports := rfl
@[simp] theorem State.wrFs_heldPkts (c : Card) (u k : Nat) (l : List (Fld × Nat)) : (s.wrFs c u k l).heldPkts = s.heldPkts := rfl
@[simp] theorem State.wrFs_tagUse (c : Card) (u k : Nat) (l : List (Fld × Nat)) : (s.wrFs c u k l).tagUse = s.tagUse := rfl
@[simp] theorem State.wrFs_tagGen (c : Card) (u k : Nat) (l : List (Fld × Nat)) : (s.wrFs c u k l).tagGen = s.tagGen := rfl
@[simp] theorem State.wrFs_ftime (c : Card) (u k : Nat) (l : List (Fld × Nat)) : (s.wrFs c u k l).ftime = s.ftime := rfl
@[simp] theorem State.wrFs_ffrac (c : Card) (u k : Nat) (l : List (Fld × Nat)) : (s.wrFs c u k l).ffrac = s.ffrac := rfl
@[simp] theorem State.wrFs_finc (c : Card) (u k : Nat) (l : List (Fld × Nat)) : (s.wrFs c u k l).finc = s.finc := rfl
@[simp] theorem State.wrFs_out (c : Card) (u k : Nat) (l : List (Fld × Nat)) : (s.wrFs c u k l).out = s.out := rfl
@[simp] theorem State.wrFs_free (c : Card) (u k : Nat) (l : List (Fld × Nat)) : (s.wrFs c u k l).free = s.free := rfl
@[simp] theorem State.wrFs_part (c : Card) (u k : Nat) (l : List (Fld × Nat)) (j : Nat) : (s.wrFs c u k l).part j = s.part j := rfl
@[simp] theorem State.wrFs_core (c : Card) (u k : Nat) (l : List (Fld × Nat)) (j : Nat) : (s.wrFs c u k l).core j = s.core j := rfl
@[simp] theorem State.wrFs_hub (c : Card) (u k : Nat) (l : List (Fld × Nat)) (j : Nat) : (s.wrFs c u k l).hub j = s.hub j := rfl
@[simp] theorem State.wrFs_port (c : Card) (u k : Nat) (l : List (Fld × Nat)) (j : Nat) : (s.wrFs c u k l).port j = s.port j := rfl

/-! ### count -/

@[simp] theorem State.count_pending (c : Card) (u i n : Nat) : (s.count c u i n).pending = s.pending := rfl
@[simp] theorem State.count_mem (c : Card) (u i n : Nat) : (s.count c u i n).mem = s.mem := rfl
@[simp] theorem State.count_gran (c : Card) (u i n : Nat) : (s.count c u i n).gran = s.gran := rfl
@[simp] theorem State.count_parts (c : Card) (u i n : Nat) : (s.count c u i n).parts = s.parts := rfl
@[simp] theorem State.count_chip (c : Card) (u i n : Nat) : (s.count c u i n).chip = s.chip := rfl
@[simp] theorem State.count_cores (c : Card) (u i n : Nat) : (s.count c u i n).cores = s.cores := rfl
@[simp] theorem State.count_hubs (c : Card) (u i n : Nat) : (s.count c u i n).hubs = s.hubs := rfl
@[simp] theorem State.count_greqs (c : Card) (u i n : Nat) : (s.count c u i n).greqs = s.greqs := rfl
@[simp] theorem State.count_greqNext (c : Card) (u i n : Nat) : (s.count c u i n).greqNext = s.greqNext := rfl
@[simp] theorem State.count_phys (c : Card) (u i n : Nat) : (s.count c u i n).phys = s.phys := rfl
@[simp] theorem State.count_scrubPos (c : Card) (u i n : Nat) : (s.count c u i n).scrubPos = s.scrubPos := rfl
@[simp] theorem State.count_scrubRows (c : Card) (u i n : Nat) : (s.count c u i n).scrubRows = s.scrubRows := rfl
@[simp] theorem State.count_repair (c : Card) (u i n : Nat) : (s.count c u i n).repair = s.repair := rfl
@[simp] theorem State.count_pools (c : Card) (u i n : Nat) : (s.count c u i n).pools = s.pools := rfl
@[simp] theorem State.count_sweeps (c : Card) (u i n : Nat) : (s.count c u i n).sweeps = s.sweeps := rfl
@[simp] theorem State.count_log (c : Card) (u i n : Nat) : (s.count c u i n).log = s.log := rfl
@[simp] theorem State.count_logNext (c : Card) (u i n : Nat) : (s.count c u i n).logNext = s.logNext := rfl
@[simp] theorem State.count_logLost (c : Card) (u i n : Nat) : (s.count c u i n).logLost = s.logLost := rfl
@[simp] theorem State.count_subMask (c : Card) (u i n : Nat) : (s.count c u i n).subMask = s.subMask := rfl
@[simp] theorem State.count_notify (c : Card) (u i n : Nat) : (s.count c u i n).notify = s.notify := rfl
@[simp] theorem State.count_store (c : Card) (u i n : Nat) : (s.count c u i n).store = s.store := rfl
@[simp] theorem State.count_host (c : Card) (u i n : Nat) : (s.count c u i n).host = s.host := rfl
@[simp] theorem State.count_sec (c : Card) (u i n : Nat) : (s.count c u i n).sec = s.sec := rfl
@[simp] theorem State.count_mgt (c : Card) (u i n : Nat) : (s.count c u i n).mgt = s.mgt := rfl
@[simp] theorem State.count_tel (c : Card) (u i n : Nat) : (s.count c u i n).tel = s.tel := rfl
@[simp] theorem State.count_pkg (c : Card) (u i n : Nat) : (s.count c u i n).pkg = s.pkg := rfl
@[simp] theorem State.count_windows (c : Card) (u i n : Nat) : (s.count c u i n).windows = s.windows := rfl
@[simp] theorem State.count_ports (c : Card) (u i n : Nat) : (s.count c u i n).ports = s.ports := rfl
@[simp] theorem State.count_heldPkts (c : Card) (u i n : Nat) : (s.count c u i n).heldPkts = s.heldPkts := rfl
@[simp] theorem State.count_tagUse (c : Card) (u i n : Nat) : (s.count c u i n).tagUse = s.tagUse := rfl
@[simp] theorem State.count_tagGen (c : Card) (u i n : Nat) : (s.count c u i n).tagGen = s.tagGen := rfl
@[simp] theorem State.count_ftime (c : Card) (u i n : Nat) : (s.count c u i n).ftime = s.ftime := rfl
@[simp] theorem State.count_ffrac (c : Card) (u i n : Nat) : (s.count c u i n).ffrac = s.ffrac := rfl
@[simp] theorem State.count_finc (c : Card) (u i n : Nat) : (s.count c u i n).finc = s.finc := rfl
@[simp] theorem State.count_out (c : Card) (u i n : Nat) : (s.count c u i n).out = s.out := rfl
@[simp] theorem State.count_free (c : Card) (u i n : Nat) : (s.count c u i n).free = s.free := rfl
@[simp] theorem State.count_part (c : Card) (u i n : Nat) (j : Nat) : (s.count c u i n).part j = s.part j := rfl
@[simp] theorem State.count_core (c : Card) (u i n : Nat) (j : Nat) : (s.count c u i n).core j = s.core j := rfl
@[simp] theorem State.count_hub (c : Card) (u i n : Nat) (j : Nat) : (s.count c u i n).hub j = s.hub j := rfl
@[simp] theorem State.count_port (c : Card) (u i n : Nat) (j : Nat) : (s.count c u i n).port j = s.port j := rfl

/-! ### regErr -/

@[simp] theorem State.regErr_pending : (s.regErr).pending = s.pending := rfl
@[simp] theorem State.regErr_mem : (s.regErr).mem = s.mem := rfl
@[simp] theorem State.regErr_gran : (s.regErr).gran = s.gran := rfl
@[simp] theorem State.regErr_parts : (s.regErr).parts = s.parts := rfl
@[simp] theorem State.regErr_chip : (s.regErr).chip = s.chip := rfl
@[simp] theorem State.regErr_cores : (s.regErr).cores = s.cores := rfl
@[simp] theorem State.regErr_hubs : (s.regErr).hubs = s.hubs := rfl
@[simp] theorem State.regErr_greqs : (s.regErr).greqs = s.greqs := rfl
@[simp] theorem State.regErr_greqNext : (s.regErr).greqNext = s.greqNext := rfl
@[simp] theorem State.regErr_phys : (s.regErr).phys = s.phys := rfl
@[simp] theorem State.regErr_scrubPos : (s.regErr).scrubPos = s.scrubPos := rfl
@[simp] theorem State.regErr_scrubRows : (s.regErr).scrubRows = s.scrubRows := rfl
@[simp] theorem State.regErr_repair : (s.regErr).repair = s.repair := rfl
@[simp] theorem State.regErr_pools : (s.regErr).pools = s.pools := rfl
@[simp] theorem State.regErr_sweeps : (s.regErr).sweeps = s.sweeps := rfl
@[simp] theorem State.regErr_log : (s.regErr).log = s.log := rfl
@[simp] theorem State.regErr_logNext : (s.regErr).logNext = s.logNext := rfl
@[simp] theorem State.regErr_logLost : (s.regErr).logLost = s.logLost := rfl
@[simp] theorem State.regErr_subMask : (s.regErr).subMask = s.subMask := rfl
@[simp] theorem State.regErr_notify : (s.regErr).notify = s.notify := rfl
@[simp] theorem State.regErr_store : (s.regErr).store = s.store := rfl
@[simp] theorem State.regErr_host : (s.regErr).host = s.host := rfl
@[simp] theorem State.regErr_sec : (s.regErr).sec = s.sec := rfl
@[simp] theorem State.regErr_mgt : (s.regErr).mgt = s.mgt := rfl
@[simp] theorem State.regErr_tel : (s.regErr).tel = s.tel := rfl
@[simp] theorem State.regErr_pkg : (s.regErr).pkg = s.pkg := rfl
@[simp] theorem State.regErr_windows : (s.regErr).windows = s.windows := rfl
@[simp] theorem State.regErr_ports : (s.regErr).ports = s.ports := rfl
@[simp] theorem State.regErr_heldPkts : (s.regErr).heldPkts = s.heldPkts := rfl
@[simp] theorem State.regErr_tagUse : (s.regErr).tagUse = s.tagUse := rfl
@[simp] theorem State.regErr_tagGen : (s.regErr).tagGen = s.tagGen := rfl
@[simp] theorem State.regErr_ftime : (s.regErr).ftime = s.ftime := rfl
@[simp] theorem State.regErr_ffrac : (s.regErr).ffrac = s.ffrac := rfl
@[simp] theorem State.regErr_finc : (s.regErr).finc = s.finc := rfl
@[simp] theorem State.regErr_out : (s.regErr).out = s.out := rfl
@[simp] theorem State.regErr_free : (s.regErr).free = s.free := rfl
@[simp] theorem State.regErr_part (j : Nat) : (s.regErr).part j = s.part j := rfl
@[simp] theorem State.regErr_core (j : Nat) : (s.regErr).core j = s.core j := rfl
@[simp] theorem State.regErr_hub (j : Nat) : (s.regErr).hub j = s.hub j := rfl
@[simp] theorem State.regErr_port (j : Nat) : (s.regErr).port j = s.port j := rfl

/-! ### setPart -/

@[simp] theorem State.setPart_pending (p : Nat) (x : Part) : (s.setPart p x).pending = s.pending := rfl
@[simp] theorem State.setPart_regs (p : Nat) (x : Part) : (s.setPart p x).regs = s.regs := rfl
@[simp] theorem State.setPart_mem (p : Nat) (x : Part) : (s.setPart p x).mem = s.mem := rfl
@[simp] theorem State.setPart_gran (p : Nat) (x : Part) : (s.setPart p x).gran = s.gran := rfl
@[simp] theorem State.setPart_chip (p : Nat) (x : Part) : (s.setPart p x).chip = s.chip := rfl
@[simp] theorem State.setPart_cores (p : Nat) (x : Part) : (s.setPart p x).cores = s.cores := rfl
@[simp] theorem State.setPart_hubs (p : Nat) (x : Part) : (s.setPart p x).hubs = s.hubs := rfl
@[simp] theorem State.setPart_greqs (p : Nat) (x : Part) : (s.setPart p x).greqs = s.greqs := rfl
@[simp] theorem State.setPart_greqNext (p : Nat) (x : Part) : (s.setPart p x).greqNext = s.greqNext := rfl
@[simp] theorem State.setPart_phys (p : Nat) (x : Part) : (s.setPart p x).phys = s.phys := rfl
@[simp] theorem State.setPart_scrubPos (p : Nat) (x : Part) : (s.setPart p x).scrubPos = s.scrubPos := rfl
@[simp] theorem State.setPart_scrubRows (p : Nat) (x : Part) : (s.setPart p x).scrubRows = s.scrubRows := rfl
@[simp] theorem State.setPart_repair (p : Nat) (x : Part) : (s.setPart p x).repair = s.repair := rfl
@[simp] theorem State.setPart_pools (p : Nat) (x : Part) : (s.setPart p x).pools = s.pools := rfl
@[simp] theorem State.setPart_sweeps (p : Nat) (x : Part) : (s.setPart p x).sweeps = s.sweeps := rfl
@[simp] theorem State.setPart_log (p : Nat) (x : Part) : (s.setPart p x).log = s.log := rfl
@[simp] theorem State.setPart_logNext (p : Nat) (x : Part) : (s.setPart p x).logNext = s.logNext := rfl
@[simp] theorem State.setPart_logLost (p : Nat) (x : Part) : (s.setPart p x).logLost = s.logLost := rfl
@[simp] theorem State.setPart_subMask (p : Nat) (x : Part) : (s.setPart p x).subMask = s.subMask := rfl
@[simp] theorem State.setPart_notify (p : Nat) (x : Part) : (s.setPart p x).notify = s.notify := rfl
@[simp] theorem State.setPart_store (p : Nat) (x : Part) : (s.setPart p x).store = s.store := rfl
@[simp] theorem State.setPart_host (p : Nat) (x : Part) : (s.setPart p x).host = s.host := rfl
@[simp] theorem State.setPart_sec (p : Nat) (x : Part) : (s.setPart p x).sec = s.sec := rfl
@[simp] theorem State.setPart_mgt (p : Nat) (x : Part) : (s.setPart p x).mgt = s.mgt := rfl
@[simp] theorem State.setPart_tel (p : Nat) (x : Part) : (s.setPart p x).tel = s.tel := rfl
@[simp] theorem State.setPart_pkg (p : Nat) (x : Part) : (s.setPart p x).pkg = s.pkg := rfl
@[simp] theorem State.setPart_windows (p : Nat) (x : Part) : (s.setPart p x).windows = s.windows := rfl
@[simp] theorem State.setPart_ports (p : Nat) (x : Part) : (s.setPart p x).ports = s.ports := rfl
@[simp] theorem State.setPart_heldPkts (p : Nat) (x : Part) : (s.setPart p x).heldPkts = s.heldPkts := rfl
@[simp] theorem State.setPart_tagUse (p : Nat) (x : Part) : (s.setPart p x).tagUse = s.tagUse := rfl
@[simp] theorem State.setPart_tagGen (p : Nat) (x : Part) : (s.setPart p x).tagGen = s.tagGen := rfl
@[simp] theorem State.setPart_ftime (p : Nat) (x : Part) : (s.setPart p x).ftime = s.ftime := rfl
@[simp] theorem State.setPart_ffrac (p : Nat) (x : Part) : (s.setPart p x).ffrac = s.ffrac := rfl
@[simp] theorem State.setPart_finc (p : Nat) (x : Part) : (s.setPart p x).finc = s.finc := rfl
@[simp] theorem State.setPart_out (p : Nat) (x : Part) : (s.setPart p x).out = s.out := rfl
@[simp] theorem State.setPart_free (p : Nat) (x : Part) : (s.setPart p x).free = s.free := rfl
@[simp] theorem State.setPart_rd (p : Nat) (x : Part) (d : Card) (i j : Nat) : (s.setPart p x).rd d i j = s.rd d i j := rfl
@[simp] theorem State.setPart_rdF (p : Nat) (x : Part) (d : Card) (h : Fld) (i j : Nat) : (s.setPart p x).rdF d h i j = s.rdF d h i j := rfl
@[simp] theorem State.setPart_rdEff (p : Nat) (x : Part) (d : Card) (i j : Nat) : (s.setPart p x).rdEff d i j = s.rdEff d i j := rfl
@[simp] theorem State.setPart_core (p : Nat) (x : Part) (j : Nat) : (s.setPart p x).core j = s.core j := rfl
@[simp] theorem State.setPart_hub (p : Nat) (x : Part) (j : Nat) : (s.setPart p x).hub j = s.hub j := rfl
@[simp] theorem State.setPart_port (p : Nat) (x : Part) (j : Nat) : (s.setPart p x).port j = s.port j := rfl

/-! ### updPart -/

@[simp] theorem State.updPart_pending (p : Nat) (g : Part → Part) : (s.updPart p g).pending = s.pending := rfl
@[simp] theorem State.updPart_regs (p : Nat) (g : Part → Part) : (s.updPart p g).regs = s.regs := rfl
@[simp] theorem State.updPart_mem (p : Nat) (g : Part → Part) : (s.updPart p g).mem = s.mem := rfl
@[simp] theorem State.updPart_gran (p : Nat) (g : Part → Part) : (s.updPart p g).gran = s.gran := rfl
@[simp] theorem State.updPart_chip (p : Nat) (g : Part → Part) : (s.updPart p g).chip = s.chip := rfl
@[simp] theorem State.updPart_cores (p : Nat) (g : Part → Part) : (s.updPart p g).cores = s.cores := rfl
@[simp] theorem State.updPart_hubs (p : Nat) (g : Part → Part) : (s.updPart p g).hubs = s.hubs := rfl
@[simp] theorem State.updPart_greqs (p : Nat) (g : Part → Part) : (s.updPart p g).greqs = s.greqs := rfl
@[simp] theorem State.updPart_greqNext (p : Nat) (g : Part → Part) : (s.updPart p g).greqNext = s.greqNext := rfl
@[simp] theorem State.updPart_phys (p : Nat) (g : Part → Part) : (s.updPart p g).phys = s.phys := rfl
@[simp] theorem State.updPart_scrubPos (p : Nat) (g : Part → Part) : (s.updPart p g).scrubPos = s.scrubPos := rfl
@[simp] theorem State.updPart_scrubRows (p : Nat) (g : Part → Part) : (s.updPart p g).scrubRows = s.scrubRows := rfl
@[simp] theorem State.updPart_repair (p : Nat) (g : Part → Part) : (s.updPart p g).repair = s.repair := rfl
@[simp] theorem State.updPart_pools (p : Nat) (g : Part → Part) : (s.updPart p g).pools = s.pools := rfl
@[simp] theorem State.updPart_sweeps (p : Nat) (g : Part → Part) : (s.updPart p g).sweeps = s.sweeps := rfl
@[simp] theorem State.updPart_log (p : Nat) (g : Part → Part) : (s.updPart p g).log = s.log := rfl
@[simp] theorem State.updPart_logNext (p : Nat) (g : Part → Part) : (s.updPart p g).logNext = s.logNext := rfl
@[simp] theorem State.updPart_logLost (p : Nat) (g : Part → Part) : (s.updPart p g).logLost = s.logLost := rfl
@[simp] theorem State.updPart_subMask (p : Nat) (g : Part → Part) : (s.updPart p g).subMask = s.subMask := rfl
@[simp] theorem State.updPart_notify (p : Nat) (g : Part → Part) : (s.updPart p g).notify = s.notify := rfl
@[simp] theorem State.updPart_store (p : Nat) (g : Part → Part) : (s.updPart p g).store = s.store := rfl
@[simp] theorem State.updPart_host (p : Nat) (g : Part → Part) : (s.updPart p g).host = s.host := rfl
@[simp] theorem State.updPart_sec (p : Nat) (g : Part → Part) : (s.updPart p g).sec = s.sec := rfl
@[simp] theorem State.updPart_mgt (p : Nat) (g : Part → Part) : (s.updPart p g).mgt = s.mgt := rfl
@[simp] theorem State.updPart_tel (p : Nat) (g : Part → Part) : (s.updPart p g).tel = s.tel := rfl
@[simp] theorem State.updPart_pkg (p : Nat) (g : Part → Part) : (s.updPart p g).pkg = s.pkg := rfl
@[simp] theorem State.updPart_windows (p : Nat) (g : Part → Part) : (s.updPart p g).windows = s.windows := rfl
@[simp] theorem State.updPart_ports (p : Nat) (g : Part → Part) : (s.updPart p g).ports = s.ports := rfl
@[simp] theorem State.updPart_heldPkts (p : Nat) (g : Part → Part) : (s.updPart p g).heldPkts = s.heldPkts := rfl
@[simp] theorem State.updPart_tagUse (p : Nat) (g : Part → Part) : (s.updPart p g).tagUse = s.tagUse := rfl
@[simp] theorem State.updPart_tagGen (p : Nat) (g : Part → Part) : (s.updPart p g).tagGen = s.tagGen := rfl
@[simp] theorem State.updPart_ftime (p : Nat) (g : Part → Part) : (s.updPart p g).ftime = s.ftime := rfl
@[simp] theorem State.updPart_ffrac (p : Nat) (g : Part → Part) : (s.updPart p g).ffrac = s.ffrac := rfl
@[simp] theorem State.updPart_finc (p : Nat) (g : Part → Part) : (s.updPart p g).finc = s.finc := rfl
@[simp] theorem State.updPart_out (p : Nat) (g : Part → Part) : (s.updPart p g).out = s.out := rfl
@[simp] theorem State.updPart_free (p : Nat) (g : Part → Part) : (s.updPart p g).free = s.free := rfl
@[simp] theorem State.updPart_rd (p : Nat) (g : Part → Part) (d : Card) (i j : Nat) : (s.updPart p g).rd d i j = s.rd d i j := rfl
@[simp] theorem State.updPart_rdF (p : Nat) (g : Part → Part) (d : Card) (h : Fld) (i j : Nat) : (s.updPart p g).rdF d h i j = s.rdF d h i j := rfl
@[simp] theorem State.updPart_rdEff (p : Nat) (g : Part → Part) (d : Card) (i j : Nat) : (s.updPart p g).rdEff d i j = s.rdEff d i j := rfl
@[simp] theorem State.updPart_core (p : Nat) (g : Part → Part) (j : Nat) : (s.updPart p g).core j = s.core j := rfl
@[simp] theorem State.updPart_hub (p : Nat) (g : Part → Part) (j : Nat) : (s.updPart p g).hub j = s.hub j := rfl
@[simp] theorem State.updPart_port (p : Nat) (g : Part → Part) (j : Nat) : (s.updPart p g).port j = s.port j := rfl

/-! ### emit -/

@[simp] theorem State.emit_pending (e : Emit) : (s.emit e).pending = s.pending := rfl
@[simp] theorem State.emit_regs (e : Emit) : (s.emit e).regs = s.regs := rfl
@[simp] theorem State.emit_mem (e : Emit) : (s.emit e).mem = s.mem := rfl
@[simp] theorem State.emit_gran (e : Emit) : (s.emit e).gran = s.gran := rfl
@[simp] theorem State.emit_parts (e : Emit) : (s.emit e).parts = s.parts := rfl
@[simp] theorem State.emit_chip (e : Emit) : (s.emit e).chip = s.chip := rfl
@[simp] theorem State.emit_cores (e : Emit) : (s.emit e).cores = s.cores := rfl
@[simp] theorem State.emit_hubs (e : Emit) : (s.emit e).hubs = s.hubs := rfl
@[simp] theorem State.emit_greqs (e : Emit) : (s.emit e).greqs = s.greqs := rfl
@[simp] theorem State.emit_greqNext (e : Emit) : (s.emit e).greqNext = s.greqNext := rfl
@[simp] theorem State.emit_phys (e : Emit) : (s.emit e).phys = s.phys := rfl
@[simp] theorem State.emit_scrubPos (e : Emit) : (s.emit e).scrubPos = s.scrubPos := rfl
@[simp] theorem State.emit_scrubRows (e : Emit) : (s.emit e).scrubRows = s.scrubRows := rfl
@[simp] theorem State.emit_repair (e : Emit) : (s.emit e).repair = s.repair := rfl
@[simp] theorem State.emit_pools (e : Emit) : (s.emit e).pools = s.pools := rfl
@[simp] theorem State.emit_sweeps (e : Emit) : (s.emit e).sweeps = s.sweeps := rfl
@[simp] theorem State.emit_log (e : Emit) : (s.emit e).log = s.log := rfl
@[simp] theorem State.emit_logNext (e : Emit) : (s.emit e).logNext = s.logNext := rfl
@[simp] theorem State.emit_logLost (e : Emit) : (s.emit e).logLost = s.logLost := rfl
@[simp] theorem State.emit_subMask (e : Emit) : (s.emit e).subMask = s.subMask := rfl
@[simp] theorem State.emit_notify (e : Emit) : (s.emit e).notify = s.notify := rfl
@[simp] theorem State.emit_store (e : Emit) : (s.emit e).store = s.store := rfl
@[simp] theorem State.emit_host (e : Emit) : (s.emit e).host = s.host := rfl
@[simp] theorem State.emit_sec (e : Emit) : (s.emit e).sec = s.sec := rfl
@[simp] theorem State.emit_mgt (e : Emit) : (s.emit e).mgt = s.mgt := rfl
@[simp] theorem State.emit_tel (e : Emit) : (s.emit e).tel = s.tel := rfl
@[simp] theorem State.emit_pkg (e : Emit) : (s.emit e).pkg = s.pkg := rfl
@[simp] theorem State.emit_windows (e : Emit) : (s.emit e).windows = s.windows := rfl
@[simp] theorem State.emit_ports (e : Emit) : (s.emit e).ports = s.ports := rfl
@[simp] theorem State.emit_heldPkts (e : Emit) : (s.emit e).heldPkts = s.heldPkts := rfl
@[simp] theorem State.emit_tagUse (e : Emit) : (s.emit e).tagUse = s.tagUse := rfl
@[simp] theorem State.emit_tagGen (e : Emit) : (s.emit e).tagGen = s.tagGen := rfl
@[simp] theorem State.emit_ftime (e : Emit) : (s.emit e).ftime = s.ftime := rfl
@[simp] theorem State.emit_ffrac (e : Emit) : (s.emit e).ffrac = s.ffrac := rfl
@[simp] theorem State.emit_finc (e : Emit) : (s.emit e).finc = s.finc := rfl
@[simp] theorem State.emit_free (e : Emit) : (s.emit e).free = s.free := rfl
@[simp] theorem State.emit_rd (e : Emit) (d : Card) (i j : Nat) : (s.emit e).rd d i j = s.rd d i j := rfl
@[simp] theorem State.emit_rdF (e : Emit) (d : Card) (h : Fld) (i j : Nat) : (s.emit e).rdF d h i j = s.rdF d h i j := rfl
@[simp] theorem State.emit_rdEff (e : Emit) (d : Card) (i j : Nat) : (s.emit e).rdEff d i j = s.rdEff d i j := rfl
@[simp] theorem State.emit_part (e : Emit) (j : Nat) : (s.emit e).part j = s.part j := rfl
@[simp] theorem State.emit_core (e : Emit) (j : Nat) : (s.emit e).core j = s.core j := rfl
@[simp] theorem State.emit_hub (e : Emit) (j : Nat) : (s.emit e).hub j = s.hub j := rfl
@[simp] theorem State.emit_port (e : Emit) (j : Nat) : (s.emit e).port j = s.port j := rfl

/-! ### setCore -/

@[simp] theorem State.setCore_pending (n : Nat) (x : Core) : (s.setCore n x).pending = s.pending := rfl
@[simp] theorem State.setCore_regs (n : Nat) (x : Core) : (s.setCore n x).regs = s.regs := rfl
@[simp] theorem State.setCore_mem (n : Nat) (x : Core) : (s.setCore n x).mem = s.mem := rfl
@[simp] theorem State.setCore_gran (n : Nat) (x : Core) : (s.setCore n x).gran = s.gran := rfl
@[simp] theorem State.setCore_parts (n : Nat) (x : Core) : (s.setCore n x).parts = s.parts := rfl
@[simp] theorem State.setCore_chip (n : Nat) (x : Core) : (s.setCore n x).chip = s.chip := rfl
@[simp] theorem State.setCore_hubs (n : Nat) (x : Core) : (s.setCore n x).hubs = s.hubs := rfl
@[simp] theorem State.setCore_greqs (n : Nat) (x : Core) : (s.setCore n x).greqs = s.greqs := rfl
@[simp] theorem State.setCore_greqNext (n : Nat) (x : Core) : (s.setCore n x).greqNext = s.greqNext := rfl
@[simp] theorem State.setCore_phys (n : Nat) (x : Core) : (s.setCore n x).phys = s.phys := rfl
@[simp] theorem State.setCore_scrubPos (n : Nat) (x : Core) : (s.setCore n x).scrubPos = s.scrubPos := rfl
@[simp] theorem State.setCore_scrubRows (n : Nat) (x : Core) : (s.setCore n x).scrubRows = s.scrubRows := rfl
@[simp] theorem State.setCore_repair (n : Nat) (x : Core) : (s.setCore n x).repair = s.repair := rfl
@[simp] theorem State.setCore_pools (n : Nat) (x : Core) : (s.setCore n x).pools = s.pools := rfl
@[simp] theorem State.setCore_sweeps (n : Nat) (x : Core) : (s.setCore n x).sweeps = s.sweeps := rfl
@[simp] theorem State.setCore_log (n : Nat) (x : Core) : (s.setCore n x).log = s.log := rfl
@[simp] theorem State.setCore_logNext (n : Nat) (x : Core) : (s.setCore n x).logNext = s.logNext := rfl
@[simp] theorem State.setCore_logLost (n : Nat) (x : Core) : (s.setCore n x).logLost = s.logLost := rfl
@[simp] theorem State.setCore_subMask (n : Nat) (x : Core) : (s.setCore n x).subMask = s.subMask := rfl
@[simp] theorem State.setCore_notify (n : Nat) (x : Core) : (s.setCore n x).notify = s.notify := rfl
@[simp] theorem State.setCore_store (n : Nat) (x : Core) : (s.setCore n x).store = s.store := rfl
@[simp] theorem State.setCore_host (n : Nat) (x : Core) : (s.setCore n x).host = s.host := rfl
@[simp] theorem State.setCore_sec (n : Nat) (x : Core) : (s.setCore n x).sec = s.sec := rfl
@[simp] theorem State.setCore_mgt (n : Nat) (x : Core) : (s.setCore n x).mgt = s.mgt := rfl
@[simp] theorem State.setCore_tel (n : Nat) (x : Core) : (s.setCore n x).tel = s.tel := rfl
@[simp] theorem State.setCore_pkg (n : Nat) (x : Core) : (s.setCore n x).pkg = s.pkg := rfl
@[simp] theorem State.setCore_windows (n : Nat) (x : Core) : (s.setCore n x).windows = s.windows := rfl
@[simp] theorem State.setCore_ports (n : Nat) (x : Core) : (s.setCore n x).ports = s.ports := rfl
@[simp] theorem State.setCore_heldPkts (n : Nat) (x : Core) : (s.setCore n x).heldPkts = s.heldPkts := rfl
@[simp] theorem State.setCore_tagUse (n : Nat) (x : Core) : (s.setCore n x).tagUse = s.tagUse := rfl
@[simp] theorem State.setCore_tagGen (n : Nat) (x : Core) : (s.setCore n x).tagGen = s.tagGen := rfl
@[simp] theorem State.setCore_ftime (n : Nat) (x : Core) : (s.setCore n x).ftime = s.ftime := rfl
@[simp] theorem State.setCore_ffrac (n : Nat) (x : Core) : (s.setCore n x).ffrac = s.ffrac := rfl
@[simp] theorem State.setCore_finc (n : Nat) (x : Core) : (s.setCore n x).finc = s.finc := rfl
@[simp] theorem State.setCore_out (n : Nat) (x : Core) : (s.setCore n x).out = s.out := rfl
@[simp] theorem State.setCore_free (n : Nat) (x : Core) : (s.setCore n x).free = s.free := rfl
@[simp] theorem State.setCore_rd (n : Nat) (x : Core) (d : Card) (i j : Nat) : (s.setCore n x).rd d i j = s.rd d i j := rfl
@[simp] theorem State.setCore_rdF (n : Nat) (x : Core) (d : Card) (h : Fld) (i j : Nat) : (s.setCore n x).rdF d h i j = s.rdF d h i j := rfl
@[simp] theorem State.setCore_rdEff (n : Nat) (x : Core) (d : Card) (i j : Nat) : (s.setCore n x).rdEff d i j = s.rdEff d i j := rfl
@[simp] theorem State.setCore_part (n : Nat) (x : Core) (j : Nat) : (s.setCore n x).part j = s.part j := rfl
@[simp] theorem State.setCore_hub (n : Nat) (x : Core) (j : Nat) : (s.setCore n x).hub j = s.hub j := rfl
@[simp] theorem State.setCore_port (n : Nat) (x : Core) (j : Nat) : (s.setCore n x).port j = s.port j := rfl

/-! ### updCore -/

@[simp] theorem State.updCore_pending (n : Nat) (g : Core → Core) : (s.updCore n g).pending = s.pending := rfl
@[simp] theorem State.updCore_regs (n : Nat) (g : Core → Core) : (s.updCore n g).regs = s.regs := rfl
@[simp] theorem State.updCore_mem (n : Nat) (g : Core → Core) : (s.updCore n g).mem = s.mem := rfl
@[simp] theorem State.updCore_gran (n : Nat) (g : Core → Core) : (s.updCore n g).gran = s.gran := rfl
@[simp] theorem State.updCore_parts (n : Nat) (g : Core → Core) : (s.updCore n g).parts = s.parts := rfl
@[simp] theorem State.updCore_chip (n : Nat) (g : Core → Core) : (s.updCore n g).chip = s.chip := rfl
@[simp] theorem State.updCore_hubs (n : Nat) (g : Core → Core) : (s.updCore n g).hubs = s.hubs := rfl
@[simp] theorem State.updCore_greqs (n : Nat) (g : Core → Core) : (s.updCore n g).greqs = s.greqs := rfl
@[simp] theorem State.updCore_greqNext (n : Nat) (g : Core → Core) : (s.updCore n g).greqNext = s.greqNext := rfl
@[simp] theorem State.updCore_phys (n : Nat) (g : Core → Core) : (s.updCore n g).phys = s.phys := rfl
@[simp] theorem State.updCore_scrubPos (n : Nat) (g : Core → Core) : (s.updCore n g).scrubPos = s.scrubPos := rfl
@[simp] theorem State.updCore_scrubRows (n : Nat) (g : Core → Core) : (s.updCore n g).scrubRows = s.scrubRows := rfl
@[simp] theorem State.updCore_repair (n : Nat) (g : Core → Core) : (s.updCore n g).repair = s.repair := rfl
@[simp] theorem State.updCore_pools (n : Nat) (g : Core → Core) : (s.updCore n g).pools = s.pools := rfl
@[simp] theorem State.updCore_sweeps (n : Nat) (g : Core → Core) : (s.updCore n g).sweeps = s.sweeps := rfl
@[simp] theorem State.updCore_log (n : Nat) (g : Core → Core) : (s.updCore n g).log = s.log := rfl
@[simp] theorem State.updCore_logNext (n : Nat) (g : Core → Core) : (s.updCore n g).logNext = s.logNext := rfl
@[simp] theorem State.updCore_logLost (n : Nat) (g : Core → Core) : (s.updCore n g).logLost = s.logLost := rfl
@[simp] theorem State.updCore_subMask (n : Nat) (g : Core → Core) : (s.updCore n g).subMask = s.subMask := rfl
@[simp] theorem State.updCore_notify (n : Nat) (g : Core → Core) : (s.updCore n g).notify = s.notify := rfl
@[simp] theorem State.updCore_store (n : Nat) (g : Core → Core) : (s.updCore n g).store = s.store := rfl
@[simp] theorem State.updCore_host (n : Nat) (g : Core → Core) : (s.updCore n g).host = s.host := rfl
@[simp] theorem State.updCore_sec (n : Nat) (g : Core → Core) : (s.updCore n g).sec = s.sec := rfl
@[simp] theorem State.updCore_mgt (n : Nat) (g : Core → Core) : (s.updCore n g).mgt = s.mgt := rfl
@[simp] theorem State.updCore_tel (n : Nat) (g : Core → Core) : (s.updCore n g).tel = s.tel := rfl
@[simp] theorem State.updCore_pkg (n : Nat) (g : Core → Core) : (s.updCore n g).pkg = s.pkg := rfl
@[simp] theorem State.updCore_windows (n : Nat) (g : Core → Core) : (s.updCore n g).windows = s.windows := rfl
@[simp] theorem State.updCore_ports (n : Nat) (g : Core → Core) : (s.updCore n g).ports = s.ports := rfl
@[simp] theorem State.updCore_heldPkts (n : Nat) (g : Core → Core) : (s.updCore n g).heldPkts = s.heldPkts := rfl
@[simp] theorem State.updCore_tagUse (n : Nat) (g : Core → Core) : (s.updCore n g).tagUse = s.tagUse := rfl
@[simp] theorem State.updCore_tagGen (n : Nat) (g : Core → Core) : (s.updCore n g).tagGen = s.tagGen := rfl
@[simp] theorem State.updCore_ftime (n : Nat) (g : Core → Core) : (s.updCore n g).ftime = s.ftime := rfl
@[simp] theorem State.updCore_ffrac (n : Nat) (g : Core → Core) : (s.updCore n g).ffrac = s.ffrac := rfl
@[simp] theorem State.updCore_finc (n : Nat) (g : Core → Core) : (s.updCore n g).finc = s.finc := rfl
@[simp] theorem State.updCore_out (n : Nat) (g : Core → Core) : (s.updCore n g).out = s.out := rfl
@[simp] theorem State.updCore_free (n : Nat) (g : Core → Core) : (s.updCore n g).free = s.free := rfl
@[simp] theorem State.updCore_rd (n : Nat) (g : Core → Core) (d : Card) (i j : Nat) : (s.updCore n g).rd d i j = s.rd d i j := rfl
@[simp] theorem State.updCore_rdF (n : Nat) (g : Core → Core) (d : Card) (h : Fld) (i j : Nat) : (s.updCore n g).rdF d h i j = s.rdF d h i j := rfl
@[simp] theorem State.updCore_rdEff (n : Nat) (g : Core → Core) (d : Card) (i j : Nat) : (s.updCore n g).rdEff d i j = s.rdEff d i j := rfl
@[simp] theorem State.updCore_part (n : Nat) (g : Core → Core) (j : Nat) : (s.updCore n g).part j = s.part j := rfl
@[simp] theorem State.updCore_hub (n : Nat) (g : Core → Core) (j : Nat) : (s.updCore n g).hub j = s.hub j := rfl
@[simp] theorem State.updCore_port (n : Nat) (g : Core → Core) (j : Nat) : (s.updCore n g).port j = s.port j := rfl

/-! ### setHub -/

@[simp] theorem State.setHub_pending (c : Nat) (x : Hub) : (s.setHub c x).pending = s.pending := rfl
@[simp] theorem State.setHub_regs (c : Nat) (x : Hub) : (s.setHub c x).regs = s.regs := rfl
@[simp] theorem State.setHub_mem (c : Nat) (x : Hub) : (s.setHub c x).mem = s.mem := rfl
@[simp] theorem State.setHub_gran (c : Nat) (x : Hub) : (s.setHub c x).gran = s.gran := rfl
@[simp] theorem State.setHub_parts (c : Nat) (x : Hub) : (s.setHub c x).parts = s.parts := rfl
@[simp] theorem State.setHub_chip (c : Nat) (x : Hub) : (s.setHub c x).chip = s.chip := rfl
@[simp] theorem State.setHub_cores (c : Nat) (x : Hub) : (s.setHub c x).cores = s.cores := rfl
@[simp] theorem State.setHub_greqs (c : Nat) (x : Hub) : (s.setHub c x).greqs = s.greqs := rfl
@[simp] theorem State.setHub_greqNext (c : Nat) (x : Hub) : (s.setHub c x).greqNext = s.greqNext := rfl
@[simp] theorem State.setHub_phys (c : Nat) (x : Hub) : (s.setHub c x).phys = s.phys := rfl
@[simp] theorem State.setHub_scrubPos (c : Nat) (x : Hub) : (s.setHub c x).scrubPos = s.scrubPos := rfl
@[simp] theorem State.setHub_scrubRows (c : Nat) (x : Hub) : (s.setHub c x).scrubRows = s.scrubRows := rfl
@[simp] theorem State.setHub_repair (c : Nat) (x : Hub) : (s.setHub c x).repair = s.repair := rfl
@[simp] theorem State.setHub_pools (c : Nat) (x : Hub) : (s.setHub c x).pools = s.pools := rfl
@[simp] theorem State.setHub_sweeps (c : Nat) (x : Hub) : (s.setHub c x).sweeps = s.sweeps := rfl
@[simp] theorem State.setHub_log (c : Nat) (x : Hub) : (s.setHub c x).log = s.log := rfl
@[simp] theorem State.setHub_logNext (c : Nat) (x : Hub) : (s.setHub c x).logNext = s.logNext := rfl
@[simp] theorem State.setHub_logLost (c : Nat) (x : Hub) : (s.setHub c x).logLost = s.logLost := rfl
@[simp] theorem State.setHub_subMask (c : Nat) (x : Hub) : (s.setHub c x).subMask = s.subMask := rfl
@[simp] theorem State.setHub_notify (c : Nat) (x : Hub) : (s.setHub c x).notify = s.notify := rfl
@[simp] theorem State.setHub_store (c : Nat) (x : Hub) : (s.setHub c x).store = s.store := rfl
@[simp] theorem State.setHub_host (c : Nat) (x : Hub) : (s.setHub c x).host = s.host := rfl
@[simp] theorem State.setHub_sec (c : Nat) (x : Hub) : (s.setHub c x).sec = s.sec := rfl
@[simp] theorem State.setHub_mgt (c : Nat) (x : Hub) : (s.setHub c x).mgt = s.mgt := rfl
@[simp] theorem State.setHub_tel (c : Nat) (x : Hub) : (s.setHub c x).tel = s.tel := rfl
@[simp] theorem State.setHub_pkg (c : Nat) (x : Hub) : (s.setHub c x).pkg = s.pkg := rfl
@[simp] theorem State.setHub_windows (c : Nat) (x : Hub) : (s.setHub c x).windows = s.windows := rfl
@[simp] theorem State.setHub_ports (c : Nat) (x : Hub) : (s.setHub c x).ports = s.ports := rfl
@[simp] theorem State.setHub_heldPkts (c : Nat) (x : Hub) : (s.setHub c x).heldPkts = s.heldPkts := rfl
@[simp] theorem State.setHub_tagUse (c : Nat) (x : Hub) : (s.setHub c x).tagUse = s.tagUse := rfl
@[simp] theorem State.setHub_tagGen (c : Nat) (x : Hub) : (s.setHub c x).tagGen = s.tagGen := rfl
@[simp] theorem State.setHub_ftime (c : Nat) (x : Hub) : (s.setHub c x).ftime = s.ftime := rfl
@[simp] theorem State.setHub_ffrac (c : Nat) (x : Hub) : (s.setHub c x).ffrac = s.ffrac := rfl
@[simp] theorem State.setHub_finc (c : Nat) (x : Hub) : (s.setHub c x).finc = s.finc := rfl
@[simp] theorem State.setHub_out (c : Nat) (x : Hub) : (s.setHub c x).out = s.out := rfl
@[simp] theorem State.setHub_free (c : Nat) (x : Hub) : (s.setHub c x).free = s.free := rfl
@[simp] theorem State.setHub_rd (c : Nat) (x : Hub) (d : Card) (i j : Nat) : (s.setHub c x).rd d i j = s.rd d i j := rfl
@[simp] theorem State.setHub_rdF (c : Nat) (x : Hub) (d : Card) (h : Fld) (i j : Nat) : (s.setHub c x).rdF d h i j = s.rdF d h i j := rfl
@[simp] theorem State.setHub_rdEff (c : Nat) (x : Hub) (d : Card) (i j : Nat) : (s.setHub c x).rdEff d i j = s.rdEff d i j := rfl
@[simp] theorem State.setHub_part (c : Nat) (x : Hub) (j : Nat) : (s.setHub c x).part j = s.part j := rfl
@[simp] theorem State.setHub_core (c : Nat) (x : Hub) (j : Nat) : (s.setHub c x).core j = s.core j := rfl
@[simp] theorem State.setHub_port (c : Nat) (x : Hub) (j : Nat) : (s.setHub c x).port j = s.port j := rfl

/-! ### updHub -/

@[simp] theorem State.updHub_pending (c : Nat) (g : Hub → Hub) : (s.updHub c g).pending = s.pending := rfl
@[simp] theorem State.updHub_regs (c : Nat) (g : Hub → Hub) : (s.updHub c g).regs = s.regs := rfl
@[simp] theorem State.updHub_mem (c : Nat) (g : Hub → Hub) : (s.updHub c g).mem = s.mem := rfl
@[simp] theorem State.updHub_gran (c : Nat) (g : Hub → Hub) : (s.updHub c g).gran = s.gran := rfl
@[simp] theorem State.updHub_parts (c : Nat) (g : Hub → Hub) : (s.updHub c g).parts = s.parts := rfl
@[simp] theorem State.updHub_chip (c : Nat) (g : Hub → Hub) : (s.updHub c g).chip = s.chip := rfl
@[simp] theorem State.updHub_cores (c : Nat) (g : Hub → Hub) : (s.updHub c g).cores = s.cores := rfl
@[simp] theorem State.updHub_greqs (c : Nat) (g : Hub → Hub) : (s.updHub c g).greqs = s.greqs := rfl
@[simp] theorem State.updHub_greqNext (c : Nat) (g : Hub → Hub) : (s.updHub c g).greqNext = s.greqNext := rfl
@[simp] theorem State.updHub_phys (c : Nat) (g : Hub → Hub) : (s.updHub c g).phys = s.phys := rfl
@[simp] theorem State.updHub_scrubPos (c : Nat) (g : Hub → Hub) : (s.updHub c g).scrubPos = s.scrubPos := rfl
@[simp] theorem State.updHub_scrubRows (c : Nat) (g : Hub → Hub) : (s.updHub c g).scrubRows = s.scrubRows := rfl
@[simp] theorem State.updHub_repair (c : Nat) (g : Hub → Hub) : (s.updHub c g).repair = s.repair := rfl
@[simp] theorem State.updHub_pools (c : Nat) (g : Hub → Hub) : (s.updHub c g).pools = s.pools := rfl
@[simp] theorem State.updHub_sweeps (c : Nat) (g : Hub → Hub) : (s.updHub c g).sweeps = s.sweeps := rfl
@[simp] theorem State.updHub_log (c : Nat) (g : Hub → Hub) : (s.updHub c g).log = s.log := rfl
@[simp] theorem State.updHub_logNext (c : Nat) (g : Hub → Hub) : (s.updHub c g).logNext = s.logNext := rfl
@[simp] theorem State.updHub_logLost (c : Nat) (g : Hub → Hub) : (s.updHub c g).logLost = s.logLost := rfl
@[simp] theorem State.updHub_subMask (c : Nat) (g : Hub → Hub) : (s.updHub c g).subMask = s.subMask := rfl
@[simp] theorem State.updHub_notify (c : Nat) (g : Hub → Hub) : (s.updHub c g).notify = s.notify := rfl
@[simp] theorem State.updHub_store (c : Nat) (g : Hub → Hub) : (s.updHub c g).store = s.store := rfl
@[simp] theorem State.updHub_host (c : Nat) (g : Hub → Hub) : (s.updHub c g).host = s.host := rfl
@[simp] theorem State.updHub_sec (c : Nat) (g : Hub → Hub) : (s.updHub c g).sec = s.sec := rfl
@[simp] theorem State.updHub_mgt (c : Nat) (g : Hub → Hub) : (s.updHub c g).mgt = s.mgt := rfl
@[simp] theorem State.updHub_tel (c : Nat) (g : Hub → Hub) : (s.updHub c g).tel = s.tel := rfl
@[simp] theorem State.updHub_pkg (c : Nat) (g : Hub → Hub) : (s.updHub c g).pkg = s.pkg := rfl
@[simp] theorem State.updHub_windows (c : Nat) (g : Hub → Hub) : (s.updHub c g).windows = s.windows := rfl
@[simp] theorem State.updHub_ports (c : Nat) (g : Hub → Hub) : (s.updHub c g).ports = s.ports := rfl
@[simp] theorem State.updHub_heldPkts (c : Nat) (g : Hub → Hub) : (s.updHub c g).heldPkts = s.heldPkts := rfl
@[simp] theorem State.updHub_tagUse (c : Nat) (g : Hub → Hub) : (s.updHub c g).tagUse = s.tagUse := rfl
@[simp] theorem State.updHub_tagGen (c : Nat) (g : Hub → Hub) : (s.updHub c g).tagGen = s.tagGen := rfl
@[simp] theorem State.updHub_ftime (c : Nat) (g : Hub → Hub) : (s.updHub c g).ftime = s.ftime := rfl
@[simp] theorem State.updHub_ffrac (c : Nat) (g : Hub → Hub) : (s.updHub c g).ffrac = s.ffrac := rfl
@[simp] theorem State.updHub_finc (c : Nat) (g : Hub → Hub) : (s.updHub c g).finc = s.finc := rfl
@[simp] theorem State.updHub_out (c : Nat) (g : Hub → Hub) : (s.updHub c g).out = s.out := rfl
@[simp] theorem State.updHub_free (c : Nat) (g : Hub → Hub) : (s.updHub c g).free = s.free := rfl
@[simp] theorem State.updHub_rd (c : Nat) (g : Hub → Hub) (d : Card) (i j : Nat) : (s.updHub c g).rd d i j = s.rd d i j := rfl
@[simp] theorem State.updHub_rdF (c : Nat) (g : Hub → Hub) (d : Card) (h : Fld) (i j : Nat) : (s.updHub c g).rdF d h i j = s.rdF d h i j := rfl
@[simp] theorem State.updHub_rdEff (c : Nat) (g : Hub → Hub) (d : Card) (i j : Nat) : (s.updHub c g).rdEff d i j = s.rdEff d i j := rfl
@[simp] theorem State.updHub_part (c : Nat) (g : Hub → Hub) (j : Nat) : (s.updHub c g).part j = s.part j := rfl
@[simp] theorem State.updHub_core (c : Nat) (g : Hub → Hub) (j : Nat) : (s.updHub c g).core j = s.core j := rfl
@[simp] theorem State.updHub_port (c : Nat) (g : Hub → Hub) (j : Nat) : (s.updHub c g).port j = s.port j := rfl

/-! ### setPort -/

@[simp] theorem State.setPort_pending (q : Nat) (x : Port) : (s.setPort q x).pending = s.pending := rfl
@[simp] theorem State.setPort_regs (q : Nat) (x : Port) : (s.setPort q x).regs = s.regs := rfl
@[simp] theorem State.setPort_mem (q : Nat) (x : Port) : (s.setPort q x).mem = s.mem := rfl
@[simp] theorem State.setPort_gran (q : Nat) (x : Port) : (s.setPort q x).gran = s.gran := rfl
@[simp] theorem State.setPort_parts (q : Nat) (x : Port) : (s.setPort q x).parts = s.parts := rfl
@[simp] theorem State.setPort_chip (q : Nat) (x : Port) : (s.setPort q x).chip = s.chip := rfl
@[simp] theorem State.setPort_cores (q : Nat) (x : Port) : (s.setPort q x).cores = s.cores := rfl
@[simp] theorem State.setPort_hubs (q : Nat) (x : Port) : (s.setPort q x).hubs = s.hubs := rfl
@[simp] theorem State.setPort_greqs (q : Nat) (x : Port) : (s.setPort q x).greqs = s.greqs := rfl
@[simp] theorem State.setPort_greqNext (q : Nat) (x : Port) : (s.setPort q x).greqNext = s.greqNext := rfl
@[simp] theorem State.setPort_phys (q : Nat) (x : Port) : (s.setPort q x).phys = s.phys := rfl
@[simp] theorem State.setPort_scrubPos (q : Nat) (x : Port) : (s.setPort q x).scrubPos = s.scrubPos := rfl
@[simp] theorem State.setPort_scrubRows (q : Nat) (x : Port) : (s.setPort q x).scrubRows = s.scrubRows := rfl
@[simp] theorem State.setPort_repair (q : Nat) (x : Port) : (s.setPort q x).repair = s.repair := rfl
@[simp] theorem State.setPort_pools (q : Nat) (x : Port) : (s.setPort q x).pools = s.pools := rfl
@[simp] theorem State.setPort_sweeps (q : Nat) (x : Port) : (s.setPort q x).sweeps = s.sweeps := rfl
@[simp] theorem State.setPort_log (q : Nat) (x : Port) : (s.setPort q x).log = s.log := rfl
@[simp] theorem State.setPort_logNext (q : Nat) (x : Port) : (s.setPort q x).logNext = s.logNext := rfl
@[simp] theorem State.setPort_logLost (q : Nat) (x : Port) : (s.setPort q x).logLost = s.logLost := rfl
@[simp] theorem State.setPort_subMask (q : Nat) (x : Port) : (s.setPort q x).subMask = s.subMask := rfl
@[simp] theorem State.setPort_notify (q : Nat) (x : Port) : (s.setPort q x).notify = s.notify := rfl
@[simp] theorem State.setPort_store (q : Nat) (x : Port) : (s.setPort q x).store = s.store := rfl
@[simp] theorem State.setPort_host (q : Nat) (x : Port) : (s.setPort q x).host = s.host := rfl
@[simp] theorem State.setPort_sec (q : Nat) (x : Port) : (s.setPort q x).sec = s.sec := rfl
@[simp] theorem State.setPort_mgt (q : Nat) (x : Port) : (s.setPort q x).mgt = s.mgt := rfl
@[simp] theorem State.setPort_tel (q : Nat) (x : Port) : (s.setPort q x).tel = s.tel := rfl
@[simp] theorem State.setPort_pkg (q : Nat) (x : Port) : (s.setPort q x).pkg = s.pkg := rfl
@[simp] theorem State.setPort_windows (q : Nat) (x : Port) : (s.setPort q x).windows = s.windows := rfl
@[simp] theorem State.setPort_heldPkts (q : Nat) (x : Port) : (s.setPort q x).heldPkts = s.heldPkts := rfl
@[simp] theorem State.setPort_tagUse (q : Nat) (x : Port) : (s.setPort q x).tagUse = s.tagUse := rfl
@[simp] theorem State.setPort_tagGen (q : Nat) (x : Port) : (s.setPort q x).tagGen = s.tagGen := rfl
@[simp] theorem State.setPort_ftime (q : Nat) (x : Port) : (s.setPort q x).ftime = s.ftime := rfl
@[simp] theorem State.setPort_ffrac (q : Nat) (x : Port) : (s.setPort q x).ffrac = s.ffrac := rfl
@[simp] theorem State.setPort_finc (q : Nat) (x : Port) : (s.setPort q x).finc = s.finc := rfl
@[simp] theorem State.setPort_out (q : Nat) (x : Port) : (s.setPort q x).out = s.out := rfl
@[simp] theorem State.setPort_free (q : Nat) (x : Port) : (s.setPort q x).free = s.free := rfl
@[simp] theorem State.setPort_rd (q : Nat) (x : Port) (d : Card) (i j : Nat) : (s.setPort q x).rd d i j = s.rd d i j := rfl
@[simp] theorem State.setPort_rdF (q : Nat) (x : Port) (d : Card) (h : Fld) (i j : Nat) : (s.setPort q x).rdF d h i j = s.rdF d h i j := rfl
@[simp] theorem State.setPort_rdEff (q : Nat) (x : Port) (d : Card) (i j : Nat) : (s.setPort q x).rdEff d i j = s.rdEff d i j := rfl
@[simp] theorem State.setPort_part (q : Nat) (x : Port) (j : Nat) : (s.setPort q x).part j = s.part j := rfl
@[simp] theorem State.setPort_core (q : Nat) (x : Port) (j : Nat) : (s.setPort q x).core j = s.core j := rfl
@[simp] theorem State.setPort_hub (q : Nat) (x : Port) (j : Nat) : (s.setPort q x).hub j = s.hub j := rfl

/-! ### updPort -/

@[simp] theorem State.updPort_pending (q : Nat) (g : Port → Port) : (s.updPort q g).pending = s.pending := rfl
@[simp] theorem State.updPort_regs (q : Nat) (g : Port → Port) : (s.updPort q g).regs = s.regs := rfl
@[simp] theorem State.updPort_mem (q : Nat) (g : Port → Port) : (s.updPort q g).mem = s.mem := rfl
@[simp] theorem State.updPort_gran (q : Nat) (g : Port → Port) : (s.updPort q g).gran = s.gran := rfl
@[simp] theorem State.updPort_parts (q : Nat) (g : Port → Port) : (s.updPort q g).parts = s.parts := rfl
@[simp] theorem State.updPort_chip (q : Nat) (g : Port → Port) : (s.updPort q g).chip = s.chip := rfl
@[simp] theorem State.updPort_cores (q : Nat) (g : Port → Port) : (s.updPort q g).cores = s.cores := rfl
@[simp] theorem State.updPort_hubs (q : Nat) (g : Port → Port) : (s.updPort q g).hubs = s.hubs := rfl
@[simp] theorem State.updPort_greqs (q : Nat) (g : Port → Port) : (s.updPort q g).greqs = s.greqs := rfl
@[simp] theorem State.updPort_greqNext (q : Nat) (g : Port → Port) : (s.updPort q g).greqNext = s.greqNext := rfl
@[simp] theorem State.updPort_phys (q : Nat) (g : Port → Port) : (s.updPort q g).phys = s.phys := rfl
@[simp] theorem State.updPort_scrubPos (q : Nat) (g : Port → Port) : (s.updPort q g).scrubPos = s.scrubPos := rfl
@[simp] theorem State.updPort_scrubRows (q : Nat) (g : Port → Port) : (s.updPort q g).scrubRows = s.scrubRows := rfl
@[simp] theorem State.updPort_repair (q : Nat) (g : Port → Port) : (s.updPort q g).repair = s.repair := rfl
@[simp] theorem State.updPort_pools (q : Nat) (g : Port → Port) : (s.updPort q g).pools = s.pools := rfl
@[simp] theorem State.updPort_sweeps (q : Nat) (g : Port → Port) : (s.updPort q g).sweeps = s.sweeps := rfl
@[simp] theorem State.updPort_log (q : Nat) (g : Port → Port) : (s.updPort q g).log = s.log := rfl
@[simp] theorem State.updPort_logNext (q : Nat) (g : Port → Port) : (s.updPort q g).logNext = s.logNext := rfl
@[simp] theorem State.updPort_logLost (q : Nat) (g : Port → Port) : (s.updPort q g).logLost = s.logLost := rfl
@[simp] theorem State.updPort_subMask (q : Nat) (g : Port → Port) : (s.updPort q g).subMask = s.subMask := rfl
@[simp] theorem State.updPort_notify (q : Nat) (g : Port → Port) : (s.updPort q g).notify = s.notify := rfl
@[simp] theorem State.updPort_store (q : Nat) (g : Port → Port) : (s.updPort q g).store = s.store := rfl
@[simp] theorem State.updPort_host (q : Nat) (g : Port → Port) : (s.updPort q g).host = s.host := rfl
@[simp] theorem State.updPort_sec (q : Nat) (g : Port → Port) : (s.updPort q g).sec = s.sec := rfl
@[simp] theorem State.updPort_mgt (q : Nat) (g : Port → Port) : (s.updPort q g).mgt = s.mgt := rfl
@[simp] theorem State.updPort_tel (q : Nat) (g : Port → Port) : (s.updPort q g).tel = s.tel := rfl
@[simp] theorem State.updPort_pkg (q : Nat) (g : Port → Port) : (s.updPort q g).pkg = s.pkg := rfl
@[simp] theorem State.updPort_windows (q : Nat) (g : Port → Port) : (s.updPort q g).windows = s.windows := rfl
@[simp] theorem State.updPort_heldPkts (q : Nat) (g : Port → Port) : (s.updPort q g).heldPkts = s.heldPkts := rfl
@[simp] theorem State.updPort_tagUse (q : Nat) (g : Port → Port) : (s.updPort q g).tagUse = s.tagUse := rfl
@[simp] theorem State.updPort_tagGen (q : Nat) (g : Port → Port) : (s.updPort q g).tagGen = s.tagGen := rfl
@[simp] theorem State.updPort_ftime (q : Nat) (g : Port → Port) : (s.updPort q g).ftime = s.ftime := rfl
@[simp] theorem State.updPort_ffrac (q : Nat) (g : Port → Port) : (s.updPort q g).ffrac = s.ffrac := rfl
@[simp] theorem State.updPort_finc (q : Nat) (g : Port → Port) : (s.updPort q g).finc = s.finc := rfl
@[simp] theorem State.updPort_out (q : Nat) (g : Port → Port) : (s.updPort q g).out = s.out := rfl
@[simp] theorem State.updPort_free (q : Nat) (g : Port → Port) : (s.updPort q g).free = s.free := rfl
@[simp] theorem State.updPort_rd (q : Nat) (g : Port → Port) (d : Card) (i j : Nat) : (s.updPort q g).rd d i j = s.rd d i j := rfl
@[simp] theorem State.updPort_rdF (q : Nat) (g : Port → Port) (d : Card) (h : Fld) (i j : Nat) : (s.updPort q g).rdF d h i j = s.rdF d h i j := rfl
@[simp] theorem State.updPort_rdEff (q : Nat) (g : Port → Port) (d : Card) (i j : Nat) : (s.updPort q g).rdEff d i j = s.rdEff d i j := rfl
@[simp] theorem State.updPort_part (q : Nat) (g : Port → Port) (j : Nat) : (s.updPort q g).part j = s.part j := rfl
@[simp] theorem State.updPort_core (q : Nat) (g : Port → Port) (j : Nat) : (s.updPort q g).core j = s.core j := rfl
@[simp] theorem State.updPort_hub (q : Nat) (g : Port → Port) (j : Nat) : (s.updPort q g).hub j = s.hub j := rfl

/-! ### host! -/

@[simp] theorem State.host!_pending (g : HostSt → HostSt) : (s.host! g).pending = s.pending := rfl
@[simp] theorem State.host!_regs (g : HostSt → HostSt) : (s.host! g).regs = s.regs := rfl
@[simp] theorem State.host!_mem (g : HostSt → HostSt) : (s.host! g).mem = s.mem := rfl
@[simp] theorem State.host!_gran (g : HostSt → HostSt) : (s.host! g).gran = s.gran := rfl
@[simp] theorem State.host!_parts (g : HostSt → HostSt) : (s.host! g).parts = s.parts := rfl
@[simp] theorem State.host!_chip (g : HostSt → HostSt) : (s.host! g).chip = s.chip := rfl
@[simp] theorem State.host!_cores (g : HostSt → HostSt) : (s.host! g).cores = s.cores := rfl
@[simp] theorem State.host!_hubs (g : HostSt → HostSt) : (s.host! g).hubs = s.hubs := rfl
@[simp] theorem State.host!_greqs (g : HostSt → HostSt) : (s.host! g).greqs = s.greqs := rfl
@[simp] theorem State.host!_greqNext (g : HostSt → HostSt) : (s.host! g).greqNext = s.greqNext := rfl
@[simp] theorem State.host!_phys (g : HostSt → HostSt) : (s.host! g).phys = s.phys := rfl
@[simp] theorem State.host!_scrubPos (g : HostSt → HostSt) : (s.host! g).scrubPos = s.scrubPos := rfl
@[simp] theorem State.host!_scrubRows (g : HostSt → HostSt) : (s.host! g).scrubRows = s.scrubRows := rfl
@[simp] theorem State.host!_repair (g : HostSt → HostSt) : (s.host! g).repair = s.repair := rfl
@[simp] theorem State.host!_pools (g : HostSt → HostSt) : (s.host! g).pools = s.pools := rfl
@[simp] theorem State.host!_sweeps (g : HostSt → HostSt) : (s.host! g).sweeps = s.sweeps := rfl
@[simp] theorem State.host!_log (g : HostSt → HostSt) : (s.host! g).log = s.log := rfl
@[simp] theorem State.host!_logNext (g : HostSt → HostSt) : (s.host! g).logNext = s.logNext := rfl
@[simp] theorem State.host!_logLost (g : HostSt → HostSt) : (s.host! g).logLost = s.logLost := rfl
@[simp] theorem State.host!_subMask (g : HostSt → HostSt) : (s.host! g).subMask = s.subMask := rfl
@[simp] theorem State.host!_notify (g : HostSt → HostSt) : (s.host! g).notify = s.notify := rfl
@[simp] theorem State.host!_store (g : HostSt → HostSt) : (s.host! g).store = s.store := rfl
@[simp] theorem State.host!_sec (g : HostSt → HostSt) : (s.host! g).sec = s.sec := rfl
@[simp] theorem State.host!_mgt (g : HostSt → HostSt) : (s.host! g).mgt = s.mgt := rfl
@[simp] theorem State.host!_tel (g : HostSt → HostSt) : (s.host! g).tel = s.tel := rfl
@[simp] theorem State.host!_pkg (g : HostSt → HostSt) : (s.host! g).pkg = s.pkg := rfl
@[simp] theorem State.host!_windows (g : HostSt → HostSt) : (s.host! g).windows = s.windows := rfl
@[simp] theorem State.host!_ports (g : HostSt → HostSt) : (s.host! g).ports = s.ports := rfl
@[simp] theorem State.host!_heldPkts (g : HostSt → HostSt) : (s.host! g).heldPkts = s.heldPkts := rfl
@[simp] theorem State.host!_tagUse (g : HostSt → HostSt) : (s.host! g).tagUse = s.tagUse := rfl
@[simp] theorem State.host!_tagGen (g : HostSt → HostSt) : (s.host! g).tagGen = s.tagGen := rfl
@[simp] theorem State.host!_ftime (g : HostSt → HostSt) : (s.host! g).ftime = s.ftime := rfl
@[simp] theorem State.host!_ffrac (g : HostSt → HostSt) : (s.host! g).ffrac = s.ffrac := rfl
@[simp] theorem State.host!_finc (g : HostSt → HostSt) : (s.host! g).finc = s.finc := rfl
@[simp] theorem State.host!_out (g : HostSt → HostSt) : (s.host! g).out = s.out := rfl
@[simp] theorem State.host!_free (g : HostSt → HostSt) : (s.host! g).free = s.free := rfl
@[simp] theorem State.host!_rd (g : HostSt → HostSt) (d : Card) (i j : Nat) : (s.host! g).rd d i j = s.rd d i j := rfl
@[simp] theorem State.host!_rdF (g : HostSt → HostSt) (d : Card) (h : Fld) (i j : Nat) : (s.host! g).rdF d h i j = s.rdF d h i j := rfl
@[simp] theorem State.host!_rdEff (g : HostSt → HostSt) (d : Card) (i j : Nat) : (s.host! g).rdEff d i j = s.rdEff d i j := rfl
@[simp] theorem State.host!_part (g : HostSt → HostSt) (j : Nat) : (s.host! g).part j = s.part j := rfl
@[simp] theorem State.host!_core (g : HostSt → HostSt) (j : Nat) : (s.host! g).core j = s.core j := rfl
@[simp] theorem State.host!_hub (g : HostSt → HostSt) (j : Nat) : (s.host! g).hub j = s.hub j := rfl
@[simp] theorem State.host!_port (g : HostSt → HostSt) (j : Nat) : (s.host! g).port j = s.port j := rfl

/-! ### sec! -/

@[simp] theorem State.sec!_pending (g : SecSt → SecSt) : (s.sec! g).pending = s.pending := rfl
@[simp] theorem State.sec!_regs (g : SecSt → SecSt) : (s.sec! g).regs = s.regs := rfl
@[simp] theorem State.sec!_mem (g : SecSt → SecSt) : (s.sec! g).mem = s.mem := rfl
@[simp] theorem State.sec!_gran (g : SecSt → SecSt) : (s.sec! g).gran = s.gran := rfl
@[simp] theorem State.sec!_parts (g : SecSt → SecSt) : (s.sec! g).parts = s.parts := rfl
@[simp] theorem State.sec!_chip (g : SecSt → SecSt) : (s.sec! g).chip = s.chip := rfl
@[simp] theorem State.sec!_cores (g : SecSt → SecSt) : (s.sec! g).cores = s.cores := rfl
@[simp] theorem State.sec!_hubs (g : SecSt → SecSt) : (s.sec! g).hubs = s.hubs := rfl
@[simp] theorem State.sec!_greqs (g : SecSt → SecSt) : (s.sec! g).greqs = s.greqs := rfl
@[simp] theorem State.sec!_greqNext (g : SecSt → SecSt) : (s.sec! g).greqNext = s.greqNext := rfl
@[simp] theorem State.sec!_phys (g : SecSt → SecSt) : (s.sec! g).phys = s.phys := rfl
@[simp] theorem State.sec!_scrubPos (g : SecSt → SecSt) : (s.sec! g).scrubPos = s.scrubPos := rfl
@[simp] theorem State.sec!_scrubRows (g : SecSt → SecSt) : (s.sec! g).scrubRows = s.scrubRows := rfl
@[simp] theorem State.sec!_repair (g : SecSt → SecSt) : (s.sec! g).repair = s.repair := rfl
@[simp] theorem State.sec!_pools (g : SecSt → SecSt) : (s.sec! g).pools = s.pools := rfl
@[simp] theorem State.sec!_sweeps (g : SecSt → SecSt) : (s.sec! g).sweeps = s.sweeps := rfl
@[simp] theorem State.sec!_log (g : SecSt → SecSt) : (s.sec! g).log = s.log := rfl
@[simp] theorem State.sec!_logNext (g : SecSt → SecSt) : (s.sec! g).logNext = s.logNext := rfl
@[simp] theorem State.sec!_logLost (g : SecSt → SecSt) : (s.sec! g).logLost = s.logLost := rfl
@[simp] theorem State.sec!_subMask (g : SecSt → SecSt) : (s.sec! g).subMask = s.subMask := rfl
@[simp] theorem State.sec!_notify (g : SecSt → SecSt) : (s.sec! g).notify = s.notify := rfl
@[simp] theorem State.sec!_store (g : SecSt → SecSt) : (s.sec! g).store = s.store := rfl
@[simp] theorem State.sec!_host (g : SecSt → SecSt) : (s.sec! g).host = s.host := rfl
@[simp] theorem State.sec!_mgt (g : SecSt → SecSt) : (s.sec! g).mgt = s.mgt := rfl
@[simp] theorem State.sec!_tel (g : SecSt → SecSt) : (s.sec! g).tel = s.tel := rfl
@[simp] theorem State.sec!_pkg (g : SecSt → SecSt) : (s.sec! g).pkg = s.pkg := rfl
@[simp] theorem State.sec!_windows (g : SecSt → SecSt) : (s.sec! g).windows = s.windows := rfl
@[simp] theorem State.sec!_ports (g : SecSt → SecSt) : (s.sec! g).ports = s.ports := rfl
@[simp] theorem State.sec!_heldPkts (g : SecSt → SecSt) : (s.sec! g).heldPkts = s.heldPkts := rfl
@[simp] theorem State.sec!_tagUse (g : SecSt → SecSt) : (s.sec! g).tagUse = s.tagUse := rfl
@[simp] theorem State.sec!_tagGen (g : SecSt → SecSt) : (s.sec! g).tagGen = s.tagGen := rfl
@[simp] theorem State.sec!_ftime (g : SecSt → SecSt) : (s.sec! g).ftime = s.ftime := rfl
@[simp] theorem State.sec!_ffrac (g : SecSt → SecSt) : (s.sec! g).ffrac = s.ffrac := rfl
@[simp] theorem State.sec!_finc (g : SecSt → SecSt) : (s.sec! g).finc = s.finc := rfl
@[simp] theorem State.sec!_out (g : SecSt → SecSt) : (s.sec! g).out = s.out := rfl
@[simp] theorem State.sec!_free (g : SecSt → SecSt) : (s.sec! g).free = s.free := rfl
@[simp] theorem State.sec!_rd (g : SecSt → SecSt) (d : Card) (i j : Nat) : (s.sec! g).rd d i j = s.rd d i j := rfl
@[simp] theorem State.sec!_rdF (g : SecSt → SecSt) (d : Card) (h : Fld) (i j : Nat) : (s.sec! g).rdF d h i j = s.rdF d h i j := rfl
@[simp] theorem State.sec!_rdEff (g : SecSt → SecSt) (d : Card) (i j : Nat) : (s.sec! g).rdEff d i j = s.rdEff d i j := rfl
@[simp] theorem State.sec!_part (g : SecSt → SecSt) (j : Nat) : (s.sec! g).part j = s.part j := rfl
@[simp] theorem State.sec!_core (g : SecSt → SecSt) (j : Nat) : (s.sec! g).core j = s.core j := rfl
@[simp] theorem State.sec!_hub (g : SecSt → SecSt) (j : Nat) : (s.sec! g).hub j = s.hub j := rfl
@[simp] theorem State.sec!_port (g : SecSt → SecSt) (j : Nat) : (s.sec! g).port j = s.port j := rfl

/-! ### mgt! -/

@[simp] theorem State.mgt!_pending (g : MgtSt → MgtSt) : (s.mgt! g).pending = s.pending := rfl
@[simp] theorem State.mgt!_regs (g : MgtSt → MgtSt) : (s.mgt! g).regs = s.regs := rfl
@[simp] theorem State.mgt!_mem (g : MgtSt → MgtSt) : (s.mgt! g).mem = s.mem := rfl
@[simp] theorem State.mgt!_gran (g : MgtSt → MgtSt) : (s.mgt! g).gran = s.gran := rfl
@[simp] theorem State.mgt!_parts (g : MgtSt → MgtSt) : (s.mgt! g).parts = s.parts := rfl
@[simp] theorem State.mgt!_chip (g : MgtSt → MgtSt) : (s.mgt! g).chip = s.chip := rfl
@[simp] theorem State.mgt!_cores (g : MgtSt → MgtSt) : (s.mgt! g).cores = s.cores := rfl
@[simp] theorem State.mgt!_hubs (g : MgtSt → MgtSt) : (s.mgt! g).hubs = s.hubs := rfl
@[simp] theorem State.mgt!_greqs (g : MgtSt → MgtSt) : (s.mgt! g).greqs = s.greqs := rfl
@[simp] theorem State.mgt!_greqNext (g : MgtSt → MgtSt) : (s.mgt! g).greqNext = s.greqNext := rfl
@[simp] theorem State.mgt!_phys (g : MgtSt → MgtSt) : (s.mgt! g).phys = s.phys := rfl
@[simp] theorem State.mgt!_scrubPos (g : MgtSt → MgtSt) : (s.mgt! g).scrubPos = s.scrubPos := rfl
@[simp] theorem State.mgt!_scrubRows (g : MgtSt → MgtSt) : (s.mgt! g).scrubRows = s.scrubRows := rfl
@[simp] theorem State.mgt!_repair (g : MgtSt → MgtSt) : (s.mgt! g).repair = s.repair := rfl
@[simp] theorem State.mgt!_pools (g : MgtSt → MgtSt) : (s.mgt! g).pools = s.pools := rfl
@[simp] theorem State.mgt!_sweeps (g : MgtSt → MgtSt) : (s.mgt! g).sweeps = s.sweeps := rfl
@[simp] theorem State.mgt!_log (g : MgtSt → MgtSt) : (s.mgt! g).log = s.log := rfl
@[simp] theorem State.mgt!_logNext (g : MgtSt → MgtSt) : (s.mgt! g).logNext = s.logNext := rfl
@[simp] theorem State.mgt!_logLost (g : MgtSt → MgtSt) : (s.mgt! g).logLost = s.logLost := rfl
@[simp] theorem State.mgt!_subMask (g : MgtSt → MgtSt) : (s.mgt! g).subMask = s.subMask := rfl
@[simp] theorem State.mgt!_notify (g : MgtSt → MgtSt) : (s.mgt! g).notify = s.notify := rfl
@[simp] theorem State.mgt!_store (g : MgtSt → MgtSt) : (s.mgt! g).store = s.store := rfl
@[simp] theorem State.mgt!_host (g : MgtSt → MgtSt) : (s.mgt! g).host = s.host := rfl
@[simp] theorem State.mgt!_sec (g : MgtSt → MgtSt) : (s.mgt! g).sec = s.sec := rfl
@[simp] theorem State.mgt!_tel (g : MgtSt → MgtSt) : (s.mgt! g).tel = s.tel := rfl
@[simp] theorem State.mgt!_pkg (g : MgtSt → MgtSt) : (s.mgt! g).pkg = s.pkg := rfl
@[simp] theorem State.mgt!_windows (g : MgtSt → MgtSt) : (s.mgt! g).windows = s.windows := rfl
@[simp] theorem State.mgt!_ports (g : MgtSt → MgtSt) : (s.mgt! g).ports = s.ports := rfl
@[simp] theorem State.mgt!_heldPkts (g : MgtSt → MgtSt) : (s.mgt! g).heldPkts = s.heldPkts := rfl
@[simp] theorem State.mgt!_tagUse (g : MgtSt → MgtSt) : (s.mgt! g).tagUse = s.tagUse := rfl
@[simp] theorem State.mgt!_tagGen (g : MgtSt → MgtSt) : (s.mgt! g).tagGen = s.tagGen := rfl
@[simp] theorem State.mgt!_ftime (g : MgtSt → MgtSt) : (s.mgt! g).ftime = s.ftime := rfl
@[simp] theorem State.mgt!_ffrac (g : MgtSt → MgtSt) : (s.mgt! g).ffrac = s.ffrac := rfl
@[simp] theorem State.mgt!_finc (g : MgtSt → MgtSt) : (s.mgt! g).finc = s.finc := rfl
@[simp] theorem State.mgt!_out (g : MgtSt → MgtSt) : (s.mgt! g).out = s.out := rfl
@[simp] theorem State.mgt!_free (g : MgtSt → MgtSt) : (s.mgt! g).free = s.free := rfl
@[simp] theorem State.mgt!_rd (g : MgtSt → MgtSt) (d : Card) (i j : Nat) : (s.mgt! g).rd d i j = s.rd d i j := rfl
@[simp] theorem State.mgt!_rdF (g : MgtSt → MgtSt) (d : Card) (h : Fld) (i j : Nat) : (s.mgt! g).rdF d h i j = s.rdF d h i j := rfl
@[simp] theorem State.mgt!_rdEff (g : MgtSt → MgtSt) (d : Card) (i j : Nat) : (s.mgt! g).rdEff d i j = s.rdEff d i j := rfl
@[simp] theorem State.mgt!_part (g : MgtSt → MgtSt) (j : Nat) : (s.mgt! g).part j = s.part j := rfl
@[simp] theorem State.mgt!_core (g : MgtSt → MgtSt) (j : Nat) : (s.mgt! g).core j = s.core j := rfl
@[simp] theorem State.mgt!_hub (g : MgtSt → MgtSt) (j : Nat) : (s.mgt! g).hub j = s.hub j := rfl
@[simp] theorem State.mgt!_port (g : MgtSt → MgtSt) (j : Nat) : (s.mgt! g).port j = s.port j := rfl

/-! ### tel! -/

@[simp] theorem State.tel!_pending (g : TelSt → TelSt) : (s.tel! g).pending = s.pending := rfl
@[simp] theorem State.tel!_regs (g : TelSt → TelSt) : (s.tel! g).regs = s.regs := rfl
@[simp] theorem State.tel!_mem (g : TelSt → TelSt) : (s.tel! g).mem = s.mem := rfl
@[simp] theorem State.tel!_gran (g : TelSt → TelSt) : (s.tel! g).gran = s.gran := rfl
@[simp] theorem State.tel!_parts (g : TelSt → TelSt) : (s.tel! g).parts = s.parts := rfl
@[simp] theorem State.tel!_chip (g : TelSt → TelSt) : (s.tel! g).chip = s.chip := rfl
@[simp] theorem State.tel!_cores (g : TelSt → TelSt) : (s.tel! g).cores = s.cores := rfl
@[simp] theorem State.tel!_hubs (g : TelSt → TelSt) : (s.tel! g).hubs = s.hubs := rfl
@[simp] theorem State.tel!_greqs (g : TelSt → TelSt) : (s.tel! g).greqs = s.greqs := rfl
@[simp] theorem State.tel!_greqNext (g : TelSt → TelSt) : (s.tel! g).greqNext = s.greqNext := rfl
@[simp] theorem State.tel!_phys (g : TelSt → TelSt) : (s.tel! g).phys = s.phys := rfl
@[simp] theorem State.tel!_scrubPos (g : TelSt → TelSt) : (s.tel! g).scrubPos = s.scrubPos := rfl
@[simp] theorem State.tel!_scrubRows (g : TelSt → TelSt) : (s.tel! g).scrubRows = s.scrubRows := rfl
@[simp] theorem State.tel!_repair (g : TelSt → TelSt) : (s.tel! g).repair = s.repair := rfl
@[simp] theorem State.tel!_pools (g : TelSt → TelSt) : (s.tel! g).pools = s.pools := rfl
@[simp] theorem State.tel!_sweeps (g : TelSt → TelSt) : (s.tel! g).sweeps = s.sweeps := rfl
@[simp] theorem State.tel!_log (g : TelSt → TelSt) : (s.tel! g).log = s.log := rfl
@[simp] theorem State.tel!_logNext (g : TelSt → TelSt) : (s.tel! g).logNext = s.logNext := rfl
@[simp] theorem State.tel!_logLost (g : TelSt → TelSt) : (s.tel! g).logLost = s.logLost := rfl
@[simp] theorem State.tel!_subMask (g : TelSt → TelSt) : (s.tel! g).subMask = s.subMask := rfl
@[simp] theorem State.tel!_notify (g : TelSt → TelSt) : (s.tel! g).notify = s.notify := rfl
@[simp] theorem State.tel!_store (g : TelSt → TelSt) : (s.tel! g).store = s.store := rfl
@[simp] theorem State.tel!_host (g : TelSt → TelSt) : (s.tel! g).host = s.host := rfl
@[simp] theorem State.tel!_sec (g : TelSt → TelSt) : (s.tel! g).sec = s.sec := rfl
@[simp] theorem State.tel!_mgt (g : TelSt → TelSt) : (s.tel! g).mgt = s.mgt := rfl
@[simp] theorem State.tel!_pkg (g : TelSt → TelSt) : (s.tel! g).pkg = s.pkg := rfl
@[simp] theorem State.tel!_windows (g : TelSt → TelSt) : (s.tel! g).windows = s.windows := rfl
@[simp] theorem State.tel!_ports (g : TelSt → TelSt) : (s.tel! g).ports = s.ports := rfl
@[simp] theorem State.tel!_heldPkts (g : TelSt → TelSt) : (s.tel! g).heldPkts = s.heldPkts := rfl
@[simp] theorem State.tel!_tagUse (g : TelSt → TelSt) : (s.tel! g).tagUse = s.tagUse := rfl
@[simp] theorem State.tel!_tagGen (g : TelSt → TelSt) : (s.tel! g).tagGen = s.tagGen := rfl
@[simp] theorem State.tel!_ftime (g : TelSt → TelSt) : (s.tel! g).ftime = s.ftime := rfl
@[simp] theorem State.tel!_ffrac (g : TelSt → TelSt) : (s.tel! g).ffrac = s.ffrac := rfl
@[simp] theorem State.tel!_finc (g : TelSt → TelSt) : (s.tel! g).finc = s.finc := rfl
@[simp] theorem State.tel!_out (g : TelSt → TelSt) : (s.tel! g).out = s.out := rfl
@[simp] theorem State.tel!_free (g : TelSt → TelSt) : (s.tel! g).free = s.free := rfl
@[simp] theorem State.tel!_rd (g : TelSt → TelSt) (d : Card) (i j : Nat) : (s.tel! g).rd d i j = s.rd d i j := rfl
@[simp] theorem State.tel!_rdF (g : TelSt → TelSt) (d : Card) (h : Fld) (i j : Nat) : (s.tel! g).rdF d h i j = s.rdF d h i j := rfl
@[simp] theorem State.tel!_rdEff (g : TelSt → TelSt) (d : Card) (i j : Nat) : (s.tel! g).rdEff d i j = s.rdEff d i j := rfl
@[simp] theorem State.tel!_part (g : TelSt → TelSt) (j : Nat) : (s.tel! g).part j = s.part j := rfl
@[simp] theorem State.tel!_core (g : TelSt → TelSt) (j : Nat) : (s.tel! g).core j = s.core j := rfl
@[simp] theorem State.tel!_hub (g : TelSt → TelSt) (j : Nat) : (s.tel! g).hub j = s.hub j := rfl
@[simp] theorem State.tel!_port (g : TelSt → TelSt) (j : Nat) : (s.tel! g).port j = s.port j := rfl

/-! ### pkg! -/

@[simp] theorem State.pkg!_pending (g : PkgSt → PkgSt) : (s.pkg! g).pending = s.pending := rfl
@[simp] theorem State.pkg!_regs (g : PkgSt → PkgSt) : (s.pkg! g).regs = s.regs := rfl
@[simp] theorem State.pkg!_mem (g : PkgSt → PkgSt) : (s.pkg! g).mem = s.mem := rfl
@[simp] theorem State.pkg!_gran (g : PkgSt → PkgSt) : (s.pkg! g).gran = s.gran := rfl
@[simp] theorem State.pkg!_parts (g : PkgSt → PkgSt) : (s.pkg! g).parts = s.parts := rfl
@[simp] theorem State.pkg!_chip (g : PkgSt → PkgSt) : (s.pkg! g).chip = s.chip := rfl
@[simp] theorem State.pkg!_cores (g : PkgSt → PkgSt) : (s.pkg! g).cores = s.cores := rfl
@[simp] theorem State.pkg!_hubs (g : PkgSt → PkgSt) : (s.pkg! g).hubs = s.hubs := rfl
@[simp] theorem State.pkg!_greqs (g : PkgSt → PkgSt) : (s.pkg! g).greqs = s.greqs := rfl
@[simp] theorem State.pkg!_greqNext (g : PkgSt → PkgSt) : (s.pkg! g).greqNext = s.greqNext := rfl
@[simp] theorem State.pkg!_phys (g : PkgSt → PkgSt) : (s.pkg! g).phys = s.phys := rfl
@[simp] theorem State.pkg!_scrubPos (g : PkgSt → PkgSt) : (s.pkg! g).scrubPos = s.scrubPos := rfl
@[simp] theorem State.pkg!_scrubRows (g : PkgSt → PkgSt) : (s.pkg! g).scrubRows = s.scrubRows := rfl
@[simp] theorem State.pkg!_repair (g : PkgSt → PkgSt) : (s.pkg! g).repair = s.repair := rfl
@[simp] theorem State.pkg!_pools (g : PkgSt → PkgSt) : (s.pkg! g).pools = s.pools := rfl
@[simp] theorem State.pkg!_sweeps (g : PkgSt → PkgSt) : (s.pkg! g).sweeps = s.sweeps := rfl
@[simp] theorem State.pkg!_log (g : PkgSt → PkgSt) : (s.pkg! g).log = s.log := rfl
@[simp] theorem State.pkg!_logNext (g : PkgSt → PkgSt) : (s.pkg! g).logNext = s.logNext := rfl
@[simp] theorem State.pkg!_logLost (g : PkgSt → PkgSt) : (s.pkg! g).logLost = s.logLost := rfl
@[simp] theorem State.pkg!_subMask (g : PkgSt → PkgSt) : (s.pkg! g).subMask = s.subMask := rfl
@[simp] theorem State.pkg!_notify (g : PkgSt → PkgSt) : (s.pkg! g).notify = s.notify := rfl
@[simp] theorem State.pkg!_store (g : PkgSt → PkgSt) : (s.pkg! g).store = s.store := rfl
@[simp] theorem State.pkg!_host (g : PkgSt → PkgSt) : (s.pkg! g).host = s.host := rfl
@[simp] theorem State.pkg!_sec (g : PkgSt → PkgSt) : (s.pkg! g).sec = s.sec := rfl
@[simp] theorem State.pkg!_mgt (g : PkgSt → PkgSt) : (s.pkg! g).mgt = s.mgt := rfl
@[simp] theorem State.pkg!_tel (g : PkgSt → PkgSt) : (s.pkg! g).tel = s.tel := rfl
@[simp] theorem State.pkg!_windows (g : PkgSt → PkgSt) : (s.pkg! g).windows = s.windows := rfl
@[simp] theorem State.pkg!_ports (g : PkgSt → PkgSt) : (s.pkg! g).ports = s.ports := rfl
@[simp] theorem State.pkg!_heldPkts (g : PkgSt → PkgSt) : (s.pkg! g).heldPkts = s.heldPkts := rfl
@[simp] theorem State.pkg!_tagUse (g : PkgSt → PkgSt) : (s.pkg! g).tagUse = s.tagUse := rfl
@[simp] theorem State.pkg!_tagGen (g : PkgSt → PkgSt) : (s.pkg! g).tagGen = s.tagGen := rfl
@[simp] theorem State.pkg!_ftime (g : PkgSt → PkgSt) : (s.pkg! g).ftime = s.ftime := rfl
@[simp] theorem State.pkg!_ffrac (g : PkgSt → PkgSt) : (s.pkg! g).ffrac = s.ffrac := rfl
@[simp] theorem State.pkg!_finc (g : PkgSt → PkgSt) : (s.pkg! g).finc = s.finc := rfl
@[simp] theorem State.pkg!_out (g : PkgSt → PkgSt) : (s.pkg! g).out = s.out := rfl
@[simp] theorem State.pkg!_free (g : PkgSt → PkgSt) : (s.pkg! g).free = s.free := rfl
@[simp] theorem State.pkg!_rd (g : PkgSt → PkgSt) (d : Card) (i j : Nat) : (s.pkg! g).rd d i j = s.rd d i j := rfl
@[simp] theorem State.pkg!_rdF (g : PkgSt → PkgSt) (d : Card) (h : Fld) (i j : Nat) : (s.pkg! g).rdF d h i j = s.rdF d h i j := rfl
@[simp] theorem State.pkg!_rdEff (g : PkgSt → PkgSt) (d : Card) (i j : Nat) : (s.pkg! g).rdEff d i j = s.rdEff d i j := rfl
@[simp] theorem State.pkg!_part (g : PkgSt → PkgSt) (j : Nat) : (s.pkg! g).part j = s.part j := rfl
@[simp] theorem State.pkg!_core (g : PkgSt → PkgSt) (j : Nat) : (s.pkg! g).core j = s.core j := rfl
@[simp] theorem State.pkg!_hub (g : PkgSt → PkgSt) (j : Nat) : (s.pkg! g).hub j = s.hub j := rfl
@[simp] theorem State.pkg!_port (g : PkgSt → PkgSt) (j : Nat) : (s.pkg! g).port j = s.port j := rfl

/-! ### chip! -/

@[simp] theorem State.chip!_pending (g : Chip → Chip) : (s.chip! g).pending = s.pending := rfl
@[simp] theorem State.chip!_regs (g : Chip → Chip) : (s.chip! g).regs = s.regs := rfl
@[simp] theorem State.chip!_mem (g : Chip → Chip) : (s.chip! g).mem = s.mem := rfl
@[simp] theorem State.chip!_gran (g : Chip → Chip) : (s.chip! g).gran = s.gran := rfl
@[simp] theorem State.chip!_parts (g : Chip → Chip) : (s.chip! g).parts = s.parts := rfl
@[simp] theorem State.chip!_cores (g : Chip → Chip) : (s.chip! g).cores = s.cores := rfl
@[simp] theorem State.chip!_hubs (g : Chip → Chip) : (s.chip! g).hubs = s.hubs := rfl
@[simp] theorem State.chip!_greqs (g : Chip → Chip) : (s.chip! g).greqs = s.greqs := rfl
@[simp] theorem State.chip!_greqNext (g : Chip → Chip) : (s.chip! g).greqNext = s.greqNext := rfl
@[simp] theorem State.chip!_phys (g : Chip → Chip) : (s.chip! g).phys = s.phys := rfl
@[simp] theorem State.chip!_scrubPos (g : Chip → Chip) : (s.chip! g).scrubPos = s.scrubPos := rfl
@[simp] theorem State.chip!_scrubRows (g : Chip → Chip) : (s.chip! g).scrubRows = s.scrubRows := rfl
@[simp] theorem State.chip!_repair (g : Chip → Chip) : (s.chip! g).repair = s.repair := rfl
@[simp] theorem State.chip!_pools (g : Chip → Chip) : (s.chip! g).pools = s.pools := rfl
@[simp] theorem State.chip!_sweeps (g : Chip → Chip) : (s.chip! g).sweeps = s.sweeps := rfl
@[simp] theorem State.chip!_log (g : Chip → Chip) : (s.chip! g).log = s.log := rfl
@[simp] theorem State.chip!_logNext (g : Chip → Chip) : (s.chip! g).logNext = s.logNext := rfl
@[simp] theorem State.chip!_logLost (g : Chip → Chip) : (s.chip! g).logLost = s.logLost := rfl
@[simp] theorem State.chip!_subMask (g : Chip → Chip) : (s.chip! g).subMask = s.subMask := rfl
@[simp] theorem State.chip!_notify (g : Chip → Chip) : (s.chip! g).notify = s.notify := rfl
@[simp] theorem State.chip!_store (g : Chip → Chip) : (s.chip! g).store = s.store := rfl
@[simp] theorem State.chip!_host (g : Chip → Chip) : (s.chip! g).host = s.host := rfl
@[simp] theorem State.chip!_sec (g : Chip → Chip) : (s.chip! g).sec = s.sec := rfl
@[simp] theorem State.chip!_mgt (g : Chip → Chip) : (s.chip! g).mgt = s.mgt := rfl
@[simp] theorem State.chip!_tel (g : Chip → Chip) : (s.chip! g).tel = s.tel := rfl
@[simp] theorem State.chip!_pkg (g : Chip → Chip) : (s.chip! g).pkg = s.pkg := rfl
@[simp] theorem State.chip!_windows (g : Chip → Chip) : (s.chip! g).windows = s.windows := rfl
@[simp] theorem State.chip!_ports (g : Chip → Chip) : (s.chip! g).ports = s.ports := rfl
@[simp] theorem State.chip!_heldPkts (g : Chip → Chip) : (s.chip! g).heldPkts = s.heldPkts := rfl
@[simp] theorem State.chip!_tagUse (g : Chip → Chip) : (s.chip! g).tagUse = s.tagUse := rfl
@[simp] theorem State.chip!_tagGen (g : Chip → Chip) : (s.chip! g).tagGen = s.tagGen := rfl
@[simp] theorem State.chip!_ftime (g : Chip → Chip) : (s.chip! g).ftime = s.ftime := rfl
@[simp] theorem State.chip!_ffrac (g : Chip → Chip) : (s.chip! g).ffrac = s.ffrac := rfl
@[simp] theorem State.chip!_finc (g : Chip → Chip) : (s.chip! g).finc = s.finc := rfl
@[simp] theorem State.chip!_out (g : Chip → Chip) : (s.chip! g).out = s.out := rfl
@[simp] theorem State.chip!_free (g : Chip → Chip) : (s.chip! g).free = s.free := rfl
@[simp] theorem State.chip!_rd (g : Chip → Chip) (d : Card) (i j : Nat) : (s.chip! g).rd d i j = s.rd d i j := rfl
@[simp] theorem State.chip!_rdF (g : Chip → Chip) (d : Card) (h : Fld) (i j : Nat) : (s.chip! g).rdF d h i j = s.rdF d h i j := rfl
@[simp] theorem State.chip!_rdEff (g : Chip → Chip) (d : Card) (i j : Nat) : (s.chip! g).rdEff d i j = s.rdEff d i j := rfl
@[simp] theorem State.chip!_part (g : Chip → Chip) (j : Nat) : (s.chip! g).part j = s.part j := rfl
@[simp] theorem State.chip!_core (g : Chip → Chip) (j : Nat) : (s.chip! g).core j = s.core j := rfl
@[simp] theorem State.chip!_hub (g : Chip → Chip) (j : Nat) : (s.chip! g).hub j = s.hub j := rfl
@[simp] theorem State.chip!_port (g : Chip → Chip) (j : Nat) : (s.chip! g).port j = s.port j := rfl

/-! ### setPoison -/

@[simp] theorem State.setPoison_pending (a : Nat) (b : Bool) : (s.setPoison a b).pending = s.pending := rfl
@[simp] theorem State.setPoison_regs (a : Nat) (b : Bool) : (s.setPoison a b).regs = s.regs := rfl
@[simp] theorem State.setPoison_mem (a : Nat) (b : Bool) : (s.setPoison a b).mem = s.mem := rfl
@[simp] theorem State.setPoison_parts (a : Nat) (b : Bool) : (s.setPoison a b).parts = s.parts := rfl
@[simp] theorem State.setPoison_chip (a : Nat) (b : Bool) : (s.setPoison a b).chip = s.chip := rfl
@[simp] theorem State.setPoison_cores (a : Nat) (b : Bool) : (s.setPoison a b).cores = s.cores := rfl
@[simp] theorem State.setPoison_hubs (a : Nat) (b : Bool) : (s.setPoison a b).hubs = s.hubs := rfl
@[simp] theorem State.setPoison_greqs (a : Nat) (b : Bool) : (s.setPoison a b).greqs = s.greqs := rfl
@[simp] theorem State.setPoison_greqNext (a : Nat) (b : Bool) : (s.setPoison a b).greqNext = s.greqNext := rfl
@[simp] theorem State.setPoison_phys (a : Nat) (b : Bool) : (s.setPoison a b).phys = s.phys := rfl
@[simp] theorem State.setPoison_scrubPos (a : Nat) (b : Bool) : (s.setPoison a b).scrubPos = s.scrubPos := rfl
@[simp] theorem State.setPoison_scrubRows (a : Nat) (b : Bool) : (s.setPoison a b).scrubRows = s.scrubRows := rfl
@[simp] theorem State.setPoison_repair (a : Nat) (b : Bool) : (s.setPoison a b).repair = s.repair := rfl
@[simp] theorem State.setPoison_pools (a : Nat) (b : Bool) : (s.setPoison a b).pools = s.pools := rfl
@[simp] theorem State.setPoison_sweeps (a : Nat) (b : Bool) : (s.setPoison a b).sweeps = s.sweeps := rfl
@[simp] theorem State.setPoison_log (a : Nat) (b : Bool) : (s.setPoison a b).log = s.log := rfl
@[simp] theorem State.setPoison_logNext (a : Nat) (b : Bool) : (s.setPoison a b).logNext = s.logNext := rfl
@[simp] theorem State.setPoison_logLost (a : Nat) (b : Bool) : (s.setPoison a b).logLost = s.logLost := rfl
@[simp] theorem State.setPoison_subMask (a : Nat) (b : Bool) : (s.setPoison a b).subMask = s.subMask := rfl
@[simp] theorem State.setPoison_notify (a : Nat) (b : Bool) : (s.setPoison a b).notify = s.notify := rfl
@[simp] theorem State.setPoison_store (a : Nat) (b : Bool) : (s.setPoison a b).store = s.store := rfl
@[simp] theorem State.setPoison_host (a : Nat) (b : Bool) : (s.setPoison a b).host = s.host := rfl
@[simp] theorem State.setPoison_sec (a : Nat) (b : Bool) : (s.setPoison a b).sec = s.sec := rfl
@[simp] theorem State.setPoison_mgt (a : Nat) (b : Bool) : (s.setPoison a b).mgt = s.mgt := rfl
@[simp] theorem State.setPoison_tel (a : Nat) (b : Bool) : (s.setPoison a b).tel = s.tel := rfl
@[simp] theorem State.setPoison_pkg (a : Nat) (b : Bool) : (s.setPoison a b).pkg = s.pkg := rfl
@[simp] theorem State.setPoison_windows (a : Nat) (b : Bool) : (s.setPoison a b).windows = s.windows := rfl
@[simp] theorem State.setPoison_ports (a : Nat) (b : Bool) : (s.setPoison a b).ports = s.ports := rfl
@[simp] theorem State.setPoison_heldPkts (a : Nat) (b : Bool) : (s.setPoison a b).heldPkts = s.heldPkts := rfl
@[simp] theorem State.setPoison_tagUse (a : Nat) (b : Bool) : (s.setPoison a b).tagUse = s.tagUse := rfl
@[simp] theorem State.setPoison_tagGen (a : Nat) (b : Bool) : (s.setPoison a b).tagGen = s.tagGen := rfl
@[simp] theorem State.setPoison_ftime (a : Nat) (b : Bool) : (s.setPoison a b).ftime = s.ftime := rfl
@[simp] theorem State.setPoison_ffrac (a : Nat) (b : Bool) : (s.setPoison a b).ffrac = s.ffrac := rfl
@[simp] theorem State.setPoison_finc (a : Nat) (b : Bool) : (s.setPoison a b).finc = s.finc := rfl
@[simp] theorem State.setPoison_out (a : Nat) (b : Bool) : (s.setPoison a b).out = s.out := rfl
@[simp] theorem State.setPoison_free (a : Nat) (b : Bool) : (s.setPoison a b).free = s.free := rfl
@[simp] theorem State.setPoison_rd (a : Nat) (b : Bool) (d : Card) (i j : Nat) : (s.setPoison a b).rd d i j = s.rd d i j := rfl
@[simp] theorem State.setPoison_rdF (a : Nat) (b : Bool) (d : Card) (h : Fld) (i j : Nat) : (s.setPoison a b).rdF d h i j = s.rdF d h i j := rfl
@[simp] theorem State.setPoison_rdEff (a : Nat) (b : Bool) (d : Card) (i j : Nat) : (s.setPoison a b).rdEff d i j = s.rdEff d i j := rfl
@[simp] theorem State.setPoison_part (a : Nat) (b : Bool) (j : Nat) : (s.setPoison a b).part j = s.part j := rfl
@[simp] theorem State.setPoison_core (a : Nat) (b : Bool) (j : Nat) : (s.setPoison a b).core j = s.core j := rfl
@[simp] theorem State.setPoison_hub (a : Nat) (b : Bool) (j : Nat) : (s.setPoison a b).hub j = s.hub j := rfl
@[simp] theorem State.setPoison_port (a : Nat) (b : Bool) (j : Nat) : (s.setPoison a b).port j = s.port j := rfl

@[simp] theorem State.host!_host (g : HostSt → HostSt) : (s.host! g).host = g s.host := rfl
@[simp] theorem State.sec!_sec (g : SecSt → SecSt) : (s.sec! g).sec = g s.sec := rfl
@[simp] theorem State.mgt!_mgt (g : MgtSt → MgtSt) : (s.mgt! g).mgt = g s.mgt := rfl
@[simp] theorem State.tel!_tel (g : TelSt → TelSt) : (s.tel! g).tel = g s.tel := rfl
@[simp] theorem State.pkg!_pkg (g : PkgSt → PkgSt) : (s.pkg! g).pkg = g s.pkg := rfl
@[simp] theorem State.chip!_chip (g : Chip → Chip) : (s.chip! g).chip = g s.chip := rfl
@[simp] theorem State.emit_out (e : Emit) : (s.emit e).out = s.out ++ [e] := rfl

/-! ### Reading after writing -/

/-- A register entry reads as what was written last to its address, cut to the card's width. -/
theorem State.rd_wr {c : Card} {u k : Nat} (h : c.has u k = true) (v : Nat) (d : Card) (i j : Nat) :
    (s.wr c u k v).rd d i j = if c.addr u k = d.addr i j then v % 2 ^ c.width else s.rd d i j := by
  unfold State.rd State.wr
  rw [if_pos h, Sp.find_put]
  split <;> rfl

theorem State.rd_wr_same {c : Card} {u k : Nat} (h : c.has u k = true) (v : Nat) :
    (s.wr c u k v).rd c u k = v % 2 ^ c.width := by
  rw [State.rd_wr s h, if_pos rfl]

/-- An entry the card does not have is not written. -/
theorem State.wr_absent {c : Card} {u k : Nat} (h : c.has u k = false) (v : Nat) : s.wr c u k v = s := by
  unfold State.wr
  rw [h]
  rfl

/-- An entry at another address is not changed. -/
theorem State.rd_wr_ne {c : Card} {u k : Nat} {d : Card} {i j : Nat} (v : Nat) (h : c.addr u k ≠ d.addr i j) :
    (s.wr c u k v).rd d i j = s.rd d i j := by
  cases hc : c.has u k with
  | true => rw [State.rd_wr s hc, if_neg h]
  | false => rw [State.wr_absent s hc]

theorem State.count_rd_same {c : Card} {u i : Nat} (h : c.has u i = true) (n : Nat) :
    (s.count c u i n).rd c u i = (s.rd c u i + n) % 2 ^ c.width := State.rd_wr_same s h _

variable {s}

theorem State.part_setPart (p q : Nat) (x : Part) :
    (s.setPart p x).part q = if p = q then x else s.part q := Sp.get_set s.parts p q x

theorem State.part_updPart (p : Nat) (g : Part → Part) : (s.updPart p g).part p = g (s.part p) := by
  unfold State.updPart
  rw [State.part_setPart, if_pos rfl]

theorem State.part_updPart_ne {p q : Nat} (g : Part → Part) (hq : p ≠ q) :
    (s.updPart p g).part q = s.part q := by
  unfold State.updPart
  rw [State.part_setPart, if_neg hq]

theorem State.core_updCore (n m : Nat) (g : Core → Core) :
    (s.updCore n g).core m = if n = m then g (s.core n) else s.core m := Sp.get_set s.cores n m _

theorem State.hub_updHub (c d : Nat) (g : Hub → Hub) :
    (s.updHub c g).hub d = if c = d then g (s.hub c) else s.hub d := Sp.get_set s.hubs c d _

theorem State.port_setPort (q r : Nat) (x : Port) :
    (s.setPort q x).port r = if q = r then x else s.port r := Sp.get_set s.ports q r _

theorem State.port_updPort (q r : Nat) (g : Port → Port) :
    (s.updPort q g).port r = if q = r then g (s.port q) else s.port r := Sp.get_set s.ports q r _

end Sys2Proof.Machine
end

