-- ==== Sys2Proof/Laws/Bits.lean ====
section
/-! SUPPORT. Bit fields: a field reads as what was put into it, and putting it leaves the other fields alone. -/

namespace Sys2Proof.Machine

theorem testBit_bits (v hi lo i : Nat) : (bits v hi lo).testBit i = (decide (i < hi + 1 - lo) && v.testBit (lo + i)) := by
  unfold bits
  rw [Nat.testBit_mod_two_pow, Nat.testBit_shiftRight]

theorem testBit_setBits {hi lo : Nat} (h : lo ≤ hi) (v x i : Nat) :
    (setBits v hi lo x).testBit i =
      if i < lo then v.testBit i else if i ≤ hi then x.testBit (i - lo) else v.testBit i := by
  have hlow : v % 2 ^ lo < 2 ^ lo := Nat.mod_lt _ (Nat.two_pow_pos _)
  have hmid : x % 2 ^ (hi + 1 - lo) < 2 ^ (hi + 1 - lo) := Nat.mod_lt _ (Nat.two_pow_pos _)
  have hp : 2 ^ (hi + 1) = 2 ^ lo * 2 ^ (hi + 1 - lo) := by rw [← Nat.pow_add]; congr 1; omega
  have e : setBits v hi lo x
      = 2 ^ lo * (2 ^ (hi + 1 - lo) * (v >>> (hi + 1)) + x % 2 ^ (hi + 1 - lo)) + v % 2 ^ lo := by
    unfold setBits
    rw [hp, Nat.mul_add, Nat.mul_comm (x % _), Nat.mul_comm (v >>> _) (_ * _), Nat.mul_assoc]
    omega
  rw [e, Nat.testBit_two_pow_mul_add _ hlow]
  by_cases h1 : i < lo
  · rw [if_pos h1, if_pos h1, Nat.testBit_mod_two_pow]
    simp [h1]
  · rw [if_neg h1, if_neg h1, Nat.testBit_two_pow_mul_add _ hmid]
    by_cases h2 : i ≤ hi
    · rw [if_pos (by omega), if_pos h2, Nat.testBit_mod_two_pow]
      have : i - lo < hi + 1 - lo := by omega
      simp [this]
    · rw [if_neg (by omega), if_neg h2, Nat.testBit_shiftRight]
      congr 1
      omega

theorem bits_setBits {hi lo : Nat} (h : lo ≤ hi) (v x : Nat) : bits (setBits v hi lo x) hi lo = x % 2 ^ (hi + 1 - lo) := by
  apply Nat.eq_of_testBit_eq
  intro i
  rw [testBit_bits, testBit_setBits h, Nat.testBit_mod_two_pow]
  by_cases hi' : i < hi + 1 - lo
  · rw [if_neg (by omega), if_pos (by omega), Nat.add_sub_cancel_left]
  · simp [hi']

theorem bits_setBits_ne {hi lo hi' lo' : Nat} (h : lo ≤ hi) (hd : hi < lo' ∨ hi' < lo) (v x : Nat) :
    bits (setBits v hi lo x) hi' lo' = bits v hi' lo' := by
  apply Nat.eq_of_testBit_eq
  intro i
  rw [testBit_bits, testBit_bits, testBit_setBits h]
  by_cases hi2 : i < hi' + 1 - lo'
  · rcases hd with hd | hd
    · rw [if_neg (by omega), if_neg (by omega)]
    · rw [if_pos (by omega)]
  · simp [hi2]

theorem bits_mod {hi lo w : Nat} (h : hi < w) (v : Nat) : bits (v % 2 ^ w) hi lo = bits v hi lo := by
  apply Nat.eq_of_testBit_eq
  intro i
  rw [testBit_bits, testBit_bits, Nat.testBit_mod_two_pow]
  by_cases hi2 : i < hi + 1 - lo
  · have : lo + i < w := by omega
    simp [this]
  · simp [hi2]

theorem bits_lt (v hi lo : Nat) : bits v hi lo < 2 ^ (hi + 1 - lo) := Nat.mod_lt _ (Nat.two_pow_pos _)

theorem testBit_setBit (v i : Nat) (b : Bool) (j : Nat) : (setBit v i b).testBit j = if j = i then b else v.testBit j := by
  unfold setBit
  rw [testBit_setBits (Nat.le_refl i)]
  by_cases h : j = i
  · subst h
    rw [if_neg (by omega), if_pos (Nat.le_refl j), if_pos rfl, Nat.sub_self]
    cases b <;> rfl
  · rw [if_neg h]
    split
    · rfl
    · rw [if_neg (by omega)]

theorem leNat_lt (l : List Byte) : leNat l < 256 ^ l.length := by
  induction l with
  | nil => exact Nat.one_pos
  | cons b r ih =>
    have hb : b.toNat < 256 := b.isLt
    show b.toNat + 256 * leNat r < 256 ^ (r.length + 1)
    rw [Nat.pow_succ]
    omega

theorem sliceB_length (l : List Byte) (o n : Nat) : (sliceB l o n).length = n := by
  unfold sliceB
  simp only [List.length_append, List.length_replicate, List.length_take]
  omega

/-- A field of `n` bytes is below 256 to the `n`. -/
theorem fieldAt_lt (l : List Byte) (o n : Nat) : fieldAt l o n < 256 ^ n := by
  have := leNat_lt (sliceB l o n)
  rwa [sliceB_length] at this

/-! ## Fields of registers -/

theorem Fld.get_put {f : Fld} (h : f.lo ≤ f.hi) (v x : Nat) : f.get (f.put v x) = x % 2 ^ (f.hi + 1 - f.lo) :=
  bits_setBits h v x

theorem Fld.get_put_ne {f g : Fld} (h : f.lo ≤ f.hi) (hd : f.hi < g.lo ∨ g.hi < f.lo) (v x : Nat) :
    g.get (f.put v x) = g.get v := bits_setBits_ne h hd v x

variable (s : State)

/-- A field reads as what was written to it. -/
theorem State.rdF_wrF {c : Card} {f : Fld} (h : f.lo ≤ f.hi) (hw : f.hi < c.width) {u k : Nat} (hk : c.has u k = true) (x : Nat) :
    (s.wrF c f u k x).rdF c f u k = x % 2 ^ (f.hi + 1 - f.lo) := by
  unfold State.rdF State.wrF
  rw [State.rd_wr_same s hk]
  show bits _ _ _ = _
  rw [bits_mod hw]
  exact Fld.get_put h _ _

/-- Writing a field leaves a field beside it alone. -/
theorem State.rdF_wrF_ne {c : Card} {f g : Fld} (h : f.lo ≤ f.hi) (hd : f.hi < g.lo ∨ g.hi < f.lo) (hw : g.hi < c.width)
    {u k : Nat} (hk : c.has u k = true) (x : Nat) : (s.wrF c f u k x).rdF c g u k = s.rdF c g u k := by
  unfold State.rdF State.wrF
  rw [State.rd_wr_same s hk]
  show bits _ _ _ = _
  rw [bits_mod hw]
  exact Fld.get_put_ne h hd _ _

/-- The fields lie beside field `g`. -/
def Fld.beside (g : Fld) (l : List Fld) : Bool :=
  l.all (fun f => decide (f.lo ≤ f.hi) && (decide (f.hi < g.lo) || decide (g.hi < f.lo)))

theorem Fld.get_puts {g : Fld} {l : List (Fld × Nat)} (h : g.beside (l.map (·.1)) = true) (v : Nat) :
    g.get (l.foldl (fun v e => e.1.put v e.2) v) = g.get v := by
  induction l generalizing v with
  | nil => rfl
  | cons e r ih =>
    simp only [Fld.beside, List.map_cons, List.all_cons, Bool.and_eq_true, Bool.or_eq_true, decide_eq_true_eq] at h
    rw [List.foldl_cons, ih (by simpa [Fld.beside] using h.2)]
    exact Fld.get_put_ne h.1.1 h.1.2 _ _

/-- A field reads as the last value several writes gave it. -/
theorem State.rdF_wrFs {c : Card} {g : Fld} {x u k : Nat} {l : List (Fld × Nat)} (n : Nat) (hn : l[n]? = some (g, x))
    (hd : g.beside ((l.drop (n + 1)).map (·.1)) = true) (hg : g.lo ≤ g.hi) (hw : g.hi < c.width) (hk : c.has u k = true) :
    (s.wrFs c u k l).rdF c g u k = x % 2 ^ (g.hi + 1 - g.lo) := by
  unfold State.rdF State.wrFs
  rw [State.rd_wr_same s hk]
  unfold Fld.get
  rw [bits_mod hw]
  show g.get _ = _
  have hl : l = l.take n ++ (g, x) :: l.drop (n + 1) := by
    obtain ⟨hlt, he⟩ := List.getElem?_eq_some_iff.1 hn
    rw [← he, List.getElem_cons_drop, List.take_append_drop]
  rw [hl, List.foldl_append, List.foldl_cons, Fld.get_puts hd]
  exact Fld.get_put hg _ _

/-- A field beside those written reads as before. -/
theorem State.rdF_wrFs_ne {c : Card} {g : Fld} {u k : Nat} {l : List (Fld × Nat)} (hd : g.beside (l.map (·.1)) = true)
    (hw : g.hi < c.width) (hk : c.has u k = true) : (s.wrFs c u k l).rdF c g u k = s.rdF c g u k := by
  unfold State.rdF State.wrFs
  rw [State.rd_wr_same s hk]
  unfold Fld.get
  rw [bits_mod hw]
  exact Fld.get_puts hd _

/-- Writing a field leaves every entry at another address alone. -/
theorem State.rd_wrF_ne {c d : Card} {u k i j : Nat} (f : Fld) (x : Nat) (h : c.addr u k ≠ d.addr i j) :
    (s.wrF c f u k x).rd d i j = s.rd d i j := State.rd_wr_ne s _ h

end Sys2Proof.Machine
end

