-- ==== Sys2Proof/Laws/Keeps.lean ====
section
/-! SUPPORT. What an operation keeps. `Keeps F s t` says of an operation that takes `s` to `t`: the queue of waiting
commands is the same, what left the block has only been added to, the data stay in form, and every part of the state
that the mask `F` does not name is unchanged; above the bits of the parts, bit 36 names every register and bit 37 + i the
registers of card i of `cardTable`. Each State operation has one lemma `…_keeps` in the other Keeps files. -/

namespace Sys2Proof.Machine

/-- The bit of a part of the state in a mask. -/
def Fd.bit : Fd → Nat
  | .regs => 0
  | .mem => 1
  | .gran => 2
  | .parts => 3
  | .chip => 4
  | .cores => 5
  | .hubs => 6
  | .greqs => 7
  | .greqNext => 8
  | .phys => 9
  | .scrubPos => 10
  | .scrubRows => 11
  | .repair => 12
  | .pools => 13
  | .sweeps => 14
  | .log => 15
  | .logNext => 16
  | .logLost => 17
  | .subMask => 18
  | .notify => 19
  | .store => 20
  | .host => 21
  | .sec => 22
  | .mgt => 23
  | .tel => 24
  | .pkg => 25
  | .windows => 26
  | .ports => 27
  | .heldPkts => 28
  | .tagUse => 29
  | .tagGen => 30
  | .ftime => 31
  | .ffrac => 32
  | .finc => 33
  | .out => 34
  | .free => 35

/-- Mask `B` names no part that mask `F` does not name. -/
def Sub (B F : Nat) : Prop := ∀ i, B.testBit i = true → F.testBit i = true

theorem Sub.of {A B F : Nat} (h : Sub B F) (hA : A &&& B = A) : Sub A F := by
  intro i hi
  apply h
  rw [← hA, Nat.testBit_and] at hi
  exact (Bool.and_eq_true _ _ ▸ hi).2

theorem Sub.self (A : Nat) : Sub A A := fun _ h => h

/-- The mask names a card, or all of them. -/
def CIn (c : Card) (F : Nat) : Prop := F.testBit 36 = true ∨ ∃ i, F.testBit (37 + i) = true ∧ cardTable[i]? = some c

theorem CIn.any {c : Card} {F : Nat} (h : Sub 0x1000000000 F) : CIn c F := .inl (h 36 (by decide))

theorem CIn.ite {p : Prop} [Decidable p] {c d : Card} {F : Nat} (hc : CIn c F) (hd : CIn d F) : CIn (if p then c else d) F := by
  split
  · exact hc
  · exact hd

/-- The card has the entry that its array finds at a block offset. -/
theorem Card.owns_of_entryAt {c : Card} {a k b : Nat} (hb : c.blk.base = b) (h0 : 0 < c.off) (hv : c.view.shift 0 = 0)
    (h : c.entryAt (a - b) = some k) : c.owns a := by
  rw [← hb] at h
  unfold Card.entryAt at h
  split at h
  · rename_i hc
    obtain ⟨h1, h2, h3⟩ := hc
    refine ⟨0, k, ?_, .inl ?_⟩
    · cases h
      have hi : 0 < c.blk.instances := by cases c.blk <;> decide
      simp [Card.has, hi, h3]
    · cases h
      have := Nat.div_add_mod (a - c.blk.base - c.off) c.stride
      rw [h2, Nat.mul_comm] at this
      unfold Card.addr
      rw [hv]
      split <;> omega
  · cases h

structure Keeps (F : Nat) (s t : State) : Prop where
  queue : t.pending = s.pending
  out : s.out <+: t.out
  form : s.InForm → t.InForm
  frame : ∀ f : Fd, F.testBit f.bit = false → f.Same s t
  cards : ∀ a, (∀ c, CIn c F → ¬ c.owns a) → F.testBit 36 = false → Sp.find a t.regs = Sp.find a s.regs

variable {F : Nat} {s0 s t : State}

theorem Fd.Same.refl (f : Fd) (s : State) : f.Same s s := by cases f <;> rfl

theorem Fd.Same.trans {f : Fd} {r s t : State} (h : f.Same r s) (k : f.Same s t) : f.Same r t := by
  cases f <;> exact Eq.trans k h

theorem Keeps.refl (F : Nat) (s : State) : Keeps F s s :=
  ⟨rfl, List.prefix_refl _, id, fun f _ => Fd.Same.refl f s, fun _ _ _ => rfl⟩

theorem Keeps.trans {r : State} (h : Keeps F r s) (k : Keeps F s t) : Keeps F r t :=
  ⟨k.queue.trans h.queue, h.out.trans k.out, k.form ∘ h.form, fun f hf => (h.frame f hf).trans (k.frame f hf),
    fun a ha h36 => (k.cards a ha h36).trans (h.cards a ha h36)⟩

theorem Keeps.weaken {B : Nat} (h : Keeps B s t) (hF : Sub B F) : Keeps F s t :=
  ⟨h.queue, h.out, h.form, fun f hf => h.frame f (by
    cases hb : B.testBit f.bit with
    | false => rfl
    | true => rw [hF _ hb] at hf; exact absurd hf (by decide)), fun a ha h36 => h.cards a
      (fun c hc => ha c (hc.imp (hF _) (fun ⟨i, hi, e⟩ => ⟨i, hF _ hi, e⟩))) (by
    cases hb : B.testBit 36 with
    | false => rfl
    | true => rw [hF _ hb] at h36; exact absurd h36 (by decide))⟩

/-- The queue and every part that `B` does not name are the same. -/
structure Only (B : Nat) (s t : State) : Prop where
  queue : t.pending = s.pending
  same : ∀ f : Fd, B.testBit f.bit = false → f.Same s t

/-- A change of parts with no form of their own. -/
theorem Keeps.upd {B : Nat} (h : Keeps F s0 s) (hF : Sub B F) (hB : B &&& 0x44801ec6f = 0) (hs : Only B s t) : Keeps F s0 t := by
  have key : ∀ f : Fd, (0x44801ec6f : Nat).testBit f.bit = true → f.Same s t := by
    intro f hf
    apply hs.same
    cases hb : B.testBit f.bit with
    | false => rfl
    | true =>
      have := Nat.testBit_and B 0x44801ec6f f.bit
      rw [hB, hb, hf, Nat.zero_testBit] at this
      exact absurd this (by decide)
  refine h.trans ⟨hs.queue, ?_, fun i => ?_, fun f hf => ?_, fun a _ _ => congrArg (Sp.find a) (key .regs (by decide))⟩
  · exact (show t.out = s.out from key .out (by decide)) ▸ List.prefix_refl _
  · exact {
      mem := show Sp.wf 0 t.mem from (show t.mem = s.mem from key .mem (by decide)) ▸ i.mem
      gran := (show t.gran = s.gran from key .gran (by decide)) ▸ i.gran
      regs := (show t.regs = s.regs from key .regs (by decide)) ▸ i.regs
      log := (show t.log = s.log from key .log (by decide)) ▸ i.log
      logNext := (show t.logNext = s.logNext from key .logNext (by decide)) ▸ i.logNext
      parts := (show t.parts = s.parts from key .parts (by decide)) ▸ i.parts
      cores := (show t.cores = s.cores from key .cores (by decide)) ▸ i.cores
      hubs := (show t.hubs = s.hubs from key .hubs (by decide)) ▸ i.hubs
      ports := (show t.ports = s.ports from key .ports (by decide)) ▸ i.ports
      pools := (show t.pools = s.pools from key .pools (by decide)) ▸ i.pools
      sweeps := (show t.sweeps = s.sweeps from key .sweeps (by decide)) ▸ i.sweeps
      tagGen := (show t.tagGen = s.tagGen from key .tagGen (by decide)) ▸ i.tagGen
      scrubPos := (show t.scrubPos = s.scrubPos from key .scrubPos (by decide)) ▸ i.scrubPos
      scrubRows := (show t.scrubRows = s.scrubRows from key .scrubRows (by decide)) ▸ i.scrubRows
    }
  · exact hs.same f (by
      cases hb : B.testBit f.bit with
      | false => rfl
      | true => rw [hF _ hb] at hf; exact absurd hf (by decide))

/-! ## One part at a time -/

theorem Keeps.setRegs {r : Sp Nat} (h : Keeps F s0 s) (hF : Sub 0x1000000001 F) (hr : Sp.Sorted s.regs → Sp.Sorted r) :
    Keeps F s0 { s with regs := r } :=
  h.trans (Keeps.weaken ⟨rfl, List.prefix_refl _, fun i => { i with regs := hr i.regs },
    fun f hf => by cases f <;> first | rfl | exact absurd hf (by decide), fun _ _ h36 => absurd h36 (by decide)⟩ hF)

/-- Registers of one card change. -/
theorem Keeps.setCard {r : Sp Nat} {c : Card} (h : Keeps F s0 s) (hF : Sub 0x1 F) (hc : CIn c F)
    (hr : Sp.Sorted s.regs → Sp.Sorted r) (ha : ∀ a, ¬ c.owns a → Sp.find a r = Sp.find a s.regs) :
    Keeps F s0 { s with regs := r } :=
  h.trans ⟨rfl, List.prefix_refl _, fun i => { i with regs := hr i.regs },
    fun f hf => by cases f <;> first | rfl | exact absurd (hF 0 (by decide)) (by rw [show F.testBit 0 = false from hf]; decide),
    fun a hn _ => ha a (hn c hc)⟩

/-- One entry of a card is bound, if the card has it. -/
theorem Keeps.putCard {c : Card} {u k a v : Nat} (h : Keeps F s0 s) (hF : Sub 0x1 F) (hc : CIn c F)
    (ha : a = c.addr u k ∨ a = c.addr u k + imageOff) :
    Keeps F s0 { s with regs := if c.has u k then Sp.put a v s.regs else s.regs } := by
  refine h.setCard hF hc (fun i => ?_) (fun b hb => ?_)
  · split
    · exact Sp.sorted_put i _ _
    · exact i
  · split
    · rw [Sp.find_put, if_neg]
      rintro rfl
      exact hb ⟨u, k, ‹_›, ha⟩
    · rfl

theorem Keeps.setMem {m : List Host.Cell} (h : Keeps F s0 s) (hF : Sub 0x2 F) (hm : Sp.wf 0 s.mem → Sp.wf 0 m) :
    Keeps F s0 { s with mem := m } :=
  h.trans (Keeps.weaken ⟨rfl, List.prefix_refl _, fun i => { i with mem := hm i.mem },
    fun f hf => by cases f <;> first | rfl | exact absurd hf (by decide), fun _ _ _ => rfl⟩ hF)

theorem Keeps.setGran {v : Sp Gran} (h : Keeps F s0 s) (hF : Sub 0x4 F) (hv : Sp.wf {} s.gran → Sp.wf {} v) :
    Keeps F s0 { s with gran := v } :=
  h.trans (Keeps.weaken ⟨rfl, List.prefix_refl _, fun i => { i with gran := hv i.gran },
    fun f hf => by cases f <;> first | rfl | exact absurd hf (by decide), fun _ _ _ => rfl⟩ hF)

theorem Keeps.setParts {v : Sp Part} (h : Keeps F s0 s) (hF : Sub 0x8 F) (hv : Sp.wf {} s.parts → Sp.wf {} v) :
    Keeps F s0 { s with parts := v } :=
  h.trans (Keeps.weaken ⟨rfl, List.prefix_refl _, fun i => { i with parts := hv i.parts },
    fun f hf => by cases f <;> first | rfl | exact absurd hf (by decide), fun _ _ _ => rfl⟩ hF)

theorem Keeps.setChip (h : Keeps F s0 s) (hF : Sub 0x10 F) : Keeps F s0 { s with chip := v } :=
  h.upd hF rfl ⟨rfl, fun f hf => by cases f <;> first | rfl | exact absurd hf (by decide)⟩

theorem Keeps.setCores {v : Sp Core} (h : Keeps F s0 s) (hF : Sub 0x20 F) (hv : Sp.wf {} s.cores → Sp.wf {} v) :
    Keeps F s0 { s with cores := v } :=
  h.trans (Keeps.weaken ⟨rfl, List.prefix_refl _, fun i => { i with cores := hv i.cores },
    fun f hf => by cases f <;> first | rfl | exact absurd hf (by decide), fun _ _ _ => rfl⟩ hF)

theorem Keeps.setHubs {v : Sp Hub} (h : Keeps F s0 s) (hF : Sub 0x40 F) (hv : Sp.wf {} s.hubs → Sp.wf {} v) :
    Keeps F s0 { s with hubs := v } :=
  h.trans (Keeps.weaken ⟨rfl, List.prefix_refl _, fun i => { i with hubs := hv i.hubs },
    fun f hf => by cases f <;> first | rfl | exact absurd hf (by decide), fun _ _ _ => rfl⟩ hF)

theorem Keeps.setGreqs (h : Keeps F s0 s) (hF : Sub 0x80 F) : Keeps F s0 { s with greqs := v } :=
  h.upd hF rfl ⟨rfl, fun f hf => by cases f <;> first | rfl | exact absurd hf (by decide)⟩

theorem Keeps.setGreqNext (h : Keeps F s0 s) (hF : Sub 0x100 F) : Keeps F s0 { s with greqNext := v } :=
  h.upd hF rfl ⟨rfl, fun f hf => by cases f <;> first | rfl | exact absurd hf (by decide)⟩

theorem Keeps.setPhys (h : Keeps F s0 s) (hF : Sub 0x200 F) : Keeps F s0 { s with phys := v } :=
  h.upd hF rfl ⟨rfl, fun f hf => by cases f <;> first | rfl | exact absurd hf (by decide)⟩

theorem Keeps.setScrubPos {v : Sp Nat} (h : Keeps F s0 s) (hF : Sub 0x400 F) (hv : Sp.wf 0 s.scrubPos → Sp.wf 0 v) :
    Keeps F s0 { s with scrubPos := v } :=
  h.trans (Keeps.weaken ⟨rfl, List.prefix_refl _, fun i => { i with scrubPos := hv i.scrubPos },
    fun f hf => by cases f <;> first | rfl | exact absurd hf (by decide), fun _ _ _ => rfl⟩ hF)

theorem Keeps.setScrubRows {v : Sp Nat} (h : Keeps F s0 s) (hF : Sub 0x800 F) (hv : Sp.wf 0 s.scrubRows → Sp.wf 0 v) :
    Keeps F s0 { s with scrubRows := v } :=
  h.trans (Keeps.weaken ⟨rfl, List.prefix_refl _, fun i => { i with scrubRows := hv i.scrubRows },
    fun f hf => by cases f <;> first | rfl | exact absurd hf (by decide), fun _ _ _ => rfl⟩ hF)

theorem Keeps.setRepair (h : Keeps F s0 s) (hF : Sub 0x1000 F) : Keeps F s0 { s with repair := v } :=
  h.upd hF rfl ⟨rfl, fun f hf => by cases f <;> first | rfl | exact absurd hf (by decide)⟩

theorem Keeps.setPools {v : Sp (List AkcJob)} (h : Keeps F s0 s) (hF : Sub 0x2000 F) (hv : Sp.wf [] s.pools → Sp.wf [] v) :
    Keeps F s0 { s with pools := v } :=
  h.trans (Keeps.weaken ⟨rfl, List.prefix_refl _, fun i => { i with pools := hv i.pools },
    fun f hf => by cases f <;> first | rfl | exact absurd hf (by decide), fun _ _ _ => rfl⟩ hF)

theorem Keeps.setSweeps {v : Sp (List Sweep)} (h : Keeps F s0 s) (hF : Sub 0x4000 F) (hv : Sp.wf [] s.sweeps → Sp.wf [] v) :
    Keeps F s0 { s with sweeps := v } :=
  h.trans (Keeps.weaken ⟨rfl, List.prefix_refl _, fun i => { i with sweeps := hv i.sweeps },
    fun f hf => by cases f <;> first | rfl | exact absurd hf (by decide), fun _ _ _ => rfl⟩ hF)

theorem Keeps.setLogLost (h : Keeps F s0 s) (hF : Sub 0x20000 F) : Keeps F s0 { s with logLost := v } :=
  h.upd hF rfl ⟨rfl, fun f hf => by cases f <;> first | rfl | exact absurd hf (by decide)⟩

theorem Keeps.setSubMask (h : Keeps F s0 s) (hF : Sub 0x40000 F) : Keeps F s0 { s with subMask := v } :=
  h.upd hF rfl ⟨rfl, fun f hf => by cases f <;> first | rfl | exact absurd hf (by decide)⟩

theorem Keeps.setNotify (h : Keeps F s0 s) (hF : Sub 0x80000 F) : Keeps F s0 { s with notify := v } :=
  h.upd hF rfl ⟨rfl, fun f hf => by cases f <;> first | rfl | exact absurd hf (by decide)⟩

theorem Keeps.setStore (h : Keeps F s0 s) (hF : Sub 0x100000 F) : Keeps F s0 { s with store := v } :=
  h.upd hF rfl ⟨rfl, fun f hf => by cases f <;> first | rfl | exact absurd hf (by decide)⟩

theorem Keeps.setHost (h : Keeps F s0 s) (hF : Sub 0x200000 F) : Keeps F s0 { s with host := v } :=
  h.upd hF rfl ⟨rfl, fun f hf => by cases f <;> first | rfl | exact absurd hf (by decide)⟩

theorem Keeps.setSec (h : Keeps F s0 s) (hF : Sub 0x400000 F) : Keeps F s0 { s with sec := v } :=
  h.upd hF rfl ⟨rfl, fun f hf => by cases f <;> first | rfl | exact absurd hf (by decide)⟩

theorem Keeps.setMgt (h : Keeps F s0 s) (hF : Sub 0x800000 F) : Keeps F s0 { s with mgt := v } :=
  h.upd hF rfl ⟨rfl, fun f hf => by cases f <;> first | rfl | exact absurd hf (by decide)⟩

theorem Keeps.setTel (h : Keeps F s0 s) (hF : Sub 0x1000000 F) : Keeps F s0 { s with tel := v } :=
  h.upd hF rfl ⟨rfl, fun f hf => by cases f <;> first | rfl | exact absurd hf (by decide)⟩

theorem Keeps.setPkg (h : Keeps F s0 s) (hF : Sub 0x2000000 F) : Keeps F s0 { s with pkg := v } :=
  h.upd hF rfl ⟨rfl, fun f hf => by cases f <;> first | rfl | exact absurd hf (by decide)⟩

theorem Keeps.setWindows (h : Keeps F s0 s) (hF : Sub 0x4000000 F) : Keeps F s0 { s with windows := v } :=
  h.upd hF rfl ⟨rfl, fun f hf => by cases f <;> first | rfl | exact absurd hf (by decide)⟩

theorem Keeps.setPorts {v : Sp Port} (h : Keeps F s0 s) (hF : Sub 0x8000000 F) (hv : Sp.wf {} s.ports → Sp.wf {} v) :
    Keeps F s0 { s with ports := v } :=
  h.trans (Keeps.weaken ⟨rfl, List.prefix_refl _, fun i => { i with ports := hv i.ports },
    fun f hf => by cases f <;> first | rfl | exact absurd hf (by decide), fun _ _ _ => rfl⟩ hF)

theorem Keeps.setHeldPkts (h : Keeps F s0 s) (hF : Sub 0x10000000 F) : Keeps F s0 { s with heldPkts := v } :=
  h.upd hF rfl ⟨rfl, fun f hf => by cases f <;> first | rfl | exact absurd hf (by decide)⟩

theorem Keeps.setTagUse (h : Keeps F s0 s) (hF : Sub 0x20000000 F) : Keeps F s0 { s with tagUse := v } :=
  h.upd hF rfl ⟨rfl, fun f hf => by cases f <;> first | rfl | exact absurd hf (by decide)⟩

theorem Keeps.setTagGen {v : Sp Nat} (h : Keeps F s0 s) (hF : Sub 0x40000000 F) (hv : Sp.wf 0 s.tagGen → Sp.wf 0 v) :
    Keeps F s0 { s with tagGen := v } :=
  h.trans (Keeps.weaken ⟨rfl, List.prefix_refl _, fun i => { i with tagGen := hv i.tagGen },
    fun f hf => by cases f <;> first | rfl | exact absurd hf (by decide), fun _ _ _ => rfl⟩ hF)

theorem Keeps.setFtime (h : Keeps F s0 s) (hF : Sub 0x80000000 F) : Keeps F s0 { s with ftime := v } :=
  h.upd hF rfl ⟨rfl, fun f hf => by cases f <;> first | rfl | exact absurd hf (by decide)⟩

theorem Keeps.setFfrac (h : Keeps F s0 s) (hF : Sub 0x100000000 F) : Keeps F s0 { s with ffrac := v } :=
  h.upd hF rfl ⟨rfl, fun f hf => by cases f <;> first | rfl | exact absurd hf (by decide)⟩

theorem Keeps.setFinc (h : Keeps F s0 s) (hF : Sub 0x200000000 F) : Keeps F s0 { s with finc := v } :=
  h.upd hF rfl ⟨rfl, fun f hf => by cases f <;> first | rfl | exact absurd hf (by decide)⟩

theorem Keeps.setOut {l : List Emit} (h : Keeps F s0 s) (hF : Sub 0x400000000 F) (ho : s.out <+: l) :
    Keeps F s0 { s with out := l } :=
  h.trans (Keeps.weaken ⟨rfl, ho, fun i => { i with },
    fun f hf => by cases f <;> first | rfl | exact absurd hf (by decide), fun _ _ _ => rfl⟩ hF)

theorem Keeps.setFree (h : Keeps F s0 s) (hF : Sub 0x800000000 F) : Keeps F s0 { s with free := v } :=
  h.upd hF rfl ⟨rfl, fun f hf => by cases f <;> first | rfl | exact absurd hf (by decide)⟩

/-! ## Conditions, folds and outcomes -/

section
variable {c : Prop} [Decidable c] {α β : Type}

theorem Keeps.ite {a b : State} (ha : c → Keeps F s0 a) (hb : ¬c → Keeps F s0 b) : Keeps F s0 (if c then a else b) := by
  split
  · exact ha ‹_›
  · exact hb ‹_›

theorem Keeps.iteFst {a b : State × α} (ha : c → Keeps F s0 a.1) (hb : ¬c → Keeps F s0 b.1) :
    Keeps F s0 (if c then a else b).1 := by
  split
  · exact ha ‹_›
  · exact hb ‹_›

theorem Keeps.foldl {l : List β} {f : State → β → State} (h : Keeps F s0 s)
    (hf : ∀ x e, Keeps F s0 x → Keeps F s0 (f x e)) : Keeps F s0 (l.foldl f s) := by
  induction l generalizing s with
  | nil => exact h
  | cons e r ih => exact ih (hf s e h)

theorem Keeps.foldlMem {l : List β} {f : State → β → State} (h : Keeps F s0 s)
    (hf : ∀ x, ∀ e ∈ l, Keeps F s0 x → Keeps F s0 (f x e)) : Keeps F s0 (l.foldl f s) := by
  induction l generalizing s with
  | nil => exact h
  | cons e r ih => exact ih (hf s e (List.mem_cons_self ..) h) (fun x d hd => hf x d (List.mem_cons_of_mem _ hd))

theorem Keeps.foldlFst {l : List β} {f : State × α → β → State × α} {p : State × α} (h : Keeps F s0 p.1)
    (hf : ∀ x e, Keeps F s0 x.1 → Keeps F s0 (f x e).1) : Keeps F s0 (l.foldl f p).1 := by
  induction l generalizing p with
  | nil => exact h
  | cons e r ih => exact ih (hf p e h)

theorem Keeps.mkFst {a : State} {b : α} (h : Keeps F s0 a) : Keeps F s0 ((a, b) : State × α).1 := h

theorem Keeps.mkSnd {a : State} {b : α} (h : Keeps F s0 a) : Keeps F s0 ((b, a) : α × State).2 := h

theorem Keeps.ofFst {p : State × α} {a : State} {b : α} (e : p = (a, b)) (h : Keeps F s0 p.1) : Keeps F s0 a := by
  subst e; exact h

end

theorem Keeps.ofSnd {α : Type} {p : α × State} {b : α} {a : State} (e : p = (b, a)) (h : Keeps F s0 p.2) :
    Keeps F s0 a := by
  subst e; exact h

/-- Of an optional state: one that is there is kept. -/
def KeepsO (F : Nat) (s0 : State) (o : Option State) : Prop := ∀ t, o = some t → Keeps F s0 t

section
variable {c : Prop} [Decidable c] {α : Type}

theorem KeepsO.none : KeepsO F s0 none := fun _ h => nomatch h

theorem KeepsO.some {a : State} (h : Keeps F s0 a) : KeepsO F s0 (some a) := fun _ e => Option.some.inj e ▸ h

theorem KeepsO.getD {o : Option State} {d : State} (h : KeepsO F s0 o) (hd : Keeps F s0 d) : Keeps F s0 (o.getD d) := by
  cases o with
  | none => exact hd
  | some a => exact h a rfl

theorem KeepsO.map {o : Option α} {f : α → State} (h : ∀ y, Keeps F s0 (f y)) : KeepsO F s0 (o.map f) := by
  cases o with
  | none => exact KeepsO.none
  | some a => exact KeepsO.some (h a)

theorem KeepsO.of {o : Option State} {a : State} (e : o = .some a) (h : KeepsO F s0 o) : Keeps F s0 a := h a e

theorem KeepsO.ite {a b : Option State} (ha : c → KeepsO F s0 a) (hb : ¬c → KeepsO F s0 b) :
    KeepsO F s0 (if c then a else b) := by
  split
  · exact ha ‹_›
  · exact hb ‹_›

/-- The same for an optional state with a result. -/
def KeepsP (F : Nat) (s0 : State) (o : Option (State × α)) : Prop := ∀ t, o = some t → Keeps F s0 t.1

theorem KeepsP.none : KeepsP (α := α) F s0 none := fun _ h => nomatch h

theorem KeepsP.some {a : State} {b : α} (h : Keeps F s0 a) : KeepsP F s0 (some (a, b)) :=
  fun _ e => Option.some.inj e ▸ h

theorem KeepsP.of {o : Option (State × α)} {p : State × α} (e : o = .some p) (h : KeepsP F s0 o) : Keeps F s0 p.1 := h p e

theorem KeepsP.of' {o : Option (State × α)} {a : State} {b : α} (e : o = .some (a, b)) (h : KeepsP F s0 o) : Keeps F s0 a :=
  h _ e

theorem KeepsP.ite {a b : Option (State × α)} (ha : c → KeepsP F s0 a) (hb : ¬c → KeepsP F s0 b) :
    KeepsP F s0 (if c then a else b) := by
  split
  · exact ha ‹_›
  · exact hb ‹_›

/-- Of a command's outcome: the next state is kept. -/
def KeepsX (F : Nat) (s0 : State) (x : Host.Outcome State Fault Refusal) : Prop := ∀ t, x = .next t → Keeps F s0 t

theorem KeepsX.next {a : State} (h : Keeps F s0 a) : KeepsX F s0 (.next a) := fun _ e => Host.Outcome.next.inj e ▸ h

theorem KeepsX.ite {a b : Host.Outcome State Fault Refusal} (ha : c → KeepsX F s0 a) (hb : ¬c → KeepsX F s0 b) :
    KeepsX F s0 (if c then a else b) := by
  split
  · exact ha ‹_›
  · exact hb ‹_›

end

end Sys2Proof.Machine
end

