-- ==== Sys2Proof/Laws/Cards.lean ====
section
/-! SUPPORT. For each card of the registers: a mask with the card's bit names it. -/

namespace Sys2Proof.Machine

open Sys2Proof

theorem R.GLB_DEVICE_ID_in {F : Nat} (h : Sub 0x2000000000 F) : CIn R.GLB_DEVICE_ID F := .inr ⟨0, h 37 (by decide), rfl⟩
theorem R.GLB_REMAP_STATUS_in {F : Nat} (h : Sub 0x4000000000 F) : CIn R.GLB_REMAP_STATUS F := .inr ⟨1, h 38 (by decide), rfl⟩
theorem R.GLB_CLUSTER_REMAP_in {F : Nat} (h : Sub 0x8000000000 F) : CIn R.GLB_CLUSTER_REMAP F := .inr ⟨2, h 39 (by decide), rfl⟩
theorem R.CLU_CORE_REMAP_in {F : Nat} (h : Sub 0x10000000000 F) : CIn R.CLU_CORE_REMAP F := .inr ⟨3, h 40 (by decide), rfl⟩
theorem R.CRC_CCLK_SELECT_in {F : Nat} (h : Sub 0x20000000000 F) : CIn R.CRC_CCLK_SELECT F := .inr ⟨4, h 41 (by decide), rfl⟩
theorem R.SEQ_COURSE_ARM_in {F : Nat} (h : Sub 0x40000000000 F) : CIn R.SEQ_COURSE_ARM F := .inr ⟨5, h 42 (by decide), rfl⟩
theorem R.SEQ_LEG_TABLE_in {F : Nat} (h : Sub 0x80000000000 F) : CIn R.SEQ_LEG_TABLE F := .inr ⟨6, h 43 (by decide), rfl⟩
theorem R.SEQ_LAP_CONFIG_in {F : Nat} (h : Sub 0x100000000000 F) : CIn R.SEQ_LAP_CONFIG F := .inr ⟨7, h 44 (by decide), rfl⟩
theorem R.SEQ_LAP_NUMBERS_in {F : Nat} (h : Sub 0x200000000000 F) : CIn R.SEQ_LAP_NUMBERS F := .inr ⟨8, h 45 (by decide), rfl⟩
theorem R.SEQ_RUN_CONTROL_in {F : Nat} (h : Sub 0x400000000000 F) : CIn R.SEQ_RUN_CONTROL F := .inr ⟨9, h 46 (by decide), rfl⟩
theorem R.SEQ_POSITION_in {F : Nat} (h : Sub 0x800000000000 F) : CIn R.SEQ_POSITION F := .inr ⟨10, h 47 (by decide), rfl⟩
theorem R.GLB_STATE_in {F : Nat} (h : Sub 0x1000000000000 F) : CIn R.GLB_STATE F := .inr ⟨11, h 48 (by decide), rfl⟩
theorem R.SEQ_RECORD_RING_in {F : Nat} (h : Sub 0x2000000000000 F) : CIn R.SEQ_RECORD_RING F := .inr ⟨12, h 49 (by decide), rfl⟩
theorem R.SEQ_REPLAY_RING_in {F : Nat} (h : Sub 0x4000000000000 F) : CIn R.SEQ_REPLAY_RING F := .inr ⟨13, h 50 (by decide), rfl⟩
theorem R.SEQ_COURSE_STORE_in {F : Nat} (h : Sub 0x8000000000000 F) : CIn R.SEQ_COURSE_STORE F := .inr ⟨14, h 51 (by decide), rfl⟩
theorem R.SEQ_COURSE_LOAD_SRC_in {F : Nat} (h : Sub 0x10000000000000 F) : CIn R.SEQ_COURSE_LOAD_SRC F := .inr ⟨15, h 52 (by decide), rfl⟩
theorem R.SEQ_COURSE_LOAD_CTRL_in {F : Nat} (h : Sub 0x20000000000000 F) : CIn R.SEQ_COURSE_LOAD_CTRL F := .inr ⟨16, h 53 (by decide), rfl⟩
theorem R.SEQ_COURSE_LOAD_STATUS_in {F : Nat} (h : Sub 0x40000000000000 F) : CIn R.SEQ_COURSE_LOAD_STATUS F := .inr ⟨17, h 54 (by decide), rfl⟩
theorem R.SEQ_SLOT_STATUS_in {F : Nat} (h : Sub 0x80000000000000 F) : CIn R.SEQ_SLOT_STATUS F := .inr ⟨18, h 55 (by decide), rfl⟩
theorem R.SEQ_SLOT_DIGEST_in {F : Nat} (h : Sub 0x100000000000000 F) : CIn R.SEQ_SLOT_DIGEST F := .inr ⟨19, h 56 (by decide), rfl⟩
theorem R.SEQ_STRIDE_DIGEST_PENDING_in {F : Nat} (h : Sub 0x200000000000000 F) : CIn R.SEQ_STRIDE_DIGEST_PENDING F := .inr ⟨20, h 57 (by decide), rfl⟩
theorem R.SEQ_STRIDE_DIGEST_in {F : Nat} (h : Sub 0x400000000000000 F) : CIn R.SEQ_STRIDE_DIGEST F := .inr ⟨21, h 58 (by decide), rfl⟩
theorem R.SEQ_LAP_COURSE_DIGEST_in {F : Nat} (h : Sub 0x800000000000000 F) : CIn R.SEQ_LAP_COURSE_DIGEST F := .inr ⟨22, h 59 (by decide), rfl⟩
theorem R.SEQ_STRIDE_LOAD_SRC_in {F : Nat} (h : Sub 0x1000000000000000 F) : CIn R.SEQ_STRIDE_LOAD_SRC F := .inr ⟨23, h 60 (by decide), rfl⟩
theorem R.SEQ_STRIDE_LOAD_CTRL_in {F : Nat} (h : Sub 0x2000000000000000 F) : CIn R.SEQ_STRIDE_LOAD_CTRL F := .inr ⟨24, h 61 (by decide), rfl⟩
theorem R.SEQ_STRIDE_LOAD_STATUS_in {F : Nat} (h : Sub 0x4000000000000000 F) : CIn R.SEQ_STRIDE_LOAD_STATUS F := .inr ⟨25, h 62 (by decide), rfl⟩
theorem R.SEQ_STRIDE_EXPECT_in {F : Nat} (h : Sub 0x8000000000000000 F) : CIn R.SEQ_STRIDE_EXPECT F := .inr ⟨26, h 63 (by decide), rfl⟩
theorem R.SEQ_STRIDE_GUARD_PENDING_in {F : Nat} (h : Sub 0x10000000000000000 F) : CIn R.SEQ_STRIDE_GUARD_PENDING F := .inr ⟨27, h 64 (by decide), rfl⟩
theorem R.SEQ_STRIDE_GUARD_in {F : Nat} (h : Sub 0x20000000000000000 F) : CIn R.SEQ_STRIDE_GUARD F := .inr ⟨28, h 65 (by decide), rfl⟩
theorem R.SEQ_STRIDE_MASTER_in {F : Nat} (h : Sub 0x40000000000000000 F) : CIn R.SEQ_STRIDE_MASTER F := .inr ⟨29, h 66 (by decide), rfl⟩
theorem R.CLU_CORE_FAULT_in {F : Nat} (h : Sub 0x80000000000000000 F) : CIn R.CLU_CORE_FAULT F := .inr ⟨30, h 67 (by decide), rfl⟩
theorem R.CLU_BF_TASK_in {F : Nat} (h : Sub 0x100000000000000000 F) : CIn R.CLU_BF_TASK F := .inr ⟨31, h 68 (by decide), rfl⟩
theorem R.CLU_BF_LOAD_SRC_in {F : Nat} (h : Sub 0x200000000000000000 F) : CIn R.CLU_BF_LOAD_SRC F := .inr ⟨32, h 69 (by decide), rfl⟩
theorem R.CLU_BF_LOAD_CTRL_in {F : Nat} (h : Sub 0x400000000000000000 F) : CIn R.CLU_BF_LOAD_CTRL F := .inr ⟨33, h 70 (by decide), rfl⟩
theorem R.CLU_BF_STATUS_in {F : Nat} (h : Sub 0x800000000000000000 F) : CIn R.CLU_BF_STATUS F := .inr ⟨34, h 71 (by decide), rfl⟩
theorem R.SEQ_SEED0_in {F : Nat} (h : Sub 0x1000000000000000000 F) : CIn R.SEQ_SEED0 F := .inr ⟨35, h 72 (by decide), rfl⟩
theorem R.SEQ_SEED1_in {F : Nat} (h : Sub 0x2000000000000000000 F) : CIn R.SEQ_SEED1 F := .inr ⟨36, h 73 (by decide), rfl⟩
theorem R.SEQ_DRAW_RANK_in {F : Nat} (h : Sub 0x4000000000000000000 F) : CIn R.SEQ_DRAW_RANK F := .inr ⟨37, h 74 (by decide), rfl⟩
theorem R.CLU_CAL_BIND_in {F : Nat} (h : Sub 0x8000000000000000000 F) : CIn R.CLU_CAL_BIND F := .inr ⟨38, h 75 (by decide), rfl⟩
theorem R.SEQ_CAL_TABLE_in {F : Nat} (h : Sub 0x10000000000000000000 F) : CIn R.SEQ_CAL_TABLE F := .inr ⟨39, h 76 (by decide), rfl⟩
theorem R.SEQ_CAL_STATUS_in {F : Nat} (h : Sub 0x20000000000000000000 F) : CIn R.SEQ_CAL_STATUS F := .inr ⟨40, h 77 (by decide), rfl⟩
theorem R.HBM_STATUS_in {F : Nat} (h : Sub 0x40000000000000000000 F) : CIn R.HBM_STATUS F := .inr ⟨41, h 78 (by decide), rfl⟩
theorem R.BLK_STATUS_in {F : Nat} (h : Sub 0x80000000000000000000 F) : CIn R.BLK_STATUS F := .inr ⟨42, h 79 (by decide), rfl⟩
theorem R.BLK_CTRL_in {F : Nat} (h : Sub 0x100000000000000000000 F) : CIn R.BLK_CTRL F := .inr ⟨43, h 80 (by decide), rfl⟩
theorem R.HBM_SCRUB_in {F : Nat} (h : Sub 0x200000000000000000000 F) : CIn R.HBM_SCRUB F := .inr ⟨44, h 81 (by decide), rfl⟩
theorem R.GLB_PAGE_ATTR_in {F : Nat} (h : Sub 0x400000000000000000000 F) : CIn R.GLB_PAGE_ATTR F := .inr ⟨45, h 82 (by decide), rfl⟩
theorem R.EMB_PLACE_TABLE_in {F : Nat} (h : Sub 0x800000000000000000000 F) : CIn R.EMB_PLACE_TABLE F := .inr ⟨46, h 83 (by decide), rfl⟩
theorem R.EMB_PLACE_CTRL_in {F : Nat} (h : Sub 0x1000000000000000000000 F) : CIn R.EMB_PLACE_CTRL F := .inr ⟨47, h 84 (by decide), rfl⟩
theorem R.EMB_PLACE_EPOCH_in {F : Nat} (h : Sub 0x2000000000000000000000 F) : CIn R.EMB_PLACE_EPOCH F := .inr ⟨48, h 85 (by decide), rfl⟩
theorem R.EMB_FAR_AREA_in {F : Nat} (h : Sub 0x4000000000000000000000 F) : CIn R.EMB_FAR_AREA F := .inr ⟨49, h 86 (by decide), rfl⟩
theorem R.EMB_FAR_SIZE_in {F : Nat} (h : Sub 0x8000000000000000000000 F) : CIn R.EMB_FAR_SIZE F := .inr ⟨50, h 87 (by decide), rfl⟩
theorem R.EMB_FAR_DOORBELL_in {F : Nat} (h : Sub 0x10000000000000000000000 F) : CIn R.EMB_FAR_DOORBELL F := .inr ⟨51, h 88 (by decide), rfl⟩
theorem R.EMB_FAR_RING_in {F : Nat} (h : Sub 0x20000000000000000000000 F) : CIn R.EMB_FAR_RING F := .inr ⟨52, h 89 (by decide), rfl⟩
theorem R.EMB_FAR_RING_PTR_in {F : Nat} (h : Sub 0x40000000000000000000000 F) : CIn R.EMB_FAR_RING_PTR F := .inr ⟨53, h 90 (by decide), rfl⟩
theorem R.EMB_CTRL_in {F : Nat} (h : Sub 0x80000000000000000000000 F) : CIn R.EMB_CTRL F := .inr ⟨54, h 91 (by decide), rfl⟩
theorem R.EMB_TABLE_BASE_in {F : Nat} (h : Sub 0x100000000000000000000000 F) : CIn R.EMB_TABLE_BASE F := .inr ⟨55, h 92 (by decide), rfl⟩
theorem R.EMB_REPLICA_KEY_in {F : Nat} (h : Sub 0x200000000000000000000000 F) : CIn R.EMB_REPLICA_KEY F := .inr ⟨56, h 93 (by decide), rfl⟩
theorem R.EMB_DEFER_AREA_in {F : Nat} (h : Sub 0x400000000000000000000000 F) : CIn R.EMB_DEFER_AREA F := .inr ⟨57, h 94 (by decide), rfl⟩
theorem R.EMB_TIMEOUT_in {F : Nat} (h : Sub 0x800000000000000000000000 F) : CIn R.EMB_TIMEOUT F := .inr ⟨58, h 95 (by decide), rfl⟩
theorem R.EMB_RANK_MAP_in {F : Nat} (h : Sub 0x1000000000000000000000000 F) : CIn R.EMB_RANK_MAP F := .inr ⟨59, h 96 (by decide), rfl⟩
theorem R.EMB_STATUS_in {F : Nat} (h : Sub 0x2000000000000000000000000 F) : CIn R.EMB_STATUS F := .inr ⟨60, h 97 (by decide), rfl⟩
theorem R.AKC_ENGINES_in {F : Nat} (h : Sub 0x4000000000000000000000000 F) : CIn R.AKC_ENGINES F := .inr ⟨61, h 98 (by decide), rfl⟩
theorem R.AKC_ENGINE_FENCE_in {F : Nat} (h : Sub 0x8000000000000000000000000 F) : CIn R.AKC_ENGINE_FENCE F := .inr ⟨62, h 99 (by decide), rfl⟩
theorem R.AKC_LEDGER_TABLE_in {F : Nat} (h : Sub 0x10000000000000000000000000 F) : CIn R.AKC_LEDGER_TABLE F := .inr ⟨63, h 100 (by decide), rfl⟩
theorem R.AKC_SWEEP_STATUS_in {F : Nat} (h : Sub 0x20000000000000000000000000 F) : CIn R.AKC_SWEEP_STATUS F := .inr ⟨64, h 101 (by decide), rfl⟩
theorem R.AKC_HASH_SRC_in {F : Nat} (h : Sub 0x40000000000000000000000000 F) : CIn R.AKC_HASH_SRC F := .inr ⟨65, h 102 (by decide), rfl⟩
theorem R.AKC_HASH_CTRL_in {F : Nat} (h : Sub 0x80000000000000000000000000 F) : CIn R.AKC_HASH_CTRL F := .inr ⟨66, h 103 (by decide), rfl⟩
theorem R.GLB_DIGEST_KEY_in {F : Nat} (h : Sub 0x100000000000000000000000000 F) : CIn R.GLB_DIGEST_KEY F := .inr ⟨67, h 104 (by decide), rfl⟩
theorem R.GLB_WEIGHT_DIGEST_in {F : Nat} (h : Sub 0x200000000000000000000000000 F) : CIn R.GLB_WEIGHT_DIGEST F := .inr ⟨68, h 105 (by decide), rfl⟩
theorem R.FAB_LINK_CTRL_in {F : Nat} (h : Sub 0x400000000000000000000000000 F) : CIn R.FAB_LINK_CTRL F := .inr ⟨69, h 106 (by decide), rfl⟩
theorem R.FAB_ROLE_in {F : Nat} (h : Sub 0x800000000000000000000000000 F) : CIn R.FAB_ROLE F := .inr ⟨70, h 107 (by decide), rfl⟩
theorem R.FAB_LINK_STATUS_in {F : Nat} (h : Sub 0x1000000000000000000000000000 F) : CIn R.FAB_LINK_STATUS F := .inr ⟨71, h 108 (by decide), rfl⟩
theorem R.FAB_LANE_STATUS_in {F : Nat} (h : Sub 0x2000000000000000000000000000 F) : CIn R.FAB_LANE_STATUS F := .inr ⟨72, h 109 (by decide), rfl⟩
theorem R.FAB_LINK_TUNE_in {F : Nat} (h : Sub 0x4000000000000000000000000000 F) : CIn R.FAB_LINK_TUNE F := .inr ⟨73, h 110 (by decide), rfl⟩
theorem R.FAB_PEER_UID_in {F : Nat} (h : Sub 0x8000000000000000000000000000 F) : CIn R.FAB_PEER_UID F := .inr ⟨74, h 111 (by decide), rfl⟩
theorem R.FAB_PEER_in {F : Nat} (h : Sub 0x10000000000000000000000000000 F) : CIn R.FAB_PEER F := .inr ⟨75, h 112 (by decide), rfl⟩
theorem R.FAB_TIME_ASYM_in {F : Nat} (h : Sub 0x20000000000000000000000000000 F) : CIn R.FAB_TIME_ASYM F := .inr ⟨76, h 113 (by decide), rfl⟩
theorem R.RLY_FABRIC_DIMS_in {F : Nat} (h : Sub 0x40000000000000000000000000000 F) : CIn R.RLY_FABRIC_DIMS F := .inr ⟨77, h 114 (by decide), rfl⟩
theorem R.RLY_FABRIC_COORD_in {F : Nat} (h : Sub 0x80000000000000000000000000000 F) : CIn R.RLY_FABRIC_COORD F := .inr ⟨78, h 115 (by decide), rfl⟩
theorem R.RLY_TIME_NOW_in {F : Nat} (h : Sub 0x100000000000000000000000000000 F) : CIn R.RLY_TIME_NOW F := .inr ⟨79, h 116 (by decide), rfl⟩
theorem R.RLY_TIME_STATUS_in {F : Nat} (h : Sub 0x200000000000000000000000000000 F) : CIn R.RLY_TIME_STATUS F := .inr ⟨80, h 117 (by decide), rfl⟩
theorem R.RLY_TIME_CTRL_in {F : Nat} (h : Sub 0x400000000000000000000000000000 F) : CIn R.RLY_TIME_CTRL F := .inr ⟨81, h 118 (by decide), rfl⟩
theorem R.RLY_TIME_SET_in {F : Nat} (h : Sub 0x800000000000000000000000000000 F) : CIn R.RLY_TIME_SET F := .inr ⟨82, h 119 (by decide), rfl⟩
theorem R.RLY_CTRL_in {F : Nat} (h : Sub 0x1000000000000000000000000000000 F) : CIn R.RLY_CTRL F := .inr ⟨83, h 120 (by decide), rfl⟩
theorem R.RLY_COMM_TABLE_in {F : Nat} (h : Sub 0x2000000000000000000000000000000 F) : CIn R.RLY_COMM_TABLE F := .inr ⟨84, h 121 (by decide), rfl⟩
theorem R.RLY_JOB_in {F : Nat} (h : Sub 0x4000000000000000000000000000000 F) : CIn R.RLY_JOB F := .inr ⟨85, h 122 (by decide), rfl⟩
theorem R.RLY_DEFER_AREA_in {F : Nat} (h : Sub 0x8000000000000000000000000000000 F) : CIn R.RLY_DEFER_AREA F := .inr ⟨86, h 123 (by decide), rfl⟩
theorem R.RLY_FABRIC_DIGEST_in {F : Nat} (h : Sub 0x10000000000000000000000000000000 F) : CIn R.RLY_FABRIC_DIGEST F := .inr ⟨87, h 124 (by decide), rfl⟩
theorem R.RLY_SPLIT_STATUS_in {F : Nat} (h : Sub 0x20000000000000000000000000000000 F) : CIn R.RLY_SPLIT_STATUS F := .inr ⟨88, h 125 (by decide), rfl⟩
theorem R.RLY_TRIGGER_in {F : Nat} (h : Sub 0x40000000000000000000000000000000 F) : CIn R.RLY_TRIGGER F := .inr ⟨89, h 126 (by decide), rfl⟩
theorem R.HST_LINK_STATUS_in {F : Nat} (h : Sub 0x80000000000000000000000000000000 F) : CIn R.HST_LINK_STATUS F := .inr ⟨90, h 127 (by decide), rfl⟩
theorem R.HST_CPL_TIMEOUT_in {F : Nat} (h : Sub 0x100000000000000000000000000000000 F) : CIn R.HST_CPL_TIMEOUT F := .inr ⟨91, h 128 (by decide), rfl⟩
theorem R.HST_HOST_WATCH_in {F : Nat} (h : Sub 0x200000000000000000000000000000000 F) : CIn R.HST_HOST_WATCH F := .inr ⟨92, h 129 (by decide), rfl⟩
theorem R.HST_HEARTBEAT_in {F : Nat} (h : Sub 0x400000000000000000000000000000000 F) : CIn R.HST_HEARTBEAT F := .inr ⟨93, h 130 (by decide), rfl⟩
theorem R.HST_ATTACH_in {F : Nat} (h : Sub 0x800000000000000000000000000000000 F) : CIn R.HST_ATTACH F := .inr ⟨94, h 131 (by decide), rfl⟩
theorem R.HST_BIAS_TABLE_in {F : Nat} (h : Sub 0x1000000000000000000000000000000000 F) : CIn R.HST_BIAS_TABLE F := .inr ⟨95, h 132 (by decide), rfl⟩
theorem R.HST_INTAKE_RING_in {F : Nat} (h : Sub 0x2000000000000000000000000000000000 F) : CIn R.HST_INTAKE_RING F := .inr ⟨96, h 133 (by decide), rfl⟩
theorem R.HST_INTAKE_STATUS_in {F : Nat} (h : Sub 0x4000000000000000000000000000000000 F) : CIn R.HST_INTAKE_STATUS F := .inr ⟨97, h 134 (by decide), rfl⟩
theorem R.HST_INPUT_DIGEST_in {F : Nat} (h : Sub 0x8000000000000000000000000000000000 F) : CIn R.HST_INPUT_DIGEST F := .inr ⟨98, h 135 (by decide), rfl⟩
theorem R.HST_CPL_STORE_in {F : Nat} (h : Sub 0x10000000000000000000000000000000000 F) : CIn R.HST_CPL_STORE F := .inr ⟨99, h 136 (by decide), rfl⟩
theorem R.HST_WINSEG_in {F : Nat} (h : Sub 0x20000000000000000000000000000000000 F) : CIn R.HST_WINSEG F := .inr ⟨100, h 137 (by decide), rfl⟩
theorem R.QUE_TABLE_in {F : Nat} (h : Sub 0x40000000000000000000000000000000000 F) : CIn R.QUE_TABLE F := .inr ⟨101, h 138 (by decide), rfl⟩
theorem R.QUE_ENABLE_in {F : Nat} (h : Sub 0x80000000000000000000000000000000000 F) : CIn R.QUE_ENABLE F := .inr ⟨102, h 139 (by decide), rfl⟩
theorem R.QUE_FN_RANGE_in {F : Nat} (h : Sub 0x100000000000000000000000000000000000 F) : CIn R.QUE_FN_RANGE F := .inr ⟨103, h 140 (by decide), rfl⟩
theorem R.SEQ_SEAL_RING_in {F : Nat} (h : Sub 0x200000000000000000000000000000000000 F) : CIn R.SEQ_SEAL_RING F := .inr ⟨104, h 141 (by decide), rfl⟩
theorem R.SEQ_LAP_STATE_in {F : Nat} (h : Sub 0x400000000000000000000000000000000000 F) : CIn R.SEQ_LAP_STATE F := .inr ⟨105, h 142 (by decide), rfl⟩
theorem R.SEQ_REPLAY_POS_in {F : Nat} (h : Sub 0x800000000000000000000000000000000000 F) : CIn R.SEQ_REPLAY_POS F := .inr ⟨106, h 143 (by decide), rfl⟩
theorem R.SEQ_AUDIT_CTRL_in {F : Nat} (h : Sub 0x1000000000000000000000000000000000000 F) : CIn R.SEQ_AUDIT_CTRL F := .inr ⟨107, h 144 (by decide), rfl⟩
theorem R.SEQ_LAP_SEAL_in {F : Nat} (h : Sub 0x2000000000000000000000000000000000000 F) : CIn R.SEQ_LAP_SEAL F := .inr ⟨108, h 145 (by decide), rfl⟩
theorem R.SEQ_AUDIT_STATUS_in {F : Nat} (h : Sub 0x4000000000000000000000000000000000000 F) : CIn R.SEQ_AUDIT_STATUS F := .inr ⟨109, h 146 (by decide), rfl⟩
theorem R.SEC_HOSTKEY_in {F : Nat} (h : Sub 0x8000000000000000000000000000000000000 F) : CIn R.SEC_HOSTKEY F := .inr ⟨110, h 147 (by decide), rfl⟩
theorem R.SEC_FWUP_SRC_in {F : Nat} (h : Sub 0x10000000000000000000000000000000000000 F) : CIn R.SEC_FWUP_SRC F := .inr ⟨111, h 148 (by decide), rfl⟩
theorem R.SEC_FWUP_CTRL_in {F : Nat} (h : Sub 0x20000000000000000000000000000000000000 F) : CIn R.SEC_FWUP_CTRL F := .inr ⟨112, h 149 (by decide), rfl⟩
theorem R.SEC_FW_STATUS_in {F : Nat} (h : Sub 0x40000000000000000000000000000000000000 F) : CIn R.SEC_FW_STATUS F := .inr ⟨113, h 150 (by decide), rfl⟩
theorem R.GLB_PART_CLUSTERS_in {F : Nat} (h : Sub 0x80000000000000000000000000000000000000 F) : CIn R.GLB_PART_CLUSTERS F := .inr ⟨114, h 151 (by decide), rfl⟩
theorem R.GLB_PART_BANKS_in {F : Nat} (h : Sub 0x100000000000000000000000000000000000000 F) : CIn R.GLB_PART_BANKS F := .inr ⟨115, h 152 (by decide), rfl⟩
theorem R.GLB_PART_CONFIG_in {F : Nat} (h : Sub 0x200000000000000000000000000000000000000 F) : CIn R.GLB_PART_CONFIG F := .inr ⟨116, h 153 (by decide), rfl⟩
theorem R.GLB_PART_SHARE_in {F : Nat} (h : Sub 0x400000000000000000000000000000000000000 F) : CIn R.GLB_PART_SHARE F := .inr ⟨117, h 154 (by decide), rfl⟩
theorem R.QUE_FN_WEIGHT_in {F : Nat} (h : Sub 0x800000000000000000000000000000000000000 F) : CIn R.QUE_FN_WEIGHT F := .inr ⟨118, h 155 (by decide), rfl⟩
theorem R.QUE_FN_EVENT_in {F : Nat} (h : Sub 0x1000000000000000000000000000000000000000 F) : CIn R.QUE_FN_EVENT F := .inr ⟨119, h 156 (by decide), rfl⟩
theorem R.SEQ_ERR_FIRST_in {F : Nat} (h : Sub 0x2000000000000000000000000000000000000000 F) : CIn R.SEQ_ERR_FIRST F := .inr ⟨120, h 157 (by decide), rfl⟩
theorem R.SEQ_ERR_FIRST_LAP_in {F : Nat} (h : Sub 0x4000000000000000000000000000000000000000 F) : CIn R.SEQ_ERR_FIRST_LAP F := .inr ⟨121, h 158 (by decide), rfl⟩
theorem R.SEQ_ERR_FIRST_DATA_in {F : Nat} (h : Sub 0x8000000000000000000000000000000000000000 F) : CIn R.SEQ_ERR_FIRST_DATA F := .inr ⟨122, h 159 (by decide), rfl⟩
theorem R.GLB_ERR_FATAL_in {F : Nat} (h : Sub 0x10000000000000000000000000000000000000000 F) : CIn R.GLB_ERR_FATAL F := .inr ⟨123, h 160 (by decide), rfl⟩
theorem R.GLB_ERR_FATAL_LAP_in {F : Nat} (h : Sub 0x20000000000000000000000000000000000000000 F) : CIn R.GLB_ERR_FATAL_LAP F := .inr ⟨124, h 161 (by decide), rfl⟩
theorem R.GLB_ERR_FATAL_DATA_in {F : Nat} (h : Sub 0x40000000000000000000000000000000000000000 F) : CIn R.GLB_ERR_FATAL_DATA F := .inr ⟨125, h 162 (by decide), rfl⟩
theorem R.GLB_FENCE_REQ_in {F : Nat} (h : Sub 0x80000000000000000000000000000000000000000 F) : CIn R.GLB_FENCE_REQ F := .inr ⟨126, h 163 (by decide), rfl⟩
theorem R.GLB_FENCE_POLICY_in {F : Nat} (h : Sub 0x100000000000000000000000000000000000000000 F) : CIn R.GLB_FENCE_POLICY F := .inr ⟨127, h 164 (by decide), rfl⟩
theorem R.GLB_SPARE_STATUS_in {F : Nat} (h : Sub 0x200000000000000000000000000000000000000000 F) : CIn R.GLB_SPARE_STATUS F := .inr ⟨128, h 165 (by decide), rfl⟩
theorem R.RLY_SETTINGS_DIGEST_in {F : Nat} (h : Sub 0x400000000000000000000000000000000000000000 F) : CIn R.RLY_SETTINGS_DIGEST F := .inr ⟨129, h 166 (by decide), rfl⟩
theorem R.CRC_DROOP_CTRL_in {F : Nat} (h : Sub 0x800000000000000000000000000000000000000000 F) : CIn R.CRC_DROOP_CTRL F := .inr ⟨130, h 167 (by decide), rfl⟩
theorem R.MGT_RELAY_ADDR_in {F : Nat} (h : Sub 0x1000000000000000000000000000000000000000000 F) : CIn R.MGT_RELAY_ADDR F := .inr ⟨131, h 168 (by decide), rfl⟩
theorem R.MGT_RELAY_DATA_in {F : Nat} (h : Sub 0x2000000000000000000000000000000000000000000 F) : CIn R.MGT_RELAY_DATA F := .inr ⟨132, h 169 (by decide), rfl⟩
theorem R.MGT_RELAY_CTRL_in {F : Nat} (h : Sub 0x4000000000000000000000000000000000000000000 F) : CIn R.MGT_RELAY_CTRL F := .inr ⟨133, h 170 (by decide), rfl⟩
theorem R.GLB_BRINGUP_CMD_in {F : Nat} (h : Sub 0x8000000000000000000000000000000000000000000 F) : CIn R.GLB_BRINGUP_CMD F := .inr ⟨134, h 171 (by decide), rfl⟩
theorem R.GLB_BRINGUP_STATUS_in {F : Nat} (h : Sub 0x10000000000000000000000000000000000000000000 F) : CIn R.GLB_BRINGUP_STATUS F := .inr ⟨135, h 172 (by decide), rfl⟩
theorem R.GLB_MEMTEST_RESULT_in {F : Nat} (h : Sub 0x20000000000000000000000000000000000000000000 F) : CIn R.GLB_MEMTEST_RESULT F := .inr ⟨136, h 173 (by decide), rfl⟩
theorem R.CRC_RESET_CTRL_in {F : Nat} (h : Sub 0x40000000000000000000000000000000000000000000 F) : CIn R.CRC_RESET_CTRL F := .inr ⟨137, h 174 (by decide), rfl⟩
theorem R.CRC_RESET_STATUS_in {F : Nat} (h : Sub 0x80000000000000000000000000000000000000000000 F) : CIn R.CRC_RESET_STATUS F := .inr ⟨138, h 175 (by decide), rfl⟩
theorem R.MGT_I3C_STATUS_in {F : Nat} (h : Sub 0x100000000000000000000000000000000000000000000 F) : CIn R.MGT_I3C_STATUS F := .inr ⟨139, h 176 (by decide), rfl⟩
theorem R.TEL_SENSOR_in {F : Nat} (h : Sub 0x200000000000000000000000000000000000000000000 F) : CIn R.TEL_SENSOR F := .inr ⟨140, h 177 (by decide), rfl⟩
theorem R.TEL_SENSOR_THRESH_in {F : Nat} (h : Sub 0x400000000000000000000000000000000000000000000 F) : CIn R.TEL_SENSOR_THRESH F := .inr ⟨141, h 178 (by decide), rfl⟩
theorem R.TEL_POWER_CTRL_in {F : Nat} (h : Sub 0x800000000000000000000000000000000000000000000 F) : CIn R.TEL_POWER_CTRL F := .inr ⟨142, h 179 (by decide), rfl⟩
theorem R.TEL_GUN_CTRL_in {F : Nat} (h : Sub 0x1000000000000000000000000000000000000000000000 F) : CIn R.TEL_GUN_CTRL F := .inr ⟨143, h 180 (by decide), rfl⟩
theorem R.TEL_GUN_TARGET_in {F : Nat} (h : Sub 0x2000000000000000000000000000000000000000000000 F) : CIn R.TEL_GUN_TARGET F := .inr ⟨144, h 181 (by decide), rfl⟩
theorem R.TEL_GUN_STATUS_in {F : Nat} (h : Sub 0x4000000000000000000000000000000000000000000000 F) : CIn R.TEL_GUN_STATUS F := .inr ⟨145, h 182 (by decide), rfl⟩
theorem R.TEL_GUN_FIRE_TIME_in {F : Nat} (h : Sub 0x8000000000000000000000000000000000000000000000 F) : CIn R.TEL_GUN_FIRE_TIME F := .inr ⟨146, h 183 (by decide), rfl⟩
theorem R.TEL_REPORT_RING_in {F : Nat} (h : Sub 0x10000000000000000000000000000000000000000000000 F) : CIn R.TEL_REPORT_RING F := .inr ⟨147, h 184 (by decide), rfl⟩
theorem R.CRC_AVS_in {F : Nat} (h : Sub 0x20000000000000000000000000000000000000000000000 F) : CIn R.CRC_AVS F := .inr ⟨148, h 185 (by decide), rfl⟩
theorem R.CRC_AVS_FUSED_in {F : Nat} (h : Sub 0x40000000000000000000000000000000000000000000000 F) : CIn R.CRC_AVS_FUSED F := .inr ⟨149, h 186 (by decide), rfl⟩
theorem R.MGT_RAIL_in {F : Nat} (h : Sub 0x80000000000000000000000000000000000000000000000 F) : CIn R.MGT_RAIL F := .inr ⟨150, h 187 (by decide), rfl⟩
theorem R.CNT_GLB_in {F : Nat} (h : Sub 0x100000000000000000000000000000000000000000000000 F) : CIn R.CNT_GLB F := .inr ⟨151, h 188 (by decide), rfl⟩
theorem R.CNT_SEQ_in {F : Nat} (h : Sub 0x200000000000000000000000000000000000000000000000 F) : CIn R.CNT_SEQ F := .inr ⟨152, h 189 (by decide), rfl⟩
theorem R.CNT_CLU_in {F : Nat} (h : Sub 0x400000000000000000000000000000000000000000000000 F) : CIn R.CNT_CLU F := .inr ⟨153, h 190 (by decide), rfl⟩
theorem R.CNT_HBM_in {F : Nat} (h : Sub 0x800000000000000000000000000000000000000000000000 F) : CIn R.CNT_HBM F := .inr ⟨154, h 191 (by decide), rfl⟩
theorem R.CNT_BLK_in {F : Nat} (h : Sub 0x1000000000000000000000000000000000000000000000000 F) : CIn R.CNT_BLK F := .inr ⟨155, h 192 (by decide), rfl⟩
theorem R.CNT_EMB_in {F : Nat} (h : Sub 0x2000000000000000000000000000000000000000000000000 F) : CIn R.CNT_EMB F := .inr ⟨156, h 193 (by decide), rfl⟩
theorem R.CNT_FAB_in {F : Nat} (h : Sub 0x4000000000000000000000000000000000000000000000000 F) : CIn R.CNT_FAB F := .inr ⟨157, h 194 (by decide), rfl⟩
theorem R.CNT_RLY_in {F : Nat} (h : Sub 0x8000000000000000000000000000000000000000000000000 F) : CIn R.CNT_RLY F := .inr ⟨158, h 195 (by decide), rfl⟩
theorem R.CNT_HST_in {F : Nat} (h : Sub 0x10000000000000000000000000000000000000000000000000 F) : CIn R.CNT_HST F := .inr ⟨159, h 196 (by decide), rfl⟩
theorem R.CNT_TEL_in {F : Nat} (h : Sub 0x20000000000000000000000000000000000000000000000000 F) : CIn R.CNT_TEL F := .inr ⟨160, h 197 (by decide), rfl⟩
theorem R.CNT_SAT_in {F : Nat} (h : Sub 0x40000000000000000000000000000000000000000000000000 F) : CIn R.CNT_SAT F := .inr ⟨161, h 198 (by decide), rfl⟩
theorem R.CNT_BF_SAT_in {F : Nat} (h : Sub 0x80000000000000000000000000000000000000000000000000 F) : CIn R.CNT_BF_SAT F := .inr ⟨162, h 199 (by decide), rfl⟩

end Sys2Proof.Machine
end

