-- ==== Sys2Proof/Laws/KeepsOps.lean ====
section
/-! SUPPORT. What the operations of Machine/Ops.lean keep (Laws/Keeps.lean): one lemma for each. -/

namespace Sys2Proof.Machine

open Sys2Proof

theorem State.wr_keeps {F : Nat} {s0 s : State} {a1 a2 a3 a4} (hF : Sub 0x1 F) (hc : CIn a1 F) (h : Keeps F s0 s) :
    Keeps F s0 (State.wr s a1 a2 a3 a4) := by
  exact h.putCard (hF.of rfl) hc (.inl rfl)

theorem State.wrEff_keeps {F : Nat} {s0 s : State} {a1 a2 a3 a4} (hF : Sub 0x1 F) (hc : CIn a1 F) (h : Keeps F s0 s) :
    Keeps F s0 (State.wrEff s a1 a2 a3 a4) := by
  exact h.putCard (hF.of rfl) hc (.inr rfl)

theorem State.wrF_keeps {F : Nat} {s0 s : State} {a1 a2 a3 a4 a5} (hF : Sub 0x1 F) (hc : CIn a1 F) (h : Keeps F s0 s) :
    Keeps F s0 (State.wrF s a1 a2 a3 a4 a5) := by
  unfold State.wrF
  exact State.wr_keeps (hF.of rfl) hc h

theorem State.wrFs_keeps {F : Nat} {s0 s : State} {a1 a2 a3 a4} (hF : Sub 0x1 F) (hc : CIn a1 F) (h : Keeps F s0 s) :
    Keeps F s0 (State.wrFs s a1 a2 a3 a4) := by
  unfold State.wrFs
  exact State.wr_keeps (hF.of rfl) hc h

theorem State.count_keeps {F : Nat} {s0 s : State} {a1 a2 a3 a4} (hF : Sub 0x1 F) (hc : CIn a1 F) (h : Keeps F s0 s) :
    Keeps F s0 (State.count s a1 a2 a3 a4) := by
  unfold State.count
  exact State.wr_keeps (hF.of rfl) hc h

theorem State.wrDigest_keeps {F : Nat} {s0 s : State} {a1 a2 a3 a4} (hF : Sub 0x1 F) (hc : CIn a1 F) (h : Keeps F s0 s) :
    Keeps F s0 (State.wrDigest s a1 a2 a3 a4) := by
  unfold State.wrDigest
  exact Keeps.foldl h (fun x1 e2 h3 => State.wr_keeps (hF.of rfl) hc h3)

theorem State.regErr_keeps {F : Nat} {s0 s : State} (hF : Sub 0x100000000000000000000000000000000000000000000001 F) (h : Keeps F s0 s) :
    Keeps F s0 (State.regErr s) := by
  unfold State.regErr
  exact State.count_keeps (hF.of rfl) (R.CNT_GLB_in (hF.of rfl)) h

theorem State.setPart_keeps {F : Nat} {s0 s : State} {a1 a2} (hF : Sub 0x8 F) (h : Keeps F s0 s) :
    Keeps F s0 (State.setPart s a1 a2) := by
  exact h.setParts (hF.of rfl) (fun i => Sp.wf_set i _ _)

theorem State.updPart_keeps {F : Nat} {s0 s : State} {a1 a2} (hF : Sub 0x8 F) (h : Keeps F s0 s) :
    Keeps F s0 (State.updPart s a1 a2) := by
  unfold State.updPart
  exact State.setPart_keeps (hF.of rfl) h

theorem State.syncChip_keeps {F : Nat} {s0 s : State} (hF : Sub 0x1000000000001 F) (h : Keeps F s0 s) :
    Keeps F s0 (State.syncChip s) := by
  unfold State.syncChip
  refine Keeps.ite (fun _ => h) (fun _ => ?_)
  extract_lets +onlyGivenNames x1
  clear_value x1
  extract_lets +onlyGivenNames x2
  extract_lets +onlyGivenNames x3
  clear_value x3
  exact State.wrF_keeps (hF.of rfl) (R.GLB_STATE_in (hF.of rfl)) h

theorem State.setPState_keeps {F : Nat} {s0 s : State} {a1 a2} (hF : Sub 0x200000000000000000000000001000000000001 F) (h : Keeps F s0 s) :
    Keeps F s0 (State.setPState s a1 a2) := by
  unfold State.setPState
  exact State.syncChip_keeps (hF.of rfl) (State.wrF_keeps (hF.of rfl) (R.GLB_PART_CONFIG_in (hF.of rfl)) h)

theorem State.emit_keeps {F : Nat} {s0 s : State} {a1} (hF : Sub 0x400000000 F) (h : Keeps F s0 s) :
    Keeps F s0 (State.emit s a1) := by
  exact h.setOut (hF.of rfl) (List.prefix_append _ _)

theorem State.deliver_keeps {F : Nat} {s0 s : State} {a1 a2} (hF : Sub 0x100000000000000000000000000000000000000004100001 F) (h : Keeps F s0 s) :
    Keeps F s0 (State.deliver s a1 a2) := by
  unfold State.deliver
  extract_lets +onlyGivenNames x1 x2
  clear_value x1 x2
  refine Keeps.ite (fun _ => h) (fun _ => ?_)
  extract_lets +onlyGivenNames x3 x4 x5 x6
  clear_value x3 x4 x5 x6
  refine Keeps.ite (fun _ => State.count_keeps (hF.of rfl) (R.CNT_GLB_in (hF.of rfl)) h) (fun _ => ?_)
  extract_lets +onlyGivenNames x7
  clear_value x7
  refine Keeps.upd (s := s) (B := 0x4100000) ?_ (hF.of rfl) rfl ⟨rfl, fun f hf => by cases f <;> first | rfl | exact absurd hf (by decide)⟩
  exact h

theorem State.mctpSend_keeps {F : Nat} {s0 s : State} {a1 a2 a3} (hF : Sub 0x400800000 F) (h : Keeps F s0 s) :
    Keeps F s0 (State.mctpSend s a1 a2 a3) := by
  unfold State.mctpSend
  refine Keeps.ite (fun _ => State.emit_keeps (hF.of rfl) h) (fun _ => ?_)
  extract_lets +onlyGivenNames x1 x2
  clear_value x1 x2
  exact Keeps.setMgt h (hF.of rfl)

theorem State.platformEvent_keeps {F : Nat} {s0 s : State} {a1} (hF : Sub 0x400800000 F) (h : Keeps F s0 s) :
    Keeps F s0 (State.platformEvent s a1) := by
  unfold State.platformEvent
  split
  · exact State.mctpSend_keeps (hF.of rfl) h
  · exact h

theorem State.logEvent_keeps {F : Nat} {s0 s : State} {a1} (hF : Sub 0x4008b8000 F) (h : Keeps F s0 s) :
    Keeps F s0 (State.logEvent s a1) := by
  unfold State.logEvent
  extract_lets +onlyGivenNames x1 c
  have h1 : Keeps F s0 x1 := by
    unfold x1
    exact Keeps.ite (fun _ => State.platformEvent_keeps (hF.of rfl) h) (fun _ => h)
  clear_value x1
  refine h1.trans (Keeps.weaken (F := F) (B := 0xb8000) ⟨rfl, List.prefix_refl _, fun i => { i with log := ?_, logNext := ?_ },
    fun f hf => by cases f <;> first | rfl | exact absurd hf (by decide),
    fun _ _ _ => rfl⟩ (hF.of rfl))
  · have := i.log
    show List.length ((if c then x1.log.drop 1 else x1.log) ++ [a1]) ≤ 1024
    unfold c
    split <;> simp only [List.length_append, List.length_drop, List.length_singleton] <;> omega
  · exact Nat.mod_lt _ (by decide)

theorem State.recordErr_keeps {F : Nat} {s0 s : State} {a1 a2} (hF : Sub 0x7e000000000000000000000000000000000000001 F) (h : Keeps F s0 s) :
    Keeps F s0 (State.recordErr s a1 a2) := by
  unfold State.recordErr
  refine Keeps.ite (fun _ => h) (fun _ => ?_)
  extract_lets +onlyGivenNames w put old x1
  have hp : ∀ y c cl cd u, CIn c F → CIn cl F → CIn cd F → Keeps F s0 y → Keeps F s0 (put y c cl cd u) :=
    fun y c cl cd u hc hcl hcd hy => State.wr_keeps (hF.of rfl) hcd (State.wr_keeps (hF.of rfl) hcd
      (State.wr_keeps (hF.of rfl) hcl (State.wr_keeps (hF.of rfl) hc hy)))
  clear_value put
  have h1 : Keeps F s0 x1 := Keeps.ite (fun _ => hp _ _ _ _ _ (R.SEQ_ERR_FIRST_in (hF.of rfl))
    (R.SEQ_ERR_FIRST_LAP_in (hF.of rfl)) (R.SEQ_ERR_FIRST_DATA_in (hF.of rfl)) h) (fun _ => h)
  clear_value x1
  exact Keeps.ite (fun _ => hp _ _ _ _ _ (R.GLB_ERR_FATAL_in (hF.of rfl))
    (R.GLB_ERR_FATAL_LAP_in (hF.of rfl)) (R.GLB_ERR_FATAL_DATA_in (hF.of rfl)) h1) (fun _ => h1)

theorem State.eventAs_keeps {F : Nat} {s0 s : State} {a1 a2 a3 a4 a5 a6 a7} (hF : Sub 0x10000007e0000000000000000000000000000004049b8009 F) (h : Keeps F s0 s) :
    Keeps F s0 (State.eventAs s a1 a2 a3 a4 a5 a6 a7) := by
  unfold State.eventAs
  extract_lets +onlyGivenNames x1
  clear_value x1
  extract_lets +onlyGivenNames x2
  have h3 : Keeps F s0 x2 := Keeps.ite (fun _ => State.count_keeps (hF.of rfl) (R.CNT_GLB_in (hF.of rfl)) h) (fun _ => h)
  clear_value x2
  extract_lets +onlyGivenNames x4
  have h5 : Keeps F s0 x4 := by
    unfold x4
    split
    · exact State.updPart_keeps (hF.of rfl) h3
    · exact State.updPart_keeps (hF.of rfl) h3
    · exact State.updPart_keeps (hF.of rfl) h3
    · exact h3
  clear_value x4
  extract_lets +onlyGivenNames x6
  have h7 : Keeps F s0 x6 := State.logEvent_keeps (hF.of rfl) (State.recordErr_keeps (hF.of rfl) h5)
  clear_value x6
  exact Keeps.foldl h7 (fun x8 e9 h10 => State.deliver_keeps (hF.of rfl) h10)

theorem State.event_keeps {F : Nat} {s0 s : State} {a1 a2 a3 a4} (hF : Sub 0x10000007e0000000000000000000000000000004049b8009 F) (h : Keeps F s0 s) :
    Keeps F s0 (State.event s a1 a2 a3 a4) := by
  unfold State.event
  exact State.eventAs_keeps (hF.of rfl) h

theorem State.classF_keeps {F : Nat} {s0 s : State} (hF : Sub 0x200000000000000000000000001000000000019 F) (h : Keeps F s0 s) :
    Keeps F s0 (State.classF s) := by
  unfold State.classF
  extract_lets +onlyGivenNames x1
  clear_value x1
  extract_lets +onlyGivenNames x2
  have h3 : Keeps F s0 x2 := Keeps.setChip h (hF.of rfl)
  clear_value x2
  extract_lets +onlyGivenNames x4
  have h5 : Keeps F s0 x4 := by
    unfold x4
    refine Keeps.foldl h3 (fun x6 e7 h8 => ?_)
    exact State.wrF_keeps (hF.of rfl) (R.GLB_PART_CONFIG_in (hF.of rfl)) (State.updPart_keeps (hF.of rfl) h8)
  clear_value x4
  exact State.wrF_keeps (hF.of rfl) (R.GLB_STATE_in (hF.of rfl)) h5

theorem State.classP_keeps {F : Nat} {s0 s : State} {a1} (hF : Sub 0x8 F) (h : Keeps F s0 s) :
    Keeps F s0 (State.classP s a1) := by
  unfold State.classP
  exact Keeps.ite (fun _ => State.updPart_keeps (hF.of rfl) h) (fun _ => h)

theorem State.classL_keeps {F : Nat} {s0 s : State} {a1 a2} (hF : Sub 0x10000007e2000000000000000000000000010004049b8019 F) (h : Keeps F s0 s) :
    Keeps F s0 (State.classL s a1 a2) := by
  unfold State.classL
  extract_lets +onlyGivenNames x1
  clear_value x1
  refine Keeps.ite (fun _ => h) (fun _ => ?_)
  refine Keeps.ite (fun _ => State.classF_keeps (hF.of rfl) h) (fun _ => ?_)
  refine Keeps.ite (fun _ => State.classF_keeps (hF.of rfl) (State.event_keeps (hF.of rfl) h)) (fun _ => ?_)
  refine Keeps.ite (fun _ => State.updPart_keeps (hF.of rfl) h) (fun _ => ?_)
  exact Keeps.ite (fun _ => h) (fun _ => State.updPart_keeps (hF.of rfl) h)

theorem State.raiseAs_keeps {F : Nat} {s0 s : State} {a1 a2 a3 a4 a5 a6 a7} (hF : Sub 0x10000007e2000000000000000000000000010004049b8019 F) (h : Keeps F s0 s) :
    Keeps F s0 (State.raiseAs s a1 a2 a3 a4 a5 a6 a7) := by
  unfold State.raiseAs
  extract_lets +onlyGivenNames x1
  have h2 : Keeps F s0 x1 := State.eventAs_keeps (hF.of rfl) h
  clear_value x1
  split
  · exact State.classL_keeps (hF.of rfl) h2
  · exact State.classP_keeps (hF.of rfl) h2
  · exact State.classF_keeps (hF.of rfl) h2
  · exact h2

theorem State.raise_keeps {F : Nat} {s0 s : State} {a1 a2 a3 a4} (hF : Sub 0x10000007e2000000000000000000000000010004049b8019 F) (h : Keeps F s0 s) :
    Keeps F s0 (State.raise s a1 a2 a3 a4) := by
  unfold State.raise
  exact State.raiseAs_keeps (hF.of rfl) h

theorem State.rekey_keeps {F : Nat} {s0 s : State} {a1} (hF : Sub 0x6 F) (h : Keeps F s0 s) :
    Keeps F s0 (State.rekey s a1) := by
  unfold State.rekey
  extract_lets +onlyGivenNames g
  refine Keeps.ite (fun _ => h) (fun _ => ?_)
  exact Keeps.setGran (s := { s with mem := storeRaw s.mem (a1 / 64 * 64) (s.load (a1 / 64 * 64) 64) })
    (h.setMem (hF.of rfl) (fun i => storeRaw_wf i _ _)) (hF.of rfl) (fun i => Sp.wf_set i _ _)

theorem State.setPoison_keeps {F : Nat} {s0 s : State} {a1 a2} (hF : Sub 0x4 F) (h : Keeps F s0 s) :
    Keeps F s0 (State.setPoison s a1 a2) := by
  exact h.setGran (hF.of rfl) (fun i => Sp.wf_upd i _ _)

theorem State.countMem_keeps {F : Nat} {s0 s : State} {a1 a2} (hF : Sub 0x1800000000000000000000000000000000000000000000001 F) (h : Keeps F s0 s) :
    Keeps F s0 (State.countMem s a1 a2) := by
  unfold State.countMem
  split
  · exact State.count_keeps (hF.of rfl) (R.CNT_HBM_in (hF.of rfl)) h
  · exact State.count_keeps (hF.of rfl) (R.CNT_BLK_in (hF.of rfl)) h
  · exact h

theorem State.storePiece_keeps {F : Nat} {s0 s : State} {a1 a2 a3} (hF : Sub 0x1800000000000000000000000000000000000000000000007 F) (h : Keeps F s0 s) :
    Keeps F s0 (State.storePiece s a1 a2 a3) := by
  unfold State.storePiece
  extract_lets +onlyGivenNames x1 g x2
  have h1 : Keeps F s0 x1 := State.rekey_keeps (hF.of rfl) h
  have h2 : Keeps F s0 x2 := h1.setMem (hF.of rfl) (fun i => storeRaw_wf i _ _)
  refine Keeps.ite (fun _ => State.setPoison_keeps (hF.of rfl) h2) (fun _ => ?_)
  refine Keeps.ite (fun _ => h2.setGran (hF.of rfl) (fun i => Sp.wf_upd i _ _)) (fun _ => ?_)
  exact Keeps.ite (fun _ => State.countMem_keeps (hF.of rfl) h2) (fun _ => h2)

theorem State.save_keeps {F : Nat} {s0 s : State} {a1 a2 a3} (hF : Sub 0x1800000000000000000000000000000000000000000000007 F) (h : Keeps F s0 s) :
    Keeps F s0 (State.save s a1 a2 a3) := by
  unfold State.save
  exact Keeps.foldl h (fun x1 e2 h3 => State.storePiece_keeps (hF.of rfl) h3)

theorem State.saveN_keeps {F : Nat} {s0 s : State} {a1 a2 a3} (hF : Sub 0x1800000000000000000000000000000000000000000000007 F) (h : Keeps F s0 s) :
    Keeps F s0 (State.saveN s a1 a2 a3) := by
  unfold State.saveN
  exact State.save_keeps (hF.of rfl) h

theorem State.copyGran_keeps {F : Nat} {s0 s : State} {a1 a2 a3} (hF : Sub 0x1800000000000000000000000000000000000000000000007 F) (h : Keeps F s0 s) :
    Keeps F s0 (State.copyGran s a1 a2 a3) := by
  unfold State.copyGran
  exact Keeps.foldl h (fun x1 e2 h3 => State.save_keeps (hF.of rfl) h3)

theorem State.zeroGran_keeps {F : Nat} {s0 s : State} {a1 a2} (hF : Sub 0x1800000000000000000000000000000000000000000000007 F) (h : Keeps F s0 s) :
    Keeps F s0 (State.zeroGran s a1 a2) := by
  unfold State.zeroGran
  exact Keeps.foldl h (fun x1 e2 h3 => State.save_keeps (hF.of rfl) h3)

theorem State.senseGran_keeps {F : Nat} {s0 s : State} {a1 a2 a3} (hF : Sub 0x190000007e2000000000000000000000000010004049b801d F) (h : Keeps F s0 s) :
    Keeps F s0 (State.senseGran s a1 a2 a3) := by
  unfold State.senseGran
  extract_lets +onlyGivenNames a
  have hc : ∀ i, Keeps F s0 (s.countMem a i) ∧ (s.countMem a i).gran = s.gran := fun i =>
    ⟨State.countMem_keeps (hF.of rfl) h, (State.countMem_keeps (F := 0x3fffffffffffffffffffffffffffffffffffffffffffffffffffb) (Sub.of (Sub.self _) rfl) (Keeps.refl _ s)).frame .gran rfl⟩
  clear_value a
  split
  · exact h
  · exact (hc 0).1.setGran (hF.of rfl) (fun i => (hc 0).2 ▸ Sp.wf_upd i _ _)
  · extract_lets +onlyGivenNames y x1
    have h1 : Keeps F s0 x1 := (hc 1).1.setGran (hF.of rfl) (fun i => (hc 1).2 ▸ Sp.wf_upd i _ _)
    clear_value x1
    split
    · exact State.raise_keeps (hF.of rfl) h1
    · exact State.raise_keeps (hF.of rfl) h1
    · exact h1

theorem State.snoop_keeps {F : Nat} {s0 s : State} {a1} (hF : Sub 0x10000000000000000000000000000000000000000000000001 F) (h : Keeps F s0 s) :
    Keeps F s0 (State.snoop s a1) := by
  unfold State.snoop
  exact Keeps.ite (fun _ => h) (fun _ => State.count_keeps (hF.of rfl) (R.CNT_HST_in (hF.of rfl)) h)

theorem State.senseRaw_keeps {F : Nat} {s0 s : State} {a1 a2 a3 a4} (hF : Sub 0x190000007e2000000000000000000000000010004049b801d F) (h : Keeps F s0 s) :
    Keeps F s0 (State.senseRaw s a1 a2 a3 a4) := by
  unfold State.senseRaw
  exact Keeps.foldl h (fun x1 e2 h3 => State.senseGran_keeps (hF.of rfl) h3)

theorem State.sense_keeps {F : Nat} {s0 s : State} {a1 a2 a3 a4} (hF : Sub 0x1190000007e2000000000000000000000000010004049b801d F) (h : Keeps F s0 s) :
    Keeps F s0 (State.sense s a1 a2 a3 a4) := by
  unfold State.sense
  exact State.senseRaw_keeps (hF.of rfl) (State.snoop_keeps (hF.of rfl) h)

theorem State.plant_keeps {F : Nat} {s0 s : State} {a1} (hF : Sub 0x4 F) (h : Keeps F s0 s) :
    Keeps F s0 (State.plant s a1) := by
  unfold State.plant
  exact Keeps.foldl h (fun x e hx => hx.setGran (hF.of rfl) (fun i => Sp.wf_upd i _ _))

theorem State.unmappedErr_keeps {F : Nat} {s0 s : State} {a1 a2} (hF : Sub 0x10000007e2000000000000000000000000010004049b8019 F) (h : Keeps F s0 s) :
    Keeps F s0 (State.unmappedErr s a1 a2) := by
  unfold State.unmappedErr
  exact State.raiseAs_keeps (hF.of rfl) (State.count_keeps (hF.of rfl) (R.CNT_GLB_in (hF.of rfl)) h)

theorem State.refusedErr_keeps {F : Nat} {s0 s : State} {a1 a2} (hF : Sub 0x10000007e2000000000000000000000000010004049b8019 F) (h : Keeps F s0 s) :
    Keeps F s0 (State.refusedErr s a1 a2) := by
  unfold State.refusedErr
  refine Keeps.ite (fun _ => State.raiseAs_keeps (hF.of rfl) h) (fun _ => ?_)
  exact State.raiseAs_keeps (hF.of rfl) (State.count_keeps (hF.of rfl) (R.CNT_GLB_in (hF.of rfl)) h)

theorem State.takeFree_keeps {F : Nat} {s0 s : State} (hF : Sub 0x800000000 F) (h : Keeps F s0 s) :
    Keeps F s0 (State.takeFree s).2 := by
  unfold State.takeFree
  exact Keeps.mkSnd (Keeps.setFree h (hF.of rfl))

end Sys2Proof.Machine
end

