-- ==== Sys2Proof/Laws/Frame.lean ====
section
/-! SUPPORT. From what an operation keeps (Laws/Keeps.lean) to a command's footprint (Footprint.lean). -/

namespace Sys2Proof.Machine

open Sys2Proof

/-- The cards a mask names, as places in `cardTable`. -/
def bitsOf (M : Nat) : List Nat := (List.range 163).filter (fun i => M.testBit (37 + i))

theorem mem_bitsOf {M i : Nat} (hM : M < 2 ^ 200) (h : M.testBit (37 + i) = true) : i ∈ bitsOf M := by
  refine List.mem_filter.2 ⟨List.mem_range.2 ?_, h⟩
  by_cases hi : i < 163
  · exact hi
  · rw [Nat.testBit_lt_two_pow (Nat.lt_of_lt_of_le hM (Nat.pow_le_pow_right (by decide) (by omega)))] at h
    cases h

/-- The parts a mask names are listed. -/
def partsOk (M : Nat) (l : List Fd) : Bool := allParts.all (fun f => !M.testBit f.bit || l.contains f)

theorem mem_allParts (f : Fd) : f ∈ allParts := by cases f <;> decide

theorem parts_mem {M : Nat} {l : List Fd} (h : partsOk M l = true) (f : Fd) (hf : M.testBit f.bit = true) : f ∈ l := by
  have := (List.all_eq_true.1 h) f (mem_allParts f)
  simpa [hf] using this

/-- A command that may touch any register. -/
theorem Keeps.footAny {M : Nat} {s t : State} {fp : Footprint} (h : Keeps M s t) (hp : partsOk M fp.parts = true)
    (hr : fp.regs = .any) :
    t.pending = s.pending ∧ s.out <+: t.out ∧ (∀ f, f ∉ fp.parts → f.Same s t) ∧
    ∀ l, fp.regs = .of l → ∀ a, (∀ d ∈ l, ¬ d.owns a) → Sp.find a t.regs = Sp.find a s.regs := by
  refine ⟨h.queue, h.out, fun f hf => h.frame f ?_, fun l hl => ?_⟩
  · cases hb : M.testBit f.bit with
    | false => rfl
    | true => exact absurd (parts_mem hp f hb) hf
  · rw [hr] at hl; cases hl

/-- A command that may touch the registers of listed cards, `L` their places in `cardTable`. -/
theorem Keeps.footOf {M : Nat} {s t : State} {fp : Footprint} {l : List Card} (h : Keeps M s t) (hp : partsOk M fp.parts = true)
    (hr : fp.regs = .of l) (h36 : M.testBit 36 = false) (hM : M < 2 ^ 200)
    (L : List Nat) (hl : l = L.filterMap (cardTable[·]?)) (hs : (bitsOf M).all L.contains = true) :
    t.pending = s.pending ∧ s.out <+: t.out ∧ (∀ f, f ∉ fp.parts → f.Same s t) ∧
    ∀ l, fp.regs = .of l → ∀ a, (∀ d ∈ l, ¬ d.owns a) → Sp.find a t.regs = Sp.find a s.regs := by
  refine ⟨h.queue, h.out, fun f hf => h.frame f ?_, fun l' hl' a ha => h.cards a (fun c hci => ?_) h36⟩
  · cases hb : M.testBit f.bit with
    | false => rfl
    | true => exact absurd (parts_mem hp f hb) hf
  · rw [hr] at hl'
    cases hl'
    rcases hci with h' | ⟨i, hi, e⟩
    · rw [h36] at h'; cases h'
    · have := (List.all_eq_true.1 hs) i (mem_bitsOf hM hi)
      exact ha c (hl ▸ List.mem_filterMap.2 ⟨i, by simpa using this, e⟩)

/-! ## Reading a register after an operation -/

/-- The addresses a card owns, in numbers. -/
theorem Card.owns_cases {c : Card} {a : Nat} (h : c.owns a) : ∃ u k e, e ≤ 1 ∧ k < c.count ∧
    (c.blk.instances = 1 ∨ u < c.blk.instances) ∧ (c.view = .one ∨ u < 64) ∧
    a = c.blk.base + (if c.blk.instances = 1 then 0 else u * 0x100000) + c.view.shift u + c.off + k * c.stride + e * 0x80000 := by
  obtain ⟨u, k, hk, h⟩ := h
  simp only [Card.has, Bool.and_eq_true, Bool.or_eq_true, decide_eq_true_eq] at hk
  rcases h with h | h
  · exact ⟨u, k, 0, by decide, hk.2, hk.1.1, hk.1.2, by rw [h, Nat.zero_mul, Nat.add_zero, Card.addr]⟩
  · exact ⟨u, k, 1, by decide, hk.2, hk.1.1, hk.1.2, by rw [h, Nat.one_mul, Card.addr, imageOff]⟩

/-- A register that no touched card owns reads as before. -/
theorem Keeps.rd {M : Nat} {s t : State} (h : Keeps M s t) (L : List Nat) (hM : M < 2 ^ 200) (h36 : M.testBit 36 = false)
    (hL : (bitsOf M).all L.contains = true) {d : Card} {u k : Nat}
    (hn : ∀ c ∈ L.filterMap (cardTable[·]?), ¬ c.owns (d.addr u k)) : t.rd d u k = s.rd d u k := by
  have : Sp.find (d.addr u k) t.regs = Sp.find (d.addr u k) s.regs := by
    refine h.cards _ (fun c hc => ?_) h36
    rcases hc with hc | ⟨i, hi, e⟩
    · rw [h36] at hc; cases hc
    · have := (List.all_eq_true.1 hL) i (mem_bitsOf hM hi)
      exact hn c (List.mem_filterMap.2 ⟨i, by simpa using this, e⟩)
  unfold State.rd
  rw [this]

variable {s : State} {d : Card} {u k : Nat}

/-- An event changes no register but its own records and counts (R466, R475). -/
theorem State.rd_event (hn : ∀ c ∈ eventCards, ¬ c.owns (d.addr u k)) (e : Ev) (p d0 d1 : Nat) :
    (s.event e p d0 d1).rd d u k = s.rd d u k :=
  (State.event_keeps (Sub.self _) (Keeps.refl _ s)).rd [120, 121, 122, 123, 124, 125, 151] (by decide) rfl (by decide) hn

/-- An error changes no register but those of its event and the run states (R467, R468). -/
theorem State.rd_raise (hn : ∀ c ∈ raiseCards, ¬ c.owns (d.addr u k)) (e : Ev) (p d0 d1 : Nat) :
    (s.raise e p d0 d1).rd d u k = s.rd d u k :=
  (State.raise_keeps (Sub.self _) (Keeps.refl _ s)).rd [120, 121, 122, 123, 124, 125, 151, 11, 116] (by decide) rfl
    (by decide) hn

end Sys2Proof.Machine
end

