-- ==== Sys2Proof/Laws/KeepsRegRead.lean ====
section
/-! SUPPORT. What the operations of Machine/RegRead.lean keep (Laws/Keeps.lean): one lemma for each. -/

namespace Sys2Proof.Machine

open Sys2Proof

theorem State.badAccess_keeps {F : Nat} {s0 s : State} {a1} (hF : Sub 0x10000007e0000000000000000000000000000004049b8009 F) (h : Keeps F s0 s) :
    Keeps F s0 (State.badAccess s a1) := by
  unfold State.badAccess
  exact State.event_keeps (hF.of rfl) (State.regErr_keeps (hF.of rfl) h)

theorem State.regRead_keeps {F : Nat} {s0 s : State} {a1 a2} (hF : Sub 0x10000007e0000000000000000000000000000004049b8009 F) (h : Keeps F s0 s) :
    Keeps F s0 (State.regRead s a1 a2).1 := by
  unfold State.regRead
  split
  · exact Keeps.mkFst h
  · exact Keeps.mkFst (State.badAccess_keeps (hF.of rfl) h)

theorem State.regGranule_keeps {F : Nat} {s0 s : State} {a1} (hF : Sub 0x10000007e0000000000000000000000000000004049b8009 F) (h : Keeps F s0 s) :
    Keeps F s0 (State.regGranule s a1).1 := by
  unfold State.regGranule
  extract_lets +onlyGivenNames x1 x2 x3
  clear_value x1 x2 x3
  exact Keeps.iteFst (fun _ => Keeps.mkFst h) (fun _ => Keeps.mkFst (State.badAccess_keeps (hF.of rfl) h))

end Sys2Proof.Machine
end

