-- ==== Sys2Proof/Laws/KeepsCourse.lean ====
section
/-! SUPPORT. What the operations of Machine/Course.lean keep (Laws/Keeps.lean): one lemma for each. -/

namespace Sys2Proof.Machine

open Sys2Proof

theorem State.swapSlot_keeps {F : Nat} {s0 s : State} {a1 a2} (hF : Sub 0x180000000000009 F) (h : Keeps F s0 s) :
    Keeps F s0 (State.swapSlot s a1 a2) := by
  unfold State.swapSlot
  extract_lets +onlyGivenNames x1 x2 x3
  clear_value x1 x2 x3
  extract_lets +onlyGivenNames x4
  have h5 : Keeps F s0 x4 := State.setPart_keeps (hF.of rfl) h
  clear_value x4
  extract_lets +onlyGivenNames x6 x7 x8 x9
  clear_value x6 x7 x8 x9
  refine State.wrDigest_keeps (hF.of rfl) (R.SEQ_SLOT_DIGEST_in (hF.of rfl)) ?_
  refine State.wrDigest_keeps (hF.of rfl) (R.SEQ_SLOT_DIGEST_in (hF.of rfl)) ?_
  refine State.wr_keeps (hF.of rfl) (R.SEQ_SLOT_STATUS_in (hF.of rfl)) ?_
  exact State.wr_keeps (hF.of rfl) (R.SEQ_SLOT_STATUS_in (hF.of rfl)) h5

theorem State.swapArmed_keeps {F : Nat} {s0 s : State} {a1 a2 a3} (hF : Sub 0x10000007e2000000000000000000000001810404049b8019 F) (h : Keeps F s0 s) :
    Keeps F s0 (State.swapArmed s a1 a2 a3) := by
  unfold State.swapArmed
  refine Keeps.foldl h (fun x1 e2 h3 => ?_)
  extract_lets +onlyGivenNames x4
  clear_value x4
  extract_lets +onlyGivenNames x5
  have h6 : Keeps F s0 x5 := State.wr_keeps (hF.of rfl) (R.SEQ_COURSE_ARM_in (hF.of rfl)) h3
  clear_value x5
  exact Keeps.ite (fun _ => State.swapSlot_keeps (hF.of rfl) h6) (fun _ => State.raise_keeps (hF.of rfl) h6)

end Sys2Proof.Machine
end

