-- ==== Sys2Proof/Laws/KeepsStride.lean ====
section
/-! SUPPORT. What the operations of Machine/Stride.lean keep (Laws/Keeps.lean): one lemma for each. -/

namespace Sys2Proof.Machine

open Sys2Proof

theorem State.strideImageWrite_keeps {F : Nat} {s0 s : State} {a1 a2 a3} (hF : Sub 0x30000007e0000000000000000000000000000004049b800b F) (h : Keeps F s0 s) :
    Keeps F s0 (State.strideImageWrite s a1 a2 a3) := by
  unfold State.strideImageWrite
  extract_lets +onlyGivenNames w p
  refine Keeps.ite (fun _ => ?_) (fun _ => h.setMem (hF.of rfl) (fun i => storeRaw_wf i _ _))
  exact State.event_keeps (hF.of rfl) (State.count_keeps (hF.of rfl) (R.CNT_SEQ_in (hF.of rfl)) h)

theorem State.fireTrigs_keeps {F : Nat} {s0 s : State} {a1} (hF : Sub 0x8000000000000000000000000000000000000000000000009 F) (h : Keeps F s0 s) :
    Keeps F s0 (State.fireTrigs s a1) := by
  unfold State.fireTrigs
  extract_lets +onlyGivenNames x1 x2
  clear_value x1 x2
  extract_lets +onlyGivenNames x3
  have h4 : Keeps F s0 x3 := State.count_keeps (hF.of rfl) (R.CNT_RLY_in (hF.of rfl)) h
  clear_value x3
  exact State.setPart_keeps (hF.of rfl) h4

theorem State.trigInc_keeps {F : Nat} {s0 s : State} {a1 a2 a3} (hF : Sub 0x8000000000000000040000000000000000000000000000009 F) (h : Keeps F s0 s) :
    Keeps F s0 (State.trigInc s a1 a2 a3) := by
  unfold State.trigInc
  exact State.fireTrigs_keeps (hF.of rfl) (State.wr_keeps (hF.of rfl) (R.RLY_TRIGGER_in (hF.of rfl)) h)

theorem State.cmdDone_keeps {F : Nat} {s0 s : State} {a1} (hF : Sub 0x8000000000000000040000000000000000000000000000009 F) (h : Keeps F s0 s) :
    Keeps F s0 (State.cmdDone s a1) := by
  unfold State.cmdDone
  extract_lets +onlyGivenNames x1
  have h2 : Keeps F s0 x1 := State.updPart_keeps (hF.of rfl) h
  clear_value x1
  exact Keeps.ite (fun _ => State.trigInc_keeps (hF.of rfl) h2) (fun _ => h2)

theorem State.engStart_keeps {F : Nat} {s0 s : State} {a1} (hF : Sub 0x8 F) (h : Keeps F s0 s) :
    Keeps F s0 (State.engStart s a1) := by
  unfold State.engStart
  exact State.updPart_keeps (hF.of rfl) h

theorem State.fetchDesc_keeps {F : Nat} {s0 s : State} {a1 a2 a3} (hF : Sub 0x1190000007e2000000000000000000000000010004049b801d F) (h : Keeps F s0 s) :
    Keeps F s0 (State.fetchDesc s a1 a2 a3).1 := by
  unfold State.fetchDesc
  extract_lets +onlyGivenNames x1 x2
  clear_value x1 x2
  refine Keeps.iteFst (fun _ => Keeps.mkFst (State.refusedErr_keeps (hF.of rfl) h)) (fun _ => ?_)
  split
  · exact Keeps.mkFst (State.unmappedErr_keeps (hF.of rfl) h)
  · exact Keeps.mkFst (State.refusedErr_keeps (hF.of rfl) h)
  · extract_lets +onlyGivenNames x3
    have h4 : Keeps F s0 x3 := State.sense_keeps (hF.of rfl) h
    clear_value x3
    exact Keeps.mkFst h4

theorem State.issueEngine_keeps {F : Nat} {s0 s : State} {a1} (hF : Sub 0x10000007e2000000000000000000000000010004049b8019 F) (h : Keeps F s0 s) :
    Keeps F s0 (State.issueEngine s a1).1 := by
  unfold State.issueEngine
  extract_lets +onlyGivenNames x1
  clear_value x1
  refine Keeps.iteFst (fun _ => Keeps.mkFst (State.raise_keeps (hF.of rfl) h)) (fun _ => ?_)
  refine Keeps.iteFst (fun _ => Keeps.mkFst (State.raise_keeps (hF.of rfl) h)) (fun _ => ?_)
  refine Keeps.iteFst (fun _ => Keeps.mkFst (State.raise_keeps (hF.of rfl) h)) (fun _ => ?_)
  split
  · exact Keeps.mkFst (State.raise_keeps (hF.of rfl) h)
  · exact Keeps.mkFst (State.setPart_keeps (hF.of rfl) h)

theorem State.loopStep_keeps {F : Nat} {s0 s : State} {a1 a2 a3 a4} (hF : Sub 0x10000007e2000000000000000000000000010004049b8019 F) (h : Keeps F s0 s) :
    Keeps F s0 (State.loopStep s a1 a2 a3 a4).1 := by
  unfold State.loopStep
  extract_lets +onlyGivenNames x1
  clear_value x1
  split
  refine Keeps.iteFst (fun _ => Keeps.mkFst (State.raise_keeps (hF.of rfl) h)) (fun _ => ?_)
  extract_lets +onlyGivenNames x2
  clear_value x2
  refine Keeps.iteFst (fun _ => ?_) (fun _ => Keeps.mkFst (State.setPart_keeps (hF.of rfl) h))
  exact Keeps.mkFst (State.setPart_keeps (hF.of rfl) h)

end Sys2Proof.Machine
end

