-- ==== Sys2Proof/Laws/KeepsSeq.lean ====
section
/-! SUPPORT. What the operations of Machine/Seq.lean keep (Laws/Keeps.lean): one lemma for each. -/

namespace Sys2Proof.Machine

open Sys2Proof

theorem State.applyReg_keeps {F : Nat} {s0 s : State} {a1 a2 a3 a4} (hF : Sub 0x1 F) (hc : CIn a1 F) (h : Keeps F s0 s) :
    Keeps F s0 (State.applyReg s a1 a2 a3 a4) := by
  unfold State.applyReg
  extract_lets +onlyGivenNames x1
  clear_value x1
  exact State.wrEff_keeps (hF.of rfl) hc h

theorem State.applyLap_keeps {F : Nat} {s0 s : State} {a1} (hF : Sub 0x160000f000001f8d817040006180000000009 F) (h : Keeps F s0 s) :
    Keeps F s0 (State.applyLap s a1) := by
  unfold State.applyLap
  extract_lets +onlyGivenNames per ring x1
  have hper : per = [R.SEQ_LEG_TABLE,
    R.SEQ_LAP_CONFIG,
    R.SEQ_RECORD_RING,
    R.SEQ_REPLAY_RING,
    R.SEQ_STRIDE_MASTER,
    R.SEQ_SEED0,
    R.SEQ_SEED1,
    R.SEQ_DRAW_RANK,
    R.SEQ_CAL_TABLE,
    R.SEQ_SEAL_RING,
    R.SEQ_LAP_STATE,
    R.SEQ_AUDIT_CTRL,
    R.EMB_PLACE_TABLE,
    R.EMB_PLACE_CTRL,
    R.EMB_FAR_AREA,
    R.EMB_FAR_SIZE,
    R.EMB_CTRL,
    R.EMB_TABLE_BASE,
    R.EMB_REPLICA_KEY,
    R.EMB_DEFER_AREA,
    R.EMB_TIMEOUT,
    R.EMB_RANK_MAP,
    R.RLY_CTRL,
    R.RLY_COMM_TABLE,
    R.RLY_JOB,
    R.RLY_DEFER_AREA] := rfl
  have hall : ∀ c ∈ per, CIn c F := by
    rw [hper]
    simp only [List.forall_mem_cons]
    exact ⟨R.SEQ_LEG_TABLE_in (hF.of rfl),
    R.SEQ_LAP_CONFIG_in (hF.of rfl),
    R.SEQ_RECORD_RING_in (hF.of rfl),
    R.SEQ_REPLAY_RING_in (hF.of rfl),
    R.SEQ_STRIDE_MASTER_in (hF.of rfl),
    R.SEQ_SEED0_in (hF.of rfl),
    R.SEQ_SEED1_in (hF.of rfl),
    R.SEQ_DRAW_RANK_in (hF.of rfl),
    R.SEQ_CAL_TABLE_in (hF.of rfl),
    R.SEQ_SEAL_RING_in (hF.of rfl),
    R.SEQ_LAP_STATE_in (hF.of rfl),
    R.SEQ_AUDIT_CTRL_in (hF.of rfl),
    R.EMB_PLACE_TABLE_in (hF.of rfl),
    R.EMB_PLACE_CTRL_in (hF.of rfl),
    R.EMB_FAR_AREA_in (hF.of rfl),
    R.EMB_FAR_SIZE_in (hF.of rfl),
    R.EMB_CTRL_in (hF.of rfl),
    R.EMB_TABLE_BASE_in (hF.of rfl),
    R.EMB_REPLICA_KEY_in (hF.of rfl),
    R.EMB_DEFER_AREA_in (hF.of rfl),
    R.EMB_TIMEOUT_in (hF.of rfl),
    R.EMB_RANK_MAP_in (hF.of rfl),
    R.RLY_CTRL_in (hF.of rfl),
    R.RLY_COMM_TABLE_in (hF.of rfl),
    R.RLY_JOB_in (hF.of rfl),
    R.RLY_DEFER_AREA_in (hF.of rfl), fun _ h => nomatch h⟩
  have h1 : Keeps F s0 x1 := Keeps.foldlMem h (fun x c hc hx => Keeps.foldl hx (fun y k hy => State.applyReg_keeps (hF.of rfl) (hall c hc) hy))
  clear_value x1
  exact Keeps.ite (fun _ => h1) (fun _ => State.updPart_keeps (hF.of rfl) h1)

theorem State.applyLapChip_keeps {F : Nat} {s0 s : State} (hF : Sub 0x10000400000000000000000001 F) (h : Keeps F s0 s) :
    Keeps F s0 (State.applyLapChip s) := by
  unfold State.applyLapChip
  extract_lets +onlyGivenNames x1
  have h2 : Keeps F s0 x1 := State.applyReg_keeps (hF.of rfl) (R.GLB_PAGE_ATTR_in (hF.of rfl)) h
  clear_value x1
  exact Keeps.foldl h2 (fun x3 e4 h5 => State.applyReg_keeps (hF.of rfl) (R.AKC_LEDGER_TABLE_in (hF.of rfl)) h5)

theorem State.applyLeg_keeps {F : Nat} {s0 s : State} {a1} (hF : Sub 0x8000000000000000001 F) (h : Keeps F s0 s) :
    Keeps F s0 (State.applyLeg s a1) := by
  unfold State.applyLeg
  refine Keeps.foldl h (fun x1 e2 h3 => ?_)
  exact Keeps.foldl h3 (fun x4 e5 h6 => State.applyReg_keeps (hF.of rfl) (R.CLU_CAL_BIND_in (hF.of rfl)) h6)

theorem State.applyGuard_keeps {F : Nat} {s0 s : State} {a1} (hF : Sub 0x20400000000000001 F) (h : Keeps F s0 s) :
    Keeps F s0 (State.applyGuard s a1) := by
  unfold State.applyGuard
  extract_lets +onlyGivenNames x1
  clear_value x1
  refine Keeps.ite (fun _ => ?_) (fun _ => h)
  refine State.wrDigest_keeps (hF.of rfl) (R.SEQ_STRIDE_DIGEST_in (hF.of rfl)) ?_
  exact State.wr_keeps (hF.of rfl) (R.SEQ_STRIDE_GUARD_in (hF.of rfl)) h

theorem State.setPos_keeps {F : Nat} {s0 s : State} {a1 a2} (hF : Sub 0x800000000001 F) (h : Keeps F s0 s) :
    Keeps F s0 (State.setPos s a1 a2) := by
  unfold State.setPos
  exact State.wrFs_keeps (hF.of rfl) (R.SEQ_POSITION_in (hF.of rfl)) h

theorem State.setLap_keeps {F : Nat} {s0 s : State} {a1 a2} (hF : Sub 0x800000000001 F) (h : Keeps F s0 s) :
    Keeps F s0 (State.setLap s a1 a2) := by
  unfold State.setLap
  exact State.setPos_keeps (hF.of rfl) h

theorem State.restage_keeps {F : Nat} {s0 s : State} {a1} (hF : Sub 0x8 F) (h : Keeps F s0 s) :
    Keeps F s0 (State.restage s a1) := by
  unfold State.restage
  extract_lets +onlyGivenNames x1
  clear_value x1
  split
  · exact Keeps.ite (fun _ => State.setPart_keeps (hF.of rfl) h) (fun _ => h)
  · exact h

theorem State.startRejected_keeps {F : Nat} {s0 s : State} {a1} (hF : Sub 0x10000007e0000000000000000000000000000004049b8009 F) (h : Keeps F s0 s) :
    Keeps F s0 (State.startRejected s a1) := by
  unfold State.startRejected
  exact State.event_keeps (hF.of rfl) (State.regErr_keeps (hF.of rfl) h)

theorem State.resumeRejected_keeps {F : Nat} {s0 s : State} {a1} (hF : Sub 0x10000007e0000000000000000000000000000004049b8009 F) (h : Keeps F s0 s) :
    Keeps F s0 (State.resumeRejected s a1) := by
  unfold State.resumeRejected
  exact State.event_keeps (hF.of rfl) h

theorem State.holdNext_keeps {F : Nat} {s0 s : State} {a1} (hF : Sub 0x8 F) (h : Keeps F s0 s) :
    Keeps F s0 (State.holdNext s a1) := by
  unfold State.holdNext
  exact Keeps.ite (fun _ => State.updPart_keeps (hF.of rfl) h) (fun _ => h)

theorem State.enterHold_keeps {F : Nat} {s0 s : State} {a1 a2} (hF : Sub 0x200000000000000000000000001800000000009 F) (h : Keeps F s0 s) :
    Keeps F s0 (State.enterHold s a1 a2) := by
  unfold State.enterHold
  extract_lets +onlyGivenNames x1
  have h2 : Keeps F s0 x1 := State.setPos_keeps (hF.of rfl) h
  clear_value x1
  exact State.setPState_keeps (hF.of rfl) (State.updPart_keeps (hF.of rfl) h2)

theorem State.addRec_keeps {F : Nat} {s0 s : State} {a1 a2} (hF : Sub 0x8 F) (h : Keeps F s0 s) :
    Keeps F s0 (State.addRec s a1 a2) := by
  unfold State.addRec
  exact State.updPart_keeps (hF.of rfl) h

theorem State.writeRing_keeps {F : Nat} {s0 s : State} {a1 a2 a3 a4} (hF : Sub 0x1800000000000000000000000000000000000000000000007 F) (h : Keeps F s0 s) :
    Keeps F s0 (State.writeRing s a1 a2 a3 a4) := by
  unfold State.writeRing
  exact Keeps.foldl h (fun x1 e2 h3 => State.save_keeps (hF.of rfl) h3)

theorem State.putRecord_keeps {F : Nat} {s0 s : State} {a1 a2 a3} (hF : Sub 0x180000000000000000000000000000000000000000000000f F) (h : Keeps F s0 s) :
    Keeps F s0 (State.putRecord s a1 a2 a3) := by
  unfold State.putRecord
  extract_lets +onlyGivenNames x1 x2 x3 x4 x5
  clear_value x1 x2 x3 x4 x5
  exact State.updPart_keeps (hF.of rfl) (State.writeRing_keeps (hF.of rfl) h)

theorem State.closeRecord_keeps {F : Nat} {s0 s : State} {a1} (hF : Sub 0x180000000000000000000000000000000000000000000000f F) (h : Keeps F s0 s) :
    Keeps F s0 (State.closeRecord s a1) := by
  unfold State.closeRecord
  extract_lets +onlyGivenNames x1 x2 x3
  clear_value x1 x2 x3
  refine Keeps.ite (fun _ => State.updPart_keeps (hF.of rfl) (State.putRecord_keeps (hF.of rfl) h)) (fun _ => ?_)
  extract_lets +onlyGivenNames x4
  have h5 : Keeps F s0 x4 := State.updPart_keeps (hF.of rfl) h
  clear_value x4
  exact Keeps.ite (fun _ => State.putRecord_keeps (hF.of rfl) h5) (fun _ => State.updPart_keeps (hF.of rfl) h5)

theorem State.writeOwed_keeps {F : Nat} {s0 s : State} {a1} (hF : Sub 0x180000000000000000000000000000000000000000000000f F) (h : Keeps F s0 s) :
    Keeps F s0 (State.writeOwed s a1).1 := by
  unfold State.writeOwed
  split
  · exact Keeps.mkFst h
  · refine Keeps.iteFst (fun _ => Keeps.mkFst h) (fun _ => ?_)
    exact Keeps.mkFst (State.updPart_keeps (hF.of rfl) (State.putRecord_keeps (hF.of rfl) h))

theorem State.markHeld_keeps {F : Nat} {s0 s : State} {a1 a2} (hF : Sub 0x1800000000000000000000000000000000000000000000007 F) (h : Keeps F s0 s) :
    Keeps F s0 (State.markHeld s a1 a2) := by
  unfold State.markHeld
  split
  · extract_lets +onlyGivenNames x1
    clear_value x1
    exact Keeps.ite (fun _ => State.saveN_keeps (hF.of rfl) h) (fun _ => h)
  · exact h

theorem State.writeSeal_keeps {F : Nat} {s0 s : State} {a1} (hF : Sub 0x1a00000000006000000000000000000000000000000000007 F) (h : Keeps F s0 s) :
    Keeps F s0 (State.writeSeal s a1) := by
  unfold State.writeSeal
  refine Keeps.ite (fun _ => h) (fun _ => ?_)
  extract_lets +onlyGivenNames x1 x2 x3 x4 x5 x6 x7
  clear_value x1 x2 x3 x4 x5 x6 x7
  extract_lets +onlyGivenNames x8
  have h9 : Keeps F s0 x8 := by
    unfold x8
    refine State.count_keeps (hF.of rfl) (R.CNT_SEQ_in (hF.of rfl)) ?_
    exact State.wrDigest_keeps (hF.of rfl) (R.SEQ_LAP_SEAL_in (hF.of rfl)) (State.save_keeps (hF.of rfl) h)
  clear_value x8
  exact State.wrFs_keeps (hF.of rfl) (R.SEQ_AUDIT_STATUS_in (hF.of rfl)) h9

theorem State.vIssue_keeps {F : Nat} {s0 s : State} {a1 a2} (hF : Sub 0x30000007e2000000000000000000000000010004049b8019 F) (h : Keeps F s0 s) :
    Keeps F s0 (State.vIssue s a1 a2).1 := by
  unfold State.vIssue
  extract_lets +onlyGivenNames x1
  have h2 : Keeps F s0 x1 := State.updPart_keeps (hF.of rfl) (State.count_keeps (hF.of rfl) (R.CNT_SEQ_in (hF.of rfl)) h)
  clear_value x1
  exact Keeps.iteFst (fun _ => Keeps.mkFst (State.raise_keeps (hF.of rfl) h2)) (fun _ => Keeps.mkFst h2)

theorem State.loadReplay_keeps {F : Nat} {s0 s : State} {a1 a2} (hF : Sub 0x10000007e0000000000000000000000000000004049b8009 F) (h : Keeps F s0 s) :
    Keeps F s0 (State.loadReplay s a1 a2).1 := by
  unfold State.loadReplay
  refine Keeps.iteFst (fun _ => Keeps.mkFst (State.updPart_keeps (hF.of rfl) h)) (fun _ => ?_)
  refine Keeps.iteFst (fun _ => ?_) (fun _ => ?_)
  · extract_lets +onlyGivenNames x1
    clear_value x1
    exact Keeps.mkFst (State.updPart_keeps (hF.of rfl) h)
  · exact Keeps.mkFst (State.event_keeps (hF.of rfl) (State.updPart_keeps (hF.of rfl) h))

theorem State.closeReplay_keeps {F : Nat} {s0 s : State} {a1} (hF : Sub 0x30000007e0048000000000000000000000000004049b8009 F) (h : Keeps F s0 s) :
    Keeps F s0 (State.closeReplay s a1) := by
  unfold State.closeReplay
  extract_lets +onlyGivenNames x1
  clear_value x1
  refine Keeps.ite (fun _ => h) (fun _ => ?_)
  extract_lets +onlyGivenNames x2 x3
  clear_value x2 x3
  extract_lets +onlyGivenNames x4
  have h5 : Keeps F s0 x4 := by
    unfold x4
    refine Keeps.ite (fun _ => h) (fun _ => ?_)
    refine State.event_keeps (hF.of rfl) ?_
    refine State.wrF_keeps (hF.of rfl) (R.SEQ_AUDIT_STATUS_in (hF.of rfl)) ?_
    exact State.count_keeps (hF.of rfl) (R.CNT_SEQ_in (hF.of rfl)) h
  clear_value x4
  exact State.wr_keeps (hF.of rfl) (R.SEQ_REPLAY_POS_in (hF.of rfl)) h5

theorem State.lapStateBlock_keeps {F : Nat} {s0 s : State} {a1 a2 a3 a4} (hF : Sub 0x190000007e2000000000000000000000000010004049b801f F) (h : Keeps F s0 s) :
    Keeps F s0 (State.lapStateBlock s a1 a2 a3 a4) := by
  unfold State.lapStateBlock
  extract_lets +onlyGivenNames x1
  clear_value x1
  refine Keeps.ite (fun _ => State.raise_keeps (hF.of rfl) h) (fun _ => ?_)
  extract_lets +onlyGivenNames x2
  clear_value x2
  exact State.updPart_keeps (hF.of rfl) (State.save_keeps (hF.of rfl) h)

theorem State.courseStoreWrite_keeps {F : Nat} {s0 s : State} {a1 a2} (hF : Sub 0x100000000000000000000000000000000088000000000001 F) (h : Keeps F s0 s) :
    Keeps F s0 (State.courseStoreWrite s a1 a2) := by
  unfold State.courseStoreWrite
  refine Keeps.ite (fun _ => State.regErr_keeps (hF.of rfl) h) (fun _ => ?_)
  extract_lets +onlyGivenNames x1
  have h2 : Keeps F s0 x1 := State.wr_keeps (hF.of rfl) (R.SEQ_COURSE_STORE_in (hF.of rfl)) h
  clear_value x1
  exact Keeps.foldl h2 (fun x3 e4 h5 => State.wr_keeps (hF.of rfl) (R.SEQ_SLOT_STATUS_in (hF.of rfl)) h5)

theorem State.courseLoadEnd_keeps {F : Nat} {s0 s : State} {a1 a2 a3 a4} (hF : Sub 0x10000007e0000000000000000000000000400004049b8009 F) (h : Keeps F s0 s) :
    Keeps F s0 (State.courseLoadEnd s a1 a2 a3 a4) := by
  unfold State.courseLoadEnd
  extract_lets +onlyGivenNames x1
  have h2 : Keeps F s0 x1 := State.wrFs_keeps (hF.of rfl) (R.SEQ_COURSE_LOAD_STATUS_in (hF.of rfl)) h
  clear_value x1
  exact State.event_keeps (hF.of rfl) (State.updPart_keeps (hF.of rfl) h2)

theorem State.courseLoadGo_keeps {F : Nat} {s0 s : State} {a1 a2} (hF : Sub 0x30000007e0000000000000000000000000e00004049b8009 F) (h : Keeps F s0 s) :
    Keeps F s0 (State.courseLoadGo s a1 a2) := by
  unfold State.courseLoadGo
  refine Keeps.ite (fun _ => State.regErr_keeps (hF.of rfl) h) (fun _ => ?_)
  extract_lets +onlyGivenNames x1 x2
  clear_value x1 x2
  extract_lets +onlyGivenNames x3
  have h4 : Keeps F s0 x3 := State.wr_keeps (hF.of rfl) (R.SEQ_COURSE_LOAD_CTRL_in (hF.of rfl)) h
  clear_value x3
  extract_lets +onlyGivenNames x5
  have h6 : Keeps F s0 x5 := State.wrF_keeps (hF.of rfl) (R.SEQ_COURSE_LOAD_STATUS_in (hF.of rfl)) h4
  clear_value x5
  refine Keeps.ite (fun _ => ?_) (fun _ => ?_)
  · refine State.courseLoadEnd_keeps (hF.of rfl) ?_
    exact State.event_keeps (hF.of rfl) (State.count_keeps (hF.of rfl) (R.CNT_SEQ_in (hF.of rfl)) h6)
  · extract_lets +onlyGivenNames x7
    have h8 : Keeps F s0 x7 := State.wr_keeps (hF.of rfl) (R.SEQ_SLOT_STATUS_in (hF.of rfl)) h6
    clear_value x7
    extract_lets +onlyGivenNames x9
    clear_value x9
    refine Keeps.ite (fun _ => State.courseLoadEnd_keeps (hF.of rfl) h8) (fun _ => ?_)
    extract_lets +onlyGivenNames x10
    clear_value x10
    refine State.updPart_keeps (hF.of rfl) ?_
    refine State.wrF_keeps (hF.of rfl) (R.SEQ_SLOT_STATUS_in (hF.of rfl)) ?_
    exact State.wrF_keeps (hF.of rfl) (R.SEQ_COURSE_LOAD_STATUS_in (hF.of rfl)) h8

theorem State.courseLoadDone_keeps {F : Nat} {s0 s : State} {a1} (hF : Sub 0x1190000007e2000000000000000000000001c10004049b801f F) (h : Keeps F s0 s) :
    Keeps F s0 (State.courseLoadDone s a1) := by
  unfold State.courseLoadDone
  split
  · exact h
  · extract_lets +onlyGivenNames x1 x2
    clear_value x1 x2
    extract_lets +onlyGivenNames x3
    have h4 : Keeps F s0 x3 := State.wrF_keeps (hF.of rfl) (R.SEQ_SLOT_STATUS_in (hF.of rfl)) h
    clear_value x3
    split
    · exact State.courseLoadEnd_keeps (hF.of rfl) (State.unmappedErr_keeps (hF.of rfl) h4)
    · exact State.courseLoadEnd_keeps (hF.of rfl) (State.refusedErr_keeps (hF.of rfl) h4)
    · extract_lets +onlyGivenNames x5
      have h6 : Keeps F s0 x5 := State.sense_keeps (hF.of rfl) h4
      clear_value x5
      refine Keeps.ite (fun _ => State.courseLoadEnd_keeps (hF.of rfl) h6) (fun _ => ?_)
      extract_lets +onlyGivenNames x7
      clear_value x7
      extract_lets +onlyGivenNames x8
      have h9 : Keeps F s0 x8 := State.save_keeps (hF.of rfl) h6
      clear_value x8
      split
      extract_lets +onlyGivenNames x10
      clear_value x10
      extract_lets +onlyGivenNames x11
      have h12 : Keeps F s0 x11 := by
        unfold x11
        refine Keeps.ite (fun _ => ?_) (fun _ => h9)
        refine State.wrDigest_keeps (hF.of rfl) (R.SEQ_SLOT_DIGEST_in (hF.of rfl)) ?_
        exact State.wr_keeps (hF.of rfl) (R.SEQ_SLOT_STATUS_in (hF.of rfl)) h9
      clear_value x11
      exact State.courseLoadEnd_keeps (hF.of rfl) h12

theorem State.courseArm_keeps {F : Nat} {s0 s : State} {a1 a2} (hF : Sub 0x10000007e0000000000000000000000000000404049b8009 F) (h : Keeps F s0 s) :
    Keeps F s0 (State.courseArm s a1 a2) := by
  unfold State.courseArm
  extract_lets +onlyGivenNames x1
  have h2 : Keeps F s0 x1 := by
    unfold x1
    refine Keeps.foldl h (fun x3 e4 h5 => ?_)
    refine Keeps.ite (fun _ => ?_) (fun _ => State.event_keeps (hF.of rfl) h5)
    exact State.wr_keeps (hF.of rfl) (R.SEQ_COURSE_ARM_in (hF.of rfl)) h5
  clear_value x1
  exact State.restage_keeps (hF.of rfl) h2

theorem State.strideLoadEnd_keeps {F : Nat} {s0 s : State} {a1 a2 a3} (hF : Sub 0x4000000000000009 F) (h : Keeps F s0 s) :
    Keeps F s0 (State.strideLoadEnd s a1 a2 a3) := by
  unfold State.strideLoadEnd
  refine State.updPart_keeps (hF.of rfl) ?_
  exact State.wrFs_keeps (hF.of rfl) (R.SEQ_STRIDE_LOAD_STATUS_in (hF.of rfl)) h

theorem State.strideLoadGo_keeps {F : Nat} {s0 s : State} {a1 a2} (hF : Sub 0x100000000000000000000000000000006000000000000009 F) (h : Keeps F s0 s) :
    Keeps F s0 (State.strideLoadGo s a1 a2) := by
  unfold State.strideLoadGo
  refine Keeps.ite (fun _ => State.regErr_keeps (hF.of rfl) h) (fun _ => ?_)
  extract_lets +onlyGivenNames x1 x2
  clear_value x1 x2
  extract_lets +onlyGivenNames x3
  have h4 : Keeps F s0 x3 := State.wr_keeps (hF.of rfl) (R.SEQ_STRIDE_LOAD_CTRL_in (hF.of rfl)) h
  clear_value x3
  extract_lets +onlyGivenNames x5
  have h6 : Keeps F s0 x5 := State.wrF_keeps (hF.of rfl) (R.SEQ_STRIDE_LOAD_STATUS_in (hF.of rfl)) h4
  clear_value x5
  refine Keeps.ite (fun _ => State.strideLoadEnd_keeps (hF.of rfl) h6) (fun _ => ?_)
  split
  · exact State.strideLoadEnd_keeps (hF.of rfl) h6
  · extract_lets +onlyGivenNames x7
    clear_value x7
    refine State.updPart_keeps (hF.of rfl) ?_
    exact State.wrF_keeps (hF.of rfl) (R.SEQ_STRIDE_LOAD_STATUS_in (hF.of rfl)) h6

theorem State.strideLoadWords_keeps {F : Nat} {s0 s : State} {a1 a2 a3 a4} (hF : Sub 0x1190000007e2000000000000000000000000010004049b801f F) (h : Keeps F s0 s) :
    Keeps F s0 (State.strideLoadWords a1 a2 a3 a4 s).1 := by
  induction a3 generalizing s a4 with
  | zero => exact h
  | succ k ih =>
    rw [State.strideLoadWords]
    extract_lets +onlyGivenNames x1
    have h1 : Keeps F s0 x1 := State.sense_keeps (hF.of rfl) h
    clear_value x1
    split
    · exact Keeps.mkFst (State.unmappedErr_keeps (hF.of rfl) h)
    · exact Keeps.mkFst (State.refusedErr_keeps (hF.of rfl) h)
    · refine Keeps.iteFst (fun _ => h1) (fun _ => Keeps.iteFst (fun _ => h1) (fun _ => ?_))
      exact ih (h1.setMem (hF.of rfl) (fun i => storeRaw_wf i _ _))

theorem State.strideLoadDone_keeps {F : Nat} {s0 s : State} {a1} (hF : Sub 0x1190000007e2000000000000000000000040010004049b801f F) (h : Keeps F s0 s) :
    Keeps F s0 (State.strideLoadDone s a1) := by
  unfold State.strideLoadDone
  split
  · exact h
  · refine Keeps.ite (fun _ => h) (fun _ => ?_)
    split
    · rename_i z1 z2 z3 z4 z5
      have h6 : Keeps F s0 z2 := Keeps.ofFst z5 (State.strideLoadWords_keeps (hF.of rfl) h)
      exact State.strideLoadEnd_keeps (hF.of rfl) h6
    · rename_i z7 z8 z9
      have h10 : Keeps F s0 z8 := Keeps.ofFst z9 (State.strideLoadWords_keeps (hF.of rfl) h)
      refine Keeps.ite (fun _ => ?_) (fun _ => State.strideLoadEnd_keeps (hF.of rfl) h10)
      exact State.strideLoadEnd_keeps (hF.of rfl) h10

theorem State.strideDigestDone_keeps {F : Nat} {s0 s : State} {a1} (hF : Sub 0x14200000000000009 F) (h : Keeps F s0 s) :
    Keeps F s0 (State.strideDigestDone s a1) := by
  unfold State.strideDigestDone
  split
  · exact h
  · refine Keeps.ite (fun _ => h) (fun _ => ?_)
    extract_lets +onlyGivenNames x1
    clear_value x1
    refine Keeps.ite (fun _ => ?_) (fun _ => State.strideLoadEnd_keeps (hF.of rfl) h)
    refine State.strideLoadEnd_keeps (hF.of rfl) ?_
    refine State.wr_keeps (hF.of rfl) (R.SEQ_STRIDE_GUARD_PENDING_in (hF.of rfl)) ?_
    exact State.wrDigest_keeps (hF.of rfl) (R.SEQ_STRIDE_DIGEST_PENDING_in (hF.of rfl)) h

end Sys2Proof.Machine
end

