-- ==== Sys2Proof/Laws/KeepsFence.lean ====
section
/-! SUPPORT. What the operations of Machine/Fence.lean keep (Laws/Keeps.lean): one lemma for each. -/

namespace Sys2Proof.Machine

open Sys2Proof

theorem State.setCore_keeps {F : Nat} {s0 s : State} {a1 a2} (hF : Sub 0x20 F) (h : Keeps F s0 s) :
    Keeps F s0 (State.setCore s a1 a2) := by
  exact h.setCores (hF.of rfl) (fun i => Sp.wf_set i _ _)

theorem State.updCore_keeps {F : Nat} {s0 s : State} {a1 a2} (hF : Sub 0x20 F) (h : Keeps F s0 s) :
    Keeps F s0 (State.updCore s a1 a2) := by
  unfold State.updCore
  exact State.setCore_keeps (hF.of rfl) h

theorem State.setHub_keeps {F : Nat} {s0 s : State} {a1 a2} (hF : Sub 0x40 F) (h : Keeps F s0 s) :
    Keeps F s0 (State.setHub s a1 a2) := by
  exact h.setHubs (hF.of rfl) (fun i => Sp.wf_set i _ _)

theorem State.updHub_keeps {F : Nat} {s0 s : State} {a1 a2} (hF : Sub 0x40 F) (h : Keeps F s0 s) :
    Keeps F s0 (State.updHub s a1 a2) := by
  unfold State.updHub
  exact State.setHub_keeps (hF.of rfl) h

theorem State.setDieGroup_keeps {F : Nat} {s0 s : State} {a1 a2} (hF : Sub 0x8000000001 F) (h : Keeps F s0 s) :
    Keeps F s0 (State.setDieGroup s a1 a2) := by
  unfold State.setDieGroup
  exact State.wr_keeps (hF.of rfl) (R.GLB_CLUSTER_REMAP_in (hF.of rfl)) h

theorem State.syncSpares_keeps {F : Nat} {s0 s : State} {a1} (hF : Sub 0xc000000001 F) (h : Keeps F s0 s) :
    Keeps F s0 (State.syncSpares s a1) := by
  unfold State.syncSpares
  extract_lets +onlyGivenNames x1
  clear_value x1
  extract_lets +onlyGivenNames x2
  have h3 : Keeps F s0 x2 := State.wrF_keeps (hF.of rfl) (R.GLB_REMAP_STATUS_in (hF.of rfl)) h
  clear_value x2
  exact State.setDieGroup_keeps (hF.of rfl) h3

theorem State.syncRemap_keeps {F : Nat} {s0 s : State} {a1} (hF : Sub 0x10000000001 F) (h : Keeps F s0 s) :
    Keeps F s0 (State.syncRemap s a1) := by
  unfold State.syncRemap
  exact State.wrFs_keeps (hF.of rfl) (R.CLU_CORE_REMAP_in (hF.of rfl)) h

theorem State.fenceServed_keeps {F : Nat} {s0 s : State} {a1 a2 a3} (hF : Sub 0x10000007e2000000000000000000000000010044049b8019 F) (h : Keeps F s0 s) :
    Keeps F s0 (State.fenceServed s a1 a2 a3) := by
  unfold State.fenceServed
  split
  · exact h
  · refine Keeps.ite (fun _ => h) (fun _ => ?_)
    extract_lets +onlyGivenNames x1
    have h2 : Keeps F s0 x1 := State.updPart_keeps (hF.of rfl) h
    clear_value x1
    extract_lets +onlyGivenNames x3 x4 x5
    clear_value x3 x4 x5
    extract_lets +onlyGivenNames x6
    have h7 : Keeps F s0 x6 := by
      unfold x6
      refine Keeps.ite (fun _ => ?_) (fun _ => h2)
      refine State.event_keeps (hF.of rfl) ?_
      exact State.updPart_keeps (hF.of rfl) (State.wrF_keeps (hF.of rfl) (R.GLB_REMAP_STATUS_in (hF.of rfl)) h2)
    clear_value x6
    exact State.classL_keeps (hF.of rfl) h7

theorem State.fenceSlot_keeps {F : Nat} {s0 s : State} {a1 a2 a3} (hF : Sub 0x10000007e20000000000000000000000000101c4049b8219 F) (h : Keeps F s0 s) :
    Keeps F s0 (State.fenceSlot s a1 a2 a3).1 := by
  unfold State.fenceSlot
  refine Keeps.iteFst (fun _ => Keeps.mkFst h) (fun _ => ?_)
  extract_lets +onlyGivenNames x1
  clear_value x1
  refine Keeps.iteFst (fun _ => Keeps.mkFst h) (fun _ => ?_)
  extract_lets +onlyGivenNames x2 x3 x4
  clear_value x2 x3 x4
  extract_lets +onlyGivenNames x5
  have h6 : Keeps F s0 x5 := Keeps.setPhys h (hF.of rfl)
  clear_value x5
  extract_lets +onlyGivenNames x7
  have h8 : Keeps F s0 x7 := State.count_keeps (hF.of rfl) (R.CNT_GLB_in (hF.of rfl)) h6
  clear_value x7
  extract_lets +onlyGivenNames x9
  have h10 : Keeps F s0 x9 := by
    unfold x9
    split
    · exact State.syncRemap_keeps (hF.of rfl) h8
    · exact h8
  clear_value x9
  extract_lets +onlyGivenNames x11
  clear_value x11
  extract_lets +onlyGivenNames x12
  have h13 : Keeps F s0 x12 := State.event_keeps (hF.of rfl) (State.syncSpares_keeps (hF.of rfl) h10)
  clear_value x12
  refine Keeps.mkFst ?_
  split
  · exact State.fenceServed_keeps (hF.of rfl) h13
  · exact h13

theorem State.fenceHub_keeps {F : Nat} {s0 s : State} {a1 a2} (hF : Sub 0x10000007e20000000000000000000000000100c4049b8219 F) (h : Keeps F s0 s) :
    Keeps F s0 (State.fenceHub s a1 a2).1 := by
  unfold State.fenceHub
  refine Keeps.iteFst (fun _ => Keeps.mkFst h) (fun _ => ?_)
  extract_lets +onlyGivenNames x1
  clear_value x1
  refine Keeps.iteFst (fun _ => Keeps.mkFst h) (fun _ => ?_)
  extract_lets +onlyGivenNames x2 x3
  clear_value x2 x3
  extract_lets +onlyGivenNames x4
  have h5 : Keeps F s0 x4 := Keeps.setPhys h (hF.of rfl)
  clear_value x4
  extract_lets +onlyGivenNames x6
  have h7 : Keeps F s0 x6 := by
    exact State.syncSpares_keeps (hF.of rfl) (State.count_keeps (hF.of rfl) (R.CNT_GLB_in (hF.of rfl)) h5)
  clear_value x6
  extract_lets +onlyGivenNames x8
  clear_value x8
  extract_lets +onlyGivenNames x9
  have h10 : Keeps F s0 x9 := State.event_keeps (hF.of rfl) h7
  clear_value x9
  refine Keeps.mkFst ?_
  split
  · exact State.fenceServed_keeps (hF.of rfl) h10
  · exact h10

theorem State.charge_keeps {F : Nat} {s0 s : State} {a1} (hF : Sub 0x200 F) (h : Keeps F s0 s) :
    Keeps F s0 (State.charge s a1).1 := by
  unfold State.charge
  extract_lets +onlyGivenNames x1
  clear_value x1
  exact Keeps.mkFst (Keeps.setPhys h (hF.of rfl))

theorem State.coreHwErr_keeps {F : Nat} {s0 s : State} {a1 a2} (hF : Sub 0x10000007e20000000000000000000000000101c4049b8219 F) (h : Keeps F s0 s) :
    Keeps F s0 (State.coreHwErr s a1 a2) := by
  unfold State.coreHwErr
  extract_lets +onlyGivenNames x1 x2 x3 x4 x5 x6
  clear_value x1 x2 x3 x4 x5 x6
  split
  rename_i z7 z8 z9 z10
  have h11 : Keeps F s0 z8 := Keeps.ofFst z10 (State.charge_keeps (hF.of rfl) h)
  extract_lets +onlyGivenNames x12
  have h13 : Keeps F s0 x12 := State.raise_keeps (hF.of rfl) h11
  clear_value x12
  exact Keeps.ite (fun _ => State.fenceSlot_keeps (hF.of rfl) h13) (fun _ => h13)

theorem State.laneSpared_keeps {F : Nat} {s0 s : State} {a1 a2 a3} (hF : Sub 0x10000027e0000000000000000000000000010004049b8209 F) (h : Keeps F s0 s) :
    Keeps F s0 (State.laneSpared s a1 a2 a3) := by
  unfold State.laneSpared
  extract_lets +onlyGivenNames x1 x2 x3 x4 x5
  clear_value x1 x2 x3 x4 x5
  extract_lets +onlyGivenNames x6
  have h7 : Keeps F s0 x6 := Keeps.setPhys h (hF.of rfl)
  clear_value x6
  extract_lets +onlyGivenNames x8
  have h9 : Keeps F s0 x8 := State.wrF_keeps (hF.of rfl) (R.GLB_SPARE_STATUS_in (hF.of rfl)) h7
  clear_value x8
  refine State.event_keeps (hF.of rfl) ?_
  refine State.wrF_keeps (hF.of rfl) (R.GLB_STATE_in (hF.of rfl)) ?_
  exact State.count_keeps (hF.of rfl) (R.CNT_GLB_in (hF.of rfl)) h9

theorem State.fenceLane_keeps {F : Nat} {s0 s : State} {a1 a2 a3 a4 a5} (hF : Sub 0x10000027e2000000000000000000000000010004049b8219 F) (h : Keeps F s0 s) :
    Keeps F s0 (State.fenceLane s a1 a2 a3 a4 a5).1 := by
  unfold State.fenceLane
  extract_lets +onlyGivenNames x1
  clear_value x1
  refine Keeps.iteFst (fun _ => Keeps.mkFst h) (fun _ => ?_)
  extract_lets +onlyGivenNames x2 x3
  clear_value x2 x3
  refine Keeps.iteFst (fun _ => Keeps.mkFst h) (fun _ => ?_)
  extract_lets +onlyGivenNames x4 x5 x6
  clear_value x4 x5 x6
  extract_lets +onlyGivenNames x7
  have h8 : Keeps F s0 x7 := Keeps.setPhys h (hF.of rfl)
  clear_value x7
  extract_lets +onlyGivenNames x9
  have h10 : Keeps F s0 x9 := State.event_keeps (hF.of rfl) h8
  clear_value x9
  refine Keeps.iteFst (fun _ => Keeps.mkFst (State.raise_keeps (hF.of rfl) h10)) (fun _ => ?_)
  refine Keeps.iteFst (fun _ => Keeps.mkFst h10) (fun _ => ?_)
  extract_lets +onlyGivenNames x11
  clear_value x11
  extract_lets +onlyGivenNames x12
  have h13 : Keeps F s0 x12 := Keeps.setPhys h10 (hF.of rfl)
  clear_value x12
  refine Keeps.iteFst (fun _ => ?_) (fun _ => ?_)
  · extract_lets +onlyGivenNames x14 x15
    clear_value x14 x15
    extract_lets +onlyGivenNames x16
    have h17 : Keeps F s0 x16 := Keeps.setPhys h13 (hF.of rfl)
    clear_value x16
    extract_lets +onlyGivenNames x18
    have h19 : Keeps F s0 x18 := Keeps.foldl h17 (fun x20 e21 h22 => State.classL_keeps (hF.of rfl) h22)
    clear_value x18
    exact Keeps.mkFst (Keeps.ite (fun _ => State.laneSpared_keeps (hF.of rfl) h19) (fun _ => h19))
  · exact Keeps.mkFst (Keeps.ite (fun _ => State.laneSpared_keeps (hF.of rfl) h13) (fun _ => h13))

theorem State.moduleSpared_keeps {F : Nat} {s0 s : State} {a1 a2} (hF : Sub 0x10000027e0000000000000000000000000010004049b8209 F) (h : Keeps F s0 s) :
    Keeps F s0 (State.moduleSpared s a1 a2) := by
  unfold State.moduleSpared
  extract_lets +onlyGivenNames x1 x2
  clear_value x1 x2
  extract_lets +onlyGivenNames x3
  have h4 : Keeps F s0 x3 := Keeps.setPhys h (hF.of rfl)
  clear_value x3
  extract_lets +onlyGivenNames x5
  have h6 : Keeps F s0 x5 := State.wrF_keeps (hF.of rfl) (R.GLB_SPARE_STATUS_in (hF.of rfl)) h4
  clear_value x5
  refine State.event_keeps (hF.of rfl) ?_
  refine State.wrF_keeps (hF.of rfl) (R.GLB_STATE_in (hF.of rfl)) ?_
  exact State.count_keeps (hF.of rfl) (R.CNT_GLB_in (hF.of rfl)) h6

theorem State.fenceModule_keeps {F : Nat} {s0 s : State} {a1 a2} (hF : Sub 0x10000027e2000000000000000000000000010004049b8219 F) (h : Keeps F s0 s) :
    Keeps F s0 (State.fenceModule s a1 a2).1 := by
  unfold State.fenceModule
  refine Keeps.iteFst (fun _ => Keeps.mkFst h) (fun _ => ?_)
  extract_lets +onlyGivenNames x1
  clear_value x1
  refine Keeps.iteFst (fun _ => Keeps.mkFst h) (fun _ => ?_)
  extract_lets +onlyGivenNames x2
  clear_value x2
  extract_lets +onlyGivenNames x3
  have h4 : Keeps F s0 x3 := Keeps.setPhys h (hF.of rfl)
  clear_value x3
  extract_lets +onlyGivenNames x5
  have h6 : Keeps F s0 x5 := State.event_keeps (hF.of rfl) h4
  clear_value x5
  refine Keeps.iteFst (fun _ => Keeps.mkFst (State.raise_keeps (hF.of rfl) h6)) (fun _ => ?_)
  refine Keeps.iteFst (fun _ => Keeps.mkFst h6) (fun _ => ?_)
  extract_lets +onlyGivenNames x7
  clear_value x7
  extract_lets +onlyGivenNames x8
  have h9 : Keeps F s0 x8 := Keeps.setPhys h6 (hF.of rfl)
  clear_value x8
  exact Keeps.mkFst (Keeps.ite (fun _ => State.moduleSpared_keeps (hF.of rfl) h9) (fun _ => h9))

theorem State.dropCores_keeps {F : Nat} {s0 s : State} {a1 a2} (hF : Sub 0x10000007e0000000000000000000000000000004049b802f F) (h : Keeps F s0 s) :
    Keeps F s0 (State.dropCores s a1 a2) := by
  unfold State.dropCores
  refine Keeps.foldl h (fun x n hx => ?_)
  extract_lets +onlyGivenNames c u l x1 x2
  have h1 : Keeps F s0 x1 := State.setCore_keeps (hF.of rfl) hx
  have h2 : Keeps F s0 x2 := Keeps.setGran (s := { x1 with mem := _ })
    (h1.setMem (hF.of rfl) (fun i => Sp.wf_clearRange i _ _)) (hF.of rfl) (fun i => Sp.wf_clearRange i _ _)
  exact Keeps.foldl h2 (fun y e hy => State.eventAs_keeps (hF.of rfl) hy)

theorem State.substCluster_keeps {F : Nat} {s0 s : State} {a1 a2} (hF : Sub 0x10000007e00000000000000000000000000001c4049b802f F) (h : Keeps F s0 s) :
    Keeps F s0 (State.substCluster s a1 a2).1 := by
  unfold State.substCluster
  extract_lets +onlyGivenNames x1
  clear_value x1
  refine Keeps.iteFst (fun _ => ?_) (fun _ => ?_)
  · refine Keeps.iteFst (fun _ => Keeps.mkFst h) (fun _ => ?_)
    extract_lets +onlyGivenNames x2 x3 x4
    clear_value x2 x3 x4
    extract_lets +onlyGivenNames x5
    have h6 : Keeps F s0 x5 := State.wr_keeps (hF.of rfl) (R.CLU_CORE_REMAP_in (hF.of rfl)) h
    clear_value x5
    extract_lets +onlyGivenNames x7
    have h8 : Keeps F s0 x7 := by
      unfold x7
      refine State.syncSpares_keeps (hF.of rfl) ?_
      exact State.count_keeps (hF.of rfl) (R.CNT_GLB_in (hF.of rfl)) (State.setDieGroup_keeps (hF.of rfl) h6)
    clear_value x7
    exact Keeps.mkFst (State.dropCores_keeps (hF.of rfl) h8)
  · extract_lets +onlyGivenNames x9 x10
    clear_value x9 x10
    refine Keeps.iteFst (fun _ => Keeps.mkFst h) (fun _ => ?_)
    extract_lets +onlyGivenNames x11
    clear_value x11
    extract_lets +onlyGivenNames x12
    have h13 : Keeps F s0 x12 := State.dropCores_keeps (hF.of rfl) h
    clear_value x12
    exact Keeps.mkFst (State.wrFs_keeps (hF.of rfl) (R.CLU_CORE_REMAP_in (hF.of rfl)) h13)

theorem State.substLinks_keeps {F : Nat} {s0 s : State} {a1} (hF : Sub 0x10000027e0000000000000000000000000010004049b8209 F) (h : Keeps F s0 s) :
    Keeps F s0 (State.substLinks s a1).1 := by
  unfold State.substLinks
  extract_lets +onlyGivenNames x1
  clear_value x1
  split
  rename_i z2 z3 z4 z5
  have h6 : Keeps F s0 z3 := by
    refine Keeps.ofFst z5 ?_
    refine Keeps.foldlFst (Keeps.mkFst h) (fun x7 e8 h9 => ?_)
    split
    extract_lets +onlyGivenNames x10 x11
    clear_value x10 x11
    refine Keeps.iteFst (fun _ => ?_) (fun _ => Keeps.mkFst (State.laneSpared_keeps (hF.of rfl) h9))
    extract_lets +onlyGivenNames x12 x13 x14
    clear_value x12 x13 x14
    extract_lets +onlyGivenNames x15
    have h16 : Keeps F s0 x15 := Keeps.setPhys h9 (hF.of rfl)
    clear_value x15
    exact Keeps.mkFst (Keeps.ite (fun _ => State.laneSpared_keeps (hF.of rfl) h16) (fun _ => h16))
  extract_lets +onlyGivenNames x17
  clear_value x17
  exact Keeps.mkFst (Keeps.foldl h6 (fun x18 e19 h20 => State.moduleSpared_keeps (hF.of rfl) h20))

theorem State.applySubst_keeps {F : Nat} {s0 s : State} {a1} (hF : Sub 0x10000027e20000000000000000000000000101c4049b822f F) (h : Keeps F s0 s) :
    Keeps F s0 (State.applySubst s a1) := by
  unfold State.applySubst
  split
  rename_i z1 z2 z3 z4
  have h5 : Keeps F s0 z2 := by
    refine Keeps.ofFst z4 ?_
    refine Keeps.foldlFst (Keeps.mkFst h) (fun x6 e7 h8 => ?_)
    split
    split
    rename_i z9 z10 z11 z12
    have h13 : Keeps F s0 z10 := Keeps.ofFst z12 (State.substCluster_keeps (hF.of rfl) h8)
    exact Keeps.mkFst h13
  split
  rename_i z14 z15 z16 z17
  have h18 : Keeps F s0 z15 := Keeps.ofFst z17 (State.substLinks_keeps (hF.of rfl) h5)
  extract_lets +onlyGivenNames x19
  have h20 : Keeps F s0 x19 := State.updPart_keeps (hF.of rfl) h18
  clear_value x19
  refine Keeps.ite (fun _ => ?_) (fun _ => h20)
  extract_lets +onlyGivenNames x21
  clear_value x21
  extract_lets +onlyGivenNames x22
  have h23 : Keeps F s0 x22 := by
    unfold x22
    refine State.wrF_keeps (hF.of rfl) (R.GLB_STATE_in (hF.of rfl)) ?_
    exact State.wrF_keeps (hF.of rfl) (R.GLB_REMAP_STATUS_in (hF.of rfl)) h20
  clear_value x22
  extract_lets +onlyGivenNames x24
  have h25 : Keeps F s0 x24 := Keeps.ite (fun _ => State.setPState_keeps (hF.of rfl) h23) (fun _ => h23)
  clear_value x24
  exact State.syncChip_keeps (hF.of rfl) h25

theorem State.fenceRequest_keeps {F : Nat} {s0 s : State} {a1} (hF : Sub 0x1000002fe20000000000000000000000000101c4049b8219 F) (h : Keeps F s0 s) :
    Keeps F s0 (State.fenceRequest s a1) := by
  unfold State.fenceRequest
  extract_lets +onlyGivenNames x1
  have h2 : Keeps F s0 x1 := State.wr_keeps (hF.of rfl) (R.GLB_FENCE_REQ_in (hF.of rfl)) h
  clear_value x1
  extract_lets +onlyGivenNames x3 x4 x5 x6
  clear_value x3 x4 x5 x6
  split
  rename_i z7 z8 z9 z10
  have h11 : Keeps F s0 z8 := by
    refine Keeps.ofFst z10 ?_
    split
    · exact State.fenceSlot_keeps (hF.of rfl) h2
    · exact State.fenceHub_keeps (hF.of rfl) h2
    · exact State.fenceLane_keeps (hF.of rfl) h2
    · exact State.fenceLane_keeps (hF.of rfl) h2
    · exact State.fenceModule_keeps (hF.of rfl) h2
    · exact Keeps.mkFst h2
  exact State.wrF_keeps (hF.of rfl) (R.GLB_FENCE_REQ_in (hF.of rfl)) h11

theorem State.meshLaneFail_keeps {F : Nat} {s0 s : State} {a1 a2 a3 a4 a5} (hF : Sub 0x10000027e2000000000000000000000000010004049b8219 F) (h : Keeps F s0 s) :
    Keeps F s0 (State.meshLaneFail s a1 a2 a3 a4 a5) := by
  unfold State.meshLaneFail
  exact State.fenceLane_keeps (hF.of rfl) h

theorem State.bridgeModuleFail_keeps {F : Nat} {s0 s : State} {a1 a2 a3} (hF : Sub 0x10000027e2000000000000000000000000010004049b8219 F) (h : Keeps F s0 s) :
    Keeps F s0 (State.bridgeModuleFail s a1 a2 a3) := by
  unfold State.bridgeModuleFail
  exact Keeps.ite (fun _ => h) (fun _ => State.fenceModule_keeps (hF.of rfl) h)

theorem State.staticParity_keeps {F : Nat} {s0 s : State} {a1 a2 a3 a4 a5} (hF : Sub 0x50000027e2000000000000000000000000010004049b8219 F) (h : Keeps F s0 s) :
    Keeps F s0 (State.staticParity s a1 a2 a3 a4 a5) := by
  unfold State.staticParity
  extract_lets +onlyGivenNames x1 x2
  clear_value x1 x2
  split
  rename_i z3 z4 z5 z6
  have h7 : Keeps F s0 z4 := by
    refine Keeps.ofFst z6 ?_
    exact State.charge_keeps (hF.of rfl) (State.count_keeps (hF.of rfl) (R.CNT_CLU_in (hF.of rfl)) h)
  extract_lets +onlyGivenNames x8
  have h9 : Keeps F s0 x8 := State.raise_keeps (hF.of rfl) h7
  clear_value x8
  exact Keeps.ite (fun _ => State.fenceLane_keeps (hF.of rfl) h9) (fun _ => h9)

end Sys2Proof.Machine
end

