-- ==== Sys2Proof/Laws/KeepsCue.lean ====
section
/-! SUPPORT. What the operations of Machine/Cue.lean keep (Laws/Keeps.lean): one lemma for each. -/

namespace Sys2Proof.Machine

open Sys2Proof

theorem State.countCore_keeps {F : Nat} {s0 s : State} {a1 a2 a3} (hF : Sub 0x400000000000000000000000000000000000000000000021 F) (h : Keeps F s0 s) :
    Keeps F s0 (State.countCore s a1 a2 a3) := by
  unfold State.countCore
  exact State.updCore_keeps (hF.of rfl) (State.count_keeps (hF.of rfl) (R.CNT_CLU_in (hF.of rfl)) h)

theorem State.landEff_keeps {F : Nat} {s0 s : State} {a1 a2} (hF : Sub 0x1800000000000000000000000000000000000000000000027 F) (h : Keeps F s0 s) :
    Keeps F s0 (State.landEff s a1 a2) := by
  unfold State.landEff
  split
  · exact State.updCore_keeps (hF.of rfl) h
  · exact State.updCore_keeps (hF.of rfl) h
  · exact State.updCore_keeps (hF.of rfl) h
  · exact Keeps.foldl h (fun x1 e2 h3 => State.save_keeps (hF.of rfl) h3)

theorem State.faultRecord_keeps {F : Nat} {s0 s : State} {a1 a2 a3 a4 a5 a6 a7 a8} (hF : Sub 0x80000000000000021 F) (h : Keeps F s0 s) :
    Keeps F s0 (State.faultRecord s a1 a2 a3 a4 a5 a6 a7 a8) := by
  unfold State.faultRecord
  extract_lets +onlyGivenNames x1 x2
  clear_value x1 x2
  refine Keeps.ite (fun _ => State.updCore_keeps (hF.of rfl) h) (fun _ => ?_)
  exact State.updCore_keeps (hF.of rfl) (State.wr_keeps (hF.of rfl) (R.CLU_CORE_FAULT_in (hF.of rfl)) h)

theorem State.syncBf_keeps {F : Nat} {s0 s : State} {a1} (hF : Sub 0x800000000000000001 F) (h : Keeps F s0 s) :
    Keeps F s0 (State.syncBf s a1) := by
  unfold State.syncBf
  extract_lets +onlyGivenNames x1
  clear_value x1
  exact Keeps.foldl h (fun x2 e3 h4 => State.wrFs_keeps (hF.of rfl) (R.CLU_BF_STATUS_in (hF.of rfl)) h4)

theorem State.bfComplete_keeps {F : Nat} {s0 s : State} {a1 a2 a3} (hF : Sub 0x100000 F) (h : Keeps F s0 s) :
    Keeps F s0 (State.bfComplete s a1 a2 a3) := by
  unfold State.bfComplete
  extract_lets +onlyGivenNames x1 x2
  clear_value x1 x2
  exact Keeps.setStore h (hF.of rfl)

theorem State.bfRemove_keeps {F : Nat} {s0 s : State} {a1 a2} (hF : Sub 0xe0 F) (h : Keeps F s0 s) :
    Keeps F s0 (State.bfRemove s a1 a2) := by
  unfold State.bfRemove
  extract_lets +onlyGivenNames x1
  have h2 : Keeps F s0 x1 := by
    exact Keeps.foldl h (fun x3 e4 h5 => Keeps.ite (fun _ => State.updCore_keeps (hF.of rfl) h5) (fun _ => h5))
  clear_value x1
  extract_lets +onlyGivenNames x6
  have h7 : Keeps F s0 x6 := Keeps.setGreqs h2 (hF.of rfl)
  clear_value x6
  exact State.updHub_keeps (hF.of rfl) h7

theorem State.bfEnd_keeps {F : Nat} {s0 s : State} {a1 a2 a3 a4 a5} (hF : Sub 0x10000007e000000000000000000000880000000c049b80e9 F) (h : Keeps F s0 s) :
    Keeps F s0 (State.bfEnd s a1 a2 a3 a4 a5) := by
  unfold State.bfEnd
  extract_lets +onlyGivenNames x1 x2
  clear_value x1 x2
  split
  · exact h
  · split
    rename_i z3 z4 z5 z6
    have h7 : Keeps F s0 z5 := Keeps.ofSnd z6 (State.takeFree_keeps (hF.of rfl) h)
    extract_lets +onlyGivenNames x8
    have h9 : Keeps F s0 x8 := State.faultRecord_keeps (hF.of rfl) h7
    clear_value x8
    extract_lets +onlyGivenNames x10
    have h11 : Keeps F s0 x10 := State.eventAs_keeps (hF.of rfl) h9
    clear_value x10
    extract_lets +onlyGivenNames x12
    have h13 : Keeps F s0 x12 := State.bfComplete_keeps (hF.of rfl) h11
    clear_value x12
    exact State.syncBf_keeps (hF.of rfl) (State.bfRemove_keeps (hF.of rfl) h13)

theorem State.cueFault_keeps {F : Nat} {s0 s : State} {a1 a2 a3 a4 a5} (hF : Sub 0x50000007e200000000000000000000880001000c049b80f9 F) (h : Keeps F s0 s) :
    Keeps F s0 (State.cueFault s a1 a2 a3 a4 a5) := by
  unfold State.cueFault
  extract_lets +onlyGivenNames x1
  have h2 : Keeps F s0 x1 := State.countCore_keeps (hF.of rfl) h
  clear_value x1
  refine Keeps.ite (fun _ => State.bfEnd_keeps (hF.of rfl) h2) (fun _ => ?_)
  extract_lets +onlyGivenNames x3
  clear_value x3
  extract_lets +onlyGivenNames x4
  have h5 : Keeps F s0 x4 := State.faultRecord_keeps (hF.of rfl) h2
  clear_value x4
  extract_lets +onlyGivenNames x6
  have h7 : Keeps F s0 x6 := State.updCore_keeps (hF.of rfl) h5
  clear_value x6
  exact State.raise_keeps (hF.of rfl) h7

theorem State.landArr_keeps {F : Nat} {s0 s : State} {a1 a2} (hF : Sub 0x50000007e200000000000000000000880001000c049b80f9 F) (h : Keeps F s0 s) :
    Keeps F s0 (State.landArr s a1 a2) := by
  unfold State.landArr
  extract_lets +onlyGivenNames x1
  clear_value x1
  extract_lets +onlyGivenNames x2
  have h3 : Keeps F s0 x2 := State.updCore_keeps (hF.of rfl) h
  clear_value x2
  refine Keeps.foldl h3 (fun x4 e5 h6 => ?_)
  extract_lets +onlyGivenNames x7
  clear_value x7
  exact Keeps.ite (fun _ => State.cueFault_keeps (hF.of rfl) h6) (fun _ => State.updCore_keeps (hF.of rfl) h6)

theorem State.landTo_keeps {F : Nat} {s0 s : State} {a1 a2} (hF : Sub 0x1d0000007e200000000000000000000880001000c049b80ff F) (h : Keeps F s0 s) :
    Keeps F s0 (State.landTo s a1 a2) := by
  unfold State.landTo
  extract_lets +onlyGivenNames x1
  clear_value x1
  extract_lets +onlyGivenNames x2
  have h3 : Keeps F s0 x2 := State.updCore_keeps (hF.of rfl) h
  clear_value x2
  extract_lets +onlyGivenNames x4
  clear_value x4
  exact State.landArr_keeps (hF.of rfl) (Keeps.foldl h3 (fun x5 e6 h7 => State.landEff_keeps (hF.of rfl) h7))

theorem State.seen_keeps {F : Nat} {s0 s : State} {a1 a2} (hF : Sub 0x8 F) (h : Keeps F s0 s) :
    Keeps F s0 (State.seen s a1 a2) := by
  unfold State.seen
  exact State.updPart_keeps (hF.of rfl) h

theorem State.settle_keeps {F : Nat} {s0 s : State} {a1} (hF : Sub 0x1d0000007e200000000000000000000880001000c049b80ff F) (h : Keeps F s0 s) :
    Keeps F s0 (State.settle s a1) := by
  unfold State.settle
  exact State.landTo_keeps (hF.of rfl) h

theorem State.calibrate_keeps {F : Nat} {s0 s : State} {a1 a2} (hF : Sub 0xc0000000000000000000000000000000000000000000000021 F) (h : Keeps F s0 s) :
    Keeps F s0 (State.calibrate s a1 a2) := by
  unfold State.calibrate
  refine Keeps.ite (fun _ => State.count_keeps (hF.of rfl) (R.CNT_BF_SAT_in (hF.of rfl)) h) (fun _ => ?_)
  exact State.updCore_keeps (hF.of rfl) (State.count_keeps (hF.of rfl) (R.CNT_SAT_in (hF.of rfl)) h)

theorem State.commit_keeps {F : Nat} {s0 s : State} {a1 a2 a3 a4 a5} (hF : Sub 0xc0400000000000000000000000000000000000000000000021 F) (h : Keeps F s0 s) :
    Keeps F s0 (State.commit s a1 a2 a3 a4 a5) := by
  unfold State.commit
  extract_lets +onlyGivenNames x1
  have h2 : Keeps F s0 x1 := Keeps.ite (fun _ => State.countCore_keeps (hF.of rfl) h) (fun _ => h)
  clear_value x1
  extract_lets +onlyGivenNames x3
  have h4 : Keeps F s0 x3 := by
    unfold x3
    split
    · exact State.calibrate_keeps (hF.of rfl) h2
    · exact h2
  clear_value x3
  extract_lets +onlyGivenNames x5
  clear_value x5
  exact State.updCore_keeps (hF.of rfl) h4

theorem State.issueErr_keeps {F : Nat} {s0 s : State} {a1 a2 a3} (hF : Sub 0x50000007e20000000000000000000088000101cc049b82f9 F) (h : Keeps F s0 s) :
    Keeps F s0 (State.issueErr s a1 a2 a3).1 := by
  unfold State.issueErr
  split
  · exact Keeps.mkFst (Keeps.ite (fun _ => State.countCore_keeps (hF.of rfl) h) (fun _ => h))
  · refine Keeps.iteFst (fun _ => Keeps.mkFst h) (fun _ => ?_)
    extract_lets +onlyGivenNames x1
    have h2 : Keeps F s0 x1 := State.countCore_keeps (hF.of rfl) h
    clear_value x1
    refine Keeps.iteFst (fun _ => Keeps.mkFst (State.bfEnd_keeps (hF.of rfl) h2)) (fun _ => ?_)
    exact Keeps.mkFst (State.coreHwErr_keeps (hF.of rfl) h2)
  · exact Keeps.mkFst (State.coreHwErr_keeps (hF.of rfl) h)
  · exact Keeps.mkFst h

theorem State.coreOp_keeps {F : Nat} {s0 s : State} {a1 a2 a3 a4 a5} (hF : Sub 0x1d0000007e20000000000000000000088000101cc049b82ff F) (h : Keeps F s0 s) (hf5 : ∀ y1 y2, Keeps F s0 y1 → Keeps F s0 (a5 y1 y2)) :
    Keeps F s0 (State.coreOp s a1 a2 a3 a4 a5) := by
  unfold State.coreOp
  extract_lets +onlyGivenNames x1
  have h2 : Keeps F s0 x1 := State.landTo_keeps (hF.of rfl) (State.seen_keeps (hF.of rfl) h)
  clear_value x1
  split
  · exact State.cueFault_keeps (hF.of rfl) h2
  · split
    · exact h2
    · split
      · exact State.cueFault_keeps (hF.of rfl) h2
      · extract_lets +onlyGivenNames x3
        have h4 : Keeps F s0 x3 := by
          exact Keeps.ite (fun _ => State.updCore_keeps (hF.of rfl) (State.countCore_keeps (hF.of rfl) h2)) (fun _ => h2)
        clear_value x3
        split
        rename_i z5 z6 z7 z8
        have h9 : Keeps F s0 z6 := Keeps.ofFst z8 (State.issueErr_keeps (hF.of rfl) h4)
        refine Keeps.ite (fun _ => ?_) (fun _ => ?_)
        · apply hf5
          exact h9
        · split
          · exact State.countCore_keeps (hF.of rfl) h9
          · exact h9

theorem State.computeLat_keeps {F : Nat} {s0 s : State} {a1 a2 a3 a4 a5} (hF : Sub 0xc050000007e200000000000000000000880001000c049b80f9 F) (h : Keeps F s0 s) :
    Keeps F s0 (State.computeLat s a1 a2 a3 a4 a5) := by
  unfold State.computeLat
  split
  · exact State.cueFault_keeps (hF.of rfl) h
  · extract_lets +onlyGivenNames x1
    clear_value x1
    refine Keeps.ite (fun _ => State.bfEnd_keeps (hF.of rfl) h) (fun _ => ?_)
    extract_lets +onlyGivenNames x2
    have h3 : Keeps F s0 x2 := by
      unfold x2
      split
      · exact State.countCore_keeps (hF.of rfl) h
      · exact h
    clear_value x2
    exact State.commit_keeps (hF.of rfl) h3

theorem State.compute_keeps {F : Nat} {s0 s : State} {a1 a2 a3 a4} (hF : Sub 0xc050000007e200000000000000000000880001000c049b80f9 F) (h : Keeps F s0 s) :
    Keeps F s0 (State.compute s a1 a2 a3 a4) := by
  unfold State.compute
  exact State.computeLat_keeps (hF.of rfl) h

theorem State.preempt_keeps {F : Nat} {s0 s : State} {a1 a2} (hF : Sub 0x4000000000000000000000000000008000000000000000e1 F) (h : Keeps F s0 s) :
    Keeps F s0 (State.preempt s a1 a2) := by
  unfold State.preempt
  extract_lets +onlyGivenNames x1
  have h2 : Keeps F s0 x1 := State.count_keeps (hF.of rfl) (R.CNT_CLU_in (hF.of rfl)) h
  clear_value x1
  extract_lets +onlyGivenNames x3
  have h4 : Keeps F s0 x3 := State.bfRemove_keeps (hF.of rfl) h2
  clear_value x3
  exact State.syncBf_keeps (hF.of rfl) (State.updHub_keeps (hF.of rfl) h4)

theorem State.preemptOn_keeps {F : Nat} {s0 s : State} {a1} (hF : Sub 0x4000000000000000000000000000008000000000000000e1 F) (h : Keeps F s0 s) :
    Keeps F s0 (State.preemptOn s a1) := by
  unfold State.preemptOn
  extract_lets +onlyGivenNames x1
  clear_value x1
  exact Keeps.foldl h (fun x2 e3 h4 => State.preempt_keeps (hF.of rfl) h4)

theorem State.endRest_keeps {F : Nat} {s0 s : State} {a1 a2} (hF : Sub 0x1d0000007e200000000000000000000880001000c049b80ff F) (h : Keeps F s0 s) :
    Keeps F s0 (State.endRest s a1 a2) := by
  unfold State.endRest
  split
  · exact h
  · extract_lets +onlyGivenNames x1
    have h2 : Keeps F s0 x1 := by
      exact State.countCore_keeps (hF.of rfl) (State.preemptOn_keeps (hF.of rfl) (State.landTo_keeps (hF.of rfl) h))
    clear_value x1
    exact State.updCore_keeps (hF.of rfl) h2

theorem State.dispatch_keeps {F : Nat} {s0 s : State} {a1 a2 a3 a4 a5 a6 a7} (hF : Sub 0x1d0000007e200000000000000000000880001000c049b80ff F) (h : Keeps F s0 s) :
    Keeps F s0 (State.dispatch s a1 a2 a3 a4 a5 a6 a7) := by
  unfold State.dispatch
  extract_lets +onlyGivenNames x1 x2 x3
  clear_value x1 x2 x3
  refine Keeps.ite (fun _ => State.raise_keeps (hF.of rfl) h) (fun _ => ?_)
  refine Keeps.ite (fun _ => State.raise_keeps (hF.of rfl) h) (fun _ => ?_)
  refine Keeps.foldl h (fun x4 e5 h6 => ?_)
  extract_lets +onlyGivenNames x7
  have h8 : Keeps F s0 x7 := State.landTo_keeps (hF.of rfl) (State.endRest_keeps (hF.of rfl) h6)
  clear_value x7
  extract_lets +onlyGivenNames x9 x10
  clear_value x9 x10
  exact State.countCore_keeps (hF.of rfl) (State.updCore_keeps (hF.of rfl) h8)

theorem State.restSlot_keeps {F : Nat} {s0 s : State} {a1 a2 a3 a4 a5 a6} (hF : Sub 0x1d0000007e200000000000000000000880001000c049b80ff F) (h : Keeps F s0 s) :
    Keeps F s0 (State.restSlot s a1 a2 a3 a4 a5 a6) := by
  unfold State.restSlot
  extract_lets +onlyGivenNames x1
  clear_value x1
  refine Keeps.ite (fun _ => State.raise_keeps (hF.of rfl) h) (fun _ => ?_)
  exact Keeps.foldl h (fun x2 e3 h4 => State.updCore_keeps (hF.of rfl) (State.endRest_keeps (hF.of rfl) h4))

theorem State.hubSlot_keeps {F : Nat} {s0 s : State} {a1 a2 a3 a4 a5} (hF : Sub 0x1d0000007e200000000000000000000880001000c049b80ff F) (h : Keeps F s0 s) :
    Keeps F s0 (State.hubSlot s a1 a2 a3 a4 a5) := by
  unfold State.hubSlot
  split
  · exact State.dispatch_keeps (hF.of rfl) h
  · exact State.restSlot_keeps (hF.of rfl) h
  · exact h

theorem State.endLegCheck_keeps {F : Nat} {s0 s : State} {a1 a2} (hF : Sub 0x50000007e200000000000000000000880001000c049b80f9 F) (h : Keeps F s0 s) :
    Keeps F s0 (State.endLegCheck s a1 a2) := by
  unfold State.endLegCheck
  refine Keeps.foldl h (fun x1 e2 h3 => ?_)
  refine Keeps.foldl h3 (fun x4 e5 h6 => ?_)
  extract_lets +onlyGivenNames x7 x8
  clear_value x7 x8
  split
  · exact State.cueFault_keeps (hF.of rfl) h6
  · exact Keeps.ite (fun _ => State.cueFault_keeps (hF.of rfl) h6) (fun _ => h6)

theorem State.restRunEnd_keeps {F : Nat} {s0 s : State} {a1} (hF : Sub 0x1d0000007e200000000000000000000880001000c049b80ff F) (h : Keeps F s0 s) :
    Keeps F s0 (State.restRunEnd s a1) := by
  unfold State.restRunEnd
  split
  · exact h
  · exact State.endRest_keeps (hF.of rfl) h

end Sys2Proof.Machine
end

