-- ==== Sys2Proof/Laws/KeepsMatrix.lean ====
section
/-! SUPPORT. What the operations of Machine/Matrix.lean keep (Laws/Keeps.lean): one lemma for each. -/

namespace Sys2Proof.Machine

open Sys2Proof

theorem execMma_keeps {F : Nat} {s0 s : State} {a1 a2 a3} (hF : Sub 0xc1d0000007e20000000000000000000088000101cc049b82ff F) (h : Keeps F s0 s) :
    KeepsX F s0 (execMma a1 a2 a3 s) := by
  unfold execMma
  refine KeepsX.next ?_
  refine State.coreOp_keeps (hF.of rfl) h ?_
  intro y1 y2 y3
  exact State.compute_keeps (hF.of rfl) y3

theorem execMmaS_keeps {F : Nat} {s0 s : State} {a1 a2 a3} (hF : Sub 0xc1d0000007e20000000000000000000088000101cc049b82ff F) (h : Keeps F s0 s) :
    KeepsX F s0 (execMmaS a1 a2 a3 s) := by
  unfold execMmaS
  refine KeepsX.next ?_
  refine State.coreOp_keeps (hF.of rfl) h ?_
  intro y1 y2 y3
  exact State.compute_keeps (hF.of rfl) y3

theorem execMmaRd_keeps {F : Nat} {s0 s : State} {a1 a2 a3} (hF : Sub 0xc1d0000007e20000000000000000000088000101cc049b82ff F) (h : Keeps F s0 s) :
    KeepsX F s0 (execMmaRd a1 a2 a3 s) := by
  unfold execMmaRd
  refine KeepsX.next ?_
  refine State.coreOp_keeps (hF.of rfl) h ?_
  intro y1 y2 y3
  exact State.compute_keeps (hF.of rfl) y3

theorem execMmaLd_keeps {F : Nat} {s0 s : State} {a1 a2 a3} (hF : Sub 0xc1d0000007e20000000000000000000088000101cc049b82ff F) (h : Keeps F s0 s) :
    KeepsX F s0 (execMmaLd a1 a2 a3 s) := by
  unfold execMmaLd
  refine KeepsX.next ?_
  refine State.coreOp_keeps (hF.of rfl) h ?_
  intro y1 y2 y3
  exact State.compute_keeps (hF.of rfl) y3

end Sys2Proof.Machine
end

