-- ==== Sys2Proof/Laws/KeepsVector.lean ====
section
/-! SUPPORT. What the operations of Machine/Vector.lean keep (Laws/Keeps.lean): one lemma for each. -/

namespace Sys2Proof.Machine

open Sys2Proof

theorem State.vOp_keeps {F : Nat} {s0 s : State} {a1 a2 a3 a4 a5} (hF : Sub 0xc1d0000007e20000000000000000000088000101cc049b82ff F) (h : Keeps F s0 s) :
    Keeps F s0 (State.vOp s a1 a2 a3 a4 a5) := by
  unfold State.vOp
  refine State.coreOp_keeps (hF.of rfl) h ?_
  intro y1 y2 y3
  exact State.compute_keeps (hF.of rfl) y3

theorem State.vqnt_keeps {F : Nat} {s0 s : State} {a1} (hF : Sub 0xc050000007e200000000000000000000880001000c049b80f9 F) (h : Keeps F s0 s) :
    Keeps F s0 (State.vqnt s a1) := by
  unfold State.vqnt
  extract_lets +onlyGivenNames x1 x2 x3 x4
  clear_value x1 x2 x3 x4
  extract_lets +onlyGivenNames x5
  have h6 : Keeps F s0 x5 := Keeps.ite (fun _ => State.updCore_keeps (hF.of rfl) h) (fun _ => h)
  clear_value x5
  exact State.compute_keeps (hF.of rfl) h6

theorem State.variant_keeps {F : Nat} {s0 s : State} {a1 a2} (hF : Sub 0x30000007e2000000000000000000000000010004049b8039 F) (h : Keeps F s0 s) (hf2 : ∀ y1, Keeps F s0 y1 → Keeps F s0 (a2 y1)) :
    Keeps F s0 (State.variant s a1 a2) := by
  unfold State.variant
  refine Keeps.ite (fun _ => ?_) (fun _ => ?_)
  · apply hf2
    exact h
  · split
    rename_i z1 z2 z3 z4
    have h5 : Keeps F s0 z2 := Keeps.ofFst z4 (State.vIssue_keeps (hF.of rfl) h)
    refine Keeps.ite (fun _ => ?_) (fun _ => State.updCore_keeps (hF.of rfl) h5)
    apply hf2
    exact h5

theorem State.vaccDyn_keeps {F : Nat} {s0 s : State} {a1} (hF : Sub 0xc050000007e200000000000000000000880001000c049b80f9 F) (h : Keeps F s0 s) :
    Keeps F s0 (State.vaccDyn s a1) := by
  unfold State.vaccDyn
  extract_lets +onlyGivenNames x1 x2 x3
  clear_value x1 x2 x3
  exact State.compute_keeps (hF.of rfl) (State.updCore_keeps (hF.of rfl) h)

theorem execNop_keeps {F : Nat} {s0 s : State} {a1 a2 a3} (hF : Sub 0x1d0000007e20000000000000000000088000101cc049b82ff F) (h : Keeps F s0 s) :
    KeepsX F s0 (execNop a1 a2 a3 s) := by
  unfold execNop
  refine KeepsX.next ?_
  refine State.coreOp_keeps (hF.of rfl) h ?_
  intro y1 y2 y3
  exact y3

theorem execVld_keeps {F : Nat} {s0 s : State} {a1 a2 a3} (hF : Sub 0xc1d0000007e20000000000000000000088000101cc049b82ff F) (h : Keeps F s0 s) :
    KeepsX F s0 (execVld a1 a2 a3 s) := by
  unfold execVld
  refine KeepsX.next ?_
  refine State.coreOp_keeps (hF.of rfl) h ?_
  intro y1 y2 y3
  exact State.compute_keeps (hF.of rfl) y3

theorem execVst_keeps {F : Nat} {s0 s : State} {a1 a2 a3} (hF : Sub 0xc1d0000007e20000000000000000000088000101cc049b82ff F) (h : Keeps F s0 s) :
    KeepsX F s0 (execVst a1 a2 a3 s) := by
  unfold execVst
  exact KeepsX.next (State.vOp_keeps (hF.of rfl) h)

theorem execVadd_keeps {F : Nat} {s0 s : State} {a1 a2 a3} (hF : Sub 0xc1d0000007e20000000000000000000088000101cc049b82ff F) (h : Keeps F s0 s) :
    KeepsX F s0 (execVadd a1 a2 a3 s) := by
  unfold execVadd
  exact KeepsX.next (State.vOp_keeps (hF.of rfl) h)

theorem execVsub_keeps {F : Nat} {s0 s : State} {a1 a2 a3} (hF : Sub 0xc1d0000007e20000000000000000000088000101cc049b82ff F) (h : Keeps F s0 s) :
    KeepsX F s0 (execVsub a1 a2 a3 s) := by
  unfold execVsub
  exact KeepsX.next (State.vOp_keeps (hF.of rfl) h)

theorem execVmul_keeps {F : Nat} {s0 s : State} {a1 a2 a3} (hF : Sub 0xc1d0000007e20000000000000000000088000101cc049b82ff F) (h : Keeps F s0 s) :
    KeepsX F s0 (execVmul a1 a2 a3 s) := by
  unfold execVmul
  exact KeepsX.next (State.vOp_keeps (hF.of rfl) h)

theorem execVfma_keeps {F : Nat} {s0 s : State} {a1 a2 a3} (hF : Sub 0xc1d0000007e20000000000000000000088000101cc049b82ff F) (h : Keeps F s0 s) :
    KeepsX F s0 (execVfma a1 a2 a3 s) := by
  unfold execVfma
  exact KeepsX.next (State.vOp_keeps (hF.of rfl) h)

theorem execVmax_keeps {F : Nat} {s0 s : State} {a1 a2 a3} (hF : Sub 0xc1d0000007e20000000000000000000088000101cc049b82ff F) (h : Keeps F s0 s) :
    KeepsX F s0 (execVmax a1 a2 a3 s) := by
  unfold execVmax
  exact KeepsX.next (State.vOp_keeps (hF.of rfl) h)

theorem execVmin_keeps {F : Nat} {s0 s : State} {a1 a2 a3} (hF : Sub 0xc1d0000007e20000000000000000000088000101cc049b82ff F) (h : Keeps F s0 s) :
    KeepsX F s0 (execVmin a1 a2 a3 s) := by
  unfold execVmin
  exact KeepsX.next (State.vOp_keeps (hF.of rfl) h)

theorem execVabs_keeps {F : Nat} {s0 s : State} {a1 a2 a3} (hF : Sub 0xc1d0000007e20000000000000000000088000101cc049b82ff F) (h : Keeps F s0 s) :
    KeepsX F s0 (execVabs a1 a2 a3 s) := by
  unfold execVabs
  exact KeepsX.next (State.vOp_keeps (hF.of rfl) h)

theorem execVneg_keeps {F : Nat} {s0 s : State} {a1 a2 a3} (hF : Sub 0xc1d0000007e20000000000000000000088000101cc049b82ff F) (h : Keeps F s0 s) :
    KeepsX F s0 (execVneg a1 a2 a3 s) := by
  unfold execVneg
  exact KeepsX.next (State.vOp_keeps (hF.of rfl) h)

theorem execVrcp_keeps {F : Nat} {s0 s : State} {a1 a2 a3} (hF : Sub 0xc1d0000007e20000000000000000000088000101cc049b82ff F) (h : Keeps F s0 s) :
    KeepsX F s0 (execVrcp a1 a2 a3 s) := by
  unfold execVrcp
  exact KeepsX.next (State.vOp_keeps (hF.of rfl) h)

theorem execVrsqrt_keeps {F : Nat} {s0 s : State} {a1 a2 a3} (hF : Sub 0xc1d0000007e20000000000000000000088000101cc049b82ff F) (h : Keeps F s0 s) :
    KeepsX F s0 (execVrsqrt a1 a2 a3 s) := by
  unfold execVrsqrt
  exact KeepsX.next (State.vOp_keeps (hF.of rfl) h)

theorem execVsqrt_keeps {F : Nat} {s0 s : State} {a1 a2 a3} (hF : Sub 0xc1d0000007e20000000000000000000088000101cc049b82ff F) (h : Keeps F s0 s) :
    KeepsX F s0 (execVsqrt a1 a2 a3 s) := by
  unfold execVsqrt
  exact KeepsX.next (State.vOp_keeps (hF.of rfl) h)

theorem execVexp2_keeps {F : Nat} {s0 s : State} {a1 a2 a3} (hF : Sub 0xc1d0000007e20000000000000000000088000101cc049b82ff F) (h : Keeps F s0 s) :
    KeepsX F s0 (execVexp2 a1 a2 a3 s) := by
  unfold execVexp2
  exact KeepsX.next (State.vOp_keeps (hF.of rfl) h)

theorem execVlog2_keeps {F : Nat} {s0 s : State} {a1 a2 a3} (hF : Sub 0xc1d0000007e20000000000000000000088000101cc049b82ff F) (h : Keeps F s0 s) :
    KeepsX F s0 (execVlog2 a1 a2 a3 s) := by
  unfold execVlog2
  exact KeepsX.next (State.vOp_keeps (hF.of rfl) h)

theorem execVtanh_keeps {F : Nat} {s0 s : State} {a1 a2 a3} (hF : Sub 0xc1d0000007e20000000000000000000088000101cc049b82ff F) (h : Keeps F s0 s) :
    KeepsX F s0 (execVtanh a1 a2 a3 s) := by
  unfold execVtanh
  exact KeepsX.next (State.vOp_keeps (hF.of rfl) h)

theorem execVdiv_keeps {F : Nat} {s0 s : State} {a1 a2 a3} (hF : Sub 0xc1d0000007e20000000000000000000088000101cc049b82ff F) (h : Keeps F s0 s) :
    KeepsX F s0 (execVdiv a1 a2 a3 s) := by
  unfold execVdiv
  exact KeepsX.next (State.vOp_keeps (hF.of rfl) h)

theorem execVcmp_keeps {F : Nat} {s0 s : State} {a1 a2 a3} (hF : Sub 0xc1d0000007e20000000000000000000088000101cc049b82ff F) (h : Keeps F s0 s) :
    KeepsX F s0 (execVcmp a1 a2 a3 s) := by
  unfold execVcmp
  exact KeepsX.next (State.vOp_keeps (hF.of rfl) h)

theorem execVsel_keeps {F : Nat} {s0 s : State} {a1 a2 a3} (hF : Sub 0xc1d0000007e20000000000000000000088000101cc049b82ff F) (h : Keeps F s0 s) :
    KeepsX F s0 (execVsel a1 a2 a3 s) := by
  unfold execVsel
  exact KeepsX.next (State.vOp_keeps (hF.of rfl) h)

theorem execVint_keeps {F : Nat} {s0 s : State} {a1 a2 a3} (hF : Sub 0xc1d0000007e20000000000000000000088000101cc049b82ff F) (h : Keeps F s0 s) :
    KeepsX F s0 (execVint a1 a2 a3 s) := by
  unfold execVint
  exact KeepsX.next (State.vOp_keeps (hF.of rfl) h)

theorem execVcvti_keeps {F : Nat} {s0 s : State} {a1 a2 a3} (hF : Sub 0xc1d0000007e20000000000000000000088000101cc049b82ff F) (h : Keeps F s0 s) :
    KeepsX F s0 (execVcvti a1 a2 a3 s) := by
  unfold execVcvti
  exact KeepsX.next (State.vOp_keeps (hF.of rfl) h)

theorem execVrnd_keeps {F : Nat} {s0 s : State} {a1 a2 a3} (hF : Sub 0xc1d0000007e20000000000000000000088000101cc049b82ff F) (h : Keeps F s0 s) :
    KeepsX F s0 (execVrnd a1 a2 a3 s) := by
  unfold execVrnd
  exact KeepsX.next (State.vOp_keeps (hF.of rfl) h)

theorem execVreduce_keeps {F : Nat} {s0 s : State} {a1 a2 a3} (hF : Sub 0xc1d0000007e20000000000000000000088000101cc049b82ff F) (h : Keeps F s0 s) :
    KeepsX F s0 (execVreduce a1 a2 a3 s) := by
  unfold execVreduce
  exact KeepsX.next (State.vOp_keeps (hF.of rfl) h)

theorem execVperm_keeps {F : Nat} {s0 s : State} {a1 a2 a3} (hF : Sub 0xc1d0000007e20000000000000000000088000101cc049b82ff F) (h : Keeps F s0 s) :
    KeepsX F s0 (execVperm a1 a2 a3 s) := by
  unfold execVperm
  exact KeepsX.next (State.vOp_keeps (hF.of rfl) h)

theorem execVcbl_keeps {F : Nat} {s0 s : State} {a1 a2 a3} (hF : Sub 0xc1d0000007e20000000000000000000088000101cc049b82ff F) (h : Keeps F s0 s) :
    KeepsX F s0 (execVcbl a1 a2 a3 s) := by
  unfold execVcbl
  refine KeepsX.next ?_
  refine State.coreOp_keeps (hF.of rfl) h ?_
  intro y1 y2 y3
  exact State.compute_keeps (hF.of rfl) y3

theorem execVqnt_keeps {F : Nat} {s0 s : State} {a1 a2 a3} (hF : Sub 0xc1d0000007e20000000000000000000088000101cc049b82ff F) (h : Keeps F s0 s) :
    KeepsX F s0 (execVqnt a1 a2 a3 s) := by
  unfold execVqnt
  refine KeepsX.next ?_
  refine State.coreOp_keeps (hF.of rfl) h ?_
  intro y1 y2 y3
  exact State.vqnt_keeps (hF.of rfl) y3

theorem execVdqnt_keeps {F : Nat} {s0 s : State} {a1 a2 a3} (hF : Sub 0xc1d0000007e20000000000000000000088000101cc049b82ff F) (h : Keeps F s0 s) :
    KeepsX F s0 (execVdqnt a1 a2 a3 s) := by
  unfold execVdqnt
  refine KeepsX.next ?_
  refine State.coreOp_keeps (hF.of rfl) h ?_
  intro y1 y2 y3
  exact State.computeLat_keeps (hF.of rfl) y3

theorem execVxadd_keeps {F : Nat} {s0 s : State} {a1 a2 a3} (hF : Sub 0xc1d0000007e20000000000000000000088000101cc049b82ff F) (h : Keeps F s0 s) :
    KeepsX F s0 (execVxadd a1 a2 a3 s) := by
  unfold execVxadd
  refine KeepsX.next ?_
  refine State.coreOp_keeps (hF.of rfl) h ?_
  intro y1 y2 y3
  exact State.compute_keeps (hF.of rfl) y3

theorem execVxrd_keeps {F : Nat} {s0 s : State} {a1 a2 a3} (hF : Sub 0xc1d0000007e20000000000000000000088000101cc049b82ff F) (h : Keeps F s0 s) :
    KeepsX F s0 (execVxrd a1 a2 a3 s) := by
  unfold execVxrd
  refine KeepsX.next ?_
  refine State.coreOp_keeps (hF.of rfl) h ?_
  intro y1 y2 y3
  exact State.compute_keeps (hF.of rfl) y3

theorem execVrng_keeps {F : Nat} {s0 s : State} {a1 a2 a3} (hF : Sub 0xc1d0000007e20000000000000000000088000101cc049b82ff F) (h : Keeps F s0 s) :
    KeepsX F s0 (execVrng a1 a2 a3 s) := by
  unfold execVrng
  exact KeepsX.next (State.vOp_keeps (hF.of rfl) h)

theorem execVaccDyn_keeps {F : Nat} {s0 s : State} {a1 a2 a3} (hF : Sub 0xc1f0000007e20000000000000000000088000101cc049b82ff F) (h : Keeps F s0 s) :
    KeepsX F s0 (execVaccDyn a1 a2 a3 s) := by
  unfold execVaccDyn
  refine KeepsX.next ?_
  refine State.coreOp_keeps (hF.of rfl) h ?_
  intro y1 y2 y3
  refine State.variant_keeps (hF.of rfl) y3 ?_
  intro y4 y5
  exact State.vaccDyn_keeps (hF.of rfl) y5

theorem execTstamp_keeps {F : Nat} {s0 s : State} {a1 a2 a3} (hF : Sub 0xc1f0000007e20000000000000000000088000101cc049b82ff F) (h : Keeps F s0 s) :
    KeepsX F s0 (execTstamp a1 a2 a3 s) := by
  unfold execTstamp
  refine KeepsX.next ?_
  refine State.coreOp_keeps (hF.of rfl) h ?_
  intro y1 y2 y3
  refine State.variant_keeps (hF.of rfl) y3 ?_
  intro y4 y5
  exact State.compute_keeps (hF.of rfl) y5

theorem execCntrd_keeps {F : Nat} {s0 s : State} {a1 a2 a3} (hF : Sub 0xc1f0000007e20000000000000000000088000101cc049b82ff F) (h : Keeps F s0 s) :
    KeepsX F s0 (execCntrd a1 a2 a3 s) := by
  unfold execCntrd
  refine KeepsX.next ?_
  refine State.coreOp_keeps (hF.of rfl) h ?_
  intro y1 y2 y3
  refine State.variant_keeps (hF.of rfl) y3 ?_
  intro y4 y5
  exact State.compute_keeps (hF.of rfl) y5

end Sys2Proof.Machine
end

