-- ==== Sys2Proof/Laws/KeepsGather.lean ====
section
/-! SUPPORT. What the operations of Machine/Gather.lean keep (Laws/Keeps.lean): one lemma for each. -/

namespace Sys2Proof.Machine

open Sys2Proof

theorem State.applyTok_keeps {F : Nat} {s0 s : State} {a1 a2} (hF : Sub 0x10000007e2000000000000000000000000010004049b8019 F) (h : Keeps F s0 s) :
    Keeps F s0 (State.applyTok s a1 a2) := by
  unfold State.applyTok
  extract_lets +onlyGivenNames x1
  clear_value x1
  extract_lets +onlyGivenNames x2
  have h3 : Keeps F s0 x2 := State.updPart_keeps (hF.of rfl) h
  clear_value x2
  refine Keeps.foldl h3 (fun x4 e5 h6 => ?_)
  split
  · exact State.setPart_keeps (hF.of rfl) h6
  · exact State.raise_keeps (hF.of rfl) h6

theorem State.releaseHeld_keeps {F : Nat} {s0 s : State} {a1 a2} (hF : Sub 0x28 F) (h : Keeps F s0 s) :
    Keeps F s0 (State.releaseHeld s a1 a2) := by
  unfold State.releaseHeld
  extract_lets +onlyGivenNames x1
  have h2 : Keeps F s0 x1 := State.updPart_keeps (hF.of rfl) h
  clear_value x1
  exact Keeps.foldl h2 (fun x3 e4 h5 => Keeps.foldl h5 (fun x6 e7 h8 => State.updCore_keeps (hF.of rfl) h8))

theorem State.reqEnd_keeps {F : Nat} {s0 s : State} {a1 a2} (hF : Sub 0x50000007e200000000000000000000880001000c049b80f9 F) (h : Keeps F s0 s) :
    Keeps F s0 (State.reqEnd s a1 a2) := by
  unfold State.reqEnd
  extract_lets +onlyGivenNames x1
  have h2 : Keeps F s0 x1 := Keeps.setGreqs h (hF.of rfl)
  clear_value x1
  refine Keeps.ite (fun _ => h2) (fun _ => ?_)
  extract_lets +onlyGivenNames x3
  have h4 : Keeps F s0 x3 := State.applyTok_keeps (hF.of rfl) (State.seen_keeps (hF.of rfl) h2)
  clear_value x3
  extract_lets +onlyGivenNames x5
  clear_value x5
  refine Keeps.ite (fun _ => State.setPart_keeps (hF.of rfl) h4) (fun _ => ?_)
  exact Keeps.ite (fun _ => State.cueFault_keeps (hF.of rfl) h4) (fun _ => State.setPart_keeps (hF.of rfl) h4)

theorem State.gRefuse_keeps {F : Nat} {s0 s : State} {a1 a2 a3} (hF : Sub 0x10000007e200000000000000000000880001000c049b80f9 F) (h : Keeps F s0 s) :
    Keeps F s0 (State.gRefuse s a1 a2 a3) := by
  unfold State.gRefuse
  extract_lets +onlyGivenNames x1
  clear_value x1
  extract_lets +onlyGivenNames x2
  have h3 : Keeps F s0 x2 := by
    unfold x2
    split
    · exact State.unmappedErr_keeps (hF.of rfl) h
    · exact State.refusedErr_keeps (hF.of rfl) h
  clear_value x2
  exact Keeps.ite (fun _ => h3) (fun _ => State.bfEnd_keeps (hF.of rfl) h3)

theorem State.readGran_keeps {F : Nat} {s0 s : State} {a1 a2} (hF : Sub 0x11d0000007e200000000000000000000880001000c049b80ff F) (h : Keeps F s0 s) :
    Keeps F s0 (State.readGran s a1 a2).1 := by
  unfold State.readGran
  generalize a2 - regBase = q
  generalize s.regionOf a2 = r
  generalize hp : State.regGranule s q = p
  have h5 : Keeps F s0 p.1 := hp ▸ State.regGranule_keeps (hF.of rfl) h
  clear hp
  obtain ⟨x, l⟩ := p
  cases r
  case reg => exact h5
  case scratch => exact State.settle_keeps (hF.of rfl) h
  all_goals exact State.sense_keeps (hF.of rfl) h

theorem State.writeTo_keeps {F : Nat} {s0 s : State} {a1 a2 a3} (hF : Sub 0x11f0000007e200000000000000000000880001000c049b80ff F) (h : Keeps F s0 s) :
    Keeps F s0 (State.writeTo s a1 a2 a3) := by
  unfold State.writeTo
  split
  · exact State.strideImageWrite_keeps (hF.of rfl) h
  · exact State.save_keeps (hF.of rfl) (State.settle_keeps (hF.of rfl) h)
  · exact State.save_keeps (hF.of rfl) (State.snoop_keeps (hF.of rfl) h)

theorem State.scrPut_keeps {F : Nat} {s0 s : State} {a1 a2 a3 a4} (hF : Sub 0x1d0000007e200000000000000000000880001000c049b80ff F) (h : Keeps F s0 s) :
    Keeps F s0 (State.scrPut s a1 a2 a3 a4) := by
  unfold State.scrPut
  exact State.save_keeps (hF.of rfl) (State.settle_keeps (hF.of rfl) h)

theorem State.scrPoisonZero_keeps {F : Nat} {s0 s : State} {a1 a2 a3} (hF : Sub 0x1d0000007e200000000000000000000880001000c049b80ff F) (h : Keeps F s0 s) :
    Keeps F s0 (State.scrPoisonZero s a1 a2 a3) := by
  unfold State.scrPoisonZero
  exact Keeps.foldl h (fun x1 e2 h3 => State.scrPut_keeps (hF.of rfl) h3)

theorem State.gPush_keeps {F : Nat} {s0 s : State} {a1} (hF : Sub 0x4000000000000000000000000000000000000000000001a9 F) (h : Keeps F s0 s) :
    Keeps F s0 (State.gPush s a1) := by
  unfold State.gPush
  extract_lets +onlyGivenNames x1
  have h2 : Keeps F s0 x1 := by
    unfold x1
    refine Keeps.upd (s := s) (B := 0x180) ?_ (hF.of rfl) rfl ⟨rfl, fun f hf => by cases f <;> first | rfl | exact absurd hf (by decide)⟩
    exact h
  clear_value x1
  extract_lets +onlyGivenNames x3
  have h4 : Keeps F s0 x3 := State.countCore_keeps (hF.of rfl) h2
  clear_value x3
  exact Keeps.ite (fun _ => h4) (fun _ => State.updCore_keeps (hF.of rfl) (State.updPart_keeps (hF.of rfl) h4))

theorem State.gAtOnce_keeps {F : Nat} {s0 s : State} {a1} (hF : Sub 0x50000007e200000000000000000000880001000c049b81f9 F) (h : Keeps F s0 s) :
    Keeps F s0 (State.gAtOnce s a1) := by
  unfold State.gAtOnce
  exact State.reqEnd_keeps (hF.of rfl) (State.gPush_keeps (hF.of rfl) h)

theorem State.gIssue_keeps {F : Nat} {s0 s : State} {a1 a2} (hF : Sub 0x50000007e200000000000000000000880001000c049b80f9 F) (h : Keeps F s0 s) (hf2 : ∀ y1, Keeps F s0 y1 → Keeps F s0 (a2 y1)) :
    Keeps F s0 (State.gIssue s a1 a2) := by
  unfold State.gIssue
  refine Keeps.ite (fun _ => State.cueFault_keeps (hF.of rfl) h) (fun _ => ?_)
  split
  · exact State.cueFault_keeps (hF.of rfl) h
  · refine Keeps.ite (fun _ => State.bfEnd_keeps (hF.of rfl) h) (fun _ => ?_)
    refine Keeps.ite (fun _ => State.cueFault_keeps (hF.of rfl) h) (fun _ => ?_)
    apply hf2
    exact h

theorem State.gIndexed_keeps {F : Nat} {s0 s : State} {a1} (hF : Sub 0x1f0000007e200000000000000000000880001000c049b81ff F) (h : Keeps F s0 s) :
    Keeps F s0 (State.gIndexed s a1) := by
  unfold State.gIndexed
  refine Keeps.ite (fun _ => State.raise_keeps (hF.of rfl) h) (fun _ => ?_)
  extract_lets +onlyGivenNames x1 x2 x3
  clear_value x1 x2 x3
  refine Keeps.ite (fun _ => ?_) (fun _ => ?_)
  · extract_lets +onlyGivenNames x4
    have h5 : Keeps F s0 x4 := State.countCore_keeps (hF.of rfl) h
    clear_value x4
    extract_lets +onlyGivenNames x6
    have h7 : Keeps F s0 x6 := Keeps.ite (fun _ => State.scrPoisonZero_keeps (hF.of rfl) h5) (fun _ => h5)
    clear_value x6
    exact State.gAtOnce_keeps (hF.of rfl) h7
  · refine Keeps.ite (fun _ => State.gRefuse_keeps (hF.of rfl) (State.gAtOnce_keeps (hF.of rfl) h)) (fun _ => ?_)
    refine Keeps.ite (fun _ => ?_) (fun _ => State.gPush_keeps (hF.of rfl) h)
    refine State.variant_keeps (hF.of rfl) h ?_
    intro y8 y9
    exact State.gPush_keeps (hF.of rfl) y9

theorem State.dsend_keeps {F : Nat} {s0 s : State} {a1} (hF : Sub 0x50000007e200000000000000000000880001000c049b81f9 F) (h : Keeps F s0 s) :
    Keeps F s0 (State.dsend s a1) := by
  unfold State.dsend
  extract_lets +onlyGivenNames x1 x2
  clear_value x1 x2
  extract_lets +onlyGivenNames x3
  have h4 : Keeps F s0 x3 := Keeps.ite (fun _ => State.countCore_keeps (hF.of rfl) h) (fun _ => h)
  clear_value x3
  extract_lets +onlyGivenNames x5 x6
  clear_value x5 x6
  extract_lets +onlyGivenNames x7
  refine Keeps.ite (fun _ => State.gRefuse_keeps (hF.of rfl) h4) (fun _ => ?_)
  exact Keeps.ite (fun _ => State.gRefuse_keeps (hF.of rfl) h4) (fun _ => State.gPush_keeps (hF.of rfl) h4)

theorem State.gatherGran_keeps {F : Nat} {s0 s : State} {a1 a2} (hF : Sub 0x11d0000007e200000000000000000000880001000c049b80ff F) (h : Keeps F s0 s) :
    Keeps F s0 (State.gatherGran s a1 a2) := by
  unfold State.gatherGran
  split
  rename_i z1 z2 z3 z4 z5
  have h6 : Keeps F s0 z2 := Keeps.ofFst z5 (State.readGran_keeps (hF.of rfl) h)
  exact State.scrPut_keeps (hF.of rfl) h6

theorem State.scatterGran_keeps {F : Nat} {s0 s : State} {a1 a2} (hF : Sub 0x11f0000007e200000000000000000000880001000c049b80ff F) (h : Keeps F s0 s) :
    Keeps F s0 (State.scatterGran s a1 a2) := by
  unfold State.scatterGran
  extract_lets +onlyGivenNames x1
  have h2 : Keeps F s0 x1 := State.settle_keeps (hF.of rfl) h
  clear_value x1
  exact State.writeTo_keeps (hF.of rfl) h2

theorem State.gatherRefused_keeps {F : Nat} {s0 s : State} {a1} (hF : Sub 0x1d0000007e200000000000000000000880001000c049b80ff F) (h : Keeps F s0 s) :
    Keeps F s0 (State.gatherRefused s a1) := by
  unfold State.gatherRefused
  split
  rename_i z1 z2 z3 z4
  have h5 : Keeps F s0 z3 := Keeps.ofSnd z4 (State.takeFree_keeps (hF.of rfl) h)
  exact Keeps.foldl h5 (fun x6 e7 h8 => State.scrPut_keeps (hF.of rfl) h8)

theorem State.gMove_keeps {F : Nat} {s0 s : State} {a1} (hF : Sub 0x11f0000007e200000000000000000000880001000c049b80ff F) (h : Keeps F s0 s) :
    Keeps F s0 (State.gMove s a1).1 := by
  unfold State.gMove
  split
  · split
    · exact Keeps.mkFst (Keeps.foldl h (fun x1 e2 h3 => State.gatherGran_keeps (hF.of rfl) h3))
    · exact Keeps.mkFst (State.gRefuse_keeps (hF.of rfl) h)
    · refine Keeps.mkFst ?_
      refine State.gRefuse_keeps (hF.of rfl) ?_
      exact Keeps.ite (fun _ => State.gatherRefused_keeps (hF.of rfl) h) (fun _ => h)
  · split
    · exact Keeps.mkFst (Keeps.foldl h (fun x4 e5 h6 => State.scatterGran_keeps (hF.of rfl) h6))
    · exact Keeps.mkFst (State.gRefuse_keeps (hF.of rfl) h)
  · exact Keeps.iteFst (fun _ => Keeps.mkFst h) (fun _ => Keeps.mkFst (State.updCore_keeps (hF.of rfl) h))
  · exact Keeps.mkFst h

theorem State.gComplete_keeps {F : Nat} {s0 s : State} {a1 a2} (hF : Sub 0x11f0000007e200000000000000000000880001000c049b80ff F) (h : Keeps F s0 s) :
    Keeps F s0 (State.gComplete s a1 a2) := by
  unfold State.gComplete
  split
  · exact h
  · split
    · rename_i z1 z2 z3
      have h4 : Keeps F s0 z2 := Keeps.ofFst z3 (State.gMove_keeps (hF.of rfl) h)
      exact h
    · rename_i z5 z6 z7
      have h8 : Keeps F s0 z6 := Keeps.ofFst z7 (State.gMove_keeps (hF.of rfl) h)
      exact State.reqEnd_keeps (hF.of rfl) h8

theorem execGatherR_keeps {F : Nat} {s0 s : State} {a1 a2 a3} (hF : Sub 0x1f0000007e20000000000000000000088000101cc049b83ff F) (h : Keeps F s0 s) :
    KeepsX F s0 (execGatherR a1 a2 a3 s) := by
  unfold execGatherR
  refine KeepsX.next ?_
  refine State.coreOp_keeps (hF.of rfl) h ?_
  intro y1 y2 y3
  refine State.gIssue_keeps (hF.of rfl) y3 ?_
  intro y4 y5
  exact State.gIndexed_keeps (hF.of rfl) y5

theorem execGatherA_keeps {F : Nat} {s0 s : State} {a1 a2 a3} (hF : Sub 0x1f0000007e20000000000000000000088000101cc049b83ff F) (h : Keeps F s0 s) :
    KeepsX F s0 (execGatherA a1 a2 a3 s) := by
  unfold execGatherA
  refine KeepsX.next ?_
  refine State.coreOp_keeps (hF.of rfl) h ?_
  intro y1 y2 y3
  refine State.gIssue_keeps (hF.of rfl) y3 ?_
  intro y4 y5
  exact State.gIndexed_keeps (hF.of rfl) y5

theorem execScatterG_keeps {F : Nat} {s0 s : State} {a1 a2 a3} (hF : Sub 0x1f0000007e20000000000000000000088000101cc049b83ff F) (h : Keeps F s0 s) :
    KeepsX F s0 (execScatterG a1 a2 a3 s) := by
  unfold execScatterG
  refine KeepsX.next ?_
  refine State.coreOp_keeps (hF.of rfl) h ?_
  intro y1 y2 y3
  refine State.gIssue_keeps (hF.of rfl) y3 ?_
  intro y4 y5
  exact State.gIndexed_keeps (hF.of rfl) y5

theorem execScatterA_keeps {F : Nat} {s0 s : State} {a1 a2 a3} (hF : Sub 0x1f0000007e20000000000000000000088000101cc049b83ff F) (h : Keeps F s0 s) :
    KeepsX F s0 (execScatterA a1 a2 a3 s) := by
  unfold execScatterA
  refine KeepsX.next ?_
  refine State.coreOp_keeps (hF.of rfl) h ?_
  intro y1 y2 y3
  refine State.gIssue_keeps (hF.of rfl) y3 ?_
  intro y4 y5
  exact State.gIndexed_keeps (hF.of rfl) y5

theorem execDsend_keeps {F : Nat} {s0 s : State} {a1 a2 a3} (hF : Sub 0x1d0000007e20000000000000000000088000101cc049b83ff F) (h : Keeps F s0 s) :
    KeepsX F s0 (execDsend a1 a2 a3 s) := by
  unfold execDsend
  refine KeepsX.next ?_
  refine State.coreOp_keeps (hF.of rfl) h ?_
  intro y1 y2 y3
  refine State.gIssue_keeps (hF.of rfl) y3 ?_
  intro y4 y5
  exact State.dsend_keeps (hF.of rfl) y5

theorem execGRequestComplete_keeps {F : Nat} {s0 s : State} {a1 a2 a3} (hF : Sub 0x11f0000007e200000000000000000000880001000c049b80ff F) (h : Keeps F s0 s) :
    KeepsX F s0 (execGRequestComplete a1 a2 a3 s) := by
  unfold execGRequestComplete
  exact KeepsX.next (State.gComplete_keeps (hF.of rfl) (State.plant_keeps (hF.of rfl) h))

theorem State.send_keeps {F : Nat} {s0 s : State} {a1} (hF : Sub 0x50000007e200000000000000000000880001000c049b80f9 F) (h : Keeps F s0 s) :
    Keeps F s0 (State.send s a1) := by
  unfold State.send
  refine Keeps.ite (fun _ => State.cueFault_keeps (hF.of rfl) h) (fun _ => ?_)
  split
  · exact State.cueFault_keeps (hF.of rfl) h
  · split
    · exact State.cueFault_keeps (hF.of rfl) h
    · extract_lets +onlyGivenNames x1
      clear_value x1
      extract_lets +onlyGivenNames x2
      have h3 : Keeps F s0 x2 := Keeps.ite (fun _ => State.countCore_keeps (hF.of rfl) h) (fun _ => h)
      clear_value x2
      extract_lets +onlyGivenNames x4
      clear_value x4
      exact State.updCore_keeps (hF.of rfl) h3

theorem State.recv_keeps {F : Nat} {s0 s : State} {a1} (hF : Sub 0xc050000007e200000000000000000000880001000c049b80f9 F) (h : Keeps F s0 s) :
    Keeps F s0 (State.recv s a1) := by
  unfold State.recv
  refine Keeps.ite (fun _ => State.cueFault_keeps (hF.of rfl) h) (fun _ => ?_)
  split
  · exact State.cueFault_keeps (hF.of rfl) h
  · extract_lets +onlyGivenNames x1
    clear_value x1
    split
    · exact State.cueFault_keeps (hF.of rfl) h
    · exact State.compute_keeps (hF.of rfl) (State.updCore_keeps (hF.of rfl) h)

theorem execSend_keeps {F : Nat} {s0 s : State} {a1 a2 a3} (hF : Sub 0x1d0000007e20000000000000000000088000101cc049b82ff F) (h : Keeps F s0 s) :
    KeepsX F s0 (execSend a1 a2 a3 s) := by
  unfold execSend
  refine KeepsX.next ?_
  refine State.coreOp_keeps (hF.of rfl) h ?_
  intro y1 y2 y3
  exact State.send_keeps (hF.of rfl) y3

theorem execRecv_keeps {F : Nat} {s0 s : State} {a1 a2 a3} (hF : Sub 0xc1d0000007e20000000000000000000088000101cc049b82ff F) (h : Keeps F s0 s) :
    KeepsX F s0 (execRecv a1 a2 a3 s) := by
  unfold execRecv
  refine KeepsX.next ?_
  refine State.coreOp_keeps (hF.of rfl) h ?_
  intro y1 y2 y3
  exact State.recv_keeps (hF.of rfl) y3

end Sys2Proof.Machine
end

