-- ==== Sys2Proof/Laws/KeepsMemory.lean ====
section
/-! SUPPORT. What the operations of Machine/Memory.lean keep (Laws/Keeps.lean): one lemma for each. -/

namespace Sys2Proof.Machine

open Sys2Proof

/-- Both records of the patrol scrub at once. -/
theorem Keeps.scrubAt {F : Nat} {s0 s : State} {a b : Sp Nat} (h : Keeps F s0 s) (hF : Sub 0xc00 F)
    (ha : Sp.wf 0 s.scrubPos → Sp.wf 0 a) (hb : Sp.wf 0 s.scrubRows → Sp.wf 0 b) :
    Keeps F s0 { s with scrubPos := a, scrubRows := b } :=
  Keeps.setScrubRows (s := { s with scrubPos := a }) (h.setScrubPos (hF.of rfl) ha) (hF.of rfl) hb

theorem State.memRefuse_keeps {F : Nat} {s0 s : State} {a1 a2 a3} (hF : Sub 0x190000007e2000000000000000000000000010004049b8019 F) (h : Keeps F s0 s) :
    Keeps F s0 (State.memRefuse s a1 a2 a3) := by
  unfold State.memRefuse
  refine State.raise_keeps (hF.of rfl) ?_
  exact State.count_keeps (hF.of rfl) (CIn.ite (R.CNT_HBM_in (hF.of rfl)) (R.CNT_BLK_in (hF.of rfl))) h

theorem State.memGran_keeps {F : Nat} {s0 s : State} {a1 a2 a3 a4 a5} (hF : Sub 0x11d0000007e200000000000000000000880001000c049b80ff F) (h : Keeps F s0 s) :
    Keeps F s0 (State.memGran s a1 a2 a3 a4 a5) := by
  unfold State.memGran
  extract_lets +onlyGivenNames x1 x2 x3
  clear_value x1 x2 x3
  refine Keeps.ite (fun _ => ?_) (fun _ => ?_)
  · split
    rename_i z4 z5 z6 z7 z8
    have h9 : Keeps F s0 z5 := Keeps.ofFst z8 (State.readGran_keeps (hF.of rfl) h)
    exact State.scrPut_keeps (hF.of rfl) h9
  · refine Keeps.ite (fun _ => ?_) (fun _ => State.save_keeps (hF.of rfl) (State.snoop_keeps (hF.of rfl) h))
    extract_lets +onlyGivenNames x10
    have h11 : Keeps F s0 x10 := State.settle_keeps (hF.of rfl) h
    clear_value x10
    exact State.save_keeps (hF.of rfl) (State.snoop_keeps (hF.of rfl) h11)

theorem State.memCmd_keeps {F : Nat} {s0 s : State} {a1 a2 a3 a4} (hF : Sub 0x11d0000007e200000000000000000000880001000c049b80ff F) (h : Keeps F s0 s) :
    Keeps F s0 (State.memCmd s a1 a2 a3 a4) := by
  unfold State.memCmd
  split
  · exact h
  · extract_lets +onlyGivenNames x1 x2
    clear_value x1 x2
    refine Keeps.ite (fun _ => h) (fun _ => ?_)
    refine Keeps.ite (fun _ => State.memRefuse_keeps (hF.of rfl) (State.engStart_keeps (hF.of rfl) h)) (fun _ => ?_)
    refine Keeps.ite (fun _ => h) (fun _ => ?_)
    extract_lets +onlyGivenNames x3
    have h4 : Keeps F s0 x3 := State.engStart_keeps (hF.of rfl) h
    clear_value x3
    extract_lets +onlyGivenNames x5
    clear_value x5
    split
    · rename_i z6 z7 z8
      have h9 : Keeps F s0 z7 := Keeps.ofFst z8 (State.fetchDesc_keeps (hF.of rfl) h4)
      exact h9
    · rename_i z10 z11 z12 z13
      have h14 : Keeps F s0 z11 := Keeps.ofFst z13 (State.fetchDesc_keeps (hF.of rfl) h4)
      refine Keeps.ite (fun _ => State.memRefuse_keeps (hF.of rfl) h14) (fun _ => ?_)
      extract_lets +onlyGivenNames x15 x16
      clear_value x15 x16
      split
      · exact State.unmappedErr_keeps (hF.of rfl) h14
      · exact State.refusedErr_keeps (hF.of rfl) h14
      · refine Keeps.foldl h14 (fun x17 e18 h19 => ?_)
        exact Keeps.foldl h19 (fun x20 e21 h22 => State.memGran_keeps (hF.of rfl) h22)

theorem State.memComplete_keeps {F : Nat} {s0 s : State} {a1 a2} (hF : Sub 0x8000000000000000040000000000000000000000000000009 F) (h : Keeps F s0 s) :
    Keeps F s0 (State.memComplete s a1 a2) := by
  unfold State.memComplete
  split
  · exact State.cmdDone_keeps (hF.of rfl) h
  · exact h

theorem State.hbmRefresh_keeps {F : Nat} {s0 s : State} {a1 a2} (hF : Sub 0x10000007e0000000000000000000400000000004049b8009 F) (h : Keeps F s0 s) :
    Keeps F s0 (State.hbmRefresh s a1 a2) := by
  unfold State.hbmRefresh
  extract_lets +onlyGivenNames x1
  clear_value x1
  extract_lets +onlyGivenNames x2
  have h3 : Keeps F s0 x2 := State.wrF_keeps (hF.of rfl) (R.HBM_STATUS_in (hF.of rfl)) h
  clear_value x2
  refine Keeps.ite (fun _ => ?_) (fun _ => ?_)
  · exact State.event_keeps (hF.of rfl) (State.wrF_keeps (hF.of rfl) (R.HBM_STATUS_in (hF.of rfl)) h3)
  · exact Keeps.ite (fun _ => State.wrF_keeps (hF.of rfl) (R.HBM_STATUS_in (hF.of rfl)) h3) (fun _ => h3)

theorem State.setScrubActive_keeps {F : Nat} {s0 s : State} {a1 a2} (hF : Sub 0xc0000000000000000001 F) (h : Keeps F s0 s) :
    Keeps F s0 (State.setScrubActive s a1 a2) := by
  unfold State.setScrubActive
  refine Keeps.ite (fun _ => ?_) (fun _ => State.wrF_keeps (hF.of rfl) (R.BLK_STATUS_in (hF.of rfl)) h)
  exact State.wrF_keeps (hF.of rfl) (R.HBM_STATUS_in (hF.of rfl)) h

theorem State.queueRepair_keeps {F : Nat} {s0 s : State} {a1 a2} (hF : Sub 0xc0000000000000001001 F) (h : Keeps F s0 s) :
    Keeps F s0 (State.queueRepair s a1 a2) := by
  unfold State.queueRepair
  refine Keeps.ite (fun _ => h) (fun _ => ?_)
  extract_lets +onlyGivenNames x1
  have h2 : Keeps F s0 x1 := Keeps.setRepair h (hF.of rfl)
  clear_value x1
  extract_lets +onlyGivenNames x3
  clear_value x3
  refine Keeps.ite (fun _ => ?_) (fun _ => State.wrF_keeps (hF.of rfl) (R.BLK_STATUS_in (hF.of rfl)) h2)
  exact State.wrF_keeps (hF.of rfl) (R.HBM_STATUS_in (hF.of rfl)) h2

theorem State.scrubRow_keeps {F : Nat} {s0 s : State} {a1 a2} (hF : Sub 0xc0000000000000001801 F) (h : Keeps F s0 s) :
    Keeps F s0 (State.scrubRow s a1 a2) := by
  unfold State.scrubRow
  extract_lets +onlyGivenNames thr k n x1
  have h1 : Keeps F s0 x1 := h.setScrubRows (hF.of rfl) (fun i => Sp.wf_set i _ _)
  exact Keeps.ite (fun _ => State.queueRepair_keeps (hF.of rfl) h1) (fun _ => h1)

theorem State.patrolScrub_keeps {F : Nat} {s0 s : State} {a1 a2 a3} (hF : Sub 0x190000007e0000000000000000000c00000000004049b9c0d F) (h : Keeps F s0 s) :
    Keeps F s0 (State.patrolScrub s a1 a2 a3) := by
  unfold State.patrolScrub
  refine Keeps.ite (fun _ => State.setScrubActive_keeps (hF.of rfl) h) (fun _ => ?_)
  extract_lets +onlyGivenNames x1
  have h1 : Keeps F s0 x1 := State.setScrubActive_keeps (hF.of rfl) h
  clear_value x1
  split
  extract_lets +onlyGivenNames pos a card i found y rq z x2
  clear_value found
  have hcd : CIn card F := CIn.ite (R.CNT_HBM_in (hF.of rfl)) (R.CNT_BLK_in (hF.of rfl))
  have hc : ∀ k, Keeps F s0 (x1.count card i k 1) ∧ (x1.count card i k 1).gran = x1.gran := fun k =>
    ⟨State.count_keeps (hF.of rfl) hcd h1, rfl⟩
  have h2 : Keeps F s0 x2 := by
    unfold x2
    split
    · exact h1
    · exact State.scrubRow_keeps (hF.of rfl) ((hc 2).1.setGran (hF.of rfl) (fun i => (hc 2).2 ▸ Sp.wf_upd i _ _))
    · exact State.event_keeps (hF.of rfl) ((hc 3).1.setGran (hF.of rfl) (fun i => (hc 3).2 ▸ Sp.wf_upd i _ _))
  clear_value x2
  extract_lets +onlyGivenNames wrap
  exact h2.scrubAt (hF.of rfl) (fun i => Sp.wf_set i _ _) (fun i => by split <;> first | exact Sp.wf_filter i _ | exact i)

theorem State.pageAttrWrite_keeps {F : Nat} {s0 s : State} {a1} (hF : Sub 0x400000000000000000001 F) (h : Keeps F s0 s) :
    Keeps F s0 (State.pageAttrWrite s a1) := by
  unfold State.pageAttrWrite
  extract_lets +onlyGivenNames x1
  have h2 : Keeps F s0 x1 := State.wr_keeps (hF.of rfl) (R.GLB_PAGE_ATTR_in (hF.of rfl)) h
  clear_value x1
  exact Keeps.ite (fun _ => State.applyReg_keeps (hF.of rfl) (R.GLB_PAGE_ATTR_in (hF.of rfl)) h2) (fun _ => h2)

theorem execMemRead_keeps {F : Nat} {s0 s : State} {a1 a2 a3} (hF : Sub 0x11d0000007e200000000000000000000880001000c049b80ff F) (h : Keeps F s0 s) :
    KeepsX F s0 (execMemRead a1 a2 a3 s) := by
  unfold execMemRead
  exact KeepsX.next (State.memCmd_keeps (hF.of rfl) (State.plant_keeps (hF.of rfl) h))

theorem execMemWrite_keeps {F : Nat} {s0 s : State} {a1 a2 a3} (hF : Sub 0x11d0000007e200000000000000000000880001000c049b80ff F) (h : Keeps F s0 s) :
    KeepsX F s0 (execMemWrite a1 a2 a3 s) := by
  unfold execMemWrite
  exact KeepsX.next (State.memCmd_keeps (hF.of rfl) (State.plant_keeps (hF.of rfl) h))

theorem execMemFillZero_keeps {F : Nat} {s0 s : State} {a1 a2 a3} (hF : Sub 0x11d0000007e200000000000000000000880001000c049b80ff F) (h : Keeps F s0 s) :
    KeepsX F s0 (execMemFillZero a1 a2 a3 s) := by
  unfold execMemFillZero
  exact KeepsX.next (State.memCmd_keeps (hF.of rfl) (State.plant_keeps (hF.of rfl) h))

theorem execBulkRead_keeps {F : Nat} {s0 s : State} {a1 a2 a3} (hF : Sub 0x11d0000007e200000000000000000000880001000c049b80ff F) (h : Keeps F s0 s) :
    KeepsX F s0 (execBulkRead a1 a2 a3 s) := by
  unfold execBulkRead
  exact KeepsX.next (State.memCmd_keeps (hF.of rfl) (State.plant_keeps (hF.of rfl) h))

theorem execBulkWrite_keeps {F : Nat} {s0 s : State} {a1 a2 a3} (hF : Sub 0x11d0000007e200000000000000000000880001000c049b80ff F) (h : Keeps F s0 s) :
    KeepsX F s0 (execBulkWrite a1 a2 a3 s) := by
  unfold execBulkWrite
  exact KeepsX.next (State.memCmd_keeps (hF.of rfl) (State.plant_keeps (hF.of rfl) h))

theorem execBulkFillZero_keeps {F : Nat} {s0 s : State} {a1 a2 a3} (hF : Sub 0x11d0000007e200000000000000000000880001000c049b80ff F) (h : Keeps F s0 s) :
    KeepsX F s0 (execBulkFillZero a1 a2 a3 s) := by
  unfold execBulkFillZero
  exact KeepsX.next (State.memCmd_keeps (hF.of rfl) (State.plant_keeps (hF.of rfl) h))

theorem execMemCmdComplete_keeps {F : Nat} {s0 s : State} {a1 a2} (hF : Sub 0x8000000000000000040000000000000000000000000000009 F) (h : Keeps F s0 s) :
    KeepsX F s0 (execMemCmdComplete a1 a2 s) := by
  unfold execMemCmdComplete
  exact KeepsX.next (State.memComplete_keeps (hF.of rfl) h)

theorem execHbmRefresh_keeps {F : Nat} {s0 s : State} {a1 a2} (hF : Sub 0x10000007e0000000000000000000400000000004049b8009 F) (h : Keeps F s0 s) :
    KeepsX F s0 (execHbmRefresh a1 a2 s) := by
  unfold execHbmRefresh
  exact KeepsX.next (State.hbmRefresh_keeps (hF.of rfl) h)

theorem execBulkRefresh_keeps {F : Nat} {s0 s : State} {a1} (_hF : Sub 0x0 F) (h : Keeps F s0 s) :
    KeepsX F s0 (execBulkRefresh a1 s) := by
  unfold execBulkRefresh
  exact KeepsX.next h

theorem execPatrolScrub_keeps {F : Nat} {s0 s : State} {a1 a2 a3} (hF : Sub 0x190000007e0000000000000000000c00000000004049b9c0d F) (h : Keeps F s0 s) :
    KeepsX F s0 (execPatrolScrub a1 a2 a3 s) := by
  unfold execPatrolScrub
  exact KeepsX.next (State.patrolScrub_keeps (hF.of rfl) h)

theorem execPageAttrApply_keeps {F : Nat} {s0 s : State} {a1} (hF : Sub 0x400000000000000000001 F) (h : Keeps F s0 s) :
    KeepsX F s0 (execPageAttrApply a1 s) := by
  unfold execPageAttrApply
  exact KeepsX.next (State.pageAttrWrite_keeps (hF.of rfl) h)

end Sys2Proof.Machine
end

