-- ==== Sys2Proof/Laws/KeepsPlace.lean ====
section
/-! SUPPORT. What the operations of Machine/Place.lean keep (Laws/Keeps.lean): one lemma for each. -/

namespace Sys2Proof.Machine

open Sys2Proof

theorem State.owe_keeps {F : Nat} {s0 s : State} {a1 a2 a3 a4} (hF : Sub 0x8 F) (h : Keeps F s0 s) :
    Keeps F s0 (State.owe s a1 a2 a3 a4) := by
  unfold State.owe
  refine Keeps.ite (fun _ => h) (fun _ => ?_)
  split
  · exact h
  · exact Keeps.ite (fun _ => h) (fun _ => State.updPart_keeps (hF.of rfl) h)

theorem State.candSave_keeps {F : Nat} {s0 s : State} {a1 a2} (hF : Sub 0x1800000000000000000000000000000000000000000000007 F) (h : Keeps F s0 s) :
    Keeps F s0 (State.candSave s a1 a2) := by
  unfold State.candSave
  extract_lets +onlyGivenNames x1
  clear_value x1
  exact Keeps.foldl h (fun x2 e3 h4 => State.saveN_keeps (hF.of rfl) h4)

theorem State.candAdd_keeps {F : Nat} {s0 s : State} {a1 a2 a3} (hF : Sub 0x380000000000000000000000000000000000000000000000f F) (h : Keeps F s0 s) :
    Keeps F s0 (State.candAdd s a1 a2 a3) := by
  unfold State.candAdd
  extract_lets +onlyGivenNames x1 x2
  clear_value x1 x2
  extract_lets +onlyGivenNames x3
  have h4 : Keeps F s0 x3 := Keeps.ite (fun _ => State.count_keeps (hF.of rfl) (R.CNT_EMB_in (hF.of rfl)) h) (fun _ => h)
  clear_value x3
  exact State.candSave_keeps (hF.of rfl) (State.updPart_keeps (hF.of rfl) h4)

theorem State.foldRow_keeps {F : Nat} {s0 s : State} {a1 a2 a3 a4} (hF : Sub 0x380000000000000000000000000000000000000000000000f F) (h : Keeps F s0 s) :
    Keeps F s0 (State.foldRow s a1 a2 a3 a4) := by
  unfold State.foldRow
  extract_lets +onlyGivenNames x1 x2 x3
  clear_value x1 x2 x3
  extract_lets +onlyGivenNames x4
  have h5 : Keeps F s0 x4 := State.saveN_keeps (hF.of rfl) h
  clear_value x4
  exact Keeps.ite (fun _ => State.candAdd_keeps (hF.of rfl) h5) (fun _ => h5)

theorem State.placeFold_keeps {F : Nat} {s0 s : State} {a1} (hF : Sub 0x380000000000000000000000000000000000000000000000f F) (h : Keeps F s0 s) :
    Keeps F s0 (State.placeFold s a1) := by
  unfold State.placeFold
  exact State.updPart_keeps (hF.of rfl) (Keeps.foldl h (fun x1 e2 h3 => State.foldRow_keeps (hF.of rfl) h3))

theorem State.doMove_keeps {F : Nat} {s0 s : State} {a1 a2} (hF : Sub 0x1800000000000000000000000000000000000000000000007 F) (h : Keeps F s0 s) :
    Keeps F s0 (State.doMove s a1 a2) := by
  unfold State.doMove
  extract_lets +onlyGivenNames x1
  have h2 : Keeps F s0 x1 := by
    unfold x1
    split
    · exact State.saveN_keeps (hF.of rfl) (State.copyGran_keeps (hF.of rfl) h)
    · exact h
  clear_value x1
  exact State.saveN_keeps (hF.of rfl) (State.saveN_keeps (hF.of rfl) (State.copyGran_keeps (hF.of rfl) h2))

theorem State.normalise_keeps {F : Nat} {s0 s : State} {a1 a2 a3} (hF : Sub 0x1800000000000000000000000000000000000000000000007 F) (h : Keeps F s0 s) :
    Keeps F s0 (State.normalise s a1 a2 a3) := by
  unfold State.normalise
  exact State.saveN_keeps (hF.of rfl) h

theorem State.placeBoundary_keeps {F : Nat} {s0 s : State} {a1 a2} (hF : Sub 0x190000007e2000000000000000000000000010004049b801f F) (h : Keeps F s0 s) :
    Keeps F s0 (State.placeBoundary s a1 a2).1 := by
  unfold State.placeBoundary
  extract_lets +onlyGivenNames x1
  clear_value x1
  refine Keeps.iteFst (fun _ => Keeps.mkFst h) (fun _ => ?_)
  refine Keeps.iteFst (fun _ => Keeps.mkFst (State.raise_keeps (hF.of rfl) h)) (fun _ => ?_)
  extract_lets +onlyGivenNames x2
  clear_value x2
  extract_lets +onlyGivenNames x3
  have h4 : Keeps F s0 x3 := Keeps.foldl h (fun x5 e6 h7 => State.doMove_keeps (hF.of rfl) h7)
  clear_value x3
  extract_lets +onlyGivenNames x8
  have h9 : Keeps F s0 x8 := State.updPart_keeps (hF.of rfl) h4
  clear_value x8
  extract_lets +onlyGivenNames x10 x11
  clear_value x10 x11
  exact Keeps.mkFst (Keeps.foldl h9 (fun x12 e13 h14 => State.normalise_keeps (hF.of rfl) h14))

theorem State.placeAll_keeps {F : Nat} {s0 s : State} {a1} (hF : Sub 0x390000007e2000000000000000020000000010004049b801f F) (h : Keeps F s0 s) :
    Keeps F s0 (State.placeAll s a1) := by
  unfold State.placeAll
  split
  rename_i z1 z2 z3 z4
  have h5 : Keeps F s0 z2 := by
    refine Keeps.ofFst z4 ?_
    refine Keeps.foldlFst (Keeps.mkFst h) (fun x6 e7 h8 => ?_)
    split
    rename_i z9 z10 z11 z12
    have h13 : Keeps F s0 z10 := Keeps.ofFst z12 (State.placeBoundary_keeps (hF.of rfl) h8)
    exact Keeps.mkFst h13
  refine State.wrFs_keeps (hF.of rfl) (R.EMB_PLACE_EPOCH_in (hF.of rfl)) ?_
  exact State.count_keeps (hF.of rfl) (R.CNT_EMB_in (hF.of rfl)) h5

end Sys2Proof.Machine
end

