-- ==== Sys2Proof/Laws/KeepsFar.lean ====
section
/-! SUPPORT. What the operations of Machine/Far.lean keep (Laws/Keeps.lean): one lemma for each. -/

namespace Sys2Proof.Machine

open Sys2Proof

theorem State.farRecord_keeps {F : Nat} {s0 s : State} {a1 a2 a3 a4 a5 a6} (hF : Sub 0x8 F) (h : Keeps F s0 s) :
    Keeps F s0 (State.farRecord s a1 a2 a3 a4 a5 a6) := by
  unfold State.farRecord
  extract_lets +onlyGivenNames x1
  clear_value x1
  exact State.updPart_keeps (hF.of rfl) h

theorem State.farPost_keeps {F : Nat} {s0 s : State} {a1} (hF : Sub 0x190000007e0000000000000000400000000000004049b800f F) (h : Keeps F s0 s) :
    Keeps F s0 (State.farPost s a1) := by
  unfold State.farPost
  split
  · exact h
  · refine Keeps.ite (fun _ => h) (fun _ => ?_)
    extract_lets +onlyGivenNames x1 x2 x3 x4
    clear_value x1 x2 x3 x4
    refine Keeps.ite (fun _ => ?_) (fun _ => ?_)
    · exact Keeps.ite (fun _ => h) (fun _ => State.event_keeps (hF.of rfl) (State.updPart_keeps (hF.of rfl) h))
    · extract_lets +onlyGivenNames x5
      have h6 : Keeps F s0 x5 := State.save_keeps (hF.of rfl) h
      clear_value x5
      extract_lets +onlyGivenNames x7
      have h8 : Keeps F s0 x7 := by
        exact State.wrF_keeps (hF.of rfl) (R.EMB_FAR_RING_PTR_in (hF.of rfl)) (State.updPart_keeps (hF.of rfl) h6)
      clear_value x7
      exact Keeps.ite (fun _ => State.event_keeps (hF.of rfl) h8) (fun _ => h8)

theorem State.farMiss_keeps {F : Nat} {s0 s : State} {a1 a2 a3 a4} (hF : Sub 0x2000000000000000000000000000000000000000000000009 F) (h : Keeps F s0 s) :
    Keeps F s0 (State.farMiss s a1 a2 a3 a4) := by
  unfold State.farMiss
  refine Keeps.ite (fun _ => h) (fun _ => ?_)
  refine State.count_keeps (hF.of rfl) (R.CNT_EMB_in (hF.of rfl)) ?_
  exact State.farRecord_keeps (hF.of rfl) (State.updPart_keeps (hF.of rfl) h)

theorem State.stage_keeps {F : Nat} {s0 s : State} {a1 a2 a3} (hF : Sub 0x380000000000000000000000000000000000000000000000f F) (h : Keeps F s0 s) :
    Keeps F s0 (State.stage s a1 a2 a3) := by
  unfold State.stage
  extract_lets +onlyGivenNames x1 x2
  clear_value x1 x2
  refine Keeps.ite (fun _ => ?_) (fun _ => ?_)
  · exact State.farRecord_keeps (hF.of rfl) (State.updPart_keeps (hF.of rfl) (State.saveN_keeps (hF.of rfl) h))
  · exact State.farRecord_keeps (hF.of rfl) (State.count_keeps (hF.of rfl) (R.CNT_EMB_in (hF.of rfl)) h)

theorem State.release_keeps {F : Nat} {s0 s : State} {a1 a2 a3 a4} (hF : Sub 0x2000000000000000000000000000000000000000000000009 F) (h : Keeps F s0 s) :
    Keeps F s0 (State.release s a1 a2 a3 a4) := by
  unfold State.release
  refine Keeps.ite (fun _ => ?_) (fun _ => State.updPart_keeps (hF.of rfl) h)
  exact State.count_keeps (hF.of rfl) (R.CNT_EMB_in (hF.of rfl)) h

theorem State.releaseOne_keeps {F : Nat} {s0 s : State} {a1 a2 a3 a4} (hF : Sub 0x380000000000000000000000000000000000000000000000f F) (h : Keeps F s0 s) :
    Keeps F s0 (State.releaseOne s a1 a2 a3 a4) := by
  unfold State.releaseOne
  refine Keeps.ite (fun _ => ?_) (fun _ => ?_)
  · exact State.farRecord_keeps (hF.of rfl) (State.count_keeps (hF.of rfl) (R.CNT_EMB_in (hF.of rfl)) h)
  · extract_lets +onlyGivenNames x1 x2 x3 x4
    clear_value x1 x2 x3 x4
    refine Keeps.ite (fun _ => ?_) (fun _ => ?_)
    · exact State.farRecord_keeps (hF.of rfl) (State.count_keeps (hF.of rfl) (R.CNT_EMB_in (hF.of rfl)) h)
    · refine Keeps.ite (fun _ => ?_) (fun _ => ?_)
      · exact State.farRecord_keeps (hF.of rfl) (State.count_keeps (hF.of rfl) (R.CNT_EMB_in (hF.of rfl)) h)
      · exact State.farRecord_keeps (hF.of rfl) (State.updPart_keeps (hF.of rfl) (State.saveN_keeps (hF.of rfl) h))

theorem State.releaseAll_keeps {F : Nat} {s0 s : State} {a1} (hF : Sub 0x380000000000000000000000000000000000000000000000f F) (h : Keeps F s0 s) :
    Keeps F s0 (State.releaseAll s a1) := by
  unfold State.releaseAll
  exact State.updPart_keeps (hF.of rfl) (Keeps.foldl h (fun x1 e2 h3 => State.releaseOne_keeps (hF.of rfl) h3))

theorem execFarRecordPost_keeps {F : Nat} {s0 s : State} {a1} (hF : Sub 0x190000007e0000000000000000400000000000004049b800f F) (h : Keeps F s0 s) :
    KeepsX F s0 (execFarRecordPost a1 s) := by
  unfold execFarRecordPost
  exact KeepsX.next (State.farPost_keeps (hF.of rfl) h)

theorem execRelease_keeps {F : Nat} {s0 s : State} {a1 a2 a3 a4} (hF : Sub 0x2000000000000000000000000000000000000000000000009 F) (h : Keeps F s0 s) :
    KeepsX F s0 (execRelease a1 a2 a3 a4 s) := by
  unfold execRelease
  exact KeepsX.next (State.release_keeps (hF.of rfl) h)

end Sys2Proof.Machine
end

