-- ==== Sys2Proof/Laws/KeepsLedger.lean ====
section
/-! SUPPORT. What the operations of Machine/Ledger.lean keep (Laws/Keeps.lean): one lemma for each. -/

namespace Sys2Proof.Machine

open Sys2Proof

theorem State.ldMark_keeps {F : Nat} {s0 s : State} {a1 a2 a3 a4} (hF : Sub 0x1800000000000000000000000000000000000000000000007 F) (h : Keeps F s0 s) :
    Keeps F s0 (State.ldMark s a1 a2 a3 a4) := by
  unfold State.ldMark
  exact State.saveN_keeps (hF.of rfl) (State.saveN_keeps (hF.of rfl) h)

theorem State.setInUse_keeps {F : Nat} {s0 s : State} {a1 a2} (hF : Sub 0x1800000000000000000000000000000000000000000000007 F) (h : Keeps F s0 s) :
    Keeps F s0 (State.setInUse s a1 a2) := by
  unfold State.setInUse
  extract_lets +onlyGivenNames x1
  have h2 : Keeps F s0 x1 := State.saveN_keeps (hF.of rfl) h
  clear_value x1
  exact Keeps.ite (fun _ => State.saveN_keeps (hF.of rfl) h2) (fun _ => h2)

theorem State.ldUnlink_keeps {F : Nat} {s0 s : State} {a1 a2 a3 a4} (hF : Sub 0x1800000000000000000000000000000000000000000000007 F) (h : Keeps F s0 s) :
    Keeps F s0 (State.ldUnlink s a1 a2 a3 a4) := by
  induction a3 generalizing s a1 a2 a4
  case zero =>
    rw [State.ldUnlink]
    exact h
  case succ k ih =>
    rw [State.ldUnlink]
    refine Keeps.ite (fun _ => State.saveN_keeps (hF.of rfl) h) (fun _ => ?_)
    refine Keeps.ite (fun _ => h) (fun _ => ?_)
    apply ih
    exact h

theorem State.ldFree_keeps {F : Nat} {s0 s : State} {a1 a2} (hF : Sub 0x1800000000000000000000000000000000000000000000007 F) (h : Keeps F s0 s) :
    Keeps F s0 (State.ldFree s a1 a2) := by
  unfold State.ldFree
  extract_lets +onlyGivenNames x1
  have h2 : Keeps F s0 x1 := State.ldUnlink_keeps (hF.of rfl) h
  clear_value x1
  exact State.setInUse_keeps (hF.of rfl) (State.save_keeps (hF.of rfl) h2)

theorem State.ldSetAccs_keeps {F : Nat} {s0 s : State} {a1 a2 a3} (hF : Sub 0x1800000000000000000000000000000000000000000000007 F) (h : Keeps F s0 s) :
    Keeps F s0 (State.ldSetAccs s a1 a2 a3) := by
  unfold State.ldSetAccs
  exact State.save_keeps (hF.of rfl) h

theorem State.ldTake_keeps {F : Nat} {s0 s : State} {a1 a2 a3 a4 a5} (hF : Sub 0x1800000000000000000000000000000000000000000000007 F) (h : Keeps F s0 s) :
    KeepsP F s0 (State.ldTake s a1 a2 a3 a4 a5) := by
  unfold State.ldTake
  split
  · exact KeepsP.none
  · extract_lets +onlyGivenNames x1 x2
    clear_value x1 x2
    extract_lets +onlyGivenNames x3
    have h4 : Keeps F s0 x3 := State.saveN_keeps (hF.of rfl) (State.save_keeps (hF.of rfl) h)
    clear_value x3
    exact KeepsP.some (State.ldSetAccs_keeps (hF.of rfl) (State.setInUse_keeps (hF.of rfl) h4))

theorem State.ledgerAdd_keeps {F : Nat} {s0 s : State} {a1 a2 a3 a4 a5 a6 a7 a8} (hF : Sub 0x190000007e2000000000000000000000000010004049b801f F) (h : Keeps F s0 s) :
    Keeps F s0 (State.ledgerAdd s a1 a2 a3 a4 a5 a6 a7 a8) := by
  unfold State.ledgerAdd
  split
  · exact State.raise_keeps (hF.of rfl) h
  · extract_lets +onlyGivenNames x1 x2
    clear_value x1 x2
    extract_lets +onlyGivenNames x3
    have h4 : KeepsP F s0 x3 := by
      unfold x3
      split
      · exact KeepsP.some h
      · exact State.ldTake_keeps (hF.of rfl) h
    clear_value x3
    split
    · exact State.raise_keeps (hF.of rfl) h
    · split
      refine State.count_keeps (hF.of rfl) (R.CNT_HBM_in (hF.of rfl)) ?_
      refine State.count_keeps (hF.of rfl) (R.CNT_HBM_in (hF.of rfl)) ?_
      exact State.ldSetAccs_keeps (hF.of rfl) (KeepsP.of' rfl h4)

theorem State.foldEntry_keeps {F : Nat} {s0 s : State} {a1 a2 a3} (hF : Sub 0x190000007e2000000000000000000000000010004049b801f F) (h : Keeps F s0 s) :
    Keeps F s0 (State.foldEntry s a1 a2 a3) := by
  unfold State.foldEntry
  extract_lets +onlyGivenNames x1
  have h2 : Keeps F s0 x1 := State.count_keeps (hF.of rfl) (R.CNT_HBM_in (hF.of rfl)) h
  clear_value x1
  split
  · exact State.saveN_keeps (hF.of rfl) h2
  · extract_lets +onlyGivenNames x3 x4
    clear_value x3 x4
    extract_lets +onlyGivenNames x5
    have h6 : Keeps F s0 x5 := Keeps.ite (fun _ => State.raise_keeps (hF.of rfl) h2) (fun _ => h2)
    clear_value x5
    exact State.ldFree_keeps (hF.of rfl) (State.ldSetAccs_keeps (hF.of rfl) h6)

theorem State.ledgerFold_keeps {F : Nat} {s0 s : State} {a1} (hF : Sub 0x190000007e2000000000000000000000000010004049b801f F) (h : Keeps F s0 s) :
    Keeps F s0 (State.ledgerFold s a1) := by
  unfold State.ledgerFold
  exact Keeps.foldl h (fun x1 e2 h3 => Keeps.foldl h3 (fun x4 e5 h6 => State.foldEntry_keeps (hF.of rfl) h6))

theorem State.ledgerDiscard_keeps {F : Nat} {s0 s : State} {a1} (hF : Sub 0x1800000000000000000000000000000000000000000000007 F) (h : Keeps F s0 s) :
    Keeps F s0 (State.ledgerDiscard s a1) := by
  unfold State.ledgerDiscard
  exact Keeps.foldl h (fun x1 e2 h3 => Keeps.foldl h3 (fun x4 e5 h6 => State.ldFree_keeps (hF.of rfl) h6))

theorem State.ledgerLapFree_keeps {F : Nat} {s0 s : State} {a1 a2} (hF : Sub 0x1800000000000000000000000000000000000000000000007 F) (h : Keeps F s0 s) :
    Keeps F s0 (State.ledgerLapFree s a1 a2) := by
  unfold State.ledgerLapFree
  exact Keeps.foldl h (fun x1 e2 h3 => Keeps.foldl h3 (fun x4 e5 h6 => State.ldFree_keeps (hF.of rfl) h6))

end Sys2Proof.Machine
end

