-- ==== Sys2Proof/Laws/KeepsAkcel.lean ====
section
/-! SUPPORT. What the operations of Machine/Akcel.lean keep (Laws/Keeps.lean): one lemma for each. -/

namespace Sys2Proof.Machine

open Sys2Proof

theorem State.saveBuf_keeps {F : Nat} {s0 s : State} {a1} (hF : Sub 0x11800000000000000000000000000000000000000000000007 F) (h : Keeps F s0 s) :
    Keeps F s0 (State.saveBuf s a1) := by
  unfold State.saveBuf
  refine Keeps.foldl h (fun x1 e2 h3 => ?_)
  split
  exact State.save_keeps (hF.of rfl) (State.snoop_keeps (hF.of rfl) h3)

theorem State.addLanes_keeps {F : Nat} {s0 s : State} {a1 a2 a3} (hF : Sub 0x200000000000000000000000009 F) (h : Keeps F s0 s) :
    Keeps F s0 (State.addLanes s a1 a2 a3) := by
  unfold State.addLanes
  split
  · exact Keeps.foldl h (fun x1 e2 h3 => State.wr_keeps (hF.of rfl) (R.GLB_WEIGHT_DIGEST_in (hF.of rfl)) h3)
  · exact State.updPart_keeps (hF.of rfl) h

theorem State.rehash_keeps {F : Nat} {s0 s : State} {a1 a2 a3 a4 a5 a6 a7} (hF : Sub 0x200000000000000000000000009 F) (h : Keeps F s0 s) :
    Keeps F s0 (State.rehash s a1 a2 a3 a4 a5 a6 a7) := by
  unfold State.rehash
  exact State.addLanes_keeps (hF.of rfl) h

theorem State.foldDelta_keeps {F : Nat} {s0 s : State} {a1 a2} (hF : Sub 0x200000000000000000000000009 F) (h : Keeps F s0 s) :
    Keeps F s0 (State.foldDelta s a1 a2) := by
  unfold State.foldDelta
  extract_lets +onlyGivenNames x1
  clear_value x1
  split
  · exact h
  · exact State.updPart_keeps (hF.of rfl) (State.addLanes_keeps (hF.of rfl) h)

theorem State.setActive_keeps {F : Nat} {s0 s : State} {a1 a2 a3} (hF : Sub 0x4000000000000000000000201 F) (h : Keeps F s0 s) :
    Keeps F s0 (State.setActive s a1 a2 a3) := by
  unfold State.setActive
  exact State.wrF_keeps (hF.of rfl) (R.AKC_ENGINES_in (hF.of rfl)) (Keeps.setPhys h (hF.of rfl))

theorem State.akcJoin_keeps {F : Nat} {s0 s : State} (hF : Sub 0x4000000000000000000000201 F) (h : Keeps F s0 s) :
    Keeps F s0 (State.akcJoin s) := by
  unfold State.akcJoin
  exact Keeps.foldl h (fun x1 e2 h3 => State.setActive_keeps (hF.of rfl) h3)

theorem State.fenceEngine_keeps {F : Nat} {s0 s : State} {a1 a2 a3} (hF : Sub 0x10000007e00000000000000c0000000000000004049b8209 F) (h : Keeps F s0 s) :
    Keeps F s0 (State.fenceEngine s a1 a2 a3) := by
  unfold State.fenceEngine
  extract_lets +onlyGivenNames x1
  clear_value x1
  refine Keeps.ite (fun _ => h) (fun _ => ?_)
  extract_lets +onlyGivenNames x2 x3
  clear_value x2 x3
  extract_lets +onlyGivenNames x4
  have h5 : Keeps F s0 x4 := State.wrF_keeps (hF.of rfl) (R.AKC_ENGINES_in (hF.of rfl)) h
  clear_value x4
  extract_lets +onlyGivenNames x6
  have h7 : Keeps F s0 x6 := State.wrF_keeps (hF.of rfl) (R.AKC_ENGINE_FENCE_in (hF.of rfl)) h5
  clear_value x6
  extract_lets +onlyGivenNames x8
  have h9 : Keeps F s0 x8 := State.event_keeps (hF.of rfl) (State.setActive_keeps (hF.of rfl) h7)
  clear_value x8
  exact Keeps.ite (fun _ => State.event_keeps (hF.of rfl) h9) (fun _ => h9)

theorem State.setPool_keeps {F : Nat} {s0 s : State} {a1 a2 a3} (hF : Sub 0x2000 F) (h : Keeps F s0 s) :
    Keeps F s0 (State.setPool s a1 a2 a3) := by
  exact h.setPools (hF.of rfl) (fun i => Sp.wf_set i _ _)

theorem State.akcRefuse_keeps {F : Nat} {s0 s : State} {a1 a2} (hF : Sub 0x10000007e2000000000000000000000000010004049b8019 F) (h : Keeps F s0 s) :
    Keeps F s0 (State.akcRefuse s a1 a2) := by
  unfold State.akcRefuse
  exact State.raise_keeps (hF.of rfl) h

theorem State.setSweeps_keeps {F : Nat} {s0 s : State} {a1 a2} (hF : Sub 0x20000000000000000000004001 F) (h : Keeps F s0 s) :
    Keeps F s0 (State.setSweeps s a1 a2) := by
  unfold State.setSweeps
  exact State.wrF_keeps (hF.of rfl) (R.AKC_SWEEP_STATUS_in (hF.of rfl)) (h.setSweeps (hF.of rfl) (fun i => Sp.wf_set i _ _))

theorem State.readParams_keeps {F : Nat} {s0 s : State} {a1 a2 a3} (hF : Sub 0x1190000007e2000000000000000000000000010004049b801d F) (h : Keeps F s0 s) :
    Keeps F s0 (State.readParams s a1 a2 a3).1 := by
  unfold State.readParams
  extract_lets +onlyGivenNames x1
  clear_value x1
  split
  · extract_lets +onlyGivenNames x2
    have h3 : Keeps F s0 x2 := State.sense_keeps (hF.of rfl) h
    clear_value x2
    extract_lets +onlyGivenNames x4
    clear_value x4
    refine Keeps.iteFst (fun _ => Keeps.mkFst h3) (fun _ => ?_)
    refine Keeps.iteFst (fun _ => ?_) (fun _ => Keeps.mkFst h3)
    extract_lets +onlyGivenNames x5
    clear_value x5
    split
    · extract_lets +onlyGivenNames x6
      have h7 : Keeps F s0 x6 := State.sense_keeps (hF.of rfl) h3
      clear_value x6
      exact Keeps.iteFst (fun _ => Keeps.mkFst h7) (fun _ => Keeps.mkFst h7)
    · exact Keeps.mkFst h3
  · exact Keeps.mkFst h

theorem State.poolDrop_keeps {F : Nat} {s0 s : State} {a1 a2} (hF : Sub 0x2000 F) (h : Keeps F s0 s) :
    Keeps F s0 (State.poolDrop s a1 a2) := by
  unfold State.poolDrop
  exact State.setPool_keeps (hF.of rfl) h

theorem State.takeUpdate_keeps {F : Nat} {s0 s : State} {a1 a2 a3} (hF : Sub 0x1190000007e2000000000000000000000000010004049ba01f F) (h : Keeps F s0 s) :
    Keeps F s0 (State.takeUpdate s a1 a2 a3) := by
  unfold State.takeUpdate
  extract_lets +onlyGivenNames x1 x2 x3 x4 x5 x6
  clear_value x1 x2 x3 x4 x5 x6
  refine Keeps.ite (fun _ => ?_) (fun _ => ?_)
  · exact State.setPool_keeps (hF.of rfl) (State.count_keeps (hF.of rfl) (R.CNT_HBM_in (hF.of rfl)) h)
  · extract_lets +onlyGivenNames x7
    clear_value x7
    extract_lets +onlyGivenNames x8
    have h9 : Keeps F s0 x8 := by
      unfold x8
      refine Keeps.ite (fun _ => h) (fun _ => ?_)
      exact State.saveN_keeps (hF.of rfl) (State.saveN_keeps (hF.of rfl) (State.saveN_keeps (hF.of rfl) h))
    clear_value x8
    split
    · rename_i z10 z11 z12
      have h13 : Keeps F s0 z11 := Keeps.ofFst z12 (State.readParams_keeps (hF.of rfl) h9)
      exact State.akcRefuse_keeps (hF.of rfl) (State.poolDrop_keeps (hF.of rfl) h13)
    · rename_i z14 z15 z16 z17 z18
      have h19 : Keeps F s0 z15 := Keeps.ofFst z18 (State.readParams_keeps (hF.of rfl) h9)
      extract_lets +onlyGivenNames x20
      clear_value x20
      exact State.setPool_keeps (hF.of rfl) h19

theorem State.takeSweep_keeps {F : Nat} {s0 s : State} {a1 a2 a3} (hF : Sub 0x1190000007e2000000000000200000000000010004049be01f F) (h : Keeps F s0 s) :
    Keeps F s0 (State.takeSweep s a1 a2 a3) := by
  unfold State.takeSweep
  extract_lets +onlyGivenNames x1 x2 x3
  clear_value x1 x2 x3
  refine Keeps.ite (fun _ => h) (fun _ => ?_)
  extract_lets +onlyGivenNames x4 x5
  clear_value x4 x5
  split
  · exact h
  · split
    · exact h
    · extract_lets +onlyGivenNames x6 x7
      clear_value x6 x7
      refine Keeps.ite (fun _ => State.setPool_keeps (hF.of rfl) h) (fun _ => ?_)
      split
      · rename_i z8 z9 z10
        have h11 : Keeps F s0 z9 := Keeps.ofFst z10 (State.readParams_keeps (hF.of rfl) h)
        exact State.akcRefuse_keeps (hF.of rfl) (State.poolDrop_keeps (hF.of rfl) h11)
      · rename_i z12 z13 z14 z15 z16
        have h17 : Keeps F s0 z13 := Keeps.ofFst z16 (State.readParams_keeps (hF.of rfl) h)
        extract_lets +onlyGivenNames x18
        have h19 : Keeps F s0 x18 := Keeps.foldl h17 (fun x20 e21 h22 => State.ldMark_keeps (hF.of rfl) h22)
        clear_value x18
        extract_lets +onlyGivenNames x23
        have h24 : Keeps F s0 x23 := State.setSweeps_keeps (hF.of rfl) h19
        clear_value x23
        exact State.setPool_keeps (hF.of rfl) (State.wrF_keeps (hF.of rfl) (R.AKC_SWEEP_STATUS_in (hF.of rfl)) h24)

theorem State.poolTake_keeps {F : Nat} {s0 s : State} {a1 a2} (hF : Sub 0x1190000007e2000000000000200000000000010004049be01f F) (h : Keeps F s0 s) :
    Keeps F s0 (State.poolTake s a1 a2) := by
  unfold State.poolTake
  split
  · exact h
  · refine Keeps.ite (fun _ => h) (fun _ => ?_)
    refine Keeps.ite (fun _ => State.raise_keeps (hF.of rfl) (State.setPool_keeps (hF.of rfl) h)) (fun _ => ?_)
    refine Keeps.ite (fun _ => State.takeUpdate_keeps (hF.of rfl) h) (fun _ => ?_)
    refine Keeps.ite (fun _ => State.takeSweep_keeps (hF.of rfl) h) (fun _ => ?_)
    exact Keeps.ite (fun _ => State.setPool_keeps (hF.of rfl) h) (fun _ => h)

theorem State.akcCmd_keeps {F : Nat} {s0 s : State} {a1 a2 a3} (hF : Sub 0x1190000007e2000000000000200000000000010004049be01f F) (h : Keeps F s0 s) :
    Keeps F s0 (State.akcCmd s a1 a2 a3) := by
  unfold State.akcCmd
  split
  · exact h
  · extract_lets +onlyGivenNames x1 x2
    clear_value x1 x2
    refine Keeps.ite (fun _ => h) (fun _ => ?_)
    refine Keeps.ite (fun _ => State.akcRefuse_keeps (hF.of rfl) (State.engStart_keeps (hF.of rfl) h)) (fun _ => ?_)
    refine Keeps.ite (fun _ => h) (fun _ => ?_)
    extract_lets +onlyGivenNames x3
    have h4 : Keeps F s0 x3 := State.engStart_keeps (hF.of rfl) h
    clear_value x3
    split
    · rename_i z5 z6 z7
      have h8 : Keeps F s0 z6 := Keeps.ofFst z7 (State.fetchDesc_keeps (hF.of rfl) h4)
      exact h8
    · rename_i z9 z10 z11 z12
      have h13 : Keeps F s0 z10 := Keeps.ofFst z12 (State.fetchDesc_keeps (hF.of rfl) h4)
      refine Keeps.ite (fun _ => State.akcRefuse_keeps (hF.of rfl) h13) (fun _ => ?_)
      extract_lets +onlyGivenNames x14
      have h15 : ∀ y1, Keeps F s0 y1 → Keeps F s0 (x14 y1) := by
        intro y16 y17
        unfold x14
        extract_lets +onlyGivenNames x18
        have h19 : Keeps F s0 x18 := State.setPool_keeps (hF.of rfl) y17
        clear_value x18
        exact State.poolTake_keeps (hF.of rfl) h19
      clear_value x14
      refine Keeps.ite (fun _ => ?_) (fun _ => ?_)
      · apply h15
        exact h13
      · split
        · exact State.unmappedErr_keeps (hF.of rfl) h13
        · exact State.refusedErr_keeps (hF.of rfl) h13
        · apply h15
          exact h13

theorem State.addNonfin_keeps {F : Nat} {s0 s : State} {a1 a2 a3 a4 a5} (hF : Sub 0x800000000000000000000000000000000000000000000009 F) (h : Keeps F s0 s) :
    Keeps F s0 (State.addNonfin s a1 a2 a3 a4 a5) := by
  unfold State.addNonfin
  refine Keeps.ite (fun _ => h) (fun _ => ?_)
  extract_lets +onlyGivenNames x1
  have h2 : Keeps F s0 x1 := State.count_keeps (hF.of rfl) (R.CNT_HBM_in (hF.of rfl)) h
  clear_value x1
  extract_lets +onlyGivenNames x3
  clear_value x3
  exact State.updPart_keeps (hF.of rfl) h2

theorem State.akcCounts_keeps {F : Nat} {s0 s : State} {a1 a2 a3 a4 a5 a6 a7} (hF : Sub 0x90000007e2000000000000000000000000010004049b8019 F) (h : Keeps F s0 s) :
    Keeps F s0 (State.akcCounts s a1 a2 a3 a4 a5 a6 a7) := by
  unfold State.akcCounts
  extract_lets +onlyGivenNames x1
  have h2 : Keeps F s0 x1 := by
    unfold x1
    refine State.count_keeps (hF.of rfl) (R.CNT_HBM_in (hF.of rfl)) ?_
    exact State.count_keeps (hF.of rfl) (R.CNT_HBM_in (hF.of rfl)) h
  clear_value x1
  extract_lets +onlyGivenNames x3
  have h4 : Keeps F s0 x3 := State.addNonfin_keeps (hF.of rfl) h2
  clear_value x3
  extract_lets +onlyGivenNames x5
  clear_value x5
  refine Keeps.ite (fun _ => h4) (fun _ => ?_)
  exact State.raise_keeps (hF.of rfl) (State.count_keeps (hF.of rfl) (R.CNT_HBM_in (hF.of rfl)) h4)

theorem State.doChunk_keeps {F : Nat} {s0 s : State} {a1 a2 a3 a4} (hF : Sub 0x1190000007e2000000000002000000000000010004049b801f F) (h : Keeps F s0 s) :
    Keeps F s0 (State.doChunk s a1 a2 a3 a4) := by
  unfold State.doChunk
  extract_lets +onlyGivenNames x1 x2 x3 x4 x5 x6 x7 x8 x9 x10 x11
  clear_value x1 x2 x3 x4 x5 x6 x7 x8 x9 x10 x11
  split
  split
  extract_lets +onlyGivenNames x12 x13 x14 x15
  clear_value x12 x13 x14 x15
  extract_lets +onlyGivenNames x16
  have h17 : Keeps F s0 x16 := Keeps.foldl h (fun x18 e19 h20 => State.sense_keeps (hF.of rfl) h20)
  clear_value x16
  extract_lets +onlyGivenNames x21 x22 x23
  clear_value x21 x22 x23
  split
  split
  extract_lets +onlyGivenNames x24 x25 x26 x27 x28 x29 x30 x31 x32 x33 x34
  clear_value x24 x25 x26 x27 x28 x29 x30 x31 x32 x33 x34
  split
  extract_lets +onlyGivenNames x35 x36 x37 x38 x39
  clear_value x35 x36 x37 x38 x39
  split
  split
  extract_lets +onlyGivenNames x40 x41 x42
  clear_value x40 x41 x42
  extract_lets +onlyGivenNames x43
  have h44 : Keeps F s0 x43 := Keeps.foldl h17 (fun x45 e46 h47 => State.saveBuf_keeps (hF.of rfl) h47)
  clear_value x43
  extract_lets +onlyGivenNames x48
  have h49 : Keeps F s0 x48 := Keeps.ite (fun _ => State.rehash_keeps (hF.of rfl) h44) (fun _ => h44)
  clear_value x48
  exact State.akcCounts_keeps (hF.of rfl) h49

theorem State.doRow_keeps {F : Nat} {s0 s : State} {a1 a2 a3 a4 a5 a6 a7 a8 a9 a10 a11} (hF : Sub 0x1190000007e2000000000002000000000000010004049b801f F) (h : Keeps F s0 s) :
    Keeps F s0 (State.doRow s a1 a2 a3 a4 a5 a6 a7 a8 a9 a10 a11) := by
  unfold State.doRow
  extract_lets +onlyGivenNames x1 x2 x3 x4
  clear_value x1 x2 x3 x4
  extract_lets +onlyGivenNames x5
  have h6 : Keeps F s0 x5 := State.sense_keeps (hF.of rfl) h
  clear_value x5
  extract_lets +onlyGivenNames x7
  have h8 : Keeps F s0 x7 := State.sense_keeps (hF.of rfl) h6
  clear_value x7
  extract_lets +onlyGivenNames x9 x10 x11 x12 x13 x14 x15 x16 x17 x18 x19 x20 x21 x22 x23 x24 x25 x26
  clear_value x9 x10 x11 x12 x13 x14 x15 x16 x17 x18 x19 x20 x21 x22 x23 x24 x25 x26
  split
  extract_lets +onlyGivenNames x27 x28
  clear_value x27 x28
  split
  extract_lets +onlyGivenNames x29 x30
  clear_value x29 x30
  split
  split
  extract_lets +onlyGivenNames x31 x32 x33
  clear_value x31 x32 x33
  extract_lets +onlyGivenNames x34
  have h35 : Keeps F s0 x34 := State.saveBuf_keeps (hF.of rfl) h8
  clear_value x34
  extract_lets +onlyGivenNames x36
  have h37 : Keeps F s0 x36 := Keeps.ite (fun _ => State.rehash_keeps (hF.of rfl) h35) (fun _ => h35)
  clear_value x36
  exact State.akcCounts_keeps (hF.of rfl) h37

theorem State.doEntry_keeps {F : Nat} {s0 s : State} {a1 a2 a3 a4} (hF : Sub 0x1390000007e2000000000002000000000000010004049b801f F) (h : Keeps F s0 s) :
    Keeps F s0 (State.doEntry s a1 a2 a3 a4).1 := by
  unfold State.doEntry
  extract_lets +onlyGivenNames x1
  clear_value x1
  split
  · exact Keeps.mkFst h
  · split
    · exact Keeps.mkFst h
    · extract_lets +onlyGivenNames x2 x3
      clear_value x2 x3
      extract_lets +onlyGivenNames x4
      have h5 : ∀ y1, Keeps F s0 (x4 y1) := by
        intro y6
        unfold x4
        split
        · exact State.ldMark_keeps (hF.of rfl) (State.doRow_keeps (hF.of rfl) h)
        · exact State.unmappedErr_keeps (hF.of rfl) h
        · exact State.refusedErr_keeps (hF.of rfl) h
      clear_value x4
      split
      · refine Keeps.mkFst ?_
        apply h5
      · refine Keeps.mkFst ?_
        refine State.saveN_keeps (hF.of rfl) ?_
        refine State.saveN_keeps (hF.of rfl) ?_
        apply h5
      · exact Keeps.mkFst (State.farMiss_keeps (hF.of rfl) h)
      · exact Keeps.mkFst h

theorem State.poolLost_keeps {F : Nat} {s0 s : State} {a1 a2 a3} (hF : Sub 0x10000007e2000000000000000000000000010004049ba019 F) (h : Keeps F s0 s) :
    Keeps F s0 (State.poolLost s a1 a2 a3) := by
  unfold State.poolLost
  refine Keeps.ite (fun _ => h) (fun _ => ?_)
  extract_lets +onlyGivenNames x1
  clear_value x1
  extract_lets +onlyGivenNames x2
  have h3 : Keeps F s0 x2 := State.setPool_keeps (hF.of rfl) h
  clear_value x2
  exact Keeps.foldl h3 (fun x4 e5 h6 => State.raise_keeps (hF.of rfl) h6)

theorem State.engineFail_keeps {F : Nat} {s0 s : State} {a1 a2 a3} (hF : Sub 0x90000007e20000000000000c0000000000010004049ba219 F) (h : Keeps F s0 s) :
    Keeps F s0 (State.engineFail s a1 a2 a3) := by
  unfold State.engineFail
  extract_lets +onlyGivenNames x1
  have h2 : Keeps F s0 x1 := State.raise_keeps (hF.of rfl) (State.count_keeps (hF.of rfl) (R.CNT_HBM_in (hF.of rfl)) h)
  clear_value x1
  exact State.poolLost_keeps (hF.of rfl) (State.fenceEngine_keeps (hF.of rfl) h2)

theorem State.chunkDone_keeps {F : Nat} {s0 s : State} {a1 a2 a3 a4} (hF : Sub 0x1390000007e20000000000020c0000000000010004049ba21f F) (h : Keeps F s0 s) :
    Keeps F s0 (State.chunkDone s a1 a2 a3 a4) := by
  unfold State.chunkDone
  split
  · exact h
  · refine Keeps.ite (fun _ => h) (fun _ => ?_)
    refine Keeps.ite (fun _ => State.engineFail_keeps (hF.of rfl) h) (fun _ => ?_)
    extract_lets +onlyGivenNames x1
    clear_value x1
    split
    rename_i z2 z3 z4 z5
    have h6 : Keeps F s0 z3 := by
      refine Keeps.ofFst z5 ?_
      refine Keeps.iteFst (fun _ => ?_) (fun _ => State.doEntry_keeps (hF.of rfl) h)
      exact Keeps.mkFst (State.saveN_keeps (hF.of rfl) (State.doChunk_keeps (hF.of rfl) h))
    refine Keeps.ite (fun _ => h6) (fun _ => ?_)
    extract_lets +onlyGivenNames x7
    clear_value x7
    extract_lets +onlyGivenNames x8
    have h9 : Keeps F s0 x8 := State.setPool_keeps (hF.of rfl) h6
    clear_value x8
    exact Keeps.ite (fun _ => State.saveN_keeps (hF.of rfl) h9) (fun _ => h9)

theorem State.akcComplete_keeps {F : Nat} {s0 s : State} {a1 a2} (hF : Sub 0x1990000007e2000000400000200000000000010004049be01f F) (h : Keeps F s0 s) :
    Keeps F s0 (State.akcComplete s a1 a2) := by
  unfold State.akcComplete
  split
  · exact h
  · refine Keeps.ite (fun _ => State.poolTake_keeps (hF.of rfl) h) (fun _ => ?_)
    extract_lets +onlyGivenNames x1
    have h2 : Keeps F s0 x1 := Keeps.ite (fun _ => h) (fun _ => State.saveN_keeps (hF.of rfl) h)
    clear_value x1
    exact State.poolTake_keeps (hF.of rfl) (State.cmdDone_keeps (hF.of rfl) (State.setPool_keeps (hF.of rfl) h2))

theorem State.akcDrain_keeps {F : Nat} {s0 s : State} {a1} (hF : Sub 0x1190000007e2000000000000200000000000010004049be01f F) (h : Keeps F s0 s) :
    Keeps F s0 (State.akcDrain s a1) := by
  unfold State.akcDrain
  refine Keeps.foldl h (fun x1 e2 h3 => ?_)
  extract_lets +onlyGivenNames x4 x5
  clear_value x4 x5
  extract_lets +onlyGivenNames x6
  have h7 : Keeps F s0 x6 := by
    exact Keeps.foldl h3 (fun x8 e9 h10 => Keeps.ite (fun _ => State.saveN_keeps (hF.of rfl) h10) (fun _ => h10))
  clear_value x6
  exact State.poolTake_keeps (hF.of rfl) (State.setPool_keeps (hF.of rfl) h7)

theorem State.sweepRow_keeps {F : Nat} {s0 s : State} {a1 a2 a3 a4} (hF : Sub 0x1190000007e20000000000022c0000000000010004049be21f F) (h : Keeps F s0 s) :
    Keeps F s0 (State.sweepRow s a1 a2 a3 a4) := by
  unfold State.sweepRow
  split
  · exact h
  · split
    · exact State.setSweeps_keeps (hF.of rfl) h
    · extract_lets +onlyGivenNames x1
      clear_value x1
      refine Keeps.ite (fun _ => h) (fun _ => ?_)
      refine Keeps.ite (fun _ => State.engineFail_keeps (hF.of rfl) h) (fun _ => ?_)
      extract_lets +onlyGivenNames x2
      clear_value x2
      extract_lets +onlyGivenNames x3
      have h4 : ∀ y1, Keeps F s0 y1 → Keeps F s0 (x3 y1) := by
        intro y5 y6
        unfold x3
        extract_lets +onlyGivenNames x7
        have h8 : Keeps F s0 x7 := State.setSweeps_keeps (hF.of rfl) y6
        clear_value x7
        extract_lets +onlyGivenNames x9
        have h10 : Keeps F s0 x9 := State.count_keeps (hF.of rfl) (R.CNT_HBM_in (hF.of rfl)) h8
        clear_value x9
        refine Keeps.ite (fun _ => ?_) (fun _ => h10)
        exact State.poolTake_keeps (hF.of rfl) (State.poolTake_keeps (hF.of rfl) h10)
      clear_value x3
      split
      · apply h4
        exact h
      · split
        · apply h4
          exact h
        · extract_lets +onlyGivenNames x11
          clear_value x11
          split
          · split
            · apply h4
              exact State.ldMark_keeps (hF.of rfl) (State.doRow_keeps (hF.of rfl) h)
            · exact State.unmappedErr_keeps (hF.of rfl) h
            · exact State.refusedErr_keeps (hF.of rfl) h
          · apply h4
            exact h

theorem State.hashGo_keeps {F : Nat} {s0 s : State} {a1 a2} (hF : Sub 0x100000000000000000000080000000000000000000000001 F) (h : Keeps F s0 s) :
    Keeps F s0 (State.hashGo s a1 a2) := by
  unfold State.hashGo
  refine Keeps.ite (fun _ => h) (fun _ => ?_)
  refine Keeps.ite (fun _ => State.regErr_keeps (hF.of rfl) h) (fun _ => ?_)
  extract_lets +onlyGivenNames x1
  have h2 : Keeps F s0 x1 := State.wrFs_keeps (hF.of rfl) (R.AKC_HASH_CTRL_in (hF.of rfl)) h
  clear_value x1
  refine Keeps.ite (fun _ => ?_) (fun _ => State.wrF_keeps (hF.of rfl) (R.AKC_HASH_CTRL_in (hF.of rfl)) h2)
  exact State.wrFs_keeps (hF.of rfl) (R.AKC_HASH_CTRL_in (hF.of rfl)) h2

theorem State.hashEnd_keeps {F : Nat} {s0 s : State} {a1 a2} (hF : Sub 0x1190000007e2000000000002800000000000010004049b801d F) (h : Keeps F s0 s) :
    Keeps F s0 (State.hashEnd s a1 a2) := by
  unfold State.hashEnd
  refine Keeps.ite (fun _ => h) (fun _ => ?_)
  extract_lets +onlyGivenNames x1
  have h2 : ∀ y1 y2, Keeps F s0 y1 → Keeps F s0 (x1 y1 y2) := by
    intro y3 y4 y5
    unfold x1
    exact State.wrFs_keeps (hF.of rfl) (R.AKC_HASH_CTRL_in (hF.of rfl)) y5
  clear_value x1
  extract_lets +onlyGivenNames x6 x7
  clear_value x6 x7
  refine Keeps.ite (fun _ => ?_) (fun _ => ?_)
  · apply h2
    exact h
  · extract_lets +onlyGivenNames x8
    have h9 : Keeps F s0 x8 := State.sense_keeps (hF.of rfl) h
    clear_value x8
    extract_lets +onlyGivenNames x10 x11
    clear_value x10 x11
    refine Keeps.ite (fun _ => ?_) (fun _ => ?_)
    · apply h2
      exact h9
    · refine Keeps.ite (fun _ => ?_) (fun _ => ?_)
      · apply h2
        exact h9
      · extract_lets +onlyGivenNames x12
        clear_value x12
        refine Keeps.ite (fun _ => ?_) (fun _ => ?_)
        · apply h2
          exact h9
        · extract_lets +onlyGivenNames x13
          extract_lets +onlyGivenNames x14
          have h15 : Keeps F s0 x14 := by
            unfold x14
            refine Keeps.foldl h9 (fun x16 e17 h18 => ?_)
            extract_lets +onlyGivenNames x19
            have h20 : Keeps F s0 x19 := State.sense_keeps (hF.of rfl) h18
            clear_value x19
            extract_lets +onlyGivenNames x21
            clear_value x21
            exact State.addLanes_keeps (hF.of rfl) h20
          clear_value x14
          apply h2
          exact h15

theorem execUpdate_keeps {F : Nat} {s0 s : State} {a1 a2 a3} (hF : Sub 0x1190000007e2000000000000200000000000010004049be01f F) (h : Keeps F s0 s) :
    KeepsX F s0 (execUpdate a1 a2 a3 s) := by
  unfold execUpdate
  exact KeepsX.next (State.akcCmd_keeps (hF.of rfl) (State.plant_keeps (hF.of rfl) h))

theorem execSweep_keeps {F : Nat} {s0 s : State} {a1 a2 a3} (hF : Sub 0x1190000007e2000000000000200000000000010004049be01f F) (h : Keeps F s0 s) :
    KeepsX F s0 (execSweep a1 a2 a3 s) := by
  unfold execSweep
  exact KeepsX.next (State.akcCmd_keeps (hF.of rfl) (State.plant_keeps (hF.of rfl) h))

theorem execDrain_keeps {F : Nat} {s0 s : State} {a1 a2 a3} (hF : Sub 0x1190000007e2000000000000200000000000010004049be01f F) (h : Keeps F s0 s) :
    KeepsX F s0 (execDrain a1 a2 a3 s) := by
  unfold execDrain
  exact KeepsX.next (State.akcCmd_keeps (hF.of rfl) (State.plant_keeps (hF.of rfl) h))

theorem execAkcChunkDone_keeps {F : Nat} {s0 s : State} {a1 a2 a3 a4 a5} (hF : Sub 0x1390000007e20000000000020c0000000000010004049ba21f F) (h : Keeps F s0 s) :
    KeepsX F s0 (execAkcChunkDone a1 a2 a3 a4 a5 s) := by
  unfold execAkcChunkDone
  exact KeepsX.next (State.chunkDone_keeps (hF.of rfl) (State.plant_keeps (hF.of rfl) h))

theorem execAkcCmdComplete_keeps {F : Nat} {s0 s : State} {a1 a2} (hF : Sub 0x1990000007e2000000400000200000000000010004049be01f F) (h : Keeps F s0 s) :
    KeepsX F s0 (execAkcCmdComplete a1 a2 s) := by
  unfold execAkcCmdComplete
  exact KeepsX.next (State.akcComplete_keeps (hF.of rfl) h)

theorem State.writeEngineFence_keeps {F : Nat} {s0 s : State} {a1 a2} (hF : Sub 0x10000007e20000000000000c0000000000010004049ba219 F) (h : Keeps F s0 s) :
    Keeps F s0 (State.writeEngineFence s a1 a2) := by
  unfold State.writeEngineFence
  refine Keeps.foldl h (fun x1 e2 h3 => ?_)
  refine Keeps.ite (fun _ => h3) (fun _ => ?_)
  refine Keeps.ite (fun _ => ?_) (fun _ => ?_)
  · exact State.poolLost_keeps (hF.of rfl) (State.fenceEngine_keeps (hF.of rfl) h3)
  · exact State.poolLost_keeps (hF.of rfl) (State.fenceEngine_keeps (hF.of rfl) h3)

theorem execAkcEngineFenceWrite_keeps {F : Nat} {s0 s : State} {a1 a2} (hF : Sub 0x10000007e20000000000000c0000000000010004049ba219 F) (h : Keeps F s0 s) :
    KeepsX F s0 (execAkcEngineFenceWrite a1 a2 s) := by
  unfold execAkcEngineFenceWrite
  exact KeepsX.next (Keeps.ite (fun _ => State.writeEngineFence_keeps (hF.of rfl) h) (fun _ => h))

theorem execHashGo_keeps {F : Nat} {s0 s : State} {a1 a2} (hF : Sub 0x100000000000000000000080000000000000000000000001 F) (h : Keeps F s0 s) :
    KeepsX F s0 (execHashGo a1 a2 s) := by
  unfold execHashGo
  exact KeepsX.next (State.hashGo_keeps (hF.of rfl) h)

theorem execHashEnd_keeps {F : Nat} {s0 s : State} {a1 a2 a3} (hF : Sub 0x1190000007e2000000000002800000000000010004049b801d F) (h : Keeps F s0 s) :
    KeepsX F s0 (execHashEnd a1 a2 a3 s) := by
  unfold execHashEnd
  exact KeepsX.next (State.hashEnd_keeps (hF.of rfl) (State.plant_keeps (hF.of rfl) h))

end Sys2Proof.Machine
end

