-- ==== Sys2Proof/Laws/KeepsBackfill.lean ====
section
/-! SUPPORT. What the operations of Machine/Backfill.lean keep (Laws/Keeps.lean): one lemma for each. -/

namespace Sys2Proof.Machine

open Sys2Proof

theorem State.bfReject_keeps {F : Nat} {s0 s : State} {a1} (hF : Sub 0x400000000000000000000000000000000000000000000001 F) (h : Keeps F s0 s) :
    Keeps F s0 (State.bfReject s a1) := by
  unfold State.bfReject
  exact State.count_keeps (hF.of rfl) (R.CNT_CLU_in (hF.of rfl)) h

theorem State.bfTaskWrite_keeps {F : Nat} {s0 s : State} {a1 a2 a3} (hF : Sub 0x400000000000000000000000000000800000000000000041 F) (h : Keeps F s0 s) :
    Keeps F s0 (State.bfTaskWrite s a1 a2 a3) := by
  unfold State.bfTaskWrite
  refine Keeps.ite (fun _ => State.bfReject_keeps (hF.of rfl) h) (fun _ => ?_)
  extract_lets +onlyGivenNames x1 x2
  clear_value x1 x2
  exact State.syncBf_keeps (hF.of rfl) (State.updHub_keeps (hF.of rfl) h)

theorem State.bfLoadDone_keeps {F : Nat} {s0 s : State} {a1 a2 a3} (hF : Sub 0x800000000000000041 F) (h : Keeps F s0 s) :
    Keeps F s0 (State.bfLoadDone s a1 a2 a3) := by
  unfold State.bfLoadDone
  exact State.updHub_keeps (hF.of rfl) (State.wrFs_keeps (hF.of rfl) (R.CLU_BF_STATUS_in (hF.of rfl)) h)

theorem State.bfLoadGo_keeps {F : Nat} {s0 s : State} {a1 a2 a3} (hF : Sub 0x100000000000000000000000000000c00000000000000041 F) (h : Keeps F s0 s) :
    Keeps F s0 (State.bfLoadGo s a1 a2 a3) := by
  unfold State.bfLoadGo
  refine Keeps.ite (fun _ => State.regErr_keeps (hF.of rfl) h) (fun _ => ?_)
  extract_lets +onlyGivenNames x1 x2 x3
  clear_value x1 x2 x3
  extract_lets +onlyGivenNames x4
  have h5 : Keeps F s0 x4 := State.wr_keeps (hF.of rfl) (R.CLU_BF_LOAD_CTRL_in (hF.of rfl)) h
  clear_value x4
  extract_lets +onlyGivenNames x6
  have h7 : Keeps F s0 x6 := State.wrFs_keeps (hF.of rfl) (R.CLU_BF_STATUS_in (hF.of rfl)) h5
  clear_value x6
  refine Keeps.ite (fun _ => State.bfLoadDone_keeps (hF.of rfl) h7) (fun _ => ?_)
  refine Keeps.ite (fun _ => State.bfLoadDone_keeps (hF.of rfl) h7) (fun _ => ?_)
  extract_lets +onlyGivenNames x8
  clear_value x8
  exact State.updHub_keeps (hF.of rfl) (State.wrF_keeps (hF.of rfl) (R.CLU_BF_STATUS_in (hF.of rfl)) h7)

theorem State.bfLoadEnd_keeps {F : Nat} {s0 s : State} {a1 a2} (hF : Sub 0x1190000007e2000000000000000000008000010004049b807d F) (h : Keeps F s0 s) :
    Keeps F s0 (State.bfLoadEnd s a1 a2) := by
  unfold State.bfLoadEnd
  split
  · exact h
  · extract_lets +onlyGivenNames x1
    clear_value x1
    refine Keeps.ite (fun _ => State.bfLoadDone_keeps (hF.of rfl) h) (fun _ => ?_)
    split
    · exact State.bfLoadDone_keeps (hF.of rfl) (State.unmappedErr_keeps (hF.of rfl) h)
    · exact State.bfLoadDone_keeps (hF.of rfl) (State.refusedErr_keeps (hF.of rfl) h)
    · extract_lets +onlyGivenNames x2
      have h3 : Keeps F s0 x2 := State.sense_keeps (hF.of rfl) h
      clear_value x2
      refine Keeps.ite (fun _ => State.bfLoadDone_keeps (hF.of rfl) h3) (fun _ => ?_)
      extract_lets +onlyGivenNames x4
      clear_value x4
      extract_lets +onlyGivenNames x5
      have h6 : Keeps F s0 x5 := Keeps.foldl h3 (fun x7 e8 h9 => State.updCore_keeps (hF.of rfl) h9)
      clear_value x5
      exact State.bfLoadDone_keeps (hF.of rfl) h6

theorem State.bfDispatch_keeps {F : Nat} {s0 s : State} {a1 a2} (hF : Sub 0x400000000000000000000000000000800000000000000061 F) (h : Keeps F s0 s) :
    Keeps F s0 (State.bfDispatch s a1 a2) := by
  unfold State.bfDispatch
  split
  · exact h
  · extract_lets +onlyGivenNames x1
    have h2 : Keeps F s0 x1 := State.updHub_keeps (hF.of rfl) h
    clear_value x1
    extract_lets +onlyGivenNames x3
    have h4 : Keeps F s0 x3 := by
      unfold x3
      refine Keeps.foldl h2 (fun x5 e6 h7 => ?_)
      extract_lets +onlyGivenNames x8 x9
      clear_value x8 x9
      exact State.updCore_keeps (hF.of rfl) h7
    clear_value x3
    exact State.syncBf_keeps (hF.of rfl) (State.count_keeps (hF.of rfl) (R.CNT_CLU_in (hF.of rfl)) h4)

theorem State.bfTaskComplete_keeps {F : Nat} {s0 s : State} {a1 a2 a3 a4} (hF : Sub 0x8000000000001000e1 F) (h : Keeps F s0 s) :
    Keeps F s0 (State.bfTaskComplete s a1 a2 a3 a4) := by
  unfold State.bfTaskComplete
  split
  · exact h
  · exact State.syncBf_keeps (hF.of rfl) (State.bfRemove_keeps (hF.of rfl) (State.bfComplete_keeps (hF.of rfl) h))

theorem execBfTaskWrite_keeps {F : Nat} {s0 s : State} {a1 a2 a3} (hF : Sub 0x400000000000000000000000000000800000000000000041 F) (h : Keeps F s0 s) :
    KeepsX F s0 (execBfTaskWrite a1 a2 a3 s) := by
  unfold execBfTaskWrite
  exact KeepsX.next (State.bfTaskWrite_keeps (hF.of rfl) h)

theorem execBfLoadGo_keeps {F : Nat} {s0 s : State} {a1 a2 a3} (hF : Sub 0x100000000000000000000000000000c00000000000000041 F) (h : Keeps F s0 s) :
    KeepsX F s0 (execBfLoadGo a1 a2 a3 s) := by
  unfold execBfLoadGo
  exact KeepsX.next (State.bfLoadGo_keeps (hF.of rfl) h)

theorem execBackfillDispatch_keeps {F : Nat} {s0 s : State} {a1 a2} (hF : Sub 0x400000000000000000000000000000800000000000000061 F) (h : Keeps F s0 s) :
    KeepsX F s0 (execBackfillDispatch a1 a2 s) := by
  unfold execBackfillDispatch
  exact KeepsX.next (State.bfDispatch_keeps (hF.of rfl) h)

theorem execBackfillTaskComplete_keeps {F : Nat} {s0 s : State} {a1 a2 a3 a4} (hF : Sub 0x8000000000001000e1 F) (h : Keeps F s0 s) :
    KeepsX F s0 (execBackfillTaskComplete a1 a2 a3 a4 s) := by
  unfold execBackfillTaskComplete
  exact KeepsX.next (State.bfTaskComplete_keeps (hF.of rfl) h)

theorem execRestRunEnd_keeps {F : Nat} {s0 s : State} {a1} (hF : Sub 0x1d0000007e200000000000000000000880001000c049b80ff F) (h : Keeps F s0 s) :
    KeepsX F s0 (execRestRunEnd a1 s) := by
  unfold execRestRunEnd
  exact KeepsX.next (State.restRunEnd_keeps (hF.of rfl) h)

end Sys2Proof.Machine
end

