-- ==== Sys2Proof/Laws/KeepsCalib.lean ====
section
/-! SUPPORT. What the operations of Machine/Calib.lean keep (Laws/Keeps.lean): one lemma for each. -/

namespace Sys2Proof.Machine

open Sys2Proof

theorem State.calFoldCore_keeps {F : Nat} {s0 s : State} {a1 a2} (hF : Sub 0x28 F) (h : Keeps F s0 s) :
    Keeps F s0 (State.calFoldCore s a1 a2) := by
  unfold State.calFoldCore
  extract_lets +onlyGivenNames x1
  have h2 : Keeps F s0 x1 := by
    unfold x1
    refine Keeps.foldl h (fun x3 e4 h5 => ?_)
    extract_lets +onlyGivenNames x6
    clear_value x6
    exact Keeps.ite (fun _ => h5) (fun _ => State.updPart_keeps (hF.of rfl) h5)
  clear_value x1
  exact State.updCore_keeps (hF.of rfl) h2

theorem State.calOne_keeps {F : Nat} {s0 s : State} {a1 a2} (hF : Sub 0x1190000007e2000000000000000000000000010004049b801f F) (h : Keeps F s0 s) :
    Keeps F s0 (State.calOne s a1 a2) := by
  unfold State.calOne
  extract_lets +onlyGivenNames x1 x2 x3
  clear_value x1 x2 x3
  extract_lets +onlyGivenNames x4
  have h5 : ∀ y1, Keeps F s0 y1 → Keeps F s0 (x4 y1) := by
    intro y6 y7
    unfold x4
    exact State.raise_keeps (hF.of rfl) y7
  clear_value x4
  split
  · apply h5
    exact State.unmappedErr_keeps (hF.of rfl) h
  · apply h5
    exact h
  · extract_lets +onlyGivenNames x8
    have h9 : Keeps F s0 x8 := State.sense_keeps (hF.of rfl) h
    clear_value x8
    refine Keeps.ite (fun _ => ?_) (fun _ => ?_)
    · apply h5
      exact h9
    · extract_lets +onlyGivenNames x10
      clear_value x10
      refine Keeps.ite (fun _ => h9) (fun _ => ?_)
      refine Keeps.ite (fun _ => State.event_keeps (hF.of rfl) h9) (fun _ => ?_)
      extract_lets +onlyGivenNames x11 x12 x13 x14 x15 x16 x17 x18 x19
      clear_value x11 x12 x13 x14 x15 x16 x17 x18 x19
      refine Keeps.ite (fun _ => State.save_keeps (hF.of rfl) h9) (fun _ => ?_)
      extract_lets +onlyGivenNames x20 x21 x22
      clear_value x20 x21 x22
      refine Keeps.ite (fun _ => ?_) (fun _ => ?_)
      · apply h5
        exact h9
      · extract_lets +onlyGivenNames x23
        have h24 : Keeps F s0 x23 := State.saveN_keeps (hF.of rfl) h9
        clear_value x23
        extract_lets +onlyGivenNames x25 x26 x27
        clear_value x25 x26 x27
        split
        split
        extract_lets +onlyGivenNames x28 x29 x30 x31 x32 x33 x34 x35 x36
        clear_value x28 x29 x30 x31 x32 x33 x34 x35 x36
        extract_lets +onlyGivenNames x37
        have h38 : Keeps F s0 x37 := State.save_keeps (hF.of rfl) h24
        clear_value x37
        exact Keeps.ite (fun _ => State.event_keeps (hF.of rfl) h38) (fun _ => h38)

theorem State.calStep_keeps {F : Nat} {s0 s : State} {a1} (hF : Sub 0x1190000007e2000000000000000000200000010004049b801f F) (h : Keeps F s0 s) :
    Keeps F s0 (State.calStep s a1) := by
  unfold State.calStep
  extract_lets +onlyGivenNames x1 x2
  clear_value x1 x2
  extract_lets +onlyGivenNames x3
  have h4 : Keeps F s0 x3 := Keeps.foldl h (fun x5 e6 h7 => State.calOne_keeps (hF.of rfl) h7)
  clear_value x3
  extract_lets +onlyGivenNames x8 x9
  clear_value x8 x9
  extract_lets +onlyGivenNames x10
  have h11 : Keeps F s0 x10 := State.updPart_keeps (hF.of rfl) h4
  clear_value x10
  exact Keeps.ite (fun _ => h11) (fun _ => State.wrFs_keeps (hF.of rfl) (R.SEQ_CAL_STATUS_in (hF.of rfl)) h11)

end Sys2Proof.Machine
end

