-- ==== Sys2Proof/Laws/KeepsPacket.lean ====
section
/-! SUPPORT. What the operations of Machine/Packet.lean keep (Laws/Keeps.lean): one lemma for each. -/

namespace Sys2Proof.Machine

open Sys2Proof

theorem State.setPort_keeps {F : Nat} {s0 s : State} {a1 a2} (hF : Sub 0x8000000 F) (h : Keeps F s0 s) :
    Keeps F s0 (State.setPort s a1 a2) := by
  exact h.setPorts (hF.of rfl) (fun i => Sp.wf_set i _ _)

theorem State.updPort_keeps {F : Nat} {s0 s : State} {a1 a2} (hF : Sub 0x8000000 F) (h : Keeps F s0 s) :
    Keeps F s0 (State.updPort s a1 a2) := by
  unfold State.updPort
  exact State.setPort_keeps (hF.of rfl) h

theorem State.standin_keeps {F : Nat} {s0 s : State} {a1 a2} (hF : Sub 0x10000007e0000000000000000000000000000004049b8009 F) (h : Keeps F s0 s) :
    Keeps F s0 (State.standin s a1 a2).1 := by
  unfold State.standin
  refine Keeps.foldlFst (Keeps.mkFst h) (fun x1 e2 h3 => ?_)
  extract_lets +onlyGivenNames x4
  have h5 : Keeps F s0 x4 := h3
  clear_value x4
  refine Keeps.iteFst (fun _ => h3) (fun _ => ?_)
  exact Keeps.iteFst (fun _ => Keeps.mkFst (State.event_keeps (hF.of rfl) h5)) (fun _ => Keeps.mkFst h5)

theorem State.usable_keeps {F : Nat} {s0 s : State} {a1 a2} (hF : Sub 0x10000007e0000000000000000000000000000004049b8009 F) (h : Keeps F s0 s) :
    Keeps F s0 (State.usable s a1 a2).1 := by
  unfold State.usable
  extract_lets +onlyGivenNames x1
  clear_value x1
  split
  · rename_i z2 z3 z4 z5
    have h6 : Keeps F s0 z3 := Keeps.ofFst z5 (State.standin_keeps (hF.of rfl) h)
    exact Keeps.mkFst h6
  · rename_i z7 z8 z9
    have h10 : Keeps F s0 z8 := Keeps.ofFst z9 (State.standin_keeps (hF.of rfl) h)
    exact Keeps.mkFst h10

theorem State.queueOn_keeps {F : Nat} {s0 s : State} {a1 a2 a3} (hF : Sub 0x408000000 F) (h : Keeps F s0 s) :
    Keeps F s0 (State.queueOn s a1 a2 a3) := by
  unfold State.queueOn
  refine Keeps.ite (fun _ => State.updPort_keeps (hF.of rfl) h) (fun _ => ?_)
  exact State.emit_keeps (hF.of rfl) (State.updPort_keeps (hF.of rfl) h)

theorem State.unroutable_keeps {F : Nat} {s0 s : State} {a1 a2} (hF : Sub 0x810000007e0000000000000000000000000000004049b8009 F) (h : Keeps F s0 s) :
    Keeps F s0 (State.unroutable s a1 a2) := by
  unfold State.unroutable
  exact State.event_keeps (hF.of rfl) (State.count_keeps (hF.of rfl) (R.CNT_RLY_in (hF.of rfl)) h)

theorem State.hopOn_keeps {F : Nat} {s0 s : State} {a1 a2 a3 a4 a5} (hF : Sub 0x8000000000000000000000000000000000000000408000001 F) (h : Keeps F s0 s) :
    Keeps F s0 (State.hopOn s a1 a2 a3 a4 a5) := by
  unfold State.hopOn
  extract_lets +onlyGivenNames x1
  clear_value x1
  extract_lets +onlyGivenNames x2
  extract_lets +onlyGivenNames x3
  have h4 : Keeps F s0 x3 := Keeps.ite (fun _ => h) (fun _ => State.count_keeps (hF.of rfl) (R.CNT_RLY_in (hF.of rfl)) h)
  clear_value x3
  exact State.queueOn_keeps (hF.of rfl) h4

theorem State.route_keeps {F : Nat} {s0 s : State} {a1} (hF : Sub 0x810000007e00000000000000000000000000000040c9b8009 F) (h : Keeps F s0 s) :
    Keeps F s0 (State.route s a1) := by
  unfold State.route
  extract_lets +onlyGivenNames x1 x2
  clear_value x1 x2
  refine Keeps.ite (fun _ => State.queueOn_keeps (hF.of rfl) h) (fun _ => ?_)
  extract_lets +onlyGivenNames x3 x4 x5 x6 x7 x8 x9 x10
  clear_value x3 x4 x5 x6 x7 x8 x9 x10
  refine Keeps.ite (fun _ => State.unroutable_keeps (hF.of rfl) h) (fun _ => ?_)
  split
  · exact State.queueOn_keeps (hF.of rfl) h
  · split
    · rename_i z11 z12 z13 z14
      have h15 : Keeps F s0 z12 := Keeps.ofFst z14 (State.usable_keeps (hF.of rfl) h)
      exact State.hopOn_keeps (hF.of rfl) h15
    · rename_i z16 z17 z18
      have h19 : Keeps F s0 z17 := Keeps.ofFst z18 (State.usable_keeps (hF.of rfl) h)
      refine Keeps.ite (fun _ => State.unroutable_keeps (hF.of rfl) h19) (fun _ => ?_)
      extract_lets +onlyGivenNames x20
      have h21 : Keeps F s0 x20 := State.count_keeps (hF.of rfl) (R.CNT_RLY_in (hF.of rfl)) h19
      clear_value x20
      split
      · rename_i z22 z23 z24 z25
        have h26 : Keeps F s0 z23 := Keeps.ofFst z25 (State.usable_keeps (hF.of rfl) h21)
        exact State.hopOn_keeps (hF.of rfl) h26
      · rename_i z27 z28 z29
        have h30 : Keeps F s0 z28 := Keeps.ofFst z29 (State.usable_keeps (hF.of rfl) h21)
        exact State.unroutable_keeps (hF.of rfl) h30

theorem State.sendVc_keeps {F : Nat} {s0 s : State} {a1 a2 a3 a4 a5 a6 a7 a8 a9 a10 a11 a12} (hF : Sub 0x810000007e00000000000000000000000000000040c9b8009 F) (h : Keeps F s0 s) :
    Keeps F s0 (State.sendVc s a1 a2 a3 a4 a5 a6 a7 a8 a9 a10 a11 a12) := by
  unfold State.sendVc
  extract_lets +onlyGivenNames x1 x2 x3
  clear_value x1 x2 x3
  exact State.route_keeps (hF.of rfl) h

theorem State.sendPkt_keeps {F : Nat} {s0 s : State} {a1 a2 a3 a4 a5 a6 a7 a8 a9} (hF : Sub 0x810000007e00000000000000000000000000000040c9b8009 F) (h : Keeps F s0 s) :
    Keeps F s0 (State.sendPkt s a1 a2 a3 a4 a5 a6 a7 a8 a9) := by
  unfold State.sendPkt
  exact State.sendVc_keeps (hF.of rfl) h

end Sys2Proof.Machine
end

