-- ==== Sys2Proof/Laws/KeepsGun.lean ====
section
/-! SUPPORT. What the operations of Machine/Gun.lean keep (Laws/Keeps.lean): one lemma for each. -/

namespace Sys2Proof.Machine

open Sys2Proof

theorem State.snapshot_keeps {F : Nat} {s0 s : State} (hF : Sub 0x1000000001 F) (h : Keeps F s0 s) :
    Keeps F s0 (State.snapshot s) := by
  exact h.setRegs (hF.of rfl) (fun i => Sp.sorted_putAll (Sp.sorted_filter i _) (· + imageOff))

theorem State.gunMissed_keeps {F : Nat} {s0 s : State} {a1 a2} (hF : Sub 0x2010400007e0000000000000000000000000000004049b8009 F) (h : Keeps F s0 s) :
    Keeps F s0 (State.gunMissed s a1 a2) := by
  unfold State.gunMissed
  refine State.event_keeps (hF.of rfl) ?_
  refine State.count_keeps (hF.of rfl) (R.CNT_TEL_in (hF.of rfl)) ?_
  exact State.wrF_keeps (hF.of rfl) (R.TEL_GUN_STATUS_in (hF.of rfl)) h

theorem State.gunFire_keeps {F : Nat} {s0 s : State} (hF : Sub 0x10c00007e0000000000000000000000000000014049b8009 F) (h : Keeps F s0 s) :
    Keeps F s0 (State.gunFire s) := by
  unfold State.gunFire
  extract_lets +onlyGivenNames x1
  have h2 : Keeps F s0 x1 := State.snapshot_keeps (hF.of rfl) h
  clear_value x1
  extract_lets +onlyGivenNames x3
  clear_value x3
  extract_lets +onlyGivenNames x4
  have h5 : Keeps F s0 x4 := State.wr_keeps (hF.of rfl) (R.TEL_GUN_FIRE_TIME_in (hF.of rfl)) h2
  clear_value x4
  extract_lets +onlyGivenNames x6
  have h7 : Keeps F s0 x6 := State.wrFs_keeps (hF.of rfl) (R.TEL_GUN_STATUS_in (hF.of rfl)) h5
  clear_value x6
  extract_lets +onlyGivenNames x8
  have h9 : Keeps F s0 x8 := Keeps.ite (fun _ => State.emit_keeps (hF.of rfl) h7) (fun _ => h7)
  clear_value x8
  exact State.event_keeps (hF.of rfl) h9

theorem State.gunTick_keeps {F : Nat} {s0 s : State} {a1 a2} (hF : Sub 0x2010c00007e0000000000000000000000000000014049b8009 F) (h : Keeps F s0 s) :
    Keeps F s0 (State.gunTick s a1 a2) := by
  unfold State.gunTick
  extract_lets +onlyGivenNames x1
  clear_value x1
  refine Keeps.ite (fun _ => h) (fun _ => ?_)
  extract_lets +onlyGivenNames x2
  extract_lets +onlyGivenNames x3
  clear_value x3
  extract_lets +onlyGivenNames x4
  have h5 : ∀ y1, Keeps F s0 y1 → Keeps F s0 (x4 y1) := by
    intro y6 y7
    unfold x4
    exact Keeps.ite (fun _ => State.wrF_keeps (hF.of rfl) (R.TEL_GUN_STATUS_in (hF.of rfl)) y7) (fun _ => y7)
  clear_value x4
  refine Keeps.ite (fun _ => ?_) (fun _ => ?_)
  · refine State.gunMissed_keeps (hF.of rfl) ?_
    apply h5
    exact h
  · extract_lets +onlyGivenNames x8
    have h9 : Keeps F s0 x8 := by
      unfold x8
      refine Keeps.ite (fun _ => ?_) (fun _ => h)
      refine State.gunMissed_keeps (hF.of rfl) ?_
      apply h5
      exact h
    clear_value x8
    exact Keeps.ite (fun _ => State.gunFire_keeps (hF.of rfl) h9) (fun _ => h9)

theorem State.gunStep_keeps {F : Nat} {s0 s : State} (hF : Sub 0x2010c00007e0000000000000000000000000000014049b8019 F) (h : Keeps F s0 s) :
    Keeps F s0 (State.gunStep s) := by
  unfold State.gunStep
  extract_lets +onlyGivenNames x1 x2 x3
  clear_value x1 x2 x3
  extract_lets +onlyGivenNames x4
  have h5 : Keeps F s0 x4 := Keeps.setChip h (hF.of rfl)
  clear_value x4
  exact State.gunTick_keeps (hF.of rfl) h5

theorem State.gunSend_keeps {F : Nat} {s0 s : State} {a1 a2 a3 a4} (hF : Sub 0x810000007e00000000000000000000000000000040c9b8009 F) (h : Keeps F s0 s) :
    Keeps F s0 (State.gunSend s a1 a2 a3 a4) := by
  unfold State.gunSend
  extract_lets +onlyGivenNames x1
  clear_value x1
  exact Keeps.ite (fun _ => h) (fun _ => State.sendVc_keeps (hF.of rfl) h)

theorem State.gunSpread_keeps {F : Nat} {s0 s : State} {a1 a2 a3 a4} (hF : Sub 0x810000007e00000000000000000000000000000040c9b8009 F) (h : Keeps F s0 s) :
    Keeps F s0 (State.gunSpread s a1 a2 a3 a4) := by
  unfold State.gunSpread
  exact Keeps.foldl h (fun x1 e2 h3 => State.gunSend_keeps (hF.of rfl) h3)

theorem State.gunArm_keeps {F : Nat} {s0 s : State} (hF : Sub 0x810400007e00000000000000000000000000000040c9b8019 F) (h : Keeps F s0 s) :
    Keeps F s0 (State.gunArm s) := by
  unfold State.gunArm
  extract_lets +onlyGivenNames x1
  extract_lets +onlyGivenNames x2 x3
  clear_value x2 x3
  extract_lets +onlyGivenNames x4
  have h5 : Keeps F s0 x4 := Keeps.setChip h (hF.of rfl)
  clear_value x4
  extract_lets +onlyGivenNames x6
  have h7 : Keeps F s0 x6 := State.wrF_keeps (hF.of rfl) (R.TEL_GUN_STATUS_in (hF.of rfl)) h5
  clear_value x6
  refine Keeps.ite (fun _ => ?_) (fun _ => h7)
  exact State.gunSpread_keeps (hF.of rfl) (State.wrF_keeps (hF.of rfl) (R.TEL_GUN_STATUS_in (hF.of rfl)) h7)

theorem State.writeGunCtrl_keeps {F : Nat} {s0 s : State} {a1} (hF : Sub 0x810500007e00000000000000000000000000000040c9b8019 F) (h : Keeps F s0 s) :
    Keeps F s0 (State.writeGunCtrl s a1) := by
  unfold State.writeGunCtrl
  extract_lets +onlyGivenNames x1
  have h2 : Keeps F s0 x1 := State.wr_keeps (hF.of rfl) (R.TEL_GUN_CTRL_in (hF.of rfl)) h
  clear_value x1
  extract_lets +onlyGivenNames x3
  clear_value x3
  extract_lets +onlyGivenNames x4
  have h5 : Keeps F s0 x4 := Keeps.ite (fun _ => Keeps.setChip h2 (hF.of rfl)) (fun _ => h2)
  clear_value x4
  exact Keeps.ite (fun _ => State.gunArm_keeps (hF.of rfl) h5) (fun _ => h5)

theorem State.gunPacket_keeps {F : Nat} {s0 s : State} {a1} (hF : Sub 0x2810600007e00000000000000000000000000000040c9b8019 F) (h : Keeps F s0 s) :
    Keeps F s0 (State.gunPacket s a1) := by
  unfold State.gunPacket
  extract_lets +onlyGivenNames x1 x2 x3 x4
  clear_value x1 x2 x3 x4
  refine Keeps.ite (fun _ => h) (fun _ => ?_)
  extract_lets +onlyGivenNames x5
  have h6 : Keeps F s0 x5 := State.wrF_keeps (hF.of rfl) (R.TEL_GUN_STATUS_in (hF.of rfl)) h
  clear_value x5
  extract_lets +onlyGivenNames x7
  clear_value x7
  extract_lets +onlyGivenNames x8
  have h9 : Keeps F s0 x8 := Keeps.setChip h6 (hF.of rfl)
  clear_value x8
  extract_lets +onlyGivenNames x10
  have h11 : Keeps F s0 x10 := by
    unfold x10
    refine Keeps.ite (fun _ => h6) (fun _ => ?_)
    refine Keeps.ite (fun _ => State.gunMissed_keeps (hF.of rfl) h6) (fun _ => ?_)
    refine State.wrF_keeps (hF.of rfl) (R.TEL_GUN_STATUS_in (hF.of rfl)) ?_
    exact State.wr_keeps (hF.of rfl) (R.TEL_GUN_TARGET_in (hF.of rfl)) h9
  clear_value x10
  exact State.gunSpread_keeps (hF.of rfl) h11

theorem execGunArm_keeps {F : Nat} {s0 s : State} {a1} (hF : Sub 0x810500007e00000000000000000000000000000040c9b8019 F) (h : Keeps F s0 s) :
    KeepsX F s0 (execGunArm a1 s) := by
  unfold execGunArm
  exact KeepsX.next (State.writeGunCtrl_keeps (hF.of rfl) h)

theorem execGunFireNow_keeps {F : Nat} {s0 s : State} {a1} (hF : Sub 0x810500007e00000000000000000000000000000040c9b8019 F) (h : Keeps F s0 s) :
    KeepsX F s0 (execGunFireNow a1 s) := by
  unfold execGunFireNow
  exact KeepsX.next (State.writeGunCtrl_keeps (hF.of rfl) h)

theorem execSnapIn_keeps {F : Nat} {s0 s : State} (hF : Sub 0x10 F) (h : Keeps F s0 s) :
    KeepsX F s0 (execSnapIn s) := by
  unfold execSnapIn
  exact KeepsX.next (Keeps.ite (fun _ => Keeps.setChip h (hF.of rfl)) (fun _ => h))

theorem execGunFire_keeps {F : Nat} {s0 s : State} (hF : Sub 0x2010c00007e0000000000000000000000000000014049b8009 F) (h : Keeps F s0 s) :
    KeepsX F s0 (execGunFire s) := by
  unfold execGunFire
  exact KeepsX.next (State.gunTick_keeps (hF.of rfl) h)

theorem execGun_keeps {F : Nat} {s0 s : State} {a1} (hF : Sub 0x2810600007e00000000000000000000000000000040c9b8019 F) (h : Keeps F s0 s) :
    KeepsX F s0 (execGun a1 s) := by
  unfold execGun
  exact KeepsX.next (State.gunPacket_keeps (hF.of rfl) h)

end Sys2Proof.Machine
end

