-- ==== Sys2Proof/Laws/KeepsEmb.lean ====
section
/-! SUPPORT. What the operations of Machine/Emb.lean keep (Laws/Keeps.lean): one lemma for each. -/

namespace Sys2Proof.Machine

open Sys2Proof

theorem State.updEmb_keeps {F : Nat} {s0 s : State} {a1 a2} (hF : Sub 0x8 F) (h : Keeps F s0 s) :
    Keeps F s0 (State.updEmb s a1 a2) := by
  unfold State.updEmb
  exact State.updPart_keeps (hF.of rfl) h

theorem State.embStatus_keeps {F : Nat} {s0 s : State} {a1} (hF : Sub 0x2000000000000000000000001 F) (h : Keeps F s0 s) :
    Keeps F s0 (State.embStatus s a1) := by
  unfold State.embStatus
  exact State.wrFs_keeps (hF.of rfl) (R.EMB_STATUS_in (hF.of rfl)) h

theorem State.journalAdd_keeps {F : Nat} {s0 s : State} {a1 a2} (hF : Sub 0x30000007e0000000000000000000000000000004049b8009 F) (h : Keeps F s0 s) :
    Keeps F s0 (State.journalAdd s a1 a2) := by
  unfold State.journalAdd
  extract_lets +onlyGivenNames x1 x2
  clear_value x1 x2
  extract_lets +onlyGivenNames x3
  have h4 : Keeps F s0 x3 := State.setPart_keeps (hF.of rfl) h
  clear_value x3
  refine Keeps.ite (fun _ => h4) (fun _ => ?_)
  refine State.event_keeps (hF.of rfl) ?_
  exact State.count_keeps (hF.of rfl) (R.CNT_SEQ_in (hF.of rfl)) (State.updPart_keeps (hF.of rfl) h4)

theorem State.sendSeg_keeps {F : Nat} {s0 s : State} {a1 a2 a3} (hF : Sub 0x810000007e00000000000000000000000000000040c9b8009 F) (h : Keeps F s0 s) :
    Keeps F s0 (State.sendSeg s a1 a2 a3) := by
  unfold State.sendSeg
  extract_lets +onlyGivenNames x1
  clear_value x1
  exact State.sendPkt_keeps (hF.of rfl) h

theorem State.updReq_keeps {F : Nat} {s0 s : State} {a1 a2} (hF : Sub 0x80 F) (h : Keeps F s0 s) :
    Keeps F s0 (State.updReq s a1 a2) := by
  unfold State.updReq
  exact Keeps.setGreqs h (hF.of rfl)

theorem State.reqReady_keeps {F : Nat} {s0 s : State} {a1} (hF : Sub 0x80 F) (h : Keeps F s0 s) :
    Keeps F s0 (State.reqReady s a1) := by
  unfold State.reqReady
  exact State.updReq_keeps (hF.of rfl) h

theorem State.reqDead_keeps {F : Nat} {s0 s : State} {a1} (hF : Sub 0x80 F) (h : Keeps F s0 s) :
    Keeps F s0 (State.reqDead s a1) := by
  unfold State.reqDead
  exact State.updReq_keeps (hF.of rfl) h

theorem State.tableInvalid_keeps {F : Nat} {s0 s : State} {a1 a2 a3} (hF : Sub 0x10000007e2000000000000000000000000010004049b8019 F) (h : Keeps F s0 s) :
    Keeps F s0 (State.tableInvalid s a1 a2 a3) := by
  unfold State.tableInvalid
  exact State.raise_keeps (hF.of rfl) h

theorem State.rowRange_keeps {F : Nat} {s0 s : State} {a1 a2} (hF : Sub 0x210000007e2000000000000000000000000010004049b8019 F) (h : Keeps F s0 s) :
    Keeps F s0 (State.rowRange s a1 a2) := by
  unfold State.rowRange
  exact State.raise_keeps (hF.of rfl) (State.count_keeps (hF.of rfl) (R.CNT_EMB_in (hF.of rfl)) h)

theorem State.scratchRange_keeps {F : Nat} {s0 s : State} {a1 a2} (hF : Sub 0x10000007e200000000000000000000880001000c049b80f9 F) (h : Keeps F s0 s) :
    KeepsO F s0 (State.scratchRange s a1 a2) := by
  unfold State.scratchRange
  refine KeepsO.ite (fun _ => KeepsO.none) (fun _ => ?_)
  refine KeepsO.ite (fun _ => ?_) (fun _ => ?_)
  · exact KeepsO.some (State.reqDead_keeps (hF.of rfl) (State.gRefuse_keeps (hF.of rfl) h))
  · exact KeepsO.ite (fun _ => KeepsO.some (State.bfEnd_keeps (hF.of rfl) h)) (fun _ => KeepsO.none)

theorem State.replicaBad_keeps {F : Nat} {s0 s : State} {a1 a2 a3 a4} (hF : Sub 0x390000007e0000000000000000000000000000004049b800f F) (h : Keeps F s0 s) :
    Keeps F s0 (State.replicaBad s a1 a2 a3 a4) := by
  unfold State.replicaBad
  extract_lets +onlyGivenNames x1
  have h2 : Keeps F s0 x1 := State.saveN_keeps (hF.of rfl) h
  clear_value x1
  refine State.event_keeps (hF.of rfl) ?_
  exact State.count_keeps (hF.of rfl) (R.CNT_EMB_in (hF.of rfl)) (State.updEmb_keeps (hF.of rfl) h2)

theorem State.replicaCheck_keeps {F : Nat} {s0 s : State} {a1 a2 a3 a4} (hF : Sub 0x1390000007e2000000000000000000000000010004049b801f F) (h : Keeps F s0 s) :
    Keeps F s0 (State.replicaCheck s a1 a2 a3 a4).1 := by
  unfold State.replicaCheck
  extract_lets +onlyGivenNames x1
  clear_value x1
  refine Keeps.iteFst (fun _ => Keeps.mkFst h) (fun _ => ?_)
  extract_lets +onlyGivenNames x2
  have h3 : Keeps F s0 x2 := State.sense_keeps (hF.of rfl) h
  clear_value x2
  refine Keeps.iteFst (fun _ => Keeps.mkFst (State.updEmb_keeps (hF.of rfl) h3)) (fun _ => ?_)
  exact Keeps.mkFst (State.replicaBad_keeps (hF.of rfl) h3)

theorem State.replicaFor_keeps {F : Nat} {s0 s : State} {a1 a2 a3} (hF : Sub 0x1390000007e2000000000000000000000000010004049b801f F) (h : Keeps F s0 s) :
    Keeps F s0 (State.replicaFor s a1 a2 a3).1 := by
  unfold State.replicaFor
  split
  · exact Keeps.mkFst h
  · extract_lets +onlyGivenNames x1
    have h2 : ∀ y1, Keeps F s0 y1 → Keeps F s0 (x1 y1).1 := by
      intro y3 y4
      unfold x1
      exact Keeps.mkFst (State.updEmb_keeps (hF.of rfl) y4)
    clear_value x1
    refine Keeps.iteFst (fun _ => ?_) (fun _ => ?_)
    · apply h2
      exact h
    · refine Keeps.iteFst (fun _ => Keeps.mkFst h) (fun _ => ?_)
      split
      · rename_i z5 z6 z7
        have h8 : Keeps F s0 z6 := Keeps.ofFst z7 (State.replicaCheck_keeps (hF.of rfl) h)
        exact Keeps.mkFst h8
      · rename_i z9 z10 z11
        have h12 : Keeps F s0 z10 := Keeps.ofFst z11 (State.replicaCheck_keeps (hF.of rfl) h)
        apply h2
        exact h12

theorem State.deliverRow_keeps {F : Nat} {s0 s : State} {a1 a2 a3 a4} (hF : Sub 0x11d0000007e200000000000000000000880001000c049b80ff F) (h : Keeps F s0 s) :
    Keeps F s0 (State.deliverRow s a1 a2 a3 a4) := by
  unfold State.deliverRow
  refine Keeps.foldl h (fun x1 e2 h3 => ?_)
  split
  rename_i z4 z5 z6 z7 z8
  have h9 : Keeps F s0 z5 := Keeps.ofFst z8 (State.readGran_keeps (hF.of rfl) h3)
  exact State.scrPut_keeps (hF.of rfl) h9

theorem State.serveLocal_keeps {F : Nat} {s0 s : State} {a1 a2 a3} (hF : Sub 0x11d0000007e200000000000000000000880001000c049b80ff F) (h : Keeps F s0 s) :
    Keeps F s0 (State.serveLocal s a1 a2 a3) := by
  unfold State.serveLocal
  extract_lets +onlyGivenNames x1
  clear_value x1
  split
  · exact State.reqReady_keeps (hF.of rfl) (State.deliverRow_keeps (hF.of rfl) h)
  · exact State.reqDead_keeps (hF.of rfl) (State.gRefuse_keeps (hF.of rfl) h)

theorem State.backfillFar_keeps {F : Nat} {s0 s : State} {a1} (hF : Sub 0x50000007e200000000000000000000880001000c049b80f9 F) (h : Keeps F s0 s) :
    Keeps F s0 (State.backfillFar s a1) := by
  unfold State.backfillFar
  exact State.cueFault_keeps (hF.of rfl) h

theorem State.caravanPut_keeps {F : Nat} {s0 s : State} {a1 a2 a3 a4 a5 a6 a7} (hF : Sub 0x2000000000000000000000000000000000000000000000009 F) (h : Keeps F s0 s) :
    Keeps F s0 (State.caravanPut s a1 a2 a3 a4 a5 a6 a7) := by
  unfold State.caravanPut
  extract_lets +onlyGivenNames x1 x2 x3 x4
  clear_value x1 x2 x3 x4
  refine Keeps.ite (fun _ => ?_) (fun _ => ?_)
  · exact State.count_keeps (hF.of rfl) (R.CNT_EMB_in (hF.of rfl)) (State.updEmb_keeps (hF.of rfl) h)
  · extract_lets +onlyGivenNames x5
    clear_value x5
    exact Keeps.ite (fun _ => State.updEmb_keeps (hF.of rfl) h) (fun _ => State.updEmb_keeps (hF.of rfl) h)

theorem State.resolvePad_keeps {F : Nat} {s0 s : State} {a1} (hF : Sub 0x1d0000007e200000000000000000000880001000c049b80ff F) (h : Keeps F s0 s) :
    Keeps F s0 (State.resolvePad s a1) := by
  unfold State.resolvePad
  extract_lets +onlyGivenNames x1
  have h2 : ∀ y1, Keeps F s0 (x1 y1) := by
    intro y3
    unfold x1
    split
    · rename_i z4 z5 z6
      have h7 : Keeps F s0 z5 := KeepsO.of z6 (State.scratchRange_keeps (hF.of rfl) h)
      exact h7
    · rename_i z8 z9
      exact State.reqReady_keeps (hF.of rfl) (Keeps.foldl h (fun x10 e11 h12 => State.scrPut_keeps (hF.of rfl) h12))
  clear_value x1
  refine Keeps.ite (fun _ => ?_) (fun _ => ?_)
  · apply h2
  · split
    · exact State.reqDead_keeps (hF.of rfl) (State.tableInvalid_keeps (hF.of rfl) h)
    · refine Keeps.ite (fun _ => ?_) (fun _ => ?_)
      · exact State.reqDead_keeps (hF.of rfl) (State.tableInvalid_keeps (hF.of rfl) h)
      · apply h2

theorem State.resolveHome_keeps {F : Nat} {s0 s : State} {a1 a2 a3 a4} (hF : Sub 0x13d0000007e200000000000000000000880001000c049b80ff F) (h : Keeps F s0 s) :
    Keeps F s0 (State.resolveHome s a1 a2 a3 a4) := by
  unfold State.resolveHome
  extract_lets +onlyGivenNames x1
  clear_value x1
  split
  · extract_lets +onlyGivenNames x2
    have h3 : Keeps F s0 x2 := State.owe_keeps (hF.of rfl) (State.count_keeps (hF.of rfl) (R.CNT_EMB_in (hF.of rfl)) h)
    clear_value x2
    exact State.serveLocal_keeps (hF.of rfl) h3
  · extract_lets +onlyGivenNames x4
    have h5 : Keeps F s0 x4 := Keeps.ite (fun _ => h) (fun _ => State.count_keeps (hF.of rfl) (R.CNT_EMB_in (hF.of rfl)) h)
    clear_value x4
    exact State.updReq_keeps (hF.of rfl) h5
  · exact State.updReq_keeps (hF.of rfl) (State.farMiss_keeps (hF.of rfl) h)
  · exact State.reqDead_keeps (hF.of rfl) (State.raise_keeps (hF.of rfl) h)

theorem State.resolveGather_keeps {F : Nat} {s0 s : State} {a1} (hF : Sub 0x13d0000007e200000000000000000000880001000c049b80ff F) (h : Keeps F s0 s) :
    Keeps F s0 (State.resolveGather s a1) := by
  unfold State.resolveGather
  extract_lets +onlyGivenNames x1
  clear_value x1
  refine Keeps.ite (fun _ => State.resolvePad_keeps (hF.of rfl) h) (fun _ => ?_)
  split
  · exact State.reqDead_keeps (hF.of rfl) (State.tableInvalid_keeps (hF.of rfl) h)
  · extract_lets +onlyGivenNames x2 x3
    clear_value x2 x3
    refine Keeps.ite (fun _ => ?_) (fun _ => ?_)
    · exact State.reqDead_keeps (hF.of rfl) (State.tableInvalid_keeps (hF.of rfl) h)
    · split
      · rename_i z4 z5 z6
        have h7 : Keeps F s0 z5 := KeepsO.of z6 (State.scratchRange_keeps (hF.of rfl) h)
        exact h7
      · rename_i z8 z9
        refine Keeps.ite (fun _ => ?_) (fun _ => ?_)
        · refine State.reqReady_keeps (hF.of rfl) ?_
          exact State.scrPoisonZero_keeps (hF.of rfl) (State.rowRange_keeps (hF.of rfl) h)
        · split
          refine Keeps.ite (fun _ => State.resolveHome_keeps (hF.of rfl) h) (fun _ => ?_)
          split
          · rename_i z10 z11 z12 z13
            have h14 : Keeps F s0 z11 := Keeps.ofFst z13 (State.replicaFor_keeps (hF.of rfl) h)
            exact State.serveLocal_keeps (hF.of rfl) (State.count_keeps (hF.of rfl) (R.CNT_EMB_in (hF.of rfl)) h14)
          · rename_i z15 z16 z17
            have h18 : Keeps F s0 z16 := Keeps.ofFst z17 (State.replicaFor_keeps (hF.of rfl) h)
            refine Keeps.ite (fun _ => State.backfillFar_keeps (hF.of rfl) h18) (fun _ => ?_)
            exact State.updReq_keeps (hF.of rfl) (State.caravanPut_keeps (hF.of rfl) h18)

theorem State.resolveScatter_keeps {F : Nat} {s0 s : State} {a1} (hF : Sub 0x3d0000007e200000000000000000000880001000c049b80ff F) (h : Keeps F s0 s) :
    Keeps F s0 (State.resolveScatter s a1) := by
  unfold State.resolveScatter
  extract_lets +onlyGivenNames x1
  clear_value x1
  refine Keeps.ite (fun _ => State.reqReady_keeps (hF.of rfl) h) (fun _ => ?_)
  split
  · exact State.reqDead_keeps (hF.of rfl) (State.tableInvalid_keeps (hF.of rfl) h)
  · extract_lets +onlyGivenNames x2 x3
    clear_value x2 x3
    refine Keeps.ite (fun _ => ?_) (fun _ => ?_)
    · exact State.reqDead_keeps (hF.of rfl) (State.tableInvalid_keeps (hF.of rfl) h)
    · split
      · rename_i z4 z5 z6
        have h7 : Keeps F s0 z5 := KeepsO.of z6 (State.scratchRange_keeps (hF.of rfl) h)
        exact h7
      · rename_i z8 z9
        refine Keeps.ite (fun _ => State.reqReady_keeps (hF.of rfl) (State.rowRange_keeps (hF.of rfl) h)) (fun _ => ?_)
        extract_lets +onlyGivenNames x10
        have h11 : Keeps F s0 x10 := State.settle_keeps (hF.of rfl) h
        clear_value x10
        extract_lets +onlyGivenNames x12 x13
        clear_value x12 x13
        split
        refine Keeps.ite (fun _ => ?_) (fun _ => ?_)
        · refine Keeps.ite (fun _ => ?_) (fun _ => ?_)
          · exact State.reqDead_keeps (hF.of rfl) (State.tableInvalid_keeps (hF.of rfl) h11)
          · exact State.reqReady_keeps (hF.of rfl) (State.ledgerAdd_keeps (hF.of rfl) h11)
        · exact State.reqReady_keeps (hF.of rfl) (State.caravanPut_keeps (hF.of rfl) h11)

theorem State.resolve_keeps {F : Nat} {s0 s : State} {a1} (hF : Sub 0x13d0000007e200000000000000000000880001000c049b80ff F) (h : Keeps F s0 s) :
    Keeps F s0 (State.resolve s a1) := by
  unfold State.resolve
  split
  · exact h
  · refine Keeps.ite (fun _ => State.resolveGather_keeps (hF.of rfl) h) (fun _ => ?_)
    exact State.resolveScatter_keeps (hF.of rfl) h

theorem State.resolveAll_keeps {F : Nat} {s0 s : State} {a1 a2} (hF : Sub 0x13d0000007e200000000000000000000880001000c049b80ff F) (h : Keeps F s0 s) :
    Keeps F s0 (State.resolveAll s a1 a2) := by
  unfold State.resolveAll
  exact Keeps.foldl h (fun x1 e2 h3 => State.resolve_keeps (hF.of rfl) h3)

theorem State.tagRelease_keeps {F : Nat} {s0 s : State} {a1} (hF : Sub 0x60000000 F) (h : Keeps F s0 s) :
    Keeps F s0 (State.tagRelease s a1) := by
  exact Keeps.setTagGen (s := { s with tagUse := s.tagUse.filter (· != a1) }) (h.setTagUse (hF.of rfl)) (hF.of rfl) (fun i => Sp.wf_set i _ _)

theorem State.tagTake_keeps {F : Nat} {s0 s : State} {a1} (hF : Sub 0x20000000 F) (h : Keeps F s0 s) :
    Keeps F s0 (State.tagTake s a1) := by
  unfold State.tagTake
  exact Keeps.setTagUse h (hF.of rfl)

theorem State.sendCaravan_keeps {F : Nat} {s0 s : State} {a1 a2} (hF : Sub 0x810000007e00000000000000000000000000000040c9b8009 F) (h : Keeps F s0 s) :
    Keeps F s0 (State.sendCaravan s a1 a2) := by
  unfold State.sendCaravan
  exact Keeps.foldl h (fun x1 e2 h3 => State.sendSeg_keeps (hF.of rfl) h3)

theorem State.sendClosing_keeps {F : Nat} {s0 s : State} {a1 a2} (hF : Sub 0x810000007e00000000000000000000000000000040c9b8009 F) (h : Keeps F s0 s) :
    Keeps F s0 (State.sendClosing s a1 a2) := by
  unfold State.sendClosing
  exact State.sendSeg_keeps (hF.of rfl) h

theorem State.outEnsure_keeps {F : Nat} {s0 s : State} {a1 a2 a3} (hF : Sub 0x8 F) (h : Keeps F s0 s) :
    Keeps F s0 (State.outEnsure s a1 a2 a3) := by
  unfold State.outEnsure
  extract_lets +onlyGivenNames x1
  clear_value x1
  exact Keeps.ite (fun _ => h) (fun _ => State.updEmb_keeps (hF.of rfl) h)

theorem State.closeDue_keeps {F : Nat} {s0 s : State} {a1 a2 a3} (hF : Sub 0x810000007e00000000000000000000000000000040c9b8009 F) (h : Keeps F s0 s) :
    Keeps F s0 (State.closeDue s a1 a2 a3) := by
  unfold State.closeDue
  extract_lets +onlyGivenNames x1
  clear_value x1
  split
  · exact h
  · exact Keeps.ite (fun _ => h) (fun _ => State.sendClosing_keeps (hF.of rfl) (State.updEmb_keeps (hF.of rfl) h))

theorem State.caravanSend_keeps {F : Nat} {s0 s : State} {a1 a2 a3 a4 a5} (hF : Sub 0xa10000007e00000000000000000000000000000042c9b8009 F) (h : Keeps F s0 s) :
    Keeps F s0 (State.caravanSend s a1 a2 a3 a4 a5) := by
  unfold State.caravanSend
  extract_lets +onlyGivenNames x1 x2
  clear_value x1 x2
  split
  · exact h
  · extract_lets +onlyGivenNames x3
    clear_value x3
    refine Keeps.ite (fun _ => h) (fun _ => ?_)
    extract_lets +onlyGivenNames x4
    have h5 : Keeps F s0 x4 := State.outEnsure_keeps (hF.of rfl) h
    clear_value x4
    extract_lets +onlyGivenNames x6 x7
    clear_value x6 x7
    extract_lets +onlyGivenNames x8
    have h9 : Keeps F s0 x8 := Keeps.ite (fun _ => State.tagTake_keeps (hF.of rfl) h5) (fun _ => h5)
    clear_value x8
    extract_lets +onlyGivenNames x10
    have h11 : Keeps F s0 x10 := State.updEmb_keeps (hF.of rfl) h9
    clear_value x10
    refine State.closeDue_keeps (hF.of rfl) ?_
    exact State.count_keeps (hF.of rfl) (R.CNT_EMB_in (hF.of rfl)) (State.sendCaravan_keeps (hF.of rfl) h11)

theorem State.closeDir_keeps {F : Nat} {s0 s : State} {a1 a2} (hF : Sub 0x810000007e00000000000000000000000000000040c9b8009 F) (h : Keeps F s0 s) :
    Keeps F s0 (State.closeDir s a1 a2) := by
  unfold State.closeDir
  extract_lets +onlyGivenNames x1
  have h2 : Keeps F s0 x1 := State.updEmb_keeps (hF.of rfl) h
  clear_value x1
  refine Keeps.foldl h2 (fun x3 e4 h5 => ?_)
  exact State.closeDue_keeps (hF.of rfl) (State.updEmb_keeps (hF.of rfl) (State.outEnsure_keeps (hF.of rfl) h5))

theorem State.refreshRow_keeps {F : Nat} {s0 s : State} {a1 a2 a3 a4} (hF : Sub 0x1390000007e2000000000000000000000000010004049b801f F) (h : Keeps F s0 s) :
    Keeps F s0 (State.refreshRow s a1 a2 a3 a4) := by
  unfold State.refreshRow
  split
  refine Keeps.ite (fun _ => h) (fun _ => ?_)
  extract_lets +onlyGivenNames x1
  clear_value x1
  extract_lets +onlyGivenNames x2
  have h3 : Keeps F s0 x2 := State.sense_keeps (hF.of rfl) h
  clear_value x2
  extract_lets +onlyGivenNames x4
  have h5 : Keeps F s0 x4 := by
    unfold x4
    refine Keeps.ite (fun _ => ?_) (fun _ => h)
    exact Keeps.ite (fun _ => h3) (fun _ => State.replicaBad_keeps (hF.of rfl) h3)
  clear_value x4
  extract_lets +onlyGivenNames x6
  clear_value x6
  extract_lets +onlyGivenNames x7
  have h8 : Keeps F s0 x7 := State.updEmb_keeps (hF.of rfl) h5
  clear_value x7
  exact Keeps.foldl h8 (fun x9 e10 h11 => State.caravanPut_keeps (hF.of rfl) h11)

theorem State.serveEntry_keeps {F : Nat} {s0 s : State} {a1 a2 a3} (hF : Sub 0x1390000007e2000000000000000000000000010004049b801d F) (h : Keeps F s0 s) :
    Keeps F s0 (State.serveEntry s a1 a2 a3).1 := by
  unfold State.serveEntry
  extract_lets +onlyGivenNames x1 x2 x3 x4 x5 x6
  clear_value x1 x2 x3 x4 x5 x6
  refine Keeps.iteFst (fun _ => ?_) (fun _ => ?_)
  · refine Keeps.mkFst ?_
    exact State.tableInvalid_keeps (hF.of rfl) (State.count_keeps (hF.of rfl) (R.CNT_EMB_in (hF.of rfl)) h)
  · split
    · exact Keeps.mkFst h
    · extract_lets +onlyGivenNames x7 x8
      clear_value x7 x8
      split
      · split
        · extract_lets +onlyGivenNames x9
          have h10 : Keeps F s0 x9 := State.sense_keeps (hF.of rfl) h
          clear_value x9
          extract_lets +onlyGivenNames x11
          clear_value x11
          exact Keeps.mkFst (State.count_keeps (hF.of rfl) (R.CNT_EMB_in (hF.of rfl)) h10)
        · exact Keeps.mkFst (State.unmappedErr_keeps (hF.of rfl) h)
        · exact Keeps.mkFst (State.refusedErr_keeps (hF.of rfl) h)
      · refine Keeps.mkFst ?_
        exact Keeps.ite (fun _ => h) (fun _ => State.count_keeps (hF.of rfl) (R.CNT_EMB_in (hF.of rfl)) h)
      · exact Keeps.mkFst (State.farMiss_keeps (hF.of rfl) h)
      · exact Keeps.mkFst (State.raise_keeps (hF.of rfl) h)

theorem State.serveRun_keeps {F : Nat} {s0 s : State} {a1 a2 a3 a4} (hF : Sub 0x1390000007e2000000000000000000000000010004049b801d F) (h : Keeps F s0 s) :
    Keeps F s0 (State.serveRun s a1 a2 a3 a4).1 := by
  induction a3 generalizing s a1 a2 a4
  case zero =>
    rw [State.serveRun]
    exact Keeps.mkFst h
  case succ k ih =>
    rw [State.serveRun]
    split
    · exact Keeps.mkFst h
    · split
      · rename_i z1 z2 z3
        have h4 : Keeps F s0 z2 := Keeps.ofFst z3 (State.serveEntry_keeps (hF.of rfl) h)
        exact Keeps.mkFst h4
      · rename_i z5 z6 z7 z8
        have h9 : Keeps F s0 z6 := Keeps.ofFst z8 (State.serveEntry_keeps (hF.of rfl) h)
        apply ih
        exact h9

theorem State.sendReturns_keeps {F : Nat} {s0 s : State} {a1 a2 a3} (hF : Sub 0x810000007e00000000000000000000000000000040c9b8009 F) (h : Keeps F s0 s) :
    Keeps F s0 (State.sendReturns s a1 a2 a3).1 := by
  unfold State.sendReturns
  extract_lets +onlyGivenNames x1 x2 x3
  clear_value x1 x2 x3
  extract_lets +onlyGivenNames x4
  have h5 : Keeps F s0 x4 := by
    unfold x4
    refine Keeps.foldl h (fun x6 e7 h8 => ?_)
    split
    split
    exact State.sendSeg_keeps (hF.of rfl) h8
  clear_value x4
  exact Keeps.mkFst h5

theorem State.serveOne_keeps {F : Nat} {s0 s : State} {a1 a2} (hF : Sub 0x1b90000007e20000000000000000000000000100040c9b801d F) (h : Keeps F s0 s) :
    Keeps F s0 (State.serveOne s a1 a2).1 := by
  unfold State.serveOne
  split
  rename_i z1 z2 z3 z4 z5
  have h6 : Keeps F s0 z2 := Keeps.ofFst z5 (State.serveRun_keeps (hF.of rfl) h)
  split
  rename_i z7 z8 z9 z10
  have h11 : Keeps F s0 z8 := by
    refine Keeps.ofFst z10 ?_
    exact Keeps.iteFst (fun _ => Keeps.mkFst h6) (fun _ => State.sendReturns_keeps (hF.of rfl) h6)
  exact Keeps.mkFst h11

theorem State.serveAll_keeps {F : Nat} {s0 s : State} {a1} (hF : Sub 0x1b90000007e20000000000000000000000000100040c9b801d F) (h : Keeps F s0 s) :
    Keeps F s0 (State.serveAll s a1) := by
  unfold State.serveAll
  split
  rename_i z1 z2 z3 z4
  have h5 : Keeps F s0 z2 := by
    refine Keeps.ofFst z4 ?_
    refine Keeps.foldlFst (Keeps.mkFst h) (fun x6 e7 h8 => ?_)
    split
    · rename_i z9 z10 z11 z12
      have h13 : Keeps F s0 z10 := Keeps.ofFst z12 (State.serveOne_keeps (hF.of rfl) h8)
      exact Keeps.mkFst h13
    · rename_i z14 z15 z16
      have h17 : Keeps F s0 z15 := Keeps.ofFst z16 (State.serveOne_keeps (hF.of rfl) h8)
      exact Keeps.mkFst h17
  exact State.updEmb_keeps (hF.of rfl) h5

theorem State.embResume_keeps {F : Nat} {s0 s : State} {a1} (hF : Sub 0x1bd0000007e200000000000000000000880001000c0c9b80ff F) (h : Keeps F s0 s) :
    Keeps F s0 (State.embResume s a1) := by
  unfold State.embResume
  exact State.serveAll_keeps (hF.of rfl) (State.resolveAll_keeps (hF.of rfl) h)

theorem State.serveSeg_keeps {F : Nat} {s0 s : State} {a1 a2 a3} (hF : Sub 0x1b90000007e20000000000000000000000000100040c9b801d F) (h : Keeps F s0 s) :
    Keeps F s0 (State.serveSeg s a1 a2 a3) := by
  unfold State.serveSeg
  extract_lets +onlyGivenNames x1 x2 x3
  clear_value x1 x2 x3
  extract_lets +onlyGivenNames x4
  have h5 : Keeps F s0 x4 := Keeps.ite (fun _ => h) (fun _ => State.updEmb_keeps (hF.of rfl) h)
  clear_value x4
  exact State.serveAll_keeps (hF.of rfl) (State.updEmb_keeps (hF.of rfl) h5)

theorem State.setIn_keeps {F : Nat} {s0 s : State} {a1 a2} (hF : Sub 0x8 F) (h : Keeps F s0 s) :
    Keeps F s0 (State.setIn s a1 a2) := by
  unfold State.setIn
  exact State.updEmb_keeps (hF.of rfl) h

theorem State.sendAck_keeps {F : Nat} {s0 s : State} {a1 a2 a3} (hF : Sub 0x810000007e00000000000000000000000000000040c9b8009 F) (h : Keeps F s0 s) :
    Keeps F s0 (State.sendAck s a1 a2 a3) := by
  unfold State.sendAck
  exact State.sendSeg_keeps (hF.of rfl) h

theorem State.creditConvoy_keeps {F : Nat} {s0 s : State} {a1 a2} (hF : Sub 0x8 F) (h : Keeps F s0 s) :
    Keeps F s0 (State.creditConvoy s a1 a2) := by
  unfold State.creditConvoy
  refine Keeps.foldl h (fun x1 e2 h3 => ?_)
  refine Keeps.foldl h3 (fun x4 e5 h6 => ?_)
  extract_lets +onlyGivenNames x7
  clear_value x7
  refine Keeps.ite (fun _ => h6) (fun _ => ?_)
  refine Keeps.foldl h6 (fun x8 e9 h10 => ?_)
  extract_lets +onlyGivenNames x11 x12 x13
  clear_value x11 x12 x13
  refine Keeps.ite (fun _ => h10) (fun _ => ?_)
  split
  · exact h10
  · exact State.owe_keeps (hF.of rfl) h10

theorem State.applyRev_keeps {F : Nat} {s0 s : State} {a1 a2} (hF : Sub 0x190000007e2000000000000000000000000010004049b801f F) (h : Keeps F s0 s) :
    Keeps F s0 (State.applyRev s a1 a2) := by
  unfold State.applyRev
  extract_lets +onlyGivenNames x1
  clear_value x1
  refine Keeps.foldlFst (Keeps.mkFst h) (fun x2 e3 h4 => ?_)
  extract_lets +onlyGivenNames x5
  have h6 : Keeps F s0 x5 := h4
  clear_value x5
  extract_lets +onlyGivenNames x7 x8 x9 x10 x11 x12
  clear_value x7 x8 x9 x10 x11 x12
  extract_lets +onlyGivenNames x13
  have h14 : Keeps F s0 x13 := by
    unfold x13
    split
    · exact State.tableInvalid_keeps (hF.of rfl) h6
    · refine Keeps.ite (fun _ => ?_) (fun _ => State.ledgerAdd_keeps (hF.of rfl) h6)
      exact State.tableInvalid_keeps (hF.of rfl) h6
  clear_value x13
  exact Keeps.mkFst h14

theorem State.lateRec_keeps {F : Nat} {s0 s : State} {a1 a2 a3 a4} (hF : Sub 0x8 F) (h : Keeps F s0 s) :
    Keeps F s0 (State.lateRec s a1 a2 a3 a4) := by
  unfold State.lateRec
  exact State.addRec_keeps (hF.of rfl) h

theorem State.applyDeferred_keeps {F : Nat} {s0 s : State} {a1 a2} (hF : Sub 0x190000007e2000000000000020000000000010004049b801f F) (h : Keeps F s0 s) :
    Keeps F s0 (State.applyDeferred s a1 a2) := by
  unfold State.applyDeferred
  extract_lets +onlyGivenNames x1
  have h2 : Keeps F s0 x1 := Keeps.foldl h (fun x3 e4 h5 => State.applyRev_keeps (hF.of rfl) h5)
  clear_value x1
  exact State.embStatus_keeps (hF.of rfl) (State.lateRec_keeps (hF.of rfl) (State.updEmb_keeps (hF.of rfl) h2))

theorem State.deferConvoy_keeps {F : Nat} {s0 s : State} {a1 a2} (hF : Sub 0xb90000007e20000000000000200000000000100040c9b801f F) (h : Keeps F s0 s) :
    Keeps F s0 (State.deferConvoy s a1 a2) := by
  unfold State.deferConvoy
  extract_lets +onlyGivenNames x1 x2 x3
  clear_value x1 x2 x3
  refine Keeps.ite (fun _ => ?_) (fun _ => ?_)
  · refine State.sendAck_keeps (hF.of rfl) ?_
    refine State.setIn_keeps (hF.of rfl) ?_
    exact State.lateRec_keeps (hF.of rfl) (State.count_keeps (hF.of rfl) (R.CNT_EMB_in (hF.of rfl)) h)
  · extract_lets +onlyGivenNames x4
    clear_value x4
    extract_lets +onlyGivenNames x5
    have h6 : Keeps F s0 x5 := by
      exact State.embStatus_keeps (hF.of rfl) (State.setIn_keeps (hF.of rfl) (State.updEmb_keeps (hF.of rfl) h))
    clear_value x5
    extract_lets +onlyGivenNames x7
    have h8 : Keeps F s0 x7 := State.sendAck_keeps (hF.of rfl) h6
    clear_value x7
    exact Keeps.ite (fun _ => State.applyDeferred_keeps (hF.of rfl) h8) (fun _ => h8)

theorem State.takeConvoy_keeps {F : Nat} {s0 s : State} {a1 a2} (hF : Sub 0xb90000007e20000000000000200000000000100040c9b801f F) (h : Keeps F s0 s) :
    Keeps F s0 (State.takeConvoy s a1 a2) := by
  unfold State.takeConvoy
  refine Keeps.ite (fun _ => h) (fun _ => ?_)
  split
  · refine Keeps.ite (fun _ => h) (fun _ => ?_)
    refine Keeps.ite (fun _ => ?_) (fun _ => ?_)
    · exact State.sendAck_keeps (hF.of rfl) (State.setIn_keeps (hF.of rfl) (State.creditConvoy_keeps (hF.of rfl) h))
    · refine Keeps.ite (fun _ => h) (fun _ => ?_)
      extract_lets +onlyGivenNames x1
      have h2 : Keeps F s0 x1 := by
        exact Keeps.foldl h (fun x3 e4 h5 => Keeps.foldl h5 (fun x6 e7 h8 => State.applyRev_keeps (hF.of rfl) h8))
      clear_value x1
      exact State.sendAck_keeps (hF.of rfl) (State.setIn_keeps (hF.of rfl) h2)
  · refine State.sendAck_keeps (hF.of rfl) ?_
    exact State.setIn_keeps (hF.of rfl) (State.count_keeps (hF.of rfl) (R.CNT_EMB_in (hF.of rfl)) h)
  · exact State.deferConvoy_keeps (hF.of rfl) h
  · exact h

theorem State.inSeg_keeps {F : Nat} {s0 s : State} {a1 a2 a3 a4} (hF : Sub 0xb90000007e20000000000000200000000000100040c9b801f F) (h : Keeps F s0 s) :
    Keeps F s0 (State.inSeg s a1 a2 a3 a4) := by
  unfold State.inSeg
  extract_lets +onlyGivenNames x1
  clear_value x1
  extract_lets +onlyGivenNames x2
  extract_lets +onlyGivenNames x3
  have h4 : ∀ y1, Keeps F s0 y1 → Keeps F s0 (x3 y1) := by
    intro y5 y6
    unfold x3
    exact Keeps.ite (fun _ => State.count_keeps (hF.of rfl) (R.CNT_EMB_in (hF.of rfl)) y6) (fun _ => y6)
  clear_value x3
  extract_lets +onlyGivenNames x7 x8
  clear_value x7 x8
  extract_lets +onlyGivenNames x9
  have h10 : ∀ y1 y2 y3, Keeps F s0 y1 → Keeps F s0 (x9 y1 y2 y3) := by
    intro y11 y12 y13 y14
    unfold x9
    exact Keeps.ite (fun _ => State.sendAck_keeps (hF.of rfl) y14) (fun _ => y14)
  clear_value x9
  refine Keeps.ite (fun _ => ?_) (fun _ => ?_)
  · apply h10
    apply h4
    exact h
  · refine Keeps.ite (fun _ => ?_) (fun _ => ?_)
    · apply h10
      apply h4
      exact h
    · refine Keeps.ite (fun _ => ?_) (fun _ => ?_)
      · apply h4
        exact h
      · extract_lets +onlyGivenNames x15
        have h16 : Keeps F s0 x15 := Keeps.ite (fun _ => State.count_keeps (hF.of rfl) (R.CNT_EMB_in (hF.of rfl)) h) (fun _ => h)
        clear_value x15
        extract_lets +onlyGivenNames x17 x18
        clear_value x17 x18
        refine Keeps.ite (fun _ => ?_) (fun _ => ?_)
        · refine Keeps.ite (fun _ => ?_) (fun _ => ?_)
          · refine State.setIn_keeps (hF.of rfl) ?_
            apply h4
            exact h16
          · extract_lets +onlyGivenNames x19
            clear_value x19
            exact State.takeConvoy_keeps (hF.of rfl) (State.setIn_keeps (hF.of rfl) h16)
        · split
          · refine State.setIn_keeps (hF.of rfl) ?_
            apply h4
            exact h16
          · exact State.takeConvoy_keeps (hF.of rfl) (State.setIn_keeps (hF.of rfl) h16)

theorem State.decideLate_keeps {F : Nat} {s0 s : State} {a1 a2 a3} (hF : Sub 0xb90000007e20000000000000200000000000100040c9b801f F) (h : Keeps F s0 s) :
    Keeps F s0 (State.decideLate s a1 a2 a3) := by
  unfold State.decideLate
  extract_lets +onlyGivenNames x1 x2
  clear_value x1 x2
  refine Keeps.ite (fun _ => h) (fun _ => ?_)
  extract_lets +onlyGivenNames x3
  clear_value x3
  exact State.takeConvoy_keeps (hF.of rfl) (State.setIn_keeps (hF.of rfl) (State.lateRec_keeps (hF.of rfl) h))

theorem State.overdue_keeps {F : Nat} {s0 s : State} {a1} (hF : Sub 0x8 F) (h : Keeps F s0 s) :
    Keeps F s0 (State.overdue s a1) := by
  unfold State.overdue
  exact Keeps.foldl h (fun x1 e2 h3 => State.setIn_keeps (hF.of rfl) (State.lateRec_keeps (hF.of rfl) h3))

theorem State.embLate_keeps {F : Nat} {s0 s : State} {a1} (hF : Sub 0xb90000007e20000000000000200000000000100040c9b801f F) (h : Keeps F s0 s) :
    Keeps F s0 (State.embLate s a1) := by
  unfold State.embLate
  refine Keeps.ite (fun _ => h) (fun _ => ?_)
  extract_lets +onlyGivenNames x1
  clear_value x1
  exact Keeps.foldl h (fun x2 e3 h4 => State.decideLate_keeps (hF.of rfl) h4)

theorem State.embDeadline_keeps {F : Nat} {s0 s : State} {a1} (hF : Sub 0xb90000007e20000000000000200000000000100040c9b801f F) (h : Keeps F s0 s) :
    Keeps F s0 (State.embDeadline s a1) := by
  unfold State.embDeadline
  extract_lets +onlyGivenNames x1
  have h2 : Keeps F s0 x1 := Keeps.ite (fun _ => State.overdue_keeps (hF.of rfl) h) (fun _ => h)
  clear_value x1
  exact State.embLate_keeps (hF.of rfl) h2

theorem State.embReplayLate_keeps {F : Nat} {s0 s : State} {a1} (hF : Sub 0xb90000007e20000000000000200000000000100040c9b801f F) (h : Keeps F s0 s) :
    Keeps F s0 (State.embReplayLate s a1) := by
  unfold State.embReplayLate
  refine Keeps.ite (fun _ => h) (fun _ => ?_)
  refine Keeps.foldl h (fun x1 e2 h3 => ?_)
  refine Keeps.ite (fun _ => State.decideLate_keeps (hF.of rfl) h3) (fun _ => ?_)
  exact Keeps.ite (fun _ => State.decideLate_keeps (hF.of rfl) h3) (fun _ => h3)

theorem State.embCmd_keeps {F : Nat} {s0 s : State} {a1 a2 a3} (hF : Sub 0x1bd0000007e200000000000002000000880001000c0c9b80ff F) (h : Keeps F s0 s) :
    Keeps F s0 (State.embCmd s a1 a2 a3) := by
  unfold State.embCmd
  split
  · exact h
  · extract_lets +onlyGivenNames x1
    clear_value x1
    refine Keeps.ite (fun _ => h) (fun _ => ?_)
    extract_lets +onlyGivenNames x2 x3
    clear_value x2 x3
    refine Keeps.ite (fun _ => State.raise_keeps (hF.of rfl) (State.engStart_keeps (hF.of rfl) h)) (fun _ => ?_)
    refine Keeps.ite (fun _ => h) (fun _ => ?_)
    extract_lets +onlyGivenNames x4
    have h5 : Keeps F s0 x4 := State.updEmb_keeps (hF.of rfl) (State.engStart_keeps (hF.of rfl) h)
    clear_value x4
    refine Keeps.ite (fun _ => ?_) (fun _ => ?_)
    · extract_lets +onlyGivenNames x6
      have h7 : Keeps F s0 x6 := by
        unfold x6
        refine Keeps.foldl h5 (fun x8 e9 h10 => ?_)
        refine Keeps.ite (fun _ => h10) (fun _ => ?_)
        refine Keeps.foldl h10 (fun x11 e12 h13 => ?_)
        split
        exact State.refreshRow_keeps (hF.of rfl) h13
      clear_value x6
      exact State.closeDir_keeps (hF.of rfl) h7
    · extract_lets +onlyGivenNames x14
      have h15 : Keeps F s0 x14 := State.closeDir_keeps (hF.of rfl) (State.resolveAll_keeps (hF.of rfl) h5)
      clear_value x14
      exact Keeps.ite (fun _ => State.embLate_keeps (hF.of rfl) h15) (fun _ => h15)

theorem State.closeComplete_keeps {F : Nat} {s0 s : State} {a1 a2} (hF : Sub 0xb90000007e20000004000000200000000000100040c9b801f F) (h : Keeps F s0 s) :
    Keeps F s0 (State.closeComplete s a1 a2) := by
  unfold State.closeComplete
  split
  · exact h
  · refine Keeps.ite (fun _ => h) (fun _ => ?_)
    extract_lets +onlyGivenNames x1
    have h2 : Keeps F s0 x1 := Keeps.ite (fun _ => State.embReplayLate_keeps (hF.of rfl) h) (fun _ => h)
    clear_value x1
    exact State.cmdDone_keeps (hF.of rfl) h2

theorem State.entryDone_keeps {F : Nat} {s0 s : State} {a1 a2 a3} (hF : Sub 0x190000007e2000000000000000000000000010004049b809f F) (h : Keeps F s0 s) :
    Keeps F s0 (State.entryDone s a1 a2 a3) := by
  unfold State.entryDone
  refine Keeps.ite (fun _ => Keeps.foldl h (fun x1 e2 h3 => State.reqReady_keeps (hF.of rfl) h3)) (fun _ => ?_)
  extract_lets +onlyGivenNames x4 x5
  clear_value x4 x5
  extract_lets +onlyGivenNames x6
  have h7 : Keeps F s0 x6 := State.updEmb_keeps (hF.of rfl) h
  clear_value x6
  refine Keeps.ite (fun _ => h7) (fun _ => ?_)
  split
  · exact h7
  · split
    · exact h7
    · extract_lets +onlyGivenNames x8 x9 x10
      clear_value x8 x9 x10
      extract_lets +onlyGivenNames x11
      have h12 : Keeps F s0 x11 := State.updEmb_keeps (hF.of rfl) h7
      clear_value x11
      refine Keeps.ite (fun _ => ?_) (fun _ => State.save_keeps (hF.of rfl) h12)
      exact State.raise_keeps (hF.of rfl) (State.save_keeps (hF.of rfl) h12)

theorem State.retGran_keeps {F : Nat} {s0 s : State} {a1 a2 a3 a4 a5 a6} (hF : Sub 0x1d0000007e200000000000000000000880001000c049b80ff F) (h : Keeps F s0 s) :
    Keeps F s0 (State.retGran s a1 a2 a3 a4 a5 a6) := by
  unfold State.retGran
  refine Keeps.ite (fun _ => ?_) (fun _ => ?_)
  · refine Keeps.foldl h (fun x1 e2 h3 => ?_)
    split
    · exact State.scrPut_keeps (hF.of rfl) h3
    · exact h3
  · extract_lets +onlyGivenNames x4
    clear_value x4
    extract_lets +onlyGivenNames x5
    have h6 : Keeps F s0 x5 := Keeps.ite (fun _ => State.updEmb_keeps (hF.of rfl) h) (fun _ => h)
    clear_value x5
    refine Keeps.ite (fun _ => State.updEmb_keeps (hF.of rfl) h6) (fun _ => ?_)
    split
    · exact h6
    · split
      · exact h6
      · exact State.save_keeps (hF.of rfl) h6

theorem State.retSeg_keeps {F : Nat} {s0 s : State} {a1 a2} (hF : Sub 0x9d0000007e200000000000000000000880001000c649b80ff F) (h : Keeps F s0 s) :
    Keeps F s0 (State.retSeg s a1 a2) := by
  unfold State.retSeg
  extract_lets +onlyGivenNames x1
  clear_value x1
  extract_lets +onlyGivenNames x2
  have h3 : Keeps F s0 x2 := State.count_keeps (hF.of rfl) (R.CNT_RLY_in (hF.of rfl)) h
  clear_value x2
  split
  · exact h3
  · extract_lets +onlyGivenNames x4
    have h5 : ∀ y1 y2, Keeps F s0 y1.1 → Keeps F s0 (x4 y1 y2).1 := by
      intro y6 y7 y8
      unfold x4
      split
      split
      · exact Keeps.mkFst y8
      · split
        · exact Keeps.mkFst y8
        · refine Keeps.iteFst (fun _ => Keeps.mkFst y8) (fun _ => ?_)
          extract_lets +onlyGivenNames x9
          have h10 : Keeps F s0 x9 := State.retGran_keeps (hF.of rfl) y8
          clear_value x9
          extract_lets +onlyGivenNames x11
          exact Keeps.mkFst (Keeps.ite (fun _ => State.entryDone_keeps (hF.of rfl) h10) (fun _ => h10))
    clear_value x4
    split
    rename_i z12 z13 z14 z15
    have h16 : Keeps F s0 z13 := by
      refine Keeps.ofFst z15 ?_
      refine Keeps.foldlFst (Keeps.mkFst h) (fun x17 e18 h19 => ?_)
      apply h5
      exact h19
    extract_lets +onlyGivenNames x20
    extract_lets +onlyGivenNames x21
    clear_value x21
    extract_lets +onlyGivenNames x22
    have h23 : Keeps F s0 x22 := State.updEmb_keeps (hF.of rfl) h16
    clear_value x22
    exact Keeps.ite (fun _ => State.tagRelease_keeps (hF.of rfl) h23) (fun _ => h23)

theorem State.ackSeg_keeps {F : Nat} {s0 s : State} {a1 a2} (hF : Sub 0x8 F) (h : Keeps F s0 s) :
    Keeps F s0 (State.ackSeg s a1 a2) := by
  unfold State.ackSeg
  extract_lets +onlyGivenNames x1 x2
  clear_value x1 x2
  exact State.updEmb_keeps (hF.of rfl) h

theorem State.embSegment_keeps {F : Nat} {s0 s : State} {a1 a2 a3} (hF : Sub 0x1bf0000007e200000000000002000000880001000c6c9b80ff F) (h : Keeps F s0 s) :
    Keeps F s0 (State.embSegment s a1 a2 a3) := by
  unfold State.embSegment
  extract_lets +onlyGivenNames x1
  clear_value x1
  refine Keeps.ite (fun _ => State.count_keeps (hF.of rfl) (R.CNT_GLB_in (hF.of rfl)) h) (fun _ => ?_)
  refine Keeps.ite (fun _ => State.count_keeps (hF.of rfl) (R.CNT_RLY_in (hF.of rfl)) h) (fun _ => ?_)
  extract_lets +onlyGivenNames x2
  have h3 : Keeps F s0 x2 := State.journalAdd_keeps (hF.of rfl) h
  clear_value x2
  extract_lets +onlyGivenNames x4
  have h5 : ∀ y1, Keeps F s0 y1 → Keeps F s0 (x4 y1) := by
    intro y6 y7
    unfold x4
    exact Keeps.ite (fun _ => State.count_keeps (hF.of rfl) (R.CNT_EMB_in (hF.of rfl)) y7) (fun _ => y7)
  clear_value x4
  split
  · refine State.inSeg_keeps (hF.of rfl) ?_
    refine State.serveSeg_keeps (hF.of rfl) ?_
    apply h5
    exact h3
  · exact State.retSeg_keeps (hF.of rfl) h3
  · refine State.inSeg_keeps (hF.of rfl) ?_
    apply h5
    exact h3
  · exact State.inSeg_keeps (hF.of rfl) h3
  · exact State.ackSeg_keeps (hF.of rfl) h3
  · refine State.inSeg_keeps (hF.of rfl) ?_
    refine State.serveSeg_keeps (hF.of rfl) ?_
    apply h5
    exact h3
  · exact State.retSeg_keeps (hF.of rfl) h3

theorem State.carTimeout_keeps {F : Nat} {s0 s : State} {a1 a2 a3} (hF : Sub 0xa10000007e20000000000000000000000000100046c9b8019 F) (h : Keeps F s0 s) :
    Keeps F s0 (State.carTimeout s a1 a2 a3) := by
  unfold State.carTimeout
  split
  · exact h
  · extract_lets +onlyGivenNames x1
    have h2 : Keeps F s0 x1 := State.tagRelease_keeps (hF.of rfl) h
    clear_value x1
    refine Keeps.ite (fun _ => State.raise_keeps (hF.of rfl) h2) (fun _ => ?_)
    refine Keeps.ite (fun _ => State.tagTake_keeps (hF.of rfl) h2) (fun _ => ?_)
    extract_lets +onlyGivenNames x3
    clear_value x3
    extract_lets +onlyGivenNames x4
    have h5 : Keeps F s0 x4 := State.updEmb_keeps (hF.of rfl) (State.tagTake_keeps (hF.of rfl) h2)
    clear_value x4
    exact State.count_keeps (hF.of rfl) (R.CNT_EMB_in (hF.of rfl)) (State.sendCaravan_keeps (hF.of rfl) h5)

theorem State.convoyTimeout_keeps {F : Nat} {s0 s : State} {a1 a2 a3} (hF : Sub 0xa10000007e20000000000000000000000000100040c9b8019 F) (h : Keeps F s0 s) :
    Keeps F s0 (State.convoyTimeout s a1 a2 a3) := by
  unfold State.convoyTimeout
  split
  · exact h
  · refine Keeps.ite (fun _ => State.raise_keeps (hF.of rfl) h) (fun _ => ?_)
    extract_lets +onlyGivenNames x1
    have h2 : Keeps F s0 x1 := State.updEmb_keeps (hF.of rfl) h
    clear_value x1
    extract_lets +onlyGivenNames x3
    have h4 : Keeps F s0 x3 := by
      unfold x3
      refine Keeps.ite (fun _ => ?_) (fun _ => h2)
      refine Keeps.foldl h2 (fun x5 e6 h7 => ?_)
      exact State.count_keeps (hF.of rfl) (R.CNT_EMB_in (hF.of rfl)) (State.sendCaravan_keeps (hF.of rfl) h7)
    clear_value x3
    exact State.sendClosing_keeps (hF.of rfl) h4

theorem State.embRepeat_keeps {F : Nat} {s0 s : State} {a1} (hF : Sub 0x60000008 F) (h : Keeps F s0 s) :
    Keeps F s0 (State.embRepeat s a1) := by
  unfold State.embRepeat
  extract_lets +onlyGivenNames x1
  have h2 : Keeps F s0 x1 := Keeps.foldl h (fun x3 e4 h5 => State.tagRelease_keeps (hF.of rfl) h5)
  clear_value x1
  extract_lets +onlyGivenNames x6
  clear_value x6
  exact State.updEmb_keeps (hF.of rfl) h2

theorem State.embLegBegin_keeps {F : Nat} {s0 s : State} {a1} (hF : Sub 0xb90000007e20000000000000200000000000100040c9b801f F) (h : Keeps F s0 s) :
    Keeps F s0 (State.embLegBegin s a1) := by
  unfold State.embLegBegin
  extract_lets +onlyGivenNames x1
  have h2 : Keeps F s0 x1 := State.embStatus_keeps (hF.of rfl) h
  clear_value x1
  extract_lets +onlyGivenNames x3
  have h4 : Keeps F s0 x3 := by
    unfold x3
    refine Keeps.ite (fun _ => h2) (fun _ => ?_)
    refine Keeps.foldl h2 (fun x5 e6 h7 => ?_)
    refine Keeps.ite (fun _ => State.applyDeferred_keeps (hF.of rfl) h7) (fun _ => ?_)
    refine Keeps.ite (fun _ => ?_) (fun _ => h7)
    exact State.embStatus_keeps (hF.of rfl) (State.lateRec_keeps (hF.of rfl) (State.updEmb_keeps (hF.of rfl) h7))
  clear_value x3
  exact Keeps.foldl h4 (fun x8 e9 h10 => State.takeConvoy_keeps (hF.of rfl) h10)

theorem State.embLegEnd_keeps {F : Nat} {s0 s : State} {a1} (hF : Sub 0x8 F) (h : Keeps F s0 s) :
    Keeps F s0 (State.embLegEnd s a1) := by
  unfold State.embLegEnd
  extract_lets +onlyGivenNames x1
  clear_value x1
  extract_lets +onlyGivenNames x2
  have h3 : Keeps F s0 x2 := Keeps.ite (fun _ => State.overdue_keeps (hF.of rfl) h) (fun _ => h)
  clear_value x2
  exact State.updEmb_keeps (hF.of rfl) h3

theorem State.embReplicaRead_keeps {F : Nat} {s0 s : State} {a1} (hF : Sub 0x8 F) (h : Keeps F s0 s) :
    Keeps F s0 (State.embReplicaRead s a1) := by
  unfold State.embReplicaRead
  exact Keeps.foldl h (fun x1 e2 h3 => State.addRec_keeps (hF.of rfl) h3)

theorem State.embLapEnd_keeps {F : Nat} {s0 s : State} {a1} (hF : Sub 0x8 F) (h : Keeps F s0 s) :
    Keeps F s0 (State.embLapEnd s a1) := by
  unfold State.embLapEnd
  extract_lets +onlyGivenNames x1
  clear_value x1
  exact State.updEmb_keeps (hF.of rfl) h

theorem execStage_keeps {F : Nat} {s0 s : State} {a1 a2 a3} (hF : Sub 0x1bd0000007e200000000000000000000880001000c0c9b80ff F) (h : Keeps F s0 s) :
    KeepsX F s0 (execStage a1 a2 a3 s) := by
  unfold execStage
  exact KeepsX.next (State.embResume_keeps (hF.of rfl) (State.stage_keeps (hF.of rfl) h))

theorem execSweepRowDone_keeps {F : Nat} {s0 s : State} {a1 a2 a3 a4 a5} (hF : Sub 0x1bd0000007e20000000000022c000000880001000c0c9be2ff F) (h : Keeps F s0 s) :
    KeepsX F s0 (execSweepRowDone a1 a2 a3 a4 a5 s) := by
  unfold execSweepRowDone
  refine KeepsX.next ?_
  extract_lets +onlyGivenNames x1
  have h2 : Keeps F s0 x1 := State.sweepRow_keeps (hF.of rfl) (State.plant_keeps (hF.of rfl) h)
  clear_value x1
  exact Keeps.foldl h2 (fun x3 e4 h5 => State.embResume_keeps (hF.of rfl) h5)

theorem execClose_keeps {F : Nat} {s0 s : State} {a1 a2 a3} (hF : Sub 0x1bd0000007e200000000000002000000880001000c0c9b80ff F) (h : Keeps F s0 s) :
    KeepsX F s0 (execClose a1 a2 a3 s) := by
  unfold execClose
  exact KeepsX.next (State.embCmd_keeps (hF.of rfl) (State.plant_keeps (hF.of rfl) h))

theorem execRefresh_keeps {F : Nat} {s0 s : State} {a1 a2 a3} (hF : Sub 0x1bd0000007e200000000000002000000880001000c0c9b80ff F) (h : Keeps F s0 s) :
    KeepsX F s0 (execRefresh a1 a2 a3 s) := by
  unfold execRefresh
  exact KeepsX.next (State.embCmd_keeps (hF.of rfl) (State.plant_keeps (hF.of rfl) h))

theorem execCloseComplete_keeps {F : Nat} {s0 s : State} {a1 a2} (hF : Sub 0xb90000007e20000004000000200000000000100040c9b801f F) (h : Keeps F s0 s) :
    KeepsX F s0 (execCloseComplete a1 a2 s) := by
  unfold execCloseComplete
  exact KeepsX.next (State.closeComplete_keeps (hF.of rfl) h)

theorem execRowRequestResolve_keeps {F : Nat} {s0 s : State} {a1 a2} (hF : Sub 0x13d0000007e200000000000000000000880001000c049b80ff F) (h : Keeps F s0 s) :
    KeepsX F s0 (execRowRequestResolve a1 a2 s) := by
  unfold execRowRequestResolve
  exact KeepsX.next (State.resolve_keeps (hF.of rfl) (State.plant_keeps (hF.of rfl) h))

theorem execCaravanSend_keeps {F : Nat} {s0 s : State} {a1 a2 a3 a4 a5} (hF : Sub 0xa10000007e00000000000000000000000000000042c9b8009 F) (h : Keeps F s0 s) :
    KeepsX F s0 (execCaravanSend a1 a2 a3 a4 a5 s) := by
  unfold execCaravanSend
  exact KeepsX.next (State.caravanSend_keeps (hF.of rfl) h)

theorem execRequestSegment_keeps {F : Nat} {s0 s : State} {a1 a2 a3 a4} (hF : Sub 0x1bf0000007e200000000000002000000880001000c6c9b80ff F) (h : Keeps F s0 s) :
    KeepsX F s0 (execRequestSegment a1 a2 a3 a4 s) := by
  unfold execRequestSegment
  refine KeepsX.next ?_
  exact Keeps.ite (fun _ => State.embSegment_keeps (hF.of rfl) (State.plant_keeps (hF.of rfl) h)) (fun _ => h)

theorem execReturnSegment_keeps {F : Nat} {s0 s : State} {a1 a2 a3} (hF : Sub 0x1bf0000007e200000000000002000000880001000c6c9b80ff F) (h : Keeps F s0 s) :
    KeepsX F s0 (execReturnSegment a1 a2 a3 s) := by
  unfold execReturnSegment
  exact KeepsX.next (Keeps.ite (fun _ => State.embSegment_keeps (hF.of rfl) h) (fun _ => h))

theorem execReverseSegment_keeps {F : Nat} {s0 s : State} {a1 a2 a3} (hF : Sub 0x1bf0000007e200000000000002000000880001000c6c9b80ff F) (h : Keeps F s0 s) :
    KeepsX F s0 (execReverseSegment a1 a2 a3 s) := by
  unfold execReverseSegment
  exact KeepsX.next (Keeps.ite (fun _ => State.embSegment_keeps (hF.of rfl) h) (fun _ => h))

theorem execCloseSegment_keeps {F : Nat} {s0 s : State} {a1 a2 a3} (hF : Sub 0x1bf0000007e200000000000002000000880001000c6c9b80ff F) (h : Keeps F s0 s) :
    KeepsX F s0 (execCloseSegment a1 a2 a3 s) := by
  unfold execCloseSegment
  exact KeepsX.next (Keeps.ite (fun _ => State.embSegment_keeps (hF.of rfl) h) (fun _ => h))

theorem execCloseAckSegment_keeps {F : Nat} {s0 s : State} {a1 a2 a3} (hF : Sub 0x1bf0000007e200000000000002000000880001000c6c9b80ff F) (h : Keeps F s0 s) :
    KeepsX F s0 (execCloseAckSegment a1 a2 a3 s) := by
  unfold execCloseAckSegment
  exact KeepsX.next (Keeps.ite (fun _ => State.embSegment_keeps (hF.of rfl) h) (fun _ => h))

theorem execRefreshSegment_keeps {F : Nat} {s0 s : State} {a1 a2 a3 a4} (hF : Sub 0x1bf0000007e200000000000002000000880001000c6c9b80ff F) (h : Keeps F s0 s) :
    KeepsX F s0 (execRefreshSegment a1 a2 a3 a4 s) := by
  unfold execRefreshSegment
  refine KeepsX.next ?_
  exact Keeps.ite (fun _ => State.embSegment_keeps (hF.of rfl) (State.plant_keeps (hF.of rfl) h)) (fun _ => h)

theorem execRefreshRetSegment_keeps {F : Nat} {s0 s : State} {a1 a2 a3} (hF : Sub 0x1bf0000007e200000000000002000000880001000c6c9b80ff F) (h : Keeps F s0 s) :
    KeepsX F s0 (execRefreshRetSegment a1 a2 a3 s) := by
  unfold execRefreshRetSegment
  exact KeepsX.next (Keeps.ite (fun _ => State.embSegment_keeps (hF.of rfl) h) (fun _ => h))

theorem execUnknownSegment_keeps {F : Nat} {s0 s : State} {a1 a2 a3} (hF : Sub 0x1bf0000007e200000000000002000000880001000c6c9b80ff F) (h : Keeps F s0 s) :
    KeepsX F s0 (execUnknownSegment a1 a2 a3 s) := by
  unfold execUnknownSegment
  exact KeepsX.next (Keeps.ite (fun _ => State.embSegment_keeps (hF.of rfl) h) (fun _ => h))

theorem execCaravanTimeout_keeps {F : Nat} {s0 s : State} {a1 a2 a3 a4} (hF : Sub 0xa10000007e20000000000000000000000000100046c9b8019 F) (h : Keeps F s0 s) :
    KeepsX F s0 (execCaravanTimeout a1 a2 a3 a4 s) := by
  unfold execCaravanTimeout
  refine KeepsX.next ?_
  refine Keeps.ite (fun _ => State.carTimeout_keeps (hF.of rfl) h) (fun _ => ?_)
  exact Keeps.ite (fun _ => State.convoyTimeout_keeps (hF.of rfl) h) (fun _ => h)

end Sys2Proof.Machine
end

