-- ==== Sys2Proof/Laws/KeepsRelay.lean ====
section
/-! SUPPORT. What the operations of Machine/Relay.lean keep (Laws/Keeps.lean): one lemma for each. -/

namespace Sys2Proof.Machine

open Sys2Proof

/-- An address that holds no trigger counter is not among them. -/
theorem trigBetween_not {lo hi a : Nat} (hn : ¬ R.RLY_TRIGGER.owns a) : trigBetween lo hi a = false := by
  have e : ∀ k, R.RLY_TRIGGER.addr 0 k = R.RLY_TRIGGER.addr 0 0 + k * 8 := fun k => by unfold Card.addr; rw [Nat.zero_mul]; rfl
  cases hb : trigBetween lo hi a with
  | false => rfl
  | true =>
    unfold trigBetween at hb
    simp only [Bool.and_eq_true, decide_eq_true_eq] at hb
    rw [e lo, e (min _ _), show R.RLY_TRIGGER.stride = 8 from rfl, show R.RLY_TRIGGER.count = 4096 from rfl] at hb
    refine absurd ⟨0, (a - R.RLY_TRIGGER.addr 0 0) / 8, ?_, .inl ?_⟩ hn
    · have : (a - R.RLY_TRIGGER.addr 0 0) / 8 < R.RLY_TRIGGER.count := by
        show _ < 4096
        generalize R.RLY_TRIGGER.addr 0 0 = A at *
        omega
      simp only [Card.has, Bool.and_eq_true, decide_eq_true_eq]
      exact ⟨by decide, this⟩
    · rw [e]
      generalize R.RLY_TRIGGER.addr 0 0 = A at *
      omega

theorem State.updRly_keeps {F : Nat} {s0 s : State} {a1 a2} (hF : Sub 0x8 F) (h : Keeps F s0 s) :
    Keeps F s0 (State.updRly s a1 a2) := by
  unfold State.updRly
  exact State.updPart_keeps (hF.of rfl) h

theorem State.sendRly_keeps {F : Nat} {s0 s : State} {a1 a2 a3 a4 a5 a6 a7} (hF : Sub 0x810000007e00000000000000000000000000000040c9b8009 F) (h : Keeps F s0 s) :
    Keeps F s0 (State.sendRly s a1 a2 a3 a4 a5 a6 a7) := by
  unfold State.sendRly
  exact State.sendPkt_keeps (hF.of rfl) h

theorem State.wayCredit_keeps {F : Nat} {s0 s : State} {a1 a2 a3 a4 a5 a6 a7} (hF : Sub 0x810000007e00000000000000000000000000000040c9b8009 F) (h : Keeps F s0 s) :
    Keeps F s0 (State.wayCredit s a1 a2 a3 a4 a5 a6 a7) := by
  unfold State.wayCredit
  exact State.sendRly_keeps (hF.of rfl) h

theorem State.setColl_keeps {F : Nat} {s0 s : State} {a1 a2} (hF : Sub 0x8 F) (h : Keeps F s0 s) :
    Keeps F s0 (State.setColl s a1 a2) := by
  unfold State.setColl
  exact State.updRly_keeps (hF.of rfl) h

theorem State.dropDeferred_keeps {F : Nat} {s0 s : State} {a1 a2} (hF : Sub 0x8 F) (h : Keeps F s0 s) :
    Keeps F s0 (State.dropDeferred s a1 a2) := by
  unfold State.dropDeferred
  exact State.updRly_keeps (hF.of rfl) h

theorem State.rlyDefer_keeps {F : Nat} {s0 s : State} {a1 a2 a3} (hF : Sub 0x8000000000000000000000000000000000000000000000009 F) (h : Keeps F s0 s) :
    Keeps F s0 (State.rlyDefer s a1 a2 a3) := by
  unfold State.rlyDefer
  refine Keeps.ite (fun _ => h) (fun _ => ?_)
  extract_lets +onlyGivenNames x1 x2 x3
  clear_value x1 x2 x3
  refine Keeps.ite (fun _ => ?_) (fun _ => State.updRly_keeps (hF.of rfl) h)
  exact State.count_keeps (hF.of rfl) (R.CNT_RLY_in (hF.of rfl)) h

theorem State.ownData_keeps {F : Nat} {s0 s : State} {a1 a2 a3 a4 a5 a6} (hF : Sub 0x1190000007e2000000000000000000000000010004049b801d F) (h : Keeps F s0 s) :
    Keeps F s0 (State.ownData s a1 a2 a3 a4 a5 a6).1 := by
  unfold State.ownData
  extract_lets +onlyGivenNames x1
  clear_value x1
  extract_lets +onlyGivenNames x2
  have h3 : Keeps F s0 x2 := State.sense_keeps (hF.of rfl) h
  clear_value x2
  extract_lets +onlyGivenNames x4 x5
  clear_value x4 x5
  split
  · exact Keeps.mkFst h3
  · exact Keeps.mkFst h3

theorem State.putDst_keeps {F : Nat} {s0 s : State} {a1 a2 a3 a4} (hF : Sub 0x11800000000000000000000000000000000000000000000007 F) (h : Keeps F s0 s) :
    Keeps F s0 (State.putDst s a1 a2 a3 a4) := by
  unfold State.putDst
  refine Keeps.foldl h (fun x1 e2 h3 => ?_)
  split
  exact State.save_keeps (hF.of rfl) (State.snoop_keeps (hF.of rfl) h3)

theorem State.finish_keeps {F : Nat} {s0 s : State} {a1 a2 a3 a4 a5 a6 a7} (hF : Sub 0x1180000000000000000000000000000000000000000000000f F) (h : Keeps F s0 s) :
    Keeps F s0 (State.finish s a1 a2 a3 a4 a5 a6 a7) := by
  unfold State.finish
  split
  · exact State.putDst_keeps (hF.of rfl) h
  · split
    · exact h
    · extract_lets +onlyGivenNames x1 x2
      clear_value x1 x2
      exact State.setColl_keeps (hF.of rfl) h

theorem State.pump_keeps {F : Nat} {s0 s : State} {a1 a2 a3 a4 a5} (hF : Sub 0x810000007e00000000000000000000000000000040c9b8009 F) (h : Keeps F s0 s) :
    Keeps F s0 (State.pump s a1 a2 a3 a4 a5) := by
  induction a5 generalizing s a1 a2 a3 a4
  case zero =>
    rw [State.pump]
    exact h
  case succ k ih =>
    rw [State.pump]
    split
    · exact h
    · split
      · exact h
      · extract_lets +onlyGivenNames x1
        clear_value x1
        extract_lets +onlyGivenNames x2
        refine Keeps.ite (fun _ => h) (fun _ => ?_)
        extract_lets +onlyGivenNames x3 x4 x5
        clear_value x3 x4 x5
        extract_lets +onlyGivenNames x6
        have h7 : Keeps F s0 x6 := State.count_keeps (hF.of rfl) (R.CNT_RLY_in (hF.of rfl)) (State.setColl_keeps (hF.of rfl) h)
        clear_value x6
        extract_lets +onlyGivenNames x8
        have h9 : Keeps F s0 x8 := State.sendRly_keeps (hF.of rfl) h7
        clear_value x8
        apply ih
        exact h9

theorem State.pushBaton_keeps {F : Nat} {s0 s : State} {a1 a2 a3 a4 a5} (hF : Sub 0x810000007e00000000000000000000000000000040c9b8009 F) (h : Keeps F s0 s) :
    Keeps F s0 (State.pushBaton s a1 a2 a3 a4 a5) := by
  unfold State.pushBaton
  extract_lets +onlyGivenNames x1
  clear_value x1
  split
  · exact h
  · refine Keeps.ite (fun _ => State.setColl_keeps (hF.of rfl) h) (fun _ => ?_)
    exact State.pump_keeps (hF.of rfl) (State.setColl_keeps (hF.of rfl) h)

theorem State.pushOwn_keeps {F : Nat} {s0 s : State} {a1 a2 a3} (hF : Sub 0x1990000007e20000000000000000000000000100040c9b801f F) (h : Keeps F s0 s) :
    Keeps F s0 (State.pushOwn s a1 a2 a3) := by
  unfold State.pushOwn
  extract_lets +onlyGivenNames x1 x2
  clear_value x1 x2
  split
  · refine Keeps.ite (fun _ => h) (fun _ => ?_)
    extract_lets +onlyGivenNames x3
    clear_value x3
    extract_lets +onlyGivenNames x4
    have h5 : Keeps F s0 x4 := State.setColl_keeps (hF.of rfl) h
    clear_value x4
    refine Keeps.ite (fun _ => h5) (fun _ => ?_)
    split
    extract_lets +onlyGivenNames x6
    clear_value x6
    extract_lets +onlyGivenNames x7
    have h8 : Keeps F s0 x7 := by
      unfold x7
      refine Keeps.ite (fun _ => ?_) (fun _ => h5)
      split
      rename_i z9 z10 z11 z12 z13
      have h14 : Keeps F s0 z10 := Keeps.ofFst z13 (State.ownData_keeps (hF.of rfl) h5)
      exact State.putDst_keeps (hF.of rfl) h14
    clear_value x7
    refine Keeps.ite (fun _ => h8) (fun _ => ?_)
    refine Keeps.foldl h8 (fun x15 e16 h17 => ?_)
    split
    refine Keeps.ite (fun _ => State.pushBaton_keeps (hF.of rfl) h17) (fun _ => ?_)
    split
    rename_i z18 z19 z20 z21 z22
    have h23 : Keeps F s0 z19 := Keeps.ofFst z22 (State.ownData_keeps (hF.of rfl) h17)
    exact State.pushBaton_keeps (hF.of rfl) h23
  · exact h

theorem State.relayRec_keeps {F : Nat} {s0 s : State} {a1 a2 a3 a4 a5} (hF : Sub 0x8 F) (h : Keeps F s0 s) :
    Keeps F s0 (State.relayRec s a1 a2 a3 a4 a5) := by
  unfold State.relayRec
  exact Keeps.ite (fun _ => h) (fun _ => State.addRec_keeps (hF.of rfl) h)

theorem State.leadPassed_keeps {F : Nat} {s0 s : State} {a1 a2 a3 a4} (hF : Sub 0x8 F) (h : Keeps F s0 s) :
    Keeps F s0 (State.leadPassed s a1 a2 a3 a4) := by
  unfold State.leadPassed
  extract_lets +onlyGivenNames x1
  clear_value x1
  split
  · exact h
  · extract_lets +onlyGivenNames x2 x3
    clear_value x2 x3
    extract_lets +onlyGivenNames x4
    have h5 : ∀ y1 y2 y3 y4, Keeps F s0 y1 → Keeps F s0 (x4 y1 y2 y3 y4) := by
      intro y6 y7 y8 y9 y10
      unfold x4
      exact Keeps.foldl y10 (fun x11 e12 h13 => State.relayRec_keeps (hF.of rfl) h13)
    clear_value x4
    extract_lets +onlyGivenNames x14
    have h15 : Keeps F s0 x14 := by
      unfold x14
      apply h5
      apply h5
      apply h5
      exact h
    clear_value x14
    split
    · exact State.setColl_keeps (hF.of rfl) h15
    · refine Keeps.ite (fun _ => ?_) (fun _ => ?_)
      · exact State.setColl_keeps (hF.of rfl) (State.dropDeferred_keeps (hF.of rfl) h15)
      · refine Keeps.ite (fun _ => ?_) (fun _ => State.setColl_keeps (hF.of rfl) h15)
        exact State.setColl_keeps (hF.of rfl) (State.dropDeferred_keeps (hF.of rfl) h15)

theorem State.sendLead_keeps {F : Nat} {s0 s : State} {a1 a2 a3 a4 a5 a6} (hF : Sub 0x810000007e00000000000000000000000000000040c9b8009 F) (h : Keeps F s0 s) :
    Keeps F s0 (State.sendLead s a1 a2 a3 a4 a5 a6) := by
  unfold State.sendLead
  exact State.sendRly_keeps (hF.of rfl) h

theorem State.greet_keeps {F : Nat} {s0 s : State} {a1 a2 a3 a4 a5} (hF : Sub 0x810000007e00000000000000000000000000000040c9b8009 F) (h : Keeps F s0 s) :
    Keeps F s0 (State.greet s a1 a2 a3 a4 a5) := by
  unfold State.greet
  extract_lets +onlyGivenNames x1
  have h2 : Keeps F s0 x1 := Keeps.ite (fun _ => State.sendRly_keeps (hF.of rfl) h) (fun _ => h)
  clear_value x1
  exact Keeps.ite (fun _ => h2) (fun _ => State.wayCredit_keeps (hF.of rfl) h2)

theorem State.enterPhase_keeps {F : Nat} {s0 s : State} {a1 a2 a3} (hF : Sub 0x1990000007e20000000000000000000000000100040c9b801f F) (h : Keeps F s0 s) :
    Keeps F s0 (State.enterPhase s a1 a2 a3) := by
  unfold State.enterPhase
  extract_lets +onlyGivenNames x1 x2
  clear_value x1 x2
  split
  · exact h
  · split
    · exact h
    · extract_lets +onlyGivenNames x3 x4 x5
      clear_value x3 x4 x5
      extract_lets +onlyGivenNames x6
      have h7 : Keeps F s0 x6 := State.greet_keeps (hF.of rfl) (State.setColl_keeps (hF.of rfl) h)
      clear_value x6
      extract_lets +onlyGivenNames x8
      have h9 : Keeps F s0 x8 := by
        unfold x8
        refine Keeps.ite (fun _ => ?_) (fun _ => h7)
        exact State.rlyDefer_keeps (hF.of rfl) (State.count_keeps (hF.of rfl) (R.CNT_RLY_in (hF.of rfl)) h7)
      clear_value x8
      refine Keeps.ite (fun _ => ?_) (fun _ => State.pushOwn_keeps (hF.of rfl) h9)
      extract_lets +onlyGivenNames x10 x11
      clear_value x10 x11
      exact State.sendLead_keeps (hF.of rfl) (State.setColl_keeps (hF.of rfl) h9)

theorem State.joinAbsent_keeps {F : Nat} {s0 s : State} {a1 a2 a3} (hF : Sub 0x810000007e00000000000000000000000000000040c9b8009 F) (h : Keeps F s0 s) :
    Keeps F s0 (State.joinAbsent s a1 a2 a3) := by
  unfold State.joinAbsent
  extract_lets +onlyGivenNames x1 x2
  clear_value x1 x2
  split
  · exact h
  · extract_lets +onlyGivenNames x3 x4 x5 x6
    clear_value x3 x4 x5 x6
    refine State.greet_keeps (hF.of rfl) ?_
    exact State.count_keeps (hF.of rfl) (R.CNT_RLY_in (hF.of rfl)) (State.setColl_keeps (hF.of rfl) h)

theorem State.advance_keeps {F : Nat} {s0 s : State} {a1 a2} (hF : Sub 0x1990000007e20000000000000000000000000100040c9b801f F) (h : Keeps F s0 s) :
    Keeps F s0 (State.advance s a1 a2).1 := by
  unfold State.advance
  extract_lets +onlyGivenNames x1 x2 x3
  clear_value x1 x2 x3
  split
  · refine Keeps.iteFst (fun _ => Keeps.mkFst h) (fun _ => ?_)
    extract_lets +onlyGivenNames x4
    clear_value x4
    extract_lets +onlyGivenNames x5
    have h6 : Keeps F s0 x5 := State.setColl_keeps (hF.of rfl) h
    clear_value x5
    split
    · exact Keeps.mkFst (State.rlyDefer_keeps (hF.of rfl) (State.setColl_keeps (hF.of rfl) h6))
    · exact Keeps.mkFst (State.enterPhase_keeps (hF.of rfl) h6)
  · exact Keeps.mkFst h

theorem State.collOrder_keeps {F : Nat} {s0 s : State} {a1 a2} (hF : Sub 0x810000007e2000000000000000000000000010004049b8019 F) (h : Keeps F s0 s) :
    Keeps F s0 (State.collOrder s a1 a2) := by
  unfold State.collOrder
  extract_lets +onlyGivenNames x1
  clear_value x1
  exact State.raise_keeps (hF.of rfl) (State.count_keeps (hF.of rfl) (R.CNT_RLY_in (hF.of rfl)) h)

theorem State.acceptBaton_keeps {F : Nat} {s0 s : State} {a1 a2 a3 a4 a5 a6} (hF : Sub 0x19d0000007e200000000000000000000880001000c0c9b80ff F) (h : Keeps F s0 s) :
    Keeps F s0 (State.acceptBaton s a1 a2 a3 a4 a5 a6) := by
  unfold State.acceptBaton
  extract_lets +onlyGivenNames x1 x2 x3 x4 x5
  clear_value x1 x2 x3 x4 x5
  extract_lets +onlyGivenNames x6
  have h7 : Keeps F s0 x6 := State.count_keeps (hF.of rfl) (R.CNT_RLY_in (hF.of rfl)) (State.setColl_keeps (hF.of rfl) h)
  clear_value x6
  extract_lets +onlyGivenNames x8
  clear_value x8
  extract_lets +onlyGivenNames x9
  have h10 : Keeps F s0 x9 := State.scrPut_keeps (hF.of rfl) h7
  clear_value x9
  extract_lets +onlyGivenNames x11
  have h12 : Keeps F s0 x11 := Keeps.foldl h10 (fun x13 e14 h15 => State.scrPut_keeps (hF.of rfl) h15)
  clear_value x11
  split
  extract_lets +onlyGivenNames x16 x17 x18 x19
  clear_value x16 x17 x18 x19
  extract_lets +onlyGivenNames x20
  have h21 : Keeps F s0 x20 := Keeps.ite (fun _ => State.putDst_keeps (hF.of rfl) h12) (fun _ => h12)
  clear_value x20
  extract_lets +onlyGivenNames x22
  have h23 : Keeps F s0 x22 := by
    unfold x22
    refine Keeps.ite (fun _ => ?_) (fun _ => ?_)
    · split
      rename_i z24 z25 z26 z27 z28 z29
      have h30 : Keeps F s0 z25 := by
        refine Keeps.ofFst z29 ?_
        refine Keeps.iteFst (fun _ => Keeps.mkFst h12) (fun _ => ?_)
        split
        rename_i z31 z32 z33 z34 z35
        have h36 : Keeps F s0 z32 := Keeps.ofFst z35 (State.ownData_keeps (hF.of rfl) h12)
        exact Keeps.iteFst (fun _ => Keeps.mkFst h36) (fun _ => Keeps.mkFst h36)
      exact Keeps.ite (fun _ => State.finish_keeps (hF.of rfl) h30) (fun _ => State.pushBaton_keeps (hF.of rfl) h30)
    · exact Keeps.ite (fun _ => h21) (fun _ => State.pushBaton_keeps (hF.of rfl) h21)
  clear_value x22
  exact State.wayCredit_keeps (hF.of rfl) h23

theorem State.onBaton_keeps {F : Nat} {s0 s : State} {a1 a2 a3 a4 a5 a6} (hF : Sub 0x1bd0000007e200000000000000000000880001000c0c9b80ff F) (h : Keeps F s0 s) :
    Keeps F s0 (State.onBaton s a1 a2 a3 a4 a5 a6).1 := by
  unfold State.onBaton
  split
  · exact Keeps.mkFst h
  · extract_lets +onlyGivenNames x1
    clear_value x1
    refine Keeps.iteFst (fun _ => ?_) (fun _ => ?_)
    · refine Keeps.mkFst ?_
      exact State.wayCredit_keeps (hF.of rfl) (State.count_keeps (hF.of rfl) (R.CNT_EMB_in (hF.of rfl)) h)
    · refine Keeps.iteFst (fun _ => Keeps.mkFst h) (fun _ => ?_)
      exact Keeps.iteFst (fun _ => Keeps.mkFst h) (fun _ => Keeps.mkFst (State.acceptBaton_keeps (hF.of rfl) h))

theorem State.onCredit_keeps {F : Nat} {s0 s : State} {a1 a2 a3 a4 a5} (hF : Sub 0x810000007e00000000000000000000000000000040c9b8009 F) (h : Keeps F s0 s) :
    Keeps F s0 (State.onCredit s a1 a2 a3 a4 a5).1 := by
  unfold State.onCredit
  extract_lets +onlyGivenNames x1
  clear_value x1
  split
  · exact Keeps.mkFst h
  · refine Keeps.iteFst (fun _ => Keeps.mkFst (State.setColl_keeps (hF.of rfl) h)) (fun _ => ?_)
    refine Keeps.iteFst (fun _ => ?_) (fun _ => ?_)
    · extract_lets +onlyGivenNames x2
      clear_value x2
      exact Keeps.mkFst (State.pump_keeps (hF.of rfl) (State.setColl_keeps (hF.of rfl) h))
    · extract_lets +onlyGivenNames x3 x4 x5
      clear_value x3 x4 x5
      exact Keeps.mkFst (State.pump_keeps (hF.of rfl) (State.setColl_keeps (hF.of rfl) h))

theorem State.onResync_keeps {F : Nat} {s0 s : State} {a1 a2 a3 a4} (hF : Sub 0x810000007e00000000000000000000000000000040c9b8009 F) (h : Keeps F s0 s) :
    Keeps F s0 (State.onResync s a1 a2 a3 a4).1 := by
  unfold State.onResync
  refine Keeps.iteFst (fun _ => Keeps.mkFst (State.wayCredit_keeps (hF.of rfl) h)) (fun _ => ?_)
  split
  · exact Keeps.mkFst h
  · exact Keeps.mkFst (State.wayCredit_keeps (hF.of rfl) h)

theorem State.onLead_keeps {F : Nat} {s0 s : State} {a1 a2 a3 a4 a5} (hF : Sub 0x1990000007e20000000000000000000000000100040c9b801f F) (h : Keeps F s0 s) :
    Keeps F s0 (State.onLead s a1 a2 a3 a4 a5).1 := by
  unfold State.onLead
  extract_lets +onlyGivenNames x1
  clear_value x1
  split
  · extract_lets +onlyGivenNames x2
    clear_value x2
    exact Keeps.iteFst (fun _ => Keeps.mkFst (State.joinAbsent_keeps (hF.of rfl) h)) (fun _ => Keeps.mkFst h)
  · refine Keeps.iteFst (fun _ => ?_) (fun _ => ?_)
    · refine Keeps.iteFst (fun _ => Keeps.mkFst h) (fun _ => ?_)
      extract_lets +onlyGivenNames x3
      clear_value x3
      extract_lets +onlyGivenNames x4
      have h5 : Keeps F s0 x4 := State.leadPassed_keeps (hF.of rfl) (State.setColl_keeps (hF.of rfl) h)
      clear_value x4
      exact Keeps.mkFst (State.pushOwn_keeps (hF.of rfl) (State.sendLead_keeps (hF.of rfl) h5))
    · refine Keeps.iteFst (fun _ => ?_) (fun _ => ?_)
      · refine Keeps.iteFst (fun _ => Keeps.mkFst h) (fun _ => ?_)
        extract_lets +onlyGivenNames x6
        clear_value x6
        extract_lets +onlyGivenNames x7
        have h8 : Keeps F s0 x7 := by
          exact State.leadPassed_keeps (hF.of rfl) (State.sendLead_keeps (hF.of rfl) (State.setColl_keeps (hF.of rfl) h))
        clear_value x7
        exact Keeps.mkFst (State.pushOwn_keeps (hF.of rfl) h8)
      · refine Keeps.iteFst (fun _ => Keeps.mkFst h) (fun _ => ?_)
        extract_lets +onlyGivenNames x9 x10
        clear_value x9 x10
        exact Keeps.mkFst (State.sendLead_keeps (hF.of rfl) (State.setColl_keeps (hF.of rfl) h))

theorem State.joinColl_keeps {F : Nat} {s0 s : State} {a1 a2} (hF : Sub 0x8 F) (h : Keeps F s0 s) :
    Keeps F s0 (State.joinColl s a1 a2) := by
  unfold State.joinColl
  extract_lets +onlyGivenNames x1 x2 x3 x4 x5 x6
  clear_value x1 x2 x3 x4 x5 x6
  exact State.updRly_keeps (hF.of rfl) h

theorem State.notBegun_keeps {F : Nat} {s0 s : State} {a1 a2} (hF : Sub 0x8 F) (h : Keeps F s0 s) :
    Keeps F s0 (State.notBegun s a1 a2).1 := by
  unfold State.notBegun
  refine Keeps.iteFst (fun _ => Keeps.mkFst h) (fun _ => ?_)
  exact Keeps.iteFst (fun _ => Keeps.mkFst (State.joinColl_keeps (hF.of rfl) h)) (fun _ => Keeps.mkFst h)

theorem State.rlyTry_keeps {F : Nat} {s0 s : State} {a1 a2 a3} (hF : Sub 0x1bd0000007e200000000000000000000880001000c0c9b80ff F) (h : Keeps F s0 s) :
    Keeps F s0 (State.rlyTry s a1 a2 a3).1 := by
  unfold State.rlyTry
  extract_lets +onlyGivenNames x1 x2
  clear_value x1 x2
  split
  · refine Keeps.iteFst (fun _ => Keeps.mkFst (State.collOrder_keeps (hF.of rfl) h)) (fun _ => ?_)
    extract_lets +onlyGivenNames x3
    clear_value x3
    split
    · exact Keeps.mkFst (State.collOrder_keeps (hF.of rfl) h)
    · refine Keeps.iteFst (fun _ => Keeps.mkFst (State.collOrder_keeps (hF.of rfl) h)) (fun _ => ?_)
      split
      · exact State.onBaton_keeps (hF.of rfl) h
      · exact State.onCredit_keeps (hF.of rfl) h
      · exact State.onLead_keeps (hF.of rfl) h
      · exact State.onResync_keeps (hF.of rfl) h
  · split
    · refine Keeps.iteFst (fun _ => ?_) (fun _ => State.notBegun_keeps (hF.of rfl) h)
      exact Keeps.mkFst (State.count_keeps (hF.of rfl) (R.CNT_EMB_in (hF.of rfl)) h)
    · refine Keeps.iteFst (fun _ => State.notBegun_keeps (hF.of rfl) h) (fun _ => ?_)
      refine Keeps.iteFst (fun _ => ?_) (fun _ => Keeps.mkFst (State.collOrder_keeps (hF.of rfl) h))
      exact Keeps.mkFst (State.count_keeps (hF.of rfl) (R.CNT_EMB_in (hF.of rfl)) h)

theorem State.rlyRetry_keeps {F : Nat} {s0 s : State} {a1 a2 a3} (hF : Sub 0x1bd0000007e200000000000000000000880001000c0c9b80ff F) (h : Keeps F s0 s) :
    Keeps F s0 (State.rlyRetry s a1 a2 a3).1 := by
  unfold State.rlyRetry
  refine Keeps.foldlFst (Keeps.mkFst h) (fun x1 e2 h3 => ?_)
  split
  · rename_i z4 z5 z6
    have h7 : Keeps F s0 z5 := Keeps.ofFst z6 (State.rlyTry_keeps (hF.of rfl) h3)
    exact Keeps.mkFst h7
  · rename_i z8 z9 z10
    have h11 : Keeps F s0 z9 := Keeps.ofFst z10 (State.rlyTry_keeps (hF.of rfl) h3)
    exact Keeps.mkFst h11

theorem State.rlyRun_keeps {F : Nat} {s0 s : State} {a1 a2} (hF : Sub 0x1bd0000007e200000000000000000000880001000c0c9b80ff F) (h : Keeps F s0 s) :
    Keeps F s0 (State.rlyRun s a1 a2) := by
  induction a2 generalizing s a1
  case zero =>
    rw [State.rlyRun]
    exact h
  case succ k ih =>
    rw [State.rlyRun]
    split
    rename_i z1 z2 z3 z4
    have h5 : Keeps F s0 z2 := by
      refine Keeps.ofFst z4 ?_
      refine Keeps.foldlFst (Keeps.mkFst h) (fun x6 e7 h8 => ?_)
      split
      rename_i z9 z10 z11 z12
      have h13 : Keeps F s0 z10 := Keeps.ofFst z12 (State.advance_keeps (hF.of rfl) h8)
      exact Keeps.mkFst h13
    extract_lets +onlyGivenNames x14
    clear_value x14
    split
    rename_i z15 z16 z17 z18
    have h19 : Keeps F s0 z16 := Keeps.ofFst z18 (State.rlyRetry_keeps (hF.of rfl) h5)
    extract_lets +onlyGivenNames x20
    have h21 : Keeps F s0 x20 := State.updRly_keeps (hF.of rfl) h19
    clear_value x20
    split
    rename_i z22 z23 z24 z25
    have h26 : Keeps F s0 z23 := Keeps.ofFst z25 (State.rlyRetry_keeps (hF.of rfl) h21)
    extract_lets +onlyGivenNames x27
    have h28 : Keeps F s0 x27 := State.updRly_keeps (hF.of rfl) h26
    clear_value x27
    refine Keeps.ite (fun _ => ?_) (fun _ => h28)
    apply ih
    exact h28

theorem State.rlyGo_keeps {F : Nat} {s0 s : State} {a1} (hF : Sub 0x1bd0000007e200000000000000000000880001000c0c9b80ff F) (h : Keeps F s0 s) :
    Keeps F s0 (State.rlyGo s a1) := by
  unfold State.rlyGo
  exact State.rlyRun_keeps (hF.of rfl) h

theorem State.sendDigest_keeps {F : Nat} {s0 s : State} {a1 a2 a3 a4 a5} (hF : Sub 0x810000007e00000000000000000000000000000040c9b8009 F) (h : Keeps F s0 s) :
    Keeps F s0 (State.sendDigest s a1 a2 a3 a4 a5) := by
  unfold State.sendDigest
  extract_lets +onlyGivenNames x1
  clear_value x1
  exact State.sendPkt_keeps (hF.of rfl) h

theorem State.digestRun_keeps {F : Nat} {s0 s : State} {a1 a2} (hF : Sub 0x810000007e00000000000000000000000000000040c9b8009 F) (h : Keeps F s0 s) :
    Keeps F s0 (State.digestRun s a1 a2) := by
  induction a2 generalizing s a1
  case zero =>
    rw [State.digestRun]
    exact h
  case succ k ih =>
    rw [State.digestRun]
    split
    · exact h
    · extract_lets +onlyGivenNames x1
      clear_value x1
      split
      · exact State.updRly_keeps (hF.of rfl) h
      · extract_lets +onlyGivenNames x2
        have h3 : ∀ y1, Keeps F s0 y1 → Keeps F s0 (x2 y1) := by
          intro y4 y5
          unfold x2
          apply ih
          exact State.updRly_keeps (hF.of rfl) y5
        clear_value x2
        extract_lets +onlyGivenNames x6
        clear_value x6
        refine Keeps.ite (fun _ => ?_) (fun _ => ?_)
        · extract_lets +onlyGivenNames x7
          have h8 : Keeps F s0 x7 := State.sendDigest_keeps (hF.of rfl) (State.updRly_keeps (hF.of rfl) h)
          clear_value x7
          refine Keeps.ite (fun _ => h8) (fun _ => ?_)
          apply h3
          exact h8
        · refine Keeps.ite (fun _ => h) (fun _ => ?_)
          apply h3
          exact h

theorem State.digestTry_keeps {F : Nat} {s0 s : State} {a1 a2} (hF : Sub 0xa10000007e20000000000000000000000000100040c9b8019 F) (h : Keeps F s0 s) :
    Keeps F s0 (State.digestTry s a1 a2).1 := by
  unfold State.digestTry
  extract_lets +onlyGivenNames x1 x2
  clear_value x1 x2
  refine Keeps.iteFst (fun _ => Keeps.mkFst h) (fun _ => ?_)
  refine Keeps.iteFst (fun _ => ?_) (fun _ => ?_)
  · exact Keeps.mkFst (State.count_keeps (hF.of rfl) (R.CNT_EMB_in (hF.of rfl)) h)
  · extract_lets +onlyGivenNames x3
    clear_value x3
    split
    · exact Keeps.mkFst (State.collOrder_keeps (hF.of rfl) h)
    · refine Keeps.iteFst (fun _ => Keeps.mkFst (State.collOrder_keeps (hF.of rfl) h)) (fun _ => ?_)
      split
      · exact Keeps.mkFst h
      · refine Keeps.iteFst (fun _ => ?_) (fun _ => ?_)
        · exact Keeps.mkFst (State.count_keeps (hF.of rfl) (R.CNT_EMB_in (hF.of rfl)) h)
        · refine Keeps.iteFst (fun _ => Keeps.mkFst h) (fun _ => ?_)
          extract_lets +onlyGivenNames x4 x5
          clear_value x4 x5
          extract_lets +onlyGivenNames x6
          have h7 : Keeps F s0 x6 := State.updRly_keeps (hF.of rfl) h
          clear_value x6
          extract_lets +onlyGivenNames x8
          have h9 : Keeps F s0 x8 := Keeps.ite (fun _ => State.sendDigest_keeps (hF.of rfl) h7) (fun _ => h7)
          clear_value x8
          extract_lets +onlyGivenNames x10
          have h11 : Keeps F s0 x10 := State.updRly_keeps (hF.of rfl) h9
          clear_value x10
          exact Keeps.mkFst (State.digestRun_keeps (hF.of rfl) h11)

theorem State.digestRetry_keeps {F : Nat} {s0 s : State} {a1 a2} (hF : Sub 0xa10000007e20000000000000000000000000100040c9b8019 F) (h : Keeps F s0 s) :
    Keeps F s0 (State.digestRetry s a1 a2) := by
  induction a2 generalizing s a1
  case zero =>
    rw [State.digestRetry]
    exact h
  case succ k ih =>
    rw [State.digestRetry]
    split
    rename_i z1 z2 z3 z4
    have h5 : Keeps F s0 z2 := by
      refine Keeps.ofFst z4 ?_
      refine Keeps.foldlFst (Keeps.mkFst h) (fun x6 e7 h8 => ?_)
      split
      · rename_i z9 z10 z11
        have h12 : Keeps F s0 z10 := Keeps.ofFst z11 (State.digestTry_keeps (hF.of rfl) h8)
        exact Keeps.mkFst h12
      · rename_i z13 z14 z15
        have h16 : Keeps F s0 z14 := Keeps.ofFst z15 (State.digestTry_keeps (hF.of rfl) h8)
        exact Keeps.mkFst h16
    extract_lets +onlyGivenNames x17
    have h18 : Keeps F s0 x17 := State.updRly_keeps (hF.of rfl) h5
    clear_value x17
    refine Keeps.ite (fun _ => ?_) (fun _ => h18)
    apply ih
    exact h18

theorem State.digestStart_keeps {F : Nat} {s0 s : State} {a1 a2} (hF : Sub 0xa10000007e20000000000000000000000000100040c9b8019 F) (h : Keeps F s0 s) :
    Keeps F s0 (State.digestStart s a1 a2) := by
  unfold State.digestStart
  refine State.digestRetry_keeps (hF.of rfl) ?_
  exact State.digestRun_keeps (hF.of rfl) (State.updRly_keeps (hF.of rfl) h)

theorem State.rlyPacket_keeps {F : Nat} {s0 s : State} {a1 a2} (hF : Sub 0x1bf0000007e200000000000000000000880001000c0c9b80ff F) (h : Keeps F s0 s) :
    Keeps F s0 (State.rlyPacket s a1 a2) := by
  unfold State.rlyPacket
  refine Keeps.ite (fun _ => State.count_keeps (hF.of rfl) (R.CNT_GLB_in (hF.of rfl)) h) (fun _ => ?_)
  extract_lets +onlyGivenNames x1
  have h2 : Keeps F s0 x1 := State.journalAdd_keeps (hF.of rfl) h
  clear_value x1
  refine Keeps.ite (fun _ => ?_) (fun _ => ?_)
  · exact State.digestRetry_keeps (hF.of rfl) (State.updRly_keeps (hF.of rfl) h2)
  · extract_lets +onlyGivenNames x3
    have h4 : Keeps F s0 x3 := Keeps.ite (fun _ => State.updPart_keeps (hF.of rfl) h2) (fun _ => h2)
    clear_value x3
    exact State.rlyGo_keeps (hF.of rfl) (State.updRly_keeps (hF.of rfl) h4)

theorem State.rlyDesc_keeps {F : Nat} {s0 s : State} {a1 a2} (hF : Sub 0x10000007e2000000000000000000000000010004049b8019 F) (h : Keeps F s0 s) :
    Keeps F s0 (State.rlyDesc s a1 a2) := by
  unfold State.rlyDesc
  exact State.raise_keeps (hF.of rfl) h

theorem State.trigRefuse_keeps {F : Nat} {s0 s : State} {a1 a2} (hF : Sub 0x10000007e2000000000000000000000000010004049b8019 F) (h : Keeps F s0 s) :
    Keeps F s0 (State.trigRefuse s a1 a2) := by
  unfold State.trigRefuse
  exact State.refusedErr_keeps (hF.of rfl) h

theorem State.absentStart_keeps {F : Nat} {s0 s : State} {a1 a2 a3} (hF : Sub 0x1990000007e2000000000000000000000000010004049b801d F) (h : Keeps F s0 s) :
    Keeps F s0 (State.absentStart s a1 a2 a3) := by
  unfold State.absentStart
  extract_lets +onlyGivenNames x1
  clear_value x1
  extract_lets +onlyGivenNames x2
  have h3 : Keeps F s0 x2 := State.setColl_keeps (hF.of rfl) (State.sense_keeps (hF.of rfl) h)
  clear_value x2
  split
  · exact State.rlyDefer_keeps (hF.of rfl) h3
  · exact h3

theorem State.collStart_keeps {F : Nat} {s0 s : State} {a1 a2 a3} (hF : Sub 0x1bd0000007e200000000000000000000880001000c0c9b80ff F) (h : Keeps F s0 s) :
    Keeps F s0 (State.collStart s a1 a2 a3) := by
  unfold State.collStart
  extract_lets +onlyGivenNames x1 x2 x3 x4
  clear_value x1 x2 x3 x4
  extract_lets +onlyGivenNames x5
  have h6 : Keeps F s0 x5 := State.updRly_keeps (hF.of rfl) h
  clear_value x5
  split
  · exact State.rlyGo_keeps (hF.of rfl) (State.absentStart_keeps (hF.of rfl) h6)
  · extract_lets +onlyGivenNames x7
    clear_value x7
    exact State.updRly_keeps (hF.of rfl) h6

theorem State.rlyCmd_keeps {F : Nat} {s0 s : State} {a1 a2 a3} (hF : Sub 0x1bd0000007e200000040000000000000880001000c0c9b80ff F) (h : Keeps F s0 s) :
    Keeps F s0 (State.rlyCmd s a1 a2 a3) := by
  unfold State.rlyCmd
  split
  · exact h
  · extract_lets +onlyGivenNames x1
    clear_value x1
    refine Keeps.ite (fun _ => h) (fun _ => ?_)
    refine Keeps.ite (fun _ => State.rlyDesc_keeps (hF.of rfl) (State.engStart_keeps (hF.of rfl) h)) (fun _ => ?_)
    refine Keeps.ite (fun _ => h) (fun _ => ?_)
    extract_lets +onlyGivenNames x2
    have h3 : Keeps F s0 x2 := State.engStart_keeps (hF.of rfl) h
    clear_value x2
    refine Keeps.ite (fun _ => ?_) (fun _ => ?_)
    · refine Keeps.ite (fun _ => State.rlyDesc_keeps (hF.of rfl) h3) (fun _ => ?_)
      refine Keeps.ite (fun _ => State.trigRefuse_keeps (hF.of rfl) h3) (fun _ => ?_)
      exact State.cmdDone_keeps (hF.of rfl) (State.trigInc_keeps (hF.of rfl) h3)
    · refine Keeps.ite (fun _ => State.rlyDesc_keeps (hF.of rfl) h3) (fun _ => ?_)
      split
      · rename_i z4 z5 z6
        have h7 : Keeps F s0 z5 := Keeps.ofFst z6 (State.fetchDesc_keeps (hF.of rfl) h3)
        exact h7
      · rename_i z8 z9 z10 z11
        have h12 : Keeps F s0 z9 := Keeps.ofFst z11 (State.fetchDesc_keeps (hF.of rfl) h3)
        extract_lets +onlyGivenNames x13
        clear_value x13
        refine Keeps.ite (fun _ => State.rlyDesc_keeps (hF.of rfl) h12) (fun _ => ?_)
        refine Keeps.ite (fun _ => ?_) (fun _ => ?_)
        · extract_lets +onlyGivenNames x14
          clear_value x14
          refine Keeps.ite (fun _ => State.rlyDesc_keeps (hF.of rfl) h12) (fun _ => ?_)
          refine Keeps.ite (fun _ => ?_) (fun _ => State.collStart_keeps (hF.of rfl) h12)
          exact State.trigRefuse_keeps (hF.of rfl) h12
        · split
          · exact State.rlyDesc_keeps (hF.of rfl) h12
          · refine Keeps.ite (fun _ => State.raise_keeps (hF.of rfl) h12) (fun _ => ?_)
            refine Keeps.ite (fun _ => State.trigRefuse_keeps (hF.of rfl) h12) (fun _ => ?_)
            refine Keeps.ite (fun _ => State.raise_keeps (hF.of rfl) h12) (fun _ => ?_)
            refine Keeps.ite (fun _ => State.trigRefuse_keeps (hF.of rfl) h12) (fun _ => ?_)
            exact State.fireTrigs_keeps (hF.of rfl) (State.updPart_keeps (hF.of rfl) h12)

theorem State.collBegin_keeps {F : Nat} {s0 s : State} {a1 a2} (hF : Sub 0x1bd0000007e200000000000000000000880001000c0c9b80ff F) (h : Keeps F s0 s) :
    Keeps F s0 (State.collBegin s a1 a2) := by
  unfold State.collBegin
  split
  · exact h
  · refine Keeps.ite (fun _ => h) (fun _ => ?_)
    extract_lets +onlyGivenNames x1
    clear_value x1
    exact State.rlyGo_keeps (hF.of rfl) (State.enterPhase_keeps (hF.of rfl) (State.setColl_keeps (hF.of rfl) h))

theorem State.collComplete_keeps {F : Nat} {s0 s : State} {a1 a2} (hF : Sub 0x8000000000000000040000000000000000000000000000009 F) (h : Keeps F s0 s) :
    Keeps F s0 (State.collComplete s a1 a2) := by
  unfold State.collComplete
  split
  · exact h
  · extract_lets +onlyGivenNames x1
    have h2 : Keeps F s0 x1 := State.count_keeps (hF.of rfl) (R.CNT_RLY_in (hF.of rfl)) (State.setColl_keeps (hF.of rfl) h)
    clear_value x1
    extract_lets +onlyGivenNames x3
    have h4 : Keeps F s0 x3 := by
      unfold x3
      split
      · exact State.cmdDone_keeps (hF.of rfl) h2
      · exact h2
    clear_value x3
    extract_lets +onlyGivenNames x5
    clear_value x5
    exact Keeps.ite (fun _ => h4) (fun _ => State.trigInc_keeps (hF.of rfl) h4)

theorem State.batonTimeout_keeps {F : Nat} {s0 s : State} {a1 a2} (hF : Sub 0x810000007e20000000000000000000000000100040c9b8019 F) (h : Keeps F s0 s) :
    Keeps F s0 (State.batonTimeout s a1 a2) := by
  unfold State.batonTimeout
  split
  · exact h
  · extract_lets +onlyGivenNames x1 x2
    clear_value x1 x2
    refine Keeps.ite (fun _ => State.raise_keeps (hF.of rfl) h) (fun _ => ?_)
    extract_lets +onlyGivenNames x3
    have h4 : Keeps F s0 x3 := State.setColl_keeps (hF.of rfl) h
    clear_value x3
    refine Keeps.foldl h4 (fun x5 e6 h7 => ?_)
    split
    · exact h7
    · refine Keeps.foldl h7 (fun x8 e9 h10 => ?_)
      exact State.sendRly_keeps (hF.of rfl) (State.count_keeps (hF.of rfl) (R.CNT_RLY_in (hF.of rfl)) h10)

theorem State.trigStall_keeps {F : Nat} {s0 s : State} {a1} (hF : Sub 0x10000007e2000000000000000000000000010004049b8019 F) (h : Keeps F s0 s) :
    Keeps F s0 (State.trigStall s a1) := by
  unfold State.trigStall
  split
  · exact h
  · exact Keeps.ite (fun _ => h) (fun _ => State.raise_keeps (hF.of rfl) h)

theorem State.rlyDeadline_keeps {F : Nat} {s0 s : State} {a1} (hF : Sub 0x1bd0000007e200000000000000000000880001000c0c9b80ff F) (h : Keeps F s0 s) :
    Keeps F s0 (State.rlyDeadline s a1) := by
  unfold State.rlyDeadline
  exact State.rlyGo_keeps (hF.of rfl) h

theorem State.trigZero_keeps {F : Nat} {s0 s : State} {a1} (hF : Sub 0x40000000000000000000000000000001 F) (h : Keeps F s0 s) :
    Keeps F s0 (State.trigZero s a1) := by
  unfold State.trigZero
  extract_lets +onlyGivenNames lo hi
  clear_value lo hi
  refine h.setCard (hF.of rfl) (R.RLY_TRIGGER_in (hF.of rfl)) (fun i => Sp.sorted_filter i _) (fun a ha => ?_)
  refine (Sp.find_filter (fun a => !(trigBetween lo hi a)) a s.regs).trans (if_pos ?_)
  rw [trigBetween_not ha]
  rfl

theorem State.rlyRepeat_keeps {F : Nat} {s0 s : State} {a1} (hF : Sub 0x8 F) (h : Keeps F s0 s) :
    Keeps F s0 (State.rlyRepeat s a1) := by
  unfold State.rlyRepeat
  extract_lets +onlyGivenNames x1 x2
  clear_value x1 x2
  exact State.updRly_keeps (hF.of rfl) (State.updPart_keeps (hF.of rfl) h)

theorem State.rlyLegBegin_keeps {F : Nat} {s0 s : State} {a1} (hF : Sub 0x8 F) (h : Keeps F s0 s) :
    Keeps F s0 (State.rlyLegBegin s a1) := by
  unfold State.rlyLegBegin
  exact State.updRly_keeps (hF.of rfl) h

theorem State.rlyLapEnd_keeps {F : Nat} {s0 s : State} {a1} (hF : Sub 0x8 F) (h : Keeps F s0 s) :
    Keeps F s0 (State.rlyLapEnd s a1) := by
  unfold State.rlyLapEnd
  exact State.updRly_keeps (hF.of rfl) h

theorem execCollectiveStart_keeps {F : Nat} {s0 s : State} {a1 a2 a3} (hF : Sub 0x1bd0000007e200000040000000000000880001000c0c9b80ff F) (h : Keeps F s0 s) :
    KeepsX F s0 (execCollectiveStart a1 a2 a3 s) := by
  unfold execCollectiveStart
  exact KeepsX.next (State.rlyCmd_keeps (hF.of rfl) (State.plant_keeps (hF.of rfl) h))

theorem execCollectiveBegin_keeps {F : Nat} {s0 s : State} {a1 a2 a3} (hF : Sub 0x1bd0000007e200000000000000000000880001000c0c9b80ff F) (h : Keeps F s0 s) :
    KeepsX F s0 (execCollectiveBegin a1 a2 a3 s) := by
  unfold execCollectiveBegin
  exact KeepsX.next (State.collBegin_keeps (hF.of rfl) (State.plant_keeps (hF.of rfl) h))

theorem execArm_keeps {F : Nat} {s0 s : State} {a1 a2 a3} (hF : Sub 0x1bd0000007e200000040000000000000880001000c0c9b80ff F) (h : Keeps F s0 s) :
    KeepsX F s0 (execArm a1 a2 a3 s) := by
  unfold execArm
  exact KeepsX.next (State.rlyCmd_keeps (hF.of rfl) (State.plant_keeps (hF.of rfl) h))

theorem execInc_keeps {F : Nat} {s0 s : State} {a1 a2} (hF : Sub 0x1bd0000007e200000040000000000000880001000c0c9b80ff F) (h : Keeps F s0 s) :
    KeepsX F s0 (execInc a1 a2 s) := by
  unfold execInc
  exact KeepsX.next (State.rlyCmd_keeps (hF.of rfl) h)

theorem execBaton_keeps {F : Nat} {s0 s : State} {a1 a2 a3} (hF : Sub 0x1bf0000007e200000000000000000000880001000c0c9b80ff F) (h : Keeps F s0 s) :
    KeepsX F s0 (execBaton a1 a2 a3 s) := by
  unfold execBaton
  refine KeepsX.next ?_
  exact Keeps.ite (fun _ => State.rlyPacket_keeps (hF.of rfl) (State.plant_keeps (hF.of rfl) h)) (fun _ => h)

theorem execWaycredit_keeps {F : Nat} {s0 s : State} {a1 a2 a3} (hF : Sub 0x1bf0000007e200000000000000000000880001000c0c9b80ff F) (h : Keeps F s0 s) :
    KeepsX F s0 (execWaycredit a1 a2 a3 s) := by
  unfold execWaycredit
  refine KeepsX.next ?_
  exact Keeps.ite (fun _ => State.rlyPacket_keeps (hF.of rfl) (State.plant_keeps (hF.of rfl) h)) (fun _ => h)

theorem execLead_keeps {F : Nat} {s0 s : State} {a1 a2 a3} (hF : Sub 0x1bf0000007e200000000000000000000880001000c0c9b80ff F) (h : Keeps F s0 s) :
    KeepsX F s0 (execLead a1 a2 a3 s) := by
  unfold execLead
  refine KeepsX.next ?_
  exact Keeps.ite (fun _ => State.rlyPacket_keeps (hF.of rfl) (State.plant_keeps (hF.of rfl) h)) (fun _ => h)

theorem execResync_keeps {F : Nat} {s0 s : State} {a1 a2} (hF : Sub 0x1bf0000007e200000000000000000000880001000c0c9b80ff F) (h : Keeps F s0 s) :
    KeepsX F s0 (execResync a1 a2 s) := by
  unfold execResync
  exact KeepsX.next (Keeps.ite (fun _ => State.rlyPacket_keeps (hF.of rfl) h) (fun _ => h))

theorem execDigest_keeps {F : Nat} {s0 s : State} {a1 a2} (hF : Sub 0x1bf0000007e200000000000000000000880001000c0c9b80ff F) (h : Keeps F s0 s) :
    KeepsX F s0 (execDigest a1 a2 s) := by
  unfold execDigest
  exact KeepsX.next (Keeps.ite (fun _ => State.rlyPacket_keeps (hF.of rfl) h) (fun _ => h))

theorem execPacketKindReserved_keeps {F : Nat} {s0 s : State} {a1} (hF : Sub 0x8000000000000000000000000000000000000000000000001 F) (h : Keeps F s0 s) :
    KeepsX F s0 (execPacketKindReserved a1 s) := by
  unfold execPacketKindReserved
  refine KeepsX.next ?_
  exact Keeps.ite (fun _ => State.count_keeps (hF.of rfl) (R.CNT_RLY_in (hF.of rfl)) h) (fun _ => h)

theorem execBatonTimeout_keeps {F : Nat} {s0 s : State} {a1 a2} (hF : Sub 0x810000007e20000000000000000000000000100040c9b8019 F) (h : Keeps F s0 s) :
    KeepsX F s0 (execBatonTimeout a1 a2 s) := by
  unfold execBatonTimeout
  exact KeepsX.next (State.batonTimeout_keeps (hF.of rfl) h)

theorem execCollectiveComplete_keeps {F : Nat} {s0 s : State} {a1 a2} (hF : Sub 0x8000000000000000040000000000000000000000000000009 F) (h : Keeps F s0 s) :
    KeepsX F s0 (execCollectiveComplete a1 a2 s) := by
  unfold execCollectiveComplete
  exact KeepsX.next (State.collComplete_keeps (hF.of rfl) h)

theorem execTriggerStall_keeps {F : Nat} {s0 s : State} {a1} (hF : Sub 0x10000007e2000000000000000000000000010004049b8019 F) (h : Keeps F s0 s) :
    KeepsX F s0 (execTriggerStall a1 s) := by
  unfold execTriggerStall
  exact KeepsX.next (State.trigStall_keeps (hF.of rfl) h)

end Sys2Proof.Machine
end

