-- ==== Sys2Proof/Laws/KeepsFabric.lean ====
section
/-! SUPPORT. What the operations of Machine/Fabric.lean keep (Laws/Keeps.lean): one lemma for each. -/

namespace Sys2Proof.Machine

open Sys2Proof

theorem State.setLinkF_keeps {F : Nat} {s0 s : State} {a1 a2 a3} (hF : Sub 0x1000000000000000000000000001 F) (h : Keeps F s0 s) :
    Keeps F s0 (State.setLinkF s a1 a2 a3) := by
  unfold State.setLinkF
  exact State.wrF_keeps (hF.of rfl) (R.FAB_LINK_STATUS_in (hF.of rfl)) h

theorem State.freshAll_keeps {F : Nat} {s0 s : State} (hF : Sub 0x1000000000000000000000000001 F) (h : Keeps F s0 s) :
    Keeps F s0 (State.freshAll s) := by
  unfold State.freshAll
  exact Keeps.foldl h (fun x1 e2 h3 => State.setLinkF_keeps (hF.of rfl) h3)

theorem State.setPort4_keeps {F : Nat} {s0 s : State} {a1 a2} (hF : Sub 0x3000000000000000000008000001 F) (h : Keeps F s0 s) :
    Keeps F s0 (State.setPort4 s a1 a2) := by
  unfold State.setPort4
  extract_lets +onlyGivenNames x1
  have h2 : Keeps F s0 x1 := State.setLinkF_keeps (hF.of rfl) h
  clear_value x1
  extract_lets +onlyGivenNames x3
  clear_value x3
  extract_lets +onlyGivenNames x4
  have h5 : Keeps F s0 x4 := State.wrF_keeps (hF.of rfl) (R.FAB_LANE_STATUS_in (hF.of rfl)) h2
  clear_value x4
  extract_lets +onlyGivenNames x6
  have h7 : Keeps F s0 x6 := by
    exact Keeps.ite (fun _ => State.wrF_keeps (hF.of rfl) (R.FAB_LANE_STATUS_in (hF.of rfl)) h5) (fun _ => h5)
  clear_value x6
  exact Keeps.ite (fun _ => h7) (fun _ => State.freshAll_keeps (hF.of rfl) (State.updPort_keeps (hF.of rfl) h7))

theorem State.reinject_keeps {F : Nat} {s0 s : State} {a1} (hF : Sub 0xc10000007e00000000000000000000000000000040c9b8009 F) (h : Keeps F s0 s) :
    Keeps F s0 (State.reinject s a1) := by
  unfold State.reinject
  extract_lets +onlyGivenNames x1 x2 x3 x4
  clear_value x1 x2 x3 x4
  extract_lets +onlyGivenNames x5
  have h6 : Keeps F s0 x5 := State.setPort_keeps (hF.of rfl) h
  clear_value x5
  extract_lets +onlyGivenNames x7
  have h8 : Keeps F s0 x7 := State.count_keeps (hF.of rfl) (R.CNT_FAB_in (hF.of rfl)) h6
  clear_value x7
  exact Keeps.foldl h8 (fun x9 e10 h11 => State.route_keeps (hF.of rfl) h11)

theorem State.portDown_keeps {F : Nat} {s0 s : State} {a1 a2} (hF : Sub 0xc10000007e00000000000300000000000000000040c9b8009 F) (h : Keeps F s0 s) :
    Keeps F s0 (State.portDown s a1 a2) := by
  unfold State.portDown
  extract_lets +onlyGivenNames x1
  have h2 : Keeps F s0 x1 := by
    unfold x1
    refine State.count_keeps (hF.of rfl) (R.CNT_FAB_in (hF.of rfl)) ?_
    exact State.setLinkF_keeps (hF.of rfl) (State.setPort4_keeps (hF.of rfl) h)
  clear_value x1
  exact State.reinject_keeps (hF.of rfl) h2

theorem State.portLock_keeps {F : Nat} {s0 s : State} {a1 a2} (hF : Sub 0x3000000000000000000008000001 F) (h : Keeps F s0 s) :
    Keeps F s0 (State.portLock s a1 a2) := by
  unfold State.portLock
  exact State.setPort4_keeps (hF.of rfl) (State.updPort_keeps (hF.of rfl) h)

theorem State.portRetrain_keeps {F : Nat} {s0 s : State} {a1} (hF : Sub 0xc10000007e00000000000300000000000000000040c9b8009 F) (h : Keeps F s0 s) :
    Keeps F s0 (State.portRetrain s a1) := by
  unfold State.portRetrain
  extract_lets +onlyGivenNames x1 x2
  clear_value x1 x2
  extract_lets +onlyGivenNames x3
  have h4 : Keeps F s0 x3 := State.setPort_keeps (hF.of rfl) h
  clear_value x3
  extract_lets +onlyGivenNames x5
  have h6 : Keeps F s0 x5 := State.count_keeps (hF.of rfl) (R.CNT_FAB_in (hF.of rfl)) (State.setPort4_keeps (hF.of rfl) h4)
  clear_value x5
  exact Keeps.foldl h6 (fun x7 e8 h9 => State.route_keeps (hF.of rfl) h9)

theorem State.ctrlFlit_keeps {F : Nat} {s0 s : State} {a1 a2} (hF : Sub 0x408000000 F) (h : Keeps F s0 s) :
    Keeps F s0 (State.ctrlFlit s a1 a2) := by
  unfold State.ctrlFlit
  exact State.emit_keeps (hF.of rfl) (State.updPort_keeps (hF.of rfl) h)

theorem State.sendCoords_keeps {F : Nat} {s0 s : State} (hF : Sub 0x408000000 F) (h : Keeps F s0 s) :
    Keeps F s0 (State.sendCoords s) := by
  unfold State.sendCoords
  exact Keeps.foldl h (fun x1 e2 h3 => State.ctrlFlit_keeps (hF.of rfl) h3)

theorem State.giveBack_keeps {F : Nat} {s0 s : State} {a1 a2} (hF : Sub 0x408000000 F) (h : Keeps F s0 s) :
    Keeps F s0 (State.giveBack s a1 a2) := by
  unfold State.giveBack
  exact Keeps.ite (fun _ => h) (fun _ => State.ctrlFlit_keeps (hF.of rfl) h)

theorem State.holdPkt_keeps {F : Nat} {s0 s : State} {a1 a2} (hF : Sub 0x10000000 F) (h : Keeps F s0 s) :
    Keeps F s0 (State.holdPkt s a1 a2) := by
  unfold State.holdPkt
  exact Keeps.setHeldPkts h (hF.of rfl)

theorem State.rejectPkt_keeps {F : Nat} {s0 s : State} {a1 a2 a3} (hF : Sub 0x810000007e0000000000000000000000000000004049b8009 F) (h : Keeps F s0 s) :
    Keeps F s0 (State.rejectPkt s a1 a2 a3) := by
  unfold State.rejectPkt
  extract_lets +onlyGivenNames x1
  have h2 : Keeps F s0 x1 := State.count_keeps (hF.of rfl) (R.CNT_RLY_in (hF.of rfl)) h
  clear_value x1
  exact Keeps.ite (fun _ => h2) (fun _ => State.event_keeps (hF.of rfl) (State.updPart_keeps (hF.of rfl) h2))

theorem State.deliverLocal_keeps {F : Nat} {s0 s : State} {a1 a2} (hF : Sub 0x3bf0600007e200000000000002000000880001000c7c9b80ff F) (h : Keeps F s0 s) :
    Keeps F s0 (State.deliverLocal s a1 a2) := by
  unfold State.deliverLocal
  extract_lets +onlyGivenNames x1 x2 x3
  clear_value x1 x2 x3
  refine Keeps.ite (fun _ => ?_) (fun _ => ?_)
  · exact State.event_keeps (hF.of rfl) (State.count_keeps (hF.of rfl) (R.CNT_RLY_in (hF.of rfl)) h)
  · refine Keeps.ite (fun _ => State.gunPacket_keeps (hF.of rfl) h) (fun _ => ?_)
    refine Keeps.ite (fun _ => State.count_keeps (hF.of rfl) (R.CNT_RLY_in (hF.of rfl)) h) (fun _ => ?_)
    refine Keeps.ite (fun _ => State.count_keeps (hF.of rfl) (R.CNT_GLB_in (hF.of rfl)) h) (fun _ => ?_)
    refine Keeps.ite (fun _ => State.holdPkt_keeps (hF.of rfl) h) (fun _ => ?_)
    extract_lets +onlyGivenNames x4 x5 x6
    clear_value x4 x5 x6
    refine Keeps.ite (fun _ => State.count_keeps (hF.of rfl) (R.CNT_GLB_in (hF.of rfl)) h) (fun _ => ?_)
    refine Keeps.ite (fun _ => ?_) (fun _ => ?_)
    · extract_lets +onlyGivenNames x7
      have h8 : Keeps F s0 x7 := State.count_keeps (hF.of rfl) (R.CNT_GLB_in (hF.of rfl)) h
      clear_value x7
      exact Keeps.ite (fun _ => h8) (fun _ => State.event_keeps (hF.of rfl) (State.updPart_keeps (hF.of rfl) h8))
    · refine Keeps.ite (fun _ => State.holdPkt_keeps (hF.of rfl) h) (fun _ => ?_)
      extract_lets +onlyGivenNames x9 x10
      clear_value x9 x10
      refine Keeps.ite (fun _ => ?_) (fun _ => ?_)
      · refine Keeps.ite (fun _ => ?_) (fun _ => State.rejectPkt_keeps (hF.of rfl) h)
        refine Keeps.ite (fun _ => State.holdPkt_keeps (hF.of rfl) h) (fun _ => ?_)
        exact Keeps.ite (fun _ => State.embSegment_keeps (hF.of rfl) h) (fun _ => State.rlyPacket_keeps (hF.of rfl) h)
      · exact Keeps.ite (fun _ => State.holdPkt_keeps (hF.of rfl) h) (fun _ => State.rejectPkt_keeps (hF.of rfl) h)

theorem State.retryHeld_keeps {F : Nat} {s0 s : State} (hF : Sub 0x3bf0600007e200000000000002000000880001000c7c9b80ff F) (h : Keeps F s0 s) :
    Keeps F s0 (State.retryHeld s) := by
  unfold State.retryHeld
  exact Keeps.foldl (Keeps.setHeldPkts h (hF.of rfl)) (fun x1 e2 h3 => State.deliverLocal_keeps (hF.of rfl) h3)

theorem State.dropUnbound_keeps {F : Nat} {s0 s : State} {a1} (hF : Sub 0x810000007e0000000000000000000000000000004149b8009 F) (h : Keeps F s0 s) :
    Keeps F s0 (State.dropUnbound s a1) := by
  unfold State.dropUnbound
  extract_lets +onlyGivenNames x1
  clear_value x1
  extract_lets +onlyGivenNames x2
  have h3 : Keeps F s0 x2 := Keeps.setHeldPkts h (hF.of rfl)
  clear_value x2
  refine Keeps.foldl h3 (fun x4 e5 h6 => ?_)
  exact State.event_keeps (hF.of rfl) (State.count_keeps (hF.of rfl) (R.CNT_RLY_in (hF.of rfl)) h6)

theorem State.routeNext_keeps {F : Nat} {s0 s : State} {a1} (hF : Sub 0x3bf0600007e200000000000002000000880001000c7c9b80ff F) (h : Keeps F s0 s) :
    Keeps F s0 (State.routeNext s a1) := by
  unfold State.routeNext
  extract_lets +onlyGivenNames x1
  clear_value x1
  split
  · exact h
  · split
    · exact h
    · extract_lets +onlyGivenNames x2
      have h3 : Keeps F s0 x2 := State.giveBack_keeps (hF.of rfl) (State.updPort_keeps (hF.of rfl) h)
      clear_value x2
      exact Keeps.ite (fun _ => State.deliverLocal_keeps (hF.of rfl) h3) (fun _ => State.route_keeps (hF.of rfl) h3)

theorem State.sendFrame_keeps {F : Nat} {s0 s : State} {a1 a2 a3 a4 a5} (hF : Sub 0x408000000 F) (h : Keeps F s0 s) :
    Keeps F s0 (State.sendFrame s a1 a2 a3 a4 a5) := by
  unfold State.sendFrame
  exact State.updPort_keeps (hF.of rfl) (State.emit_keeps (hF.of rfl) h)

theorem State.sendNull_keeps {F : Nat} {s0 s : State} {a1} (hF : Sub 0x408000000 F) (h : Keeps F s0 s) :
    Keeps F s0 (State.sendNull s a1) := by
  unfold State.sendNull
  exact State.sendFrame_keeps (hF.of rfl) h

theorem State.transmit_keeps {F : Nat} {s0 s : State} {a1} (hF : Sub 0x4000000000000000000000000000000000000000408000001 F) (h : Keeps F s0 s) :
    Keeps F s0 (State.transmit s a1) := by
  unfold State.transmit
  refine Keeps.ite (fun _ => State.sendNull_keeps (hF.of rfl) h) (fun _ => ?_)
  refine Keeps.ite (fun _ => h) (fun _ => ?_)
  extract_lets +onlyGivenNames x1
  clear_value x1
  split
  · extract_lets +onlyGivenNames x2
    have h3 : Keeps F s0 x2 := State.updPort_keeps (hF.of rfl) h
    clear_value x2
    exact State.sendFrame_keeps (hF.of rfl) (State.count_keeps (hF.of rfl) (R.CNT_FAB_in (hF.of rfl)) h3)
  · extract_lets +onlyGivenNames x4
    have h5 : Keeps F s0 x4 := State.updPort_keeps (hF.of rfl) h
    clear_value x4
    refine Keeps.ite (fun _ => State.sendNull_keeps (hF.of rfl) h5) (fun _ => ?_)
    extract_lets +onlyGivenNames x6
    clear_value x6
    refine Keeps.ite (fun _ => State.sendNull_keeps (hF.of rfl) h5) (fun _ => ?_)
    extract_lets +onlyGivenNames x7 x8
    clear_value x7 x8
    extract_lets +onlyGivenNames x9
    have h10 : Keeps F s0 x9 := State.setPort_keeps (hF.of rfl) h5
    clear_value x9
    extract_lets +onlyGivenNames x11
    have h12 : Keeps F s0 x11 := State.sendFrame_keeps (hF.of rfl) h10
    clear_value x11
    exact State.updPort_keeps (hF.of rfl) h12

theorem State.startResend_keeps {F : Nat} {s0 s : State} {a1 a2} (hF : Sub 0xc10000007e00000000000300000000000000000040c9b8009 F) (h : Keeps F s0 s) :
    Keeps F s0 (State.startResend s a1 a2) := by
  unfold State.startResend
  extract_lets +onlyGivenNames x1
  clear_value x1
  split
  · exact h
  · exact Keeps.ite (fun _ => State.portRetrain_keeps (hF.of rfl) h) (fun _ => State.updPort_keeps (hF.of rfl) h)

theorem State.narrow_keeps {F : Nat} {s0 s : State} {a1} (hF : Sub 0xc10000007e00000000000300000000000000000040c9b8009 F) (h : Keeps F s0 s) :
    Keeps F s0 (State.narrow s a1) := by
  unfold State.narrow
  extract_lets +onlyGivenNames x1
  clear_value x1
  refine Keeps.ite (fun _ => State.portDown_keeps (hF.of rfl) h) (fun _ => ?_)
  extract_lets +onlyGivenNames x2
  have h3 : Keeps F s0 x2 := State.setLinkF_keeps (hF.of rfl) (State.updPort_keeps (hF.of rfl) h)
  clear_value x2
  extract_lets +onlyGivenNames x4
  have h5 : Keeps F s0 x4 := by
    exact State.wrF_keeps (hF.of rfl) (R.FAB_LANE_STATUS_in (hF.of rfl)) (State.setLinkF_keeps (hF.of rfl) h3)
  clear_value x4
  exact State.portRetrain_keeps (hF.of rfl) (State.event_keeps (hF.of rfl) h5)

theorem State.laneFails_keeps {F : Nat} {s0 s : State} {a1 a2} (hF : Sub 0xc10000007e00000000000300000000000000000040c9b8009 F) (h : Keeps F s0 s) :
    Keeps F s0 (State.laneFails s a1 a2) := by
  unfold State.laneFails
  extract_lets +onlyGivenNames x1
  clear_value x1
  refine Keeps.ite (fun _ => h) (fun _ => ?_)
  extract_lets +onlyGivenNames x2
  clear_value x2
  extract_lets +onlyGivenNames x3
  have h4 : Keeps F s0 x3 := State.updPort_keeps (hF.of rfl) h
  clear_value x3
  refine Keeps.ite (fun _ => Keeps.ite (fun _ => State.narrow_keeps (hF.of rfl) h4) (fun _ => h4)) (fun _ => ?_)
  exact Keeps.ite (fun _ => State.narrow_keeps (hF.of rfl) h4) (fun _ => State.updPort_keeps (hF.of rfl) h4)

theorem State.laneSwap_keeps {F : Nat} {s0 s : State} {a1} (hF : Sub 0x410000007e00000000000300000000000000000040c9b8009 F) (h : Keeps F s0 s) :
    Keeps F s0 (State.laneSwap s a1) := by
  unfold State.laneSwap
  extract_lets +onlyGivenNames x1
  clear_value x1
  extract_lets +onlyGivenNames x2
  have h3 : Keeps F s0 x2 := State.updPort_keeps (hF.of rfl) h
  clear_value x2
  extract_lets +onlyGivenNames x4
  have h5 : Keeps F s0 x4 := by
    exact State.wrF_keeps (hF.of rfl) (R.FAB_LANE_STATUS_in (hF.of rfl)) (State.setLinkF_keeps (hF.of rfl) h3)
  clear_value x4
  extract_lets +onlyGivenNames x6
  clear_value x6
  refine State.event_keeps (hF.of rfl) ?_
  exact State.event_keeps (hF.of rfl) (State.count_keeps (hF.of rfl) (R.CNT_FAB_in (hF.of rfl)) h5)

theorem State.windowEnd_keeps {F : Nat} {s0 s : State} {a1} (hF : Sub 0xc10000007e00000000000300000000000000000040c9b8009 F) (h : Keeps F s0 s) :
    Keeps F s0 (State.windowEnd s a1) := by
  unfold State.windowEnd
  extract_lets +onlyGivenNames x1 x2
  clear_value x1 x2
  extract_lets +onlyGivenNames x3
  have h4 : Keeps F s0 x3 := State.wrFs_keeps (hF.of rfl) (R.FAB_LANE_STATUS_in (hF.of rfl)) h
  clear_value x3
  extract_lets +onlyGivenNames x5
  clear_value x5
  extract_lets +onlyGivenNames x6
  have h7 : Keeps F s0 x6 := State.updPort_keeps (hF.of rfl) h4
  clear_value x6
  exact Keeps.foldl h7 (fun x8 e9 h10 => State.laneFails_keeps (hF.of rfl) h10)

theorem State.setTimeF_keeps {F : Nat} {s0 s : State} {a1 a2} (hF : Sub 0x200000000000000000000000000001 F) (h : Keeps F s0 s) :
    Keeps F s0 (State.setTimeF s a1 a2) := by
  unfold State.setTimeF
  exact State.wrF_keeps (hF.of rfl) (R.RLY_TIME_STATUS_in (hF.of rfl)) h

theorem State.timeWrapped_keeps {F : Nat} {s0 s : State} (hF : Sub 0x10000007e0000000002000000000000000000004049b8009 F) (h : Keeps F s0 s) :
    Keeps F s0 (State.timeWrapped s) := by
  unfold State.timeWrapped
  exact State.event_keeps (hF.of rfl) (State.setTimeF_keeps (hF.of rfl) h)

theorem State.addInc_keeps {F : Nat} {s0 s : State} (hF : Sub 0x10000007e0000000002000000000000000000005849b8009 F) (h : Keeps F s0 s) :
    Keeps F s0 (State.addInc s) := by
  unfold State.addInc
  extract_lets +onlyGivenNames x1
  extract_lets +onlyGivenNames x2
  have h3 : Keeps F s0 x2 := by
    unfold x2
    refine Keeps.upd (s := s) (B := 0x180000000) ?_ (hF.of rfl) rfl ⟨rfl, fun f hf => by cases f <;> first | rfl | exact absurd hf (by decide)⟩
    exact h
  clear_value x2
  exact Keeps.ite (fun _ => State.timeWrapped_keeps (hF.of rfl) h3) (fun _ => h3)

theorem State.tick_keeps {F : Nat} {s0 s : State} (hF : Sub 0x2010c00007e0000000002000000000000000000015849b8019 F) (h : Keeps F s0 s) :
    Keeps F s0 (State.tick s) := by
  unfold State.tick
  exact State.gunStep_keeps (hF.of rfl) (State.addInc_keeps (hF.of rfl) h)

theorem State.chooseParent_keeps {F : Nat} {s0 s : State} (hF : Sub 0x10000007e0000000002000000000000000000004049b8019 F) (h : Keeps F s0 s) :
    Keeps F s0 (State.chooseParent s) := by
  unfold State.chooseParent
  refine Keeps.ite (fun _ => h) (fun _ => ?_)
  split
  · extract_lets +onlyGivenNames x1
    clear_value x1
    extract_lets +onlyGivenNames x2
    have h3 : Keeps F s0 x2 := Keeps.setChip h (hF.of rfl)
    clear_value x2
    exact State.setTimeF_keeps (hF.of rfl) (State.setTimeF_keeps (hF.of rfl) h3)
  · extract_lets +onlyGivenNames x4 x5
    clear_value x4 x5
    extract_lets +onlyGivenNames x6
    have h7 : Keeps F s0 x6 := Keeps.setChip h (hF.of rfl)
    clear_value x6
    exact Keeps.ite (fun _ => h7) (fun _ => State.event_keeps (hF.of rfl) h7)

theorem State.stepTime_keeps {F : Nat} {s0 s : State} {a1} (hF : Sub 0x810000007e0000000002000000000000000000004849b8009 F) (h : Keeps F s0 s) :
    Keeps F s0 (State.stepTime s a1) := by
  unfold State.stepTime
  extract_lets +onlyGivenNames x1
  clear_value x1
  extract_lets +onlyGivenNames x2
  have h3 : Keeps F s0 x2 := Keeps.setFtime h (hF.of rfl)
  clear_value x2
  extract_lets +onlyGivenNames x4
  have h5 : Keeps F s0 x4 := Keeps.ite (fun _ => State.timeWrapped_keeps (hF.of rfl) h3) (fun _ => h3)
  clear_value x4
  exact State.count_keeps (hF.of rfl) (R.CNT_RLY_in (hF.of rfl)) h5

theorem State.timeResp_keeps {F : Nat} {s0 s : State} {a1 a2 a3 a4 a5 a6} (hF : Sub 0x810000007e000000000211000000000000000000e8c9b8019 F) (h : Keeps F s0 s) :
    Keeps F s0 (State.timeResp s a1 a2 a3 a4 a5 a6) := by
  unfold State.timeResp
  split
  · exact h
  · extract_lets +onlyGivenNames x1 x2 x3 x4 x5
    clear_value x1 x2 x3 x4 x5
    extract_lets +onlyGivenNames x6
    have h7 : Keeps F s0 x6 := State.wrF_keeps (hF.of rfl) (R.FAB_PEER_in (hF.of rfl)) h
    clear_value x6
    extract_lets +onlyGivenNames x8
    have h9 : Keeps F s0 x8 := State.updPort_keeps (hF.of rfl) h7
    clear_value x8
    extract_lets +onlyGivenNames x10
    have h11 : Keeps F s0 x10 := State.chooseParent_keeps (hF.of rfl) h9
    clear_value x10
    extract_lets +onlyGivenNames x12
    have h13 : Keeps F s0 x12 := State.setTimeF_keeps (hF.of rfl) h11
    clear_value x12
    extract_lets +onlyGivenNames x14
    have h15 : Keeps F s0 x14.2 := State.takeFree_keeps (hF.of rfl) h13
    clear_value x14
    extract_lets +onlyGivenNames x16
    have h17 : Keeps F s0 x16 := State.setTimeF_keeps (hF.of rfl) h15
    clear_value x16
    extract_lets +onlyGivenNames x18
    have h19 : Keeps F s0 x18 := by
      unfold x18
      refine Keeps.ite (fun _ => h11) (fun _ => ?_)
      refine Keeps.ite (fun _ => Keeps.setFinc h17 (hF.of rfl)) (fun _ => ?_)
      exact State.setTimeF_keeps (hF.of rfl) (State.stepTime_keeps (hF.of rfl) h13)
    clear_value x18
    exact State.freshAll_keeps (hF.of rfl) h19

theorem State.timeReq_keeps {F : Nat} {s0 s : State} {a1 a2} (hF : Sub 0x408000000 F) (h : Keeps F s0 s) :
    Keeps F s0 (State.timeReq s a1 a2) := by
  unfold State.timeReq
  exact State.ctrlFlit_keeps (hF.of rfl) h

theorem State.conflict_keeps {F : Nat} {s0 s : State} {a1} (hF : Sub 0x10000007e0000000000810000000000000000004049b8009 F) (h : Keeps F s0 s) :
    Keeps F s0 (State.conflict s a1) := by
  unfold State.conflict
  refine State.event_keeps (hF.of rfl) ?_
  exact State.wrF_keeps (hF.of rfl) (R.RLY_FABRIC_COORD_in (hF.of rfl)) (State.setLinkF_keeps (hF.of rfl) h)

theorem State.coordIn_keeps {F : Nat} {s0 s : State} {a1 a2 a3 a4} (hF : Sub 0x10000007e00000000009100000000000000000040c9b8019 F) (h : Keeps F s0 s) :
    Keeps F s0 (State.coordIn s a1 a2 a3 a4) := by
  unfold State.coordIn
  extract_lets +onlyGivenNames x1
  refine Keeps.ite (fun _ => h) (fun _ => ?_)
  extract_lets +onlyGivenNames x2
  have h3 : Keeps F s0 x2 := State.wrFs_keeps (hF.of rfl) (R.FAB_PEER_in (hF.of rfl)) h
  clear_value x2
  extract_lets +onlyGivenNames x4
  clear_value x4
  refine Keeps.ite (fun _ => ?_) (fun _ => Keeps.ite (fun _ => State.conflict_keeps (hF.of rfl) h3) (fun _ => h3))
  extract_lets +onlyGivenNames x5
  have h6 : Keeps F s0 x5 := State.wrFs_keeps (hF.of rfl) (R.RLY_FABRIC_COORD_in (hF.of rfl)) h3
  clear_value x5
  exact State.sendCoords_keeps (hF.of rfl) (Keeps.setChip h6 (hF.of rfl))

theorem State.linkInfoIn_keeps {F : Nat} {s0 s : State} {a1 a2} (hF : Sub 0xc10000007e00000000001b00000000000000000040c9b8009 F) (h : Keeps F s0 s) :
    Keeps F s0 (State.linkInfoIn s a1 a2) := by
  unfold State.linkInfoIn
  extract_lets +onlyGivenNames x1
  clear_value x1
  refine Keeps.ite (fun _ => Keeps.ite (fun _ => State.updPort_keeps (hF.of rfl) h) (fun _ => h)) (fun _ => ?_)
  refine Keeps.ite (fun _ => h) (fun _ => ?_)
  extract_lets +onlyGivenNames x2
  have h3 : Keeps F s0 x2 := State.wr_keeps (hF.of rfl) (R.FAB_PEER_UID_in (hF.of rfl)) h
  clear_value x2
  extract_lets +onlyGivenNames x4
  have h5 : Keeps F s0 x4 := State.wrFs_keeps (hF.of rfl) (R.FAB_PEER_in (hF.of rfl)) h3
  clear_value x4
  refine Keeps.ite (fun _ => State.portLock_keeps (hF.of rfl) (State.updPort_keeps (hF.of rfl) h5)) (fun _ => ?_)
  refine Keeps.ite (fun _ => State.portDown_keeps (hF.of rfl) (State.event_keeps (hF.of rfl) h5)) (fun _ => ?_)
  extract_lets +onlyGivenNames x6
  clear_value x6
  extract_lets +onlyGivenNames x7
  have h8 : Keeps F s0 x7 := State.updPort_keeps (hF.of rfl) h5
  clear_value x7
  extract_lets +onlyGivenNames x9
  have h10 : Keeps F s0 x9 := Keeps.ite (fun _ => State.setLinkF_keeps (hF.of rfl) h8) (fun _ => h8)
  clear_value x9
  extract_lets +onlyGivenNames x11
  have h12 : Keeps F s0 x11 := State.setPort4_keeps (hF.of rfl) h10
  clear_value x11
  extract_lets +onlyGivenNames x13
  have h14 : Keeps F s0 x13 := State.setLinkF_keeps (hF.of rfl) (State.setLinkF_keeps (hF.of rfl) h12)
  clear_value x13
  exact Keeps.ite (fun _ => State.ctrlFlit_keeps (hF.of rfl) h14) (fun _ => h14)

theorem State.creditIn_keeps {F : Nat} {s0 s : State} {a1 a2} (hF : Sub 0x8000000 F) (h : Keeps F s0 s) :
    Keeps F s0 (State.creditIn s a1 a2) := by
  unfold State.creditIn
  extract_lets +onlyGivenNames x1
  clear_value x1
  exact State.updPort_keeps (hF.of rfl) h

theorem State.ctrlIn_keeps {F : Nat} {s0 s : State} {a1 a2 a3} (hF : Sub 0xc10000007e00000000029b000000000000000000e8c9b8019 F) (h : Keeps F s0 s) :
    Keeps F s0 (State.ctrlIn s a1 a2 a3) := by
  unfold State.ctrlIn
  split
  · exact State.creditIn_keeps (hF.of rfl) h
  · exact State.linkInfoIn_keeps (hF.of rfl) h
  · refine Keeps.ite (fun _ => ?_) (fun _ => State.timeReq_keeps (hF.of rfl) h)
    exact State.count_keeps (hF.of rfl) (R.CNT_FAB_in (hF.of rfl)) h
  · refine Keeps.ite (fun _ => ?_) (fun _ => State.timeResp_keeps (hF.of rfl) h)
    exact State.count_keeps (hF.of rfl) (R.CNT_FAB_in (hF.of rfl)) h
  · exact State.coordIn_keeps (hF.of rfl) h
  · exact h

theorem State.pktIn_keeps {F : Nat} {s0 s : State} {a1 a2} (hF : Sub 0x8000000000000000000000000000000000000000008000001 F) (h : Keeps F s0 s) :
    Keeps F s0 (State.pktIn s a1 a2) := by
  unfold State.pktIn
  extract_lets +onlyGivenNames x1
  clear_value x1
  extract_lets +onlyGivenNames x2
  have h3 : Keeps F s0 x2 := State.updPort_keeps (hF.of rfl) h
  clear_value x2
  exact Keeps.ite (fun _ => h3) (fun _ => State.count_keeps (hF.of rfl) (R.CNT_RLY_in (hF.of rfl)) h3)

theorem State.slotIn_keeps {F : Nat} {s0 s : State} {a1 a2 a3} (hF : Sub 0xc10000007e00000000029b000000000000000000e8c9b8019 F) (h : Keeps F s0 s) :
    Keeps F s0 (State.slotIn s a1 a2 a3) := by
  unfold State.slotIn
  extract_lets +onlyGivenNames x1
  clear_value x1
  refine Keeps.ite (fun _ => State.pktIn_keeps (hF.of rfl) h) (fun _ => ?_)
  refine Keeps.ite (fun _ => State.setPort_keeps (hF.of rfl) h) (fun _ => ?_)
  extract_lets +onlyGivenNames x2
  clear_value x2
  refine Keeps.ite (fun _ => h) (fun _ => ?_)
  refine Keeps.ite (fun _ => ?_) (fun _ => State.ctrlIn_keeps (hF.of rfl) h)
  exact Keeps.ite (fun _ => State.pktIn_keeps (hF.of rfl) h) (fun _ => State.setPort_keeps (hF.of rfl) h)

theorem State.headerIn_keeps {F : Nat} {s0 s : State} {a1 a2} (hF : Sub 0xc10000007e00000000000300000000000000000040c9b8009 F) (h : Keeps F s0 s) :
    Keeps F s0 (State.headerIn s a1 a2) := by
  unfold State.headerIn
  extract_lets +onlyGivenNames x1
  clear_value x1
  extract_lets +onlyGivenNames x2
  have h3 : Keeps F s0 x2 := State.updPort_keeps (hF.of rfl) h
  clear_value x2
  extract_lets +onlyGivenNames x4
  have h5 : Keeps F s0 x4 := State.updPort_keeps (hF.of rfl) h3
  clear_value x4
  extract_lets +onlyGivenNames x6
  have h7 : Keeps F s0 x6 := State.setLinkF_keeps (hF.of rfl) h5
  clear_value x6
  extract_lets +onlyGivenNames x8 x9
  clear_value x8 x9
  exact Keeps.ite (fun _ => State.startResend_keeps (hF.of rfl) h7) (fun _ => h7)

theorem State.frameIn_keeps {F : Nat} {s0 s : State} {a1 a2} (hF : Sub 0xc10000007e00000000029b000000000000000000e8c9b8019 F) (h : Keeps F s0 s) :
    Keeps F s0 (State.frameIn s a1 a2) := by
  unfold State.frameIn
  extract_lets +onlyGivenNames x1
  clear_value x1
  refine Keeps.ite (fun _ => State.count_keeps (hF.of rfl) (R.CNT_FAB_in (hF.of rfl)) h) (fun _ => ?_)
  extract_lets +onlyGivenNames x2 x3
  clear_value x2 x3
  refine Keeps.ite (fun _ => State.headerIn_keeps (hF.of rfl) h) (fun _ => ?_)
  refine Keeps.ite (fun _ => ?_) (fun _ => ?_)
  · extract_lets +onlyGivenNames x4
    clear_value x4
    refine Keeps.ite (fun _ => State.count_keeps (hF.of rfl) (R.CNT_FAB_in (hF.of rfl)) h) (fun _ => ?_)
    extract_lets +onlyGivenNames x5
    have h6 : Keeps F s0 x5 := State.setPort_keeps (hF.of rfl) h
    clear_value x5
    exact Keeps.foldl (State.headerIn_keeps (hF.of rfl) h6) (fun x7 e8 h9 => State.slotIn_keeps (hF.of rfl) h9)
  · refine Keeps.ite (fun _ => ?_) (fun _ => ?_)
    · exact State.headerIn_keeps (hF.of rfl) (State.count_keeps (hF.of rfl) (R.CNT_FAB_in (hF.of rfl)) h)
    · extract_lets +onlyGivenNames x10
      have h11 : Keeps F s0 x10 := State.headerIn_keeps (hF.of rfl) (State.count_keeps (hF.of rfl) (R.CNT_FAB_in (hF.of rfl)) h)
      clear_value x10
      refine Keeps.ite (fun _ => h11) (fun _ => ?_)
      exact State.updPort_keeps (hF.of rfl) (State.count_keeps (hF.of rfl) (R.CNT_FAB_in (hF.of rfl)) h11)

theorem State.frameReceive_keeps {F : Nat} {s0 s : State} {a1 a2 a3 a4 a5} (hF : Sub 0xc10000007e00000000029b000000000000000000e8c9b8019 F) (h : Keeps F s0 s) :
    Keeps F s0 (State.frameReceive s a1 a2 a3 a4 a5) := by
  unfold State.frameReceive
  refine Keeps.ite (fun _ => h) (fun _ => ?_)
  extract_lets +onlyGivenNames x1
  have h2 : Keeps F s0 x1 := by
    unfold x1
    refine Keeps.foldl h (fun x3 e4 h5 => ?_)
    exact State.updPort_keeps (hF.of rfl) (State.count_keeps (hF.of rfl) (R.CNT_FAB_in (hF.of rfl)) h5)
  clear_value x1
  extract_lets +onlyGivenNames x6
  have h7 : Keeps F s0 x6 := State.updPort_keeps (hF.of rfl) h2
  clear_value x6
  extract_lets +onlyGivenNames x8
  have h9 : Keeps F s0 x8 := by
    exact Keeps.ite (fun _ => h2) (fun _ => Keeps.ite (fun _ => State.laneSwap_keeps (hF.of rfl) h7) (fun _ => h7))
  clear_value x8
  refine Keeps.ite (fun _ => ?_) (fun _ => State.frameIn_keeps (hF.of rfl) h9)
  exact State.count_keeps (hF.of rfl) (R.CNT_FAB_in (hF.of rfl)) h9

theorem execFrameTransmit_keeps {F : Nat} {s0 s : State} {a1} (hF : Sub 0x4000000000000000000000000000000000000000408000001 F) (h : Keeps F s0 s) :
    KeepsX F s0 (execFrameTransmit a1 s) := by
  unfold execFrameTransmit
  exact KeepsX.next (Keeps.ite (fun _ => State.transmit_keeps (hF.of rfl) h) (fun _ => h))

theorem execFrameReceive_keeps {F : Nat} {s0 s : State} {a1 a2 a3 a4 a5} (hF : Sub 0xc10000007e00000000029b000000000000000000e8c9b8019 F) (h : Keeps F s0 s) :
    KeepsX F s0 (execFrameReceive a1 a2 a3 a4 a5 s) := by
  unfold execFrameReceive
  exact KeepsX.next (Keeps.ite (fun _ => State.frameReceive_keeps (hF.of rfl) h) (fun _ => h))

theorem execAckTimeout_keeps {F : Nat} {s0 s : State} {a1} (hF : Sub 0xc10000007e00000000000300000000000000000040c9b8009 F) (h : Keeps F s0 s) :
    KeepsX F s0 (execAckTimeout a1 s) := by
  unfold execAckTimeout
  refine KeepsX.next ?_
  split
  · refine Keeps.ite (fun _ => ?_) (fun _ => h)
    exact State.startResend_keeps (hF.of rfl) (State.count_keeps (hF.of rfl) (R.CNT_FAB_in (hF.of rfl)) h)
  · exact h

theorem execLaneWindowEnd_keeps {F : Nat} {s0 s : State} {a1} (hF : Sub 0xc10000007e00000000000300000000000000000040c9b8009 F) (h : Keeps F s0 s) :
    KeepsX F s0 (execLaneWindowEnd a1 s) := by
  unfold execLaneWindowEnd
  exact KeepsX.next (Keeps.ite (fun _ => State.windowEnd_keeps (hF.of rfl) h) (fun _ => h))

theorem execSymbolLockLoss_keeps {F : Nat} {s0 s : State} {a1 a2} (hF : Sub 0xc10000007e00000000000300000000000000000040c9b8009 F) (h : Keeps F s0 s) :
    KeepsX F s0 (execSymbolLockLoss a1 a2 s) := by
  unfold execSymbolLockLoss
  refine KeepsX.next ?_
  refine Keeps.ite (fun _ => ?_) (fun _ => h)
  exact State.laneFails_keeps (hF.of rfl) (State.wrF_keeps (hF.of rfl) (R.FAB_LANE_STATUS_in (hF.of rfl)) h)

theorem execSpareVerifyTimeout_keeps {F : Nat} {s0 s : State} {a1} (hF : Sub 0xc10000007e00000000000300000000000000000040c9b8009 F) (h : Keeps F s0 s) :
    KeepsX F s0 (execSpareVerifyTimeout a1 s) := by
  unfold execSpareVerifyTimeout
  exact KeepsX.next (Keeps.ite (fun _ => State.portRetrain_keeps (hF.of rfl) h) (fun _ => h))

theorem execFrameLockLost_keeps {F : Nat} {s0 s : State} {a1} (hF : Sub 0xc10000007e00000000000300000000000000000040c9b8009 F) (h : Keeps F s0 s) :
    KeepsX F s0 (execFrameLockLost a1 s) := by
  unfold execFrameLockLost
  exact KeepsX.next (Keeps.ite (fun _ => State.portRetrain_keeps (hF.of rfl) h) (fun _ => h))

theorem execLaserLoss_keeps {F : Nat} {s0 s : State} {a1} (hF : Sub 0xc10000007e00000000000300000000000000000040c9b8009 F) (h : Keeps F s0 s) :
    KeepsX F s0 (execLaserLoss a1 s) := by
  unfold execLaserLoss
  refine KeepsX.next ?_
  refine Keeps.foldl h (fun x1 e2 h3 => ?_)
  extract_lets +onlyGivenNames x4
  have h5 : Keeps F s0 x4 := State.setLinkF_keeps (hF.of rfl) h3
  clear_value x4
  exact Keeps.ite (fun _ => h5) (fun _ => State.portDown_keeps (hF.of rfl) h5)

theorem execLaserRestore_keeps {F : Nat} {s0 s : State} {a1} (hF : Sub 0x3000000000000000000008000001 F) (h : Keeps F s0 s) :
    KeepsX F s0 (execLaserRestore a1 s) := by
  unfold execLaserRestore
  refine KeepsX.next ?_
  refine Keeps.foldl h (fun x1 e2 h3 => ?_)
  extract_lets +onlyGivenNames x4
  have h5 : Keeps F s0 x4 := State.setLinkF_keeps (hF.of rfl) h3
  clear_value x4
  refine Keeps.ite (fun _ => h5) (fun _ => ?_)
  refine Keeps.ite (fun _ => State.portLock_keeps (hF.of rfl) h5) (fun _ => ?_)
  exact Keeps.ite (fun _ => State.portLock_keeps (hF.of rfl) h5) (fun _ => h5)

theorem State.portEnable_keeps {F : Nat} {s0 s : State} {a1 a2} (hF : Sub 0xc10000007e00000000000340000000000000000040c9b8009 F) (h : Keeps F s0 s) :
    Keeps F s0 (State.portEnable s a1 a2) := by
  unfold State.portEnable
  extract_lets +onlyGivenNames x1
  have h2 : Keeps F s0 x1 := State.wrF_keeps (hF.of rfl) (R.FAB_LINK_CTRL_in (hF.of rfl)) h
  clear_value x1
  refine Keeps.ite (fun _ => Keeps.ite (fun _ => State.portLock_keeps (hF.of rfl) h2) (fun _ => h2)) (fun _ => ?_)
  refine Keeps.ite (fun _ => h2) (fun _ => ?_)
  exact State.reinject_keeps (hF.of rfl) (State.setLinkF_keeps (hF.of rfl) (State.setPort4_keeps (hF.of rfl) h2))

theorem execPortEnable_keeps {F : Nat} {s0 s : State} {a1 a2} (hF : Sub 0xc10000007e00000000000340000000000000000040c9b8009 F) (h : Keeps F s0 s) :
    KeepsX F s0 (execPortEnable a1 a2 s) := by
  unfold execPortEnable
  exact KeepsX.next (Keeps.ite (fun _ => State.portEnable_keeps (hF.of rfl) h) (fun _ => h))

theorem State.portRetrainWrite_keeps {F : Nat} {s0 s : State} {a1} (hF : Sub 0xc10000007e00000000008300000000000000000040c9b8009 F) (h : Keeps F s0 s) :
    Keeps F s0 (State.portRetrainWrite s a1) := by
  unfold State.portRetrainWrite
  extract_lets +onlyGivenNames x1
  have h2 : Keeps F s0 x1 := State.setLinkF_keeps (hF.of rfl) h
  clear_value x1
  extract_lets +onlyGivenNames x3
  have h4 : Keeps F s0 x3 := State.wrF_keeps (hF.of rfl) (R.RLY_FABRIC_COORD_in (hF.of rfl)) h2
  clear_value x3
  refine Keeps.ite (fun _ => h4) (fun _ => ?_)
  extract_lets +onlyGivenNames x5
  have h6 : Keeps F s0 x5 := State.updPort_keeps (hF.of rfl) h4
  clear_value x5
  extract_lets +onlyGivenNames x7
  have h8 : Keeps F s0 x7 := State.setLinkF_keeps (hF.of rfl) (State.setLinkF_keeps (hF.of rfl) h6)
  clear_value x7
  extract_lets +onlyGivenNames x9
  have h10 : Keeps F s0 x9 := State.wrF_keeps (hF.of rfl) (R.FAB_LANE_STATUS_in (hF.of rfl)) h8
  clear_value x9
  refine Keeps.ite (fun _ => State.portRetrain_keeps (hF.of rfl) h10) (fun _ => ?_)
  exact Keeps.ite (fun _ => State.portLock_keeps (hF.of rfl) h10) (fun _ => h10)

theorem execRetrain_keeps {F : Nat} {s0 s : State} {a1} (hF : Sub 0xc10000007e00000000008300000000000000000040c9b8009 F) (h : Keeps F s0 s) :
    KeepsX F s0 (execRetrain a1 s) := by
  unfold execRetrain
  exact KeepsX.next (Keeps.ite (fun _ => State.portRetrainWrite_keeps (hF.of rfl) h) (fun _ => h))

theorem State.portPark_keeps {F : Nat} {s0 s : State} {a1} (hF : Sub 0x408000000 F) (h : Keeps F s0 s) :
    Keeps F s0 (State.portPark s a1) := by
  unfold State.portPark
  exact Keeps.ite (fun _ => h) (fun _ => State.updPort_keeps (hF.of rfl) (State.emit_keeps (hF.of rfl) h))

theorem execPark_keeps {F : Nat} {s0 s : State} {a1} (hF : Sub 0x408000000 F) (h : Keeps F s0 s) :
    KeepsX F s0 (execPark a1 s) := by
  unfold execPark
  exact KeepsX.next (State.portPark_keeps (hF.of rfl) h)

theorem execPortParked_keeps {F : Nat} {s0 s : State} {a1} (hF : Sub 0x810000007e00000000000300000000000000000040c9b8009 F) (h : Keeps F s0 s) :
    KeepsX F s0 (execPortParked a1 s) := by
  unfold execPortParked
  refine KeepsX.next ?_
  extract_lets +onlyGivenNames x1
  clear_value x1
  refine Keeps.ite (fun _ => ?_) (fun _ => h)
  extract_lets +onlyGivenNames x2
  clear_value x2
  extract_lets +onlyGivenNames x3
  have h4 : Keeps F s0 x3 := State.setPort_keeps (hF.of rfl) h
  clear_value x3
  exact Keeps.foldl (State.setPort4_keeps (hF.of rfl) h4) (fun x5 e6 h7 => State.route_keeps (hF.of rfl) h7)

theorem State.portWake_keeps {F : Nat} {s0 s : State} {a1} (hF : Sub 0x3000000000000000000008000001 F) (h : Keeps F s0 s) :
    Keeps F s0 (State.portWake s a1) := by
  unfold State.portWake
  exact Keeps.ite (fun _ => State.portLock_keeps (hF.of rfl) h) (fun _ => h)

theorem execWake_keeps {F : Nat} {s0 s : State} {a1} (hF : Sub 0x3000000000000000000008000001 F) (h : Keeps F s0 s) :
    KeepsX F s0 (execWake a1 s) := by
  unfold execWake
  exact KeepsX.next (State.portWake_keeps (hF.of rfl) h)

theorem execPeerTrainingBegins_keeps {F : Nat} {s0 s : State} {a1} (hF : Sub 0x3000000000000000000008000001 F) (h : Keeps F s0 s) :
    KeepsX F s0 (execPeerTrainingBegins a1 s) := by
  unfold execPeerTrainingBegins
  exact KeepsX.next (State.portWake_keeps (hF.of rfl) h)

theorem execPortLockDone_keeps {F : Nat} {s0 s : State} {a1 a2} (hF : Sub 0x3000000000000000000008000001 F) (h : Keeps F s0 s) :
    KeepsX F s0 (execPortLockDone a1 a2 s) := by
  unfold execPortLockDone
  refine KeepsX.next ?_
  extract_lets +onlyGivenNames x1
  clear_value x1
  refine Keeps.ite (fun _ => ?_) (fun _ => h)
  exact State.setPort4_keeps (hF.of rfl) (State.wrF_keeps (hF.of rfl) (R.FAB_LANE_STATUS_in (hF.of rfl)) h)

theorem execPortTrainDone_keeps {F : Nat} {s0 s : State} {a1} (hF : Sub 0x3000000000000000000408000001 F) (h : Keeps F s0 s) :
    KeepsX F s0 (execPortTrainDone a1 s) := by
  unfold execPortTrainDone
  refine KeepsX.next ?_
  refine Keeps.ite (fun _ => ?_) (fun _ => h)
  extract_lets +onlyGivenNames x1
  have h2 : Keeps F s0 x1 := State.setPort4_keeps (hF.of rfl) h
  clear_value x1
  exact State.emit_keeps (hF.of rfl) h2

theorem execPortStageTimeout_keeps {F : Nat} {s0 s : State} {a1} (hF : Sub 0xc10000007e00000000000300000000000000000040c9b8009 F) (h : Keeps F s0 s) :
    KeepsX F s0 (execPortStageTimeout a1 s) := by
  unfold execPortStageTimeout
  refine KeepsX.next ?_
  extract_lets +onlyGivenNames x1
  clear_value x1
  extract_lets +onlyGivenNames x2
  have h3 : ∀ y1, Keeps F s0 y1 → Keeps F s0 (x2 y1) := by
    intro y4 y5
    unfold x2
    exact State.setLinkF_keeps (hF.of rfl) y5
  clear_value x2
  refine Keeps.ite (fun _ => ?_) (fun _ => ?_)
  · extract_lets +onlyGivenNames x6
    have h7 : Keeps F s0 x6 := by
      unfold x6
      refine State.updPort_keeps (hF.of rfl) ?_
      apply h3
      exact h
    clear_value x6
    refine Keeps.ite (fun _ => ?_) (fun _ => h7)
    exact State.event_keeps (hF.of rfl) (State.event_keeps (hF.of rfl) (State.portDown_keeps (hF.of rfl) h7))
  · refine Keeps.ite (fun _ => ?_) (fun _ => h)
    extract_lets +onlyGivenNames x8
    have h9 : Keeps F s0 x8 := by
      unfold x8
      apply h3
      exact h
    clear_value x8
    exact Keeps.ite (fun _ => State.portDown_keeps (hF.of rfl) h9) (fun _ => State.setPort4_keeps (hF.of rfl) h9)

theorem execPortDownRetry_keeps {F : Nat} {s0 s : State} {a1} (hF : Sub 0x3000000000000000000008000001 F) (h : Keeps F s0 s) :
    KeepsX F s0 (execPortDownRetry a1 s) := by
  unfold execPortDownRetry
  exact KeepsX.next (Keeps.ite (fun _ => State.portLock_keeps (hF.of rfl) h) (fun _ => h))

theorem execCredit_keeps {F : Nat} {s0 s : State} {a1 a2} (hF : Sub 0x8000000 F) (h : Keeps F s0 s) :
    KeepsX F s0 (execCredit a1 a2 s) := by
  unfold execCredit
  exact KeepsX.next (State.creditIn_keeps (hF.of rfl) h)

theorem execLinkInfo_keeps {F : Nat} {s0 s : State} {a1 a2} (hF : Sub 0xc10000007e00000000001b00000000000000000040c9b8009 F) (h : Keeps F s0 s) :
    KeepsX F s0 (execLinkInfo a1 a2 s) := by
  unfold execLinkInfo
  exact KeepsX.next (Keeps.ite (fun _ => State.linkInfoIn_keeps (hF.of rfl) h) (fun _ => h))

theorem execTimeReq_keeps {F : Nat} {s0 s : State} {a1 a2 a3} (hF : Sub 0x4000000000000000000000000000000000000000408000001 F) (h : Keeps F s0 s) :
    KeepsX F s0 (execTimeReq a1 a2 a3 s) := by
  unfold execTimeReq
  refine KeepsX.next ?_
  refine Keeps.ite (fun _ => ?_) (fun _ => State.timeReq_keeps (hF.of rfl) h)
  exact State.count_keeps (hF.of rfl) (R.CNT_FAB_in (hF.of rfl)) h

theorem execTimeResp_keeps {F : Nat} {s0 s : State} {a1 a2 a3 a4 a5 a6 a7} (hF : Sub 0xc10000007e000000000211000000000000000000e8c9b8019 F) (h : Keeps F s0 s) :
    KeepsX F s0 (execTimeResp a1 a2 a3 a4 a5 a6 a7 s) := by
  unfold execTimeResp
  refine KeepsX.next ?_
  refine Keeps.ite (fun _ => ?_) (fun _ => State.timeResp_keeps (hF.of rfl) h)
  exact State.count_keeps (hF.of rfl) (R.CNT_FAB_in (hF.of rfl)) h

theorem execCoord_keeps {F : Nat} {s0 s : State} {a1 a2 a3 a4} (hF : Sub 0x10000007e00000000009100000000000000000040c9b8019 F) (h : Keeps F s0 s) :
    KeepsX F s0 (execCoord a1 a2 a3 a4 s) := by
  unfold execCoord
  exact KeepsX.next (State.coordIn_keeps (hF.of rfl) h)

theorem execTimeExchangeStart_keeps {F : Nat} {s0 s : State} (hF : Sub 0x200000000000000000000408000001 F) (h : Keeps F s0 s) :
    KeepsX F s0 (execTimeExchangeStart s) := by
  unfold execTimeExchangeStart
  refine KeepsX.next ?_
  refine Keeps.ite (fun _ => h) (fun _ => ?_)
  extract_lets +onlyGivenNames x1
  clear_value x1
  extract_lets +onlyGivenNames x2
  have h3 : Keeps F s0 x2 := Keeps.ite (fun _ => State.setTimeF_keeps (hF.of rfl) h) (fun _ => h)
  clear_value x2
  refine Keeps.foldl h3 (fun x4 e5 h6 => ?_)
  extract_lets +onlyGivenNames x7
  clear_value x7
  exact State.ctrlFlit_keeps (hF.of rfl) (State.updPort_keeps (hF.of rfl) h6)

theorem execTimeHoldoverExpiry_keeps {F : Nat} {s0 s : State} (hF : Sub 0x10000007e0000000002010000000000000000004049b8019 F) (h : Keeps F s0 s) :
    KeepsX F s0 (execTimeHoldoverExpiry s) := by
  unfold execTimeHoldoverExpiry
  refine KeepsX.next ?_
  refine Keeps.ite (fun _ => ?_) (fun _ => h)
  extract_lets +onlyGivenNames x1
  have h2 : Keeps F s0 x1 := State.event_keeps (hF.of rfl) (State.setTimeF_keeps (hF.of rfl) h)
  clear_value x1
  exact State.freshAll_keeps (hF.of rfl) (State.chooseParent_keeps (hF.of rfl) h2)

theorem execFreshnessExpiry_keeps {F : Nat} {s0 s : State} {a1} (hF : Sub 0x1000000000000000000008000001 F) (h : Keeps F s0 s) :
    KeepsX F s0 (execFreshnessExpiry a1 s) := by
  unfold execFreshnessExpiry
  exact KeepsX.next (State.freshAll_keeps (hF.of rfl) (State.updPort_keeps (hF.of rfl) h))

theorem execTimeWrap_keeps {F : Nat} {s0 s : State} (hF : Sub 0x2010c00007e0000000002000000000000000000015849b8019 F) (h : Keeps F s0 s) :
    KeepsX F s0 (execTimeWrap s) := by
  unfold execTimeWrap
  exact KeepsX.next (Keeps.ite (fun _ => State.tick_keeps (hF.of rfl) h) (fun _ => h))

theorem State.timeSet_keeps {F : Nat} {s0 s : State} {a1} (hF : Sub 0x100000000000000000000000000000000000000180000001 F) (h : Keeps F s0 s) :
    Keeps F s0 (State.timeSet s a1) := by
  unfold State.timeSet
  refine Keeps.ite (fun _ => ?_) (fun _ => State.regErr_keeps (hF.of rfl) h)
  refine Keeps.upd (s := s) (B := 0x180000000) ?_ (hF.of rfl) rfl ⟨rfl, fun f hf => by cases f <;> first | rfl | exact absurd hf (by decide)⟩
  exact h

theorem execTimeSet_keeps {F : Nat} {s0 s : State} {a1} (hF : Sub 0x100000000000000000000000000000000000000180000001 F) (h : Keeps F s0 s) :
    KeepsX F s0 (execTimeSet a1 s) := by
  unfold execTimeSet
  exact KeepsX.next (State.timeSet_keeps (hF.of rfl) h)

theorem State.writeTimeCtrl_keeps {F : Nat} {s0 s : State} {a1} (hF : Sub 0x10000007e0000000006010000000000000000006049b8019 F) (h : Keeps F s0 s) :
    Keeps F s0 (State.writeTimeCtrl s a1) := by
  unfold State.writeTimeCtrl
  extract_lets +onlyGivenNames x1 x2
  clear_value x1 x2
  extract_lets +onlyGivenNames x3
  have h4 : Keeps F s0 x3 := Keeps.ite (fun _ => State.regErr_keeps (hF.of rfl) h) (fun _ => h)
  clear_value x3
  extract_lets +onlyGivenNames x5
  clear_value x5
  extract_lets +onlyGivenNames x6
  have h7 : Keeps F s0 x6 := State.wr_keeps (hF.of rfl) (R.RLY_TIME_CTRL_in (hF.of rfl)) h4
  clear_value x6
  extract_lets +onlyGivenNames x8
  clear_value x8
  extract_lets +onlyGivenNames x9
  have h10 : Keeps F s0 x9 := Keeps.setChip h7 (hF.of rfl)
  clear_value x9
  extract_lets +onlyGivenNames x11
  have h12 : Keeps F s0 x11 := by
    unfold x11
    refine Keeps.ite (fun _ => State.wrFs_keeps (hF.of rfl) (R.RLY_TIME_STATUS_in (hF.of rfl)) h10) (fun _ => ?_)
    refine Keeps.ite (fun _ => ?_) (fun _ => h7)
    exact State.chooseParent_keeps (hF.of rfl) (State.wrFs_keeps (hF.of rfl) (R.RLY_TIME_STATUS_in (hF.of rfl)) h7)
  clear_value x11
  extract_lets +onlyGivenNames x13
  have h14 : Keeps F s0 x13 := Keeps.ite (fun _ => Keeps.setFinc h12 (hF.of rfl)) (fun _ => h12)
  clear_value x13
  exact State.freshAll_keeps (hF.of rfl) h14

theorem State.writeDims_keeps {F : Nat} {s0 s : State} {a1} (hF : Sub 0x1000000000000000000c0000000000000000000408000011 F) (h : Keeps F s0 s) :
    Keeps F s0 (State.writeDims s a1) := by
  unfold State.writeDims
  refine Keeps.ite (fun _ => State.regErr_keeps (hF.of rfl) h) (fun _ => ?_)
  extract_lets +onlyGivenNames x1
  have h2 : Keeps F s0 x1 := State.wr_keeps (hF.of rfl) (R.RLY_FABRIC_DIMS_in (hF.of rfl)) h
  clear_value x1
  refine Keeps.ite (fun _ => ?_) (fun _ => h2)
  extract_lets +onlyGivenNames x3
  have h4 : Keeps F s0 x3 := State.wrFs_keeps (hF.of rfl) (R.RLY_FABRIC_COORD_in (hF.of rfl)) h2
  clear_value x3
  exact State.sendCoords_keeps (hF.of rfl) (Keeps.setChip h4 (hF.of rfl))

theorem State.writeRole_keeps {F : Nat} {s0 s : State} {a1 a2} (hF : Sub 0x100000000000000000000800000000000000000000000001 F) (h : Keeps F s0 s) :
    Keeps F s0 (State.writeRole s a1 a2) := by
  unfold State.writeRole
  refine Keeps.ite (fun _ => State.regErr_keeps (hF.of rfl) h) (fun _ => ?_)
  exact State.wr_keeps (hF.of rfl) (R.FAB_ROLE_in (hF.of rfl)) h

theorem State.writeLinkCtrl_keeps {F : Nat} {s0 s : State} {a1 a2} (hF : Sub 0xc10000007e00000000008340000000000000000040c9b8009 F) (h : Keeps F s0 s) :
    Keeps F s0 (State.writeLinkCtrl s a1 a2) := by
  unfold State.writeLinkCtrl
  extract_lets +onlyGivenNames x1
  have h2 : Keeps F s0 x1 := State.wrF_keeps (hF.of rfl) (R.FAB_LINK_CTRL_in (hF.of rfl)) h
  clear_value x1
  extract_lets +onlyGivenNames x3
  have h4 : Keeps F s0 x3 := Keeps.ite (fun _ => State.portEnable_keeps (hF.of rfl) h2) (fun _ => h2)
  clear_value x3
  extract_lets +onlyGivenNames x5
  have h6 : Keeps F s0 x5 := Keeps.ite (fun _ => State.portRetrainWrite_keeps (hF.of rfl) h4) (fun _ => h4)
  clear_value x5
  extract_lets +onlyGivenNames x7
  have h8 : Keeps F s0 x7 := Keeps.ite (fun _ => State.portPark_keeps (hF.of rfl) h6) (fun _ => h6)
  clear_value x7
  exact Keeps.ite (fun _ => State.portWake_keeps (hF.of rfl) h8) (fun _ => h8)

theorem State.writeChipId_keeps {F : Nat} {s0 s : State} {a1} (hF : Sub 0x100000000000000000080000000000000000000408000001 F) (h : Keeps F s0 s) :
    Keeps F s0 (State.writeChipId s a1) := by
  unfold State.writeChipId
  refine Keeps.ite (fun _ => ?_) (fun _ => State.regErr_keeps (hF.of rfl) h)
  exact State.sendCoords_keeps (hF.of rfl) (State.wrFs_keeps (hF.of rfl) (R.RLY_FABRIC_COORD_in (hF.of rfl)) h)

theorem execChipIdWrite_keeps {F : Nat} {s0 s : State} {a1} (hF : Sub 0x100000000000000000080000000000000000000408000001 F) (h : Keeps F s0 s) :
    KeepsX F s0 (execChipIdWrite a1 s) := by
  unfold execChipIdWrite
  exact KeepsX.next (State.writeChipId_keeps (hF.of rfl) h)

theorem execPacketRoute_keeps {F : Nat} {s0 s : State} {a1 a2} (hF : Sub 0x3bf0600007e200000000000002000000880001000c7c9b80ff F) (h : Keeps F s0 s) :
    KeepsX F s0 (execPacketRoute a1 a2 s) := by
  unfold execPacketRoute
  refine KeepsX.next ?_
  exact Keeps.ite (fun _ => State.routeNext_keeps (hF.of rfl) (State.plant_keeps (hF.of rfl) h)) (fun _ => h)

end Sys2Proof.Machine
end

