-- ==== Sys2Proof/Laws/KeepsQueue.lean ====
section
/-! SUPPORT. What the operations of Machine/Queue.lean keep (Laws/Keeps.lean): one lemma for each. -/

namespace Sys2Proof.Machine

open Sys2Proof

theorem State.host!_keeps {F : Nat} {s0 s : State} {a1} (hF : Sub 0x200000 F) (h : Keeps F s0 s) :
    Keeps F s0 (State.host! s a1) := by
  unfold State.host!
  exact Keeps.setHost h (hF.of rfl)

theorem State.setQueHead_keeps {F : Nat} {s0 s : State} {a1 a2} (hF : Sub 0x1800000000000000000000000000000000000000000000007 F) (h : Keeps F s0 s) :
    Keeps F s0 (State.setQueHead s a1 a2) := by
  unfold State.setQueHead
  exact State.saveN_keeps (hF.of rfl) h

theorem State.setQueTail_keeps {F : Nat} {s0 s : State} {a1 a2} (hF : Sub 0x1800000000000000000000000000000000000000000000007 F) (h : Keeps F s0 s) :
    Keeps F s0 (State.setQueTail s a1 a2) := by
  unfold State.setQueTail
  exact State.saveN_keeps (hF.of rfl) h

theorem State.setQueFlag_keeps {F : Nat} {s0 s : State} {a1 a2 a3} (hF : Sub 0x1800000000000000000000000000000000000000000000007 F) (h : Keeps F s0 s) :
    Keeps F s0 (State.setQueFlag s a1 a2 a3) := by
  unfold State.setQueFlag
  exact State.saveN_keeps (hF.of rfl) h

theorem State.queEnable_keeps {F : Nat} {s0 s : State} {a1} (hF : Sub 0x1800000000000000000000000000000000000000000200007 F) (h : Keeps F s0 s) :
    Keeps F s0 (State.queEnable s a1) := by
  unfold State.queEnable
  exact State.host!_keeps (hF.of rfl) (State.setQueFlag_keeps (hF.of rfl) h)

theorem State.queOff_keeps {F : Nat} {s0 s : State} {a1} (hF : Sub 0x1800000000000000000000000000000000000000000200007 F) (h : Keeps F s0 s) :
    Keeps F s0 (State.queOff s a1) := by
  unfold State.queOff
  exact State.host!_keeps (hF.of rfl) (State.setQueFlag_keeps (hF.of rfl) (State.setQueFlag_keeps (hF.of rfl) h))

theorem State.queError_keeps {F : Nat} {s0 s : State} {a1} (hF : Sub 0x190000007e0000000000000000000000000000004049b800f F) (h : Keeps F s0 s) :
    Keeps F s0 (State.queError s a1) := by
  unfold State.queError
  exact State.eventAs_keeps (hF.of rfl) (State.setQueFlag_keeps (hF.of rfl) h)

theorem State.queIrq_keeps {F : Nat} {s0 s : State} {a1} (hF : Sub 0x400200000 F) (h : Keeps F s0 s) :
    Keeps F s0 (State.queIrq s a1) := by
  unfold State.queIrq
  extract_lets +onlyGivenNames x1
  clear_value x1
  extract_lets +onlyGivenNames x2
  have h3 : Keeps F s0 x2 := State.host!_keeps (hF.of rfl) h
  clear_value x2
  exact Keeps.ite (fun _ => State.emit_keeps (hF.of rfl) h3) (fun _ => h3)

theorem State.queWrite_keeps {F : Nat} {s0 s : State} {a1 a2} (hF : Sub 0x11800000000000000000000000000000000000000400200007 F) (h : Keeps F s0 s) :
    Keeps F s0 (State.queWrite s a1 a2) := by
  unfold State.queWrite
  extract_lets +onlyGivenNames x1 x2 x3 x4
  clear_value x1 x2 x3 x4
  extract_lets +onlyGivenNames x5
  have h6 : Keeps F s0 x5 := State.setQueTail_keeps (hF.of rfl) (State.save_keeps (hF.of rfl) h)
  clear_value x5
  extract_lets +onlyGivenNames x7
  have h8 : Keeps F s0 x7 := Keeps.ite (fun _ => State.saveN_keeps (hF.of rfl) h6) (fun _ => h6)
  clear_value x7
  extract_lets +onlyGivenNames x9
  have h10 : Keeps F s0 x9 := State.count_keeps (hF.of rfl) (R.CNT_HST_in (hF.of rfl)) h8
  clear_value x9
  extract_lets +onlyGivenNames x11
  clear_value x11
  extract_lets +onlyGivenNames x12
  have h13 : Keeps F s0 x12 := State.host!_keeps (hF.of rfl) h10
  clear_value x12
  exact Keeps.ite (fun _ => State.queIrq_keeps (hF.of rfl) h13) (fun _ => h13)

theorem State.queDrain_keeps {F : Nat} {s0 s : State} {a1} (hF : Sub 0x11800000000000000000000000000000000000000400300007 F) (h : Keeps F s0 s) :
    Keeps F s0 (State.queDrain s a1) := by
  unfold State.queDrain
  extract_lets +onlyGivenNames x1
  clear_value x1
  split
  · exact h
  · split
    · exact h
    · refine Keeps.ite (fun _ => h) (fun _ => ?_)
      refine Keeps.ite (fun _ => ?_) (fun _ => State.queWrite_keeps (hF.of rfl) (Keeps.setStore h (hF.of rfl)))
      refine Keeps.ite (fun _ => h) (fun _ => ?_)
      exact State.count_keeps (hF.of rfl) (R.CNT_HST_in (hF.of rfl)) (Keeps.setStore h (hF.of rfl))

theorem State.doorbellErr_keeps {F : Nat} {s0 s : State} (hF : Sub 0x10000000000000000000000000000000000000000000000001 F) (h : Keeps F s0 s) :
    Keeps F s0 (State.doorbellErr s) := by
  unfold State.doorbellErr
  exact State.count_keeps (hF.of rfl) (R.CNT_HST_in (hF.of rfl)) h

theorem State.doorbell_keeps {F : Nat} {s0 s : State} {a1 a2 a3 a4} (hF : Sub 0x11800000000000000000000000000000000000000000000007 F) (h : Keeps F s0 s) :
    Keeps F s0 (State.doorbell s a1 a2 a3 a4) := by
  unfold State.doorbell
  refine Keeps.ite (fun _ => h) (fun _ => ?_)
  extract_lets +onlyGivenNames x1 x2 x3
  clear_value x1 x2 x3
  refine Keeps.ite (fun _ => State.doorbellErr_keeps (hF.of rfl) h) (fun _ => ?_)
  refine Keeps.ite (fun _ => ?_) (fun _ => ?_)
  · refine Keeps.ite (fun _ => ?_) (fun _ => State.setQueTail_keeps (hF.of rfl) h)
    exact State.doorbellErr_keeps (hF.of rfl) h
  · refine Keeps.ite (fun _ => ?_) (fun _ => State.doorbellErr_keeps (hF.of rfl) h)
    refine Keeps.ite (fun _ => ?_) (fun _ => State.setQueHead_keeps (hF.of rfl) h)
    exact State.doorbellErr_keeps (hF.of rfl) h

theorem execSqDoorbell_keeps {F : Nat} {s0 s : State} {a1 a2 a3 a4} (hF : Sub 0x11800000000000000000000000000000000000000000000007 F) (h : Keeps F s0 s) :
    KeepsX F s0 (execSqDoorbell a1 a2 a3 a4 s) := by
  unfold execSqDoorbell
  exact KeepsX.next (State.doorbell_keeps (hF.of rfl) h)

theorem execCqDoorbell_keeps {F : Nat} {s0 s : State} {a1 a2 a3 a4} (hF : Sub 0x11800000000000000000000000000000000000000000000007 F) (h : Keeps F s0 s) :
    KeepsX F s0 (execCqDoorbell a1 a2 a3 a4 s) := by
  unfold execCqDoorbell
  exact KeepsX.next (State.doorbell_keeps (hF.of rfl) h)

theorem execCplEntryPost_keeps {F : Nat} {s0 s : State} {a1} (hF : Sub 0x11800000000000000000000000000000000000000400300007 F) (h : Keeps F s0 s) :
    KeepsX F s0 (execCplEntryPost a1 s) := by
  unfold execCplEntryPost
  exact KeepsX.next (State.queDrain_keeps (hF.of rfl) h)

theorem execInterruptModTimeout_keeps {F : Nat} {s0 s : State} {a1} (hF : Sub 0x400200000 F) (h : Keeps F s0 s) :
    KeepsX F s0 (execInterruptModTimeout a1 s) := by
  unfold execInterruptModTimeout
  exact KeepsX.next (Keeps.ite (fun _ => State.queIrq_keeps (hF.of rfl) h) (fun _ => h))

end Sys2Proof.Machine
end

