-- ==== Sys2Proof/Laws/KeepsHost.lean ====
section
/-! SUPPORT. What the operations of Machine/Host.lean keep (Laws/Keeps.lean): one lemma for each. -/

namespace Sys2Proof.Machine

open Sys2Proof

theorem State.winRefuse_keeps {F : Nat} {s0 s : State} {a1 a2 a3} (hF : Sub 0x1010000007e000000000000000000000000000000404bb8009 F) (h : Keeps F s0 s) :
    Keeps F s0 (State.winRefuse s a1 a2 a3) := by
  unfold State.winRefuse
  extract_lets +onlyGivenNames x1
  have h2 : Keeps F s0 x1 := State.count_keeps (hF.of rfl) (R.CNT_HST_in (hF.of rfl)) h
  clear_value x1
  exact Keeps.ite (fun _ => h2) (fun _ => State.eventAs_keeps (hF.of rfl) (State.host!_keeps (hF.of rfl) h2))

theorem State.setSegState_keeps {F : Nat} {s0 s : State} {a1 a2 a3} (hF : Sub 0x4000000000000000000000000000000001 F) (h : Keeps F s0 s) :
    Keeps F s0 (State.setSegState s a1 a2 a3) := by
  unfold State.setSegState
  exact State.wrF_keeps (hF.of rfl) (R.HST_INTAKE_STATUS_in (hF.of rfl)) h

theorem State.winWrite_keeps {F : Nat} {s0 s : State} {a1 a2 a3 a4 a5} (hF : Sub 0x1190000007e200000000000000000000000001000404bb801f F) (h : Keeps F s0 s) :
    Keeps F s0 (State.winWrite s a1 a2 a3 a4 a5) := by
  unfold State.winWrite
  refine Keeps.ite (fun _ => State.count_keeps (hF.of rfl) (R.CNT_GLB_in (hF.of rfl)) h) (fun _ => ?_)
  extract_lets +onlyGivenNames x1
  clear_value x1
  split
  · exact State.winRefuse_keeps (hF.of rfl) (State.unmappedErr_keeps (hF.of rfl) h)
  · exact State.winRefuse_keeps (hF.of rfl) h
  · split
    · refine Keeps.ite (fun _ => ?_) (fun _ => ?_)
      · exact State.eventAs_keeps (hF.of rfl) (State.count_keeps (hF.of rfl) (R.CNT_HST_in (hF.of rfl)) h)
      · refine State.save_keeps (hF.of rfl) ?_
        exact Keeps.ite (fun _ => State.count_keeps (hF.of rfl) (R.CNT_HST_in (hF.of rfl)) h) (fun _ => h)
    · refine State.save_keeps (hF.of rfl) ?_
      exact Keeps.ite (fun _ => State.count_keeps (hF.of rfl) (R.CNT_HST_in (hF.of rfl)) h) (fun _ => h)

theorem State.winRead_keeps {F : Nat} {s0 s : State} {a1 a2 a3 a4} (hF : Sub 0x1190000007e200000000000000000000000001000404bb801d F) (h : Keeps F s0 s) :
    Keeps F s0 (State.winRead s a1 a2 a3 a4) := by
  unfold State.winRead
  refine Keeps.ite (fun _ => ?_) (fun _ => ?_)
  · exact State.emit_keeps (hF.of rfl) (State.count_keeps (hF.of rfl) (R.CNT_GLB_in (hF.of rfl)) h)
  · extract_lets +onlyGivenNames x1
    clear_value x1
    split
    · exact State.emit_keeps (hF.of rfl) (State.winRefuse_keeps (hF.of rfl) (State.unmappedErr_keeps (hF.of rfl) h))
    · exact State.emit_keeps (hF.of rfl) (State.winRefuse_keeps (hF.of rfl) h)
    · extract_lets +onlyGivenNames x2
      have h3 : Keeps F s0 x2 := State.senseRaw_keeps (hF.of rfl) h
      clear_value x2
      exact State.emit_keeps (hF.of rfl) h3

theorem State.atsTouch_keeps {F : Nat} {s0 s : State} {a1} (hF : Sub 0x200000 F) (h : Keeps F s0 s) :
    Keeps F s0 (State.atsTouch s a1) := by
  unfold State.atsTouch
  exact Keeps.ite (fun _ => h) (fun _ => State.host!_keeps (hF.of rfl) h)

theorem State.hostRead_keeps {F : Nat} {s0 s : State} {a1 a2 a3} (hF : Sub 0x400200000 F) (h : Keeps F s0 s) :
    KeepsO F s0 (State.hostRead s a1 a2 a3) := by
  unfold State.hostRead
  refine KeepsO.map (fun y1 => ?_)
  extract_lets +onlyGivenNames x2
  have h3 : Keeps F s0 x2 := State.atsTouch_keeps (hF.of rfl) h
  clear_value x2
  exact State.emit_keeps (hF.of rfl) (State.host!_keeps (hF.of rfl) h3)

theorem State.updCopy_keeps {F : Nat} {s0 s : State} {a1 a2} (hF : Sub 0x200000 F) (h : Keeps F s0 s) :
    Keeps F s0 (State.updCopy s a1 a2) := by
  unfold State.updCopy
  exact State.host!_keeps (hF.of rfl) h

theorem State.copyReads_keeps {F : Nat} {s0 s : State} {a1 a2} (hF : Sub 0x400200000 F) (h : Keeps F s0 s) :
    Keeps F s0 (State.copyReads a1 s a2) := by
  induction a1 generalizing s a2
  case zero =>
    rw [State.copyReads]
    exact h
  case succ k ih =>
    rw [State.copyReads]
    split
    · exact h
    · refine Keeps.ite (fun _ => h) (fun _ => ?_)
      extract_lets +onlyGivenNames x1
      clear_value x1
      split
      · rename_i z2 z3
        exact h
      · rename_i z4 z5 z6
        have h7 : Keeps F s0 z5 := KeepsO.of z6 (State.hostRead_keeps (hF.of rfl) h)
        apply ih
        exact State.updCopy_keeps (hF.of rfl) h7

theorem State.copyReadsAll_keeps {F : Nat} {s0 s : State} (hF : Sub 0x400200000 F) (h : Keeps F s0 s) :
    Keeps F s0 (State.copyReadsAll s) := by
  unfold State.copyReadsAll
  exact Keeps.foldl h (fun x1 e2 h3 => State.copyReads_keeps (hF.of rfl) h3)

theorem State.copyOutRun_keeps {F : Nat} {s0 s : State} {a1} (hF : Sub 0x1190000007e200000000000000000000000001000404bb801f F) (h : Keeps F s0 s) :
    Keeps F s0 (State.copyOutRun s a1) := by
  unfold State.copyOutRun
  extract_lets +onlyGivenNames x1 x2
  clear_value x1 x2
  extract_lets +onlyGivenNames x3
  have h4 : Keeps F s0 x3 := State.sense_keeps (hF.of rfl) h
  clear_value x3
  extract_lets +onlyGivenNames x5 x6 x7
  clear_value x5 x6 x7
  extract_lets +onlyGivenNames x8
  have h9 : Keeps F s0 x8 := State.save_keeps (hF.of rfl) (State.atsTouch_keeps (hF.of rfl) h4)
  clear_value x8
  extract_lets +onlyGivenNames x10
  have h11 : Keeps F s0 x10 := by
    unfold x10
    refine Keeps.foldl h9 (fun x12 e13 h14 => ?_)
    exact State.emit_keeps (hF.of rfl) (State.count_keeps (hF.of rfl) (R.CNT_HST_in (hF.of rfl)) h14)
  clear_value x10
  extract_lets +onlyGivenNames x15
  have h16 : Keeps F s0 x15 := State.updCopy_keeps (hF.of rfl) h11
  clear_value x15
  split
  · rename_i z17 z18 z19
    have h20 : Keeps F s0 z18 := KeepsO.of z19 (State.hostRead_keeps (hF.of rfl) h16)
    exact h20
  · rename_i z21 z22
    exact h16

theorem State.dealCopies_keeps {F : Nat} {s0 s : State} {a1 a2} (hF : Sub 0x1190000007e200000000000000000000000001000404bb801f F) (h : Keeps F s0 s) :
    Keeps F s0 (State.dealCopies a1 s a2) := by
  induction a1 generalizing s a2
  case zero =>
    rw [State.dealCopies]
    exact h
  case succ k ih =>
    rw [State.dealCopies]
    refine Keeps.ite (fun _ => h) (fun _ => ?_)
    extract_lets +onlyGivenNames x1
    clear_value x1
    split
    · exact h
    · extract_lets +onlyGivenNames x2
      have h3 : Keeps F s0 x2 := State.updCopy_keeps (hF.of rfl) h
      clear_value x2
      extract_lets +onlyGivenNames x4
      have h5 : Keeps F s0 x4 := by
        unfold x4
        refine Keeps.ite (fun _ => State.copyReads_keeps (hF.of rfl) h3) (fun _ => ?_)
        exact State.copyOutRun_keeps (hF.of rfl) h3
      clear_value x4
      apply ih
      exact h5

theorem State.copyStart_keeps {F : Nat} {s0 s : State} {a1 a2 a3 a4 a5 a6 a7} (hF : Sub 0x1190000007e200000000000000000000000001000404bb801f F) (h : Keeps F s0 s) :
    Keeps F s0 (State.copyStart s a1 a2 a3 a4 a5 a6 a7) := by
  unfold State.copyStart
  extract_lets +onlyGivenNames x1
  clear_value x1
  exact State.dealCopies_keeps (hF.of rfl) (State.host!_keeps (hF.of rfl) h)

theorem State.cmdEntry_keeps {F : Nat} {s0 s : State} {a1 a2 a3 a4} (hF : Sub 0x10000000000000000000000000000000000000000000300001 F) (h : Keeps F s0 s) :
    Keeps F s0 (State.cmdEntry s a1 a2 a3 a4) := by
  unfold State.cmdEntry
  extract_lets +onlyGivenNames x1
  have h2 : Keeps F s0 x1 := State.host!_keeps (hF.of rfl) h
  clear_value x1
  extract_lets +onlyGivenNames x3
  have h4 : Keeps F s0 x3 := Keeps.ite (fun _ => h2) (fun _ => State.count_keeps (hF.of rfl) (R.CNT_HST_in (hF.of rfl)) h2)
  clear_value x3
  refine Keeps.ite (fun _ => h4) (fun _ => ?_)
  extract_lets +onlyGivenNames x5
  clear_value x5
  exact Keeps.setStore h4 (hF.of rfl)

theorem State.settleStops_keeps {F : Nat} {s0 s : State} {a1} (hF : Sub 0x11800000000000000000000000000000000000000000300007 F) (h : Keeps F s0 s) :
    Keeps F s0 (State.settleStops a1 s) := by
  induction a1 generalizing s
  case zero =>
    rw [State.settleStops]
    exact h
  case succ k ih =>
    rw [State.settleStops]
    split
    · exact h
    · extract_lets +onlyGivenNames x1
      have h2 : Keeps F s0 x1 := State.host!_keeps (hF.of rfl) (State.queOff_keeps (hF.of rfl) h)
      clear_value x1
      split
      · apply ih
        exact State.cmdEntry_keeps (hF.of rfl) h2
      · apply ih
        exact h2

theorem State.hostDone_keeps {F : Nat} {s0 s : State} {a1 a2 a3 a4} (hF : Sub 0x11800000000000000000000000000000000000000000300007 F) (h : Keeps F s0 s) :
    Keeps F s0 (State.hostDone s a1 a2 a3 a4) := by
  unfold State.hostDone
  extract_lets +onlyGivenNames x1
  have h2 : Keeps F s0 x1 := State.cmdEntry_keeps (hF.of rfl) h
  clear_value x1
  exact State.settleStops_keeps (hF.of rfl) h2

theorem State.cmdBegin_keeps {F : Nat} {s0 s : State} {a1 a2} (hF : Sub 0x11800000000000000000000000000000000000000000300007 F) (h : Keeps F s0 s) :
    Keeps F s0 (State.cmdBegin s a1 a2) := by
  unfold State.cmdBegin
  refine Keeps.ite (fun _ => State.host!_keeps (hF.of rfl) h) (fun _ => ?_)
  extract_lets +onlyGivenNames x1 x2
  clear_value x1 x2
  extract_lets +onlyGivenNames x3
  have h4 : Keeps F s0 x3 := State.setQueHead_keeps (hF.of rfl) h
  clear_value x3
  extract_lets +onlyGivenNames x5
  have h6 : Keeps F s0 x5 := State.host!_keeps (hF.of rfl) h4
  clear_value x5
  exact Keeps.ite (fun _ => h6) (fun _ => State.hostDone_keeps (hF.of rfl) h6)

theorem State.cmdFetch_keeps {F : Nat} {s0 s : State} {a1} (hF : Sub 0x1190000007e200000000000000000000000001000404bb801f F) (h : Keeps F s0 s) :
    Keeps F s0 (State.cmdFetch s a1) := by
  unfold State.cmdFetch
  extract_lets +onlyGivenNames x1
  clear_value x1
  refine Keeps.ite (fun _ => h) (fun _ => ?_)
  split
  · exact State.cmdBegin_keeps (hF.of rfl) h
  · extract_lets +onlyGivenNames x2
    clear_value x2
    refine Keeps.ite (fun _ => ?_) (fun _ => ?_)
    · extract_lets +onlyGivenNames x3
      clear_value x3
      split
      · exact State.queError_keeps (hF.of rfl) (State.unmappedErr_keeps (hF.of rfl) h)
      · exact State.queError_keeps (hF.of rfl) (State.refusedErr_keeps (hF.of rfl) h)
      · extract_lets +onlyGivenNames x4
        have h5 : Keeps F s0 x4 := State.sense_keeps (hF.of rfl) h
        clear_value x4
        exact Keeps.ite (fun _ => State.queError_keeps (hF.of rfl) h5) (fun _ => State.cmdBegin_keeps (hF.of rfl) h5)
    · exact Keeps.ite (fun _ => h) (fun _ => KeepsO.getD (State.hostRead_keeps (hF.of rfl) h) h)

theorem State.readEnd_keeps {F : Nat} {s0 s : State} {a1 a2 a3 a4} (hF : Sub 0x1190000007e000000000000000000000000000000404bb800f F) (h : Keeps F s0 s) :
    Keeps F s0 (State.readEnd s a1 a2 a3 a4) := by
  unfold State.readEnd
  split
  · split
    · exact h
    · extract_lets +onlyGivenNames x1
      clear_value x1
      extract_lets +onlyGivenNames x2
      have h3 : Keeps F s0 x2 := State.save_keeps (hF.of rfl) h
      clear_value x2
      extract_lets +onlyGivenNames x4
      clear_value x4
      exact State.updCopy_keeps (hF.of rfl) h3
  · exact State.updCopy_keeps (hF.of rfl) h
  · exact Keeps.ite (fun _ => State.queError_keeps (hF.of rfl) h) (fun _ => State.cmdBegin_keeps (hF.of rfl) h)
  · exact Keeps.ite (fun _ => State.host!_keeps (hF.of rfl) h) (fun _ => State.host!_keeps (hF.of rfl) h)

theorem State.failedBytes_keeps {F : Nat} {s0 s : State} {a1} (hF : Sub 0x800000000 F) (h : Keeps F s0 s) :
    Keeps F s0 (State.failedBytes s a1).1 := by
  unfold State.failedBytes
  extract_lets +onlyGivenNames x1
  have h2 : Keeps F s0 x1.2 := State.takeFree_keeps (hF.of rfl) h
  clear_value x1
  exact Keeps.mkFst h2

theorem State.dropRead_keeps {F : Nat} {s0 s : State} {a1} (hF : Sub 0x200000 F) (h : Keeps F s0 s) :
    Keeps F s0 (State.dropRead s a1) := by
  unfold State.dropRead
  exact State.host!_keeps (hF.of rfl) h

theorem State.readCpl_keeps {F : Nat} {s0 s : State} {a1 a2 a3 a4} (hF : Sub 0x1190000007e000000000000000000000000000000c04bb800f F) (h : Keeps F s0 s) :
    Keeps F s0 (State.readCpl s a1 a2 a3 a4) := by
  unfold State.readCpl
  extract_lets +onlyGivenNames x1 x2 x3
  clear_value x1 x2 x3
  split
  · refine Keeps.ite (fun _ => State.count_keeps (hF.of rfl) (R.CNT_HST_in (hF.of rfl)) h) (fun _ => ?_)
    extract_lets +onlyGivenNames x4
    clear_value x4
    extract_lets +onlyGivenNames x5
    have h6 : Keeps F s0 x5 := Keeps.ite (fun _ => State.count_keeps (hF.of rfl) (R.CNT_HST_in (hF.of rfl)) h) (fun _ => h)
    clear_value x5
    extract_lets +onlyGivenNames x7
    have h8 : Keeps F s0 x7.1 := Keeps.iteFst (fun _ => Keeps.mkFst h6) (fun _ => State.failedBytes_keeps (hF.of rfl) h6)
    clear_value x7
    refine State.copyReadsAll_keeps (hF.of rfl) ?_
    exact State.readEnd_keeps (hF.of rfl) (State.dropRead_keeps (hF.of rfl) h8)
  · extract_lets +onlyGivenNames x9
    have h10 : Keeps F s0 x9 := State.count_keeps (hF.of rfl) (R.CNT_HST_in (hF.of rfl)) h
    clear_value x9
    refine Keeps.ite (fun _ => ?_) (fun _ => h10)
    exact State.copyReadsAll_keeps (hF.of rfl) (State.host!_keeps (hF.of rfl) h10)

theorem State.retireTag_keeps {F : Nat} {s0 s : State} {a1} (hF : Sub 0x200000 F) (h : Keeps F s0 s) :
    Keeps F s0 (State.retireTag s a1) := by
  unfold State.retireTag
  exact State.host!_keeps (hF.of rfl) (State.dropRead_keeps (hF.of rfl) h)

theorem State.readTimeout_keeps {F : Nat} {s0 s : State} {a1} (hF : Sub 0x1190000007e200000000000000000000000001000c04bb801f F) (h : Keeps F s0 s) :
    Keeps F s0 (State.readTimeout s a1) := by
  unfold State.readTimeout
  split
  · exact h
  · extract_lets +onlyGivenNames x1
    clear_value x1
    extract_lets +onlyGivenNames x2
    have h3 : Keeps F s0 x2 := State.raise_keeps (hF.of rfl) (State.count_keeps (hF.of rfl) (R.CNT_HST_in (hF.of rfl)) h)
    clear_value x2
    extract_lets +onlyGivenNames x4
    have h5 : Keeps F s0 x4.1 := State.failedBytes_keeps (hF.of rfl) (State.retireTag_keeps (hF.of rfl) h3)
    clear_value x4
    exact State.copyReadsAll_keeps (hF.of rfl) (State.readEnd_keeps (hF.of rfl) h5)

theorem State.copyDone_keeps {F : Nat} {s0 s : State} {a1} (hF : Sub 0x1990000007e200000040000000000000000001000404bb801f F) (h : Keeps F s0 s) :
    Keeps F s0 (State.copyDone s a1) := by
  unfold State.copyDone
  split
  · exact h
  · refine Keeps.ite (fun _ => h) (fun _ => ?_)
    extract_lets +onlyGivenNames x1
    have h2 : Keeps F s0 x1 := State.host!_keeps (hF.of rfl) h
    clear_value x1
    extract_lets +onlyGivenNames x3
    have h4 : Keeps F s0 x3 := by
      unfold x3
      split
      · split
        · exact State.cmdDone_keeps (hF.of rfl) h2
        · exact h2
      · split
        · exact State.hostDone_keeps (hF.of rfl) h2
        · exact h2
    clear_value x3
    exact State.dealCopies_keeps (hF.of rfl) h4

theorem State.flushAgain_keeps {F : Nat} {s0 s : State} {a1} (hF : Sub 0x400200000 F) (h : Keeps F s0 s) :
    Keeps F s0 (State.flushAgain s a1) := by
  unfold State.flushAgain
  split
  · exact Keeps.ite (fun _ => KeepsO.getD (State.hostRead_keeps (hF.of rfl) h) h) (fun _ => h)
  · exact h

theorem State.cmdBadAddr_keeps {F : Nat} {s0 s : State} {a1 a2 a3} (hF : Sub 0x1190000007e200000000000000000000000001000404bb801f F) (h : Keeps F s0 s) :
    Keeps F s0 (State.cmdBadAddr s a1 a2 a3) := by
  unfold State.cmdBadAddr
  extract_lets +onlyGivenNames x1
  clear_value x1
  split
  · exact State.hostDone_keeps (hF.of rfl) (State.unmappedErr_keeps (hF.of rfl) h)
  · exact State.hostDone_keeps (hF.of rfl) (State.refusedErr_keeps (hF.of rfl) h)

theorem State.cmdNop_keeps {F : Nat} {s0 s : State} {a1} (hF : Sub 0x11800000000000000000000000000000000000000000300007 F) (h : Keeps F s0 s) :
    Keeps F s0 (State.cmdNop s a1) := by
  unfold State.cmdNop
  split
  · exact State.hostDone_keeps (hF.of rfl) h
  · exact h

theorem State.cmdInline_keeps {F : Nat} {s0 s : State} {a1} (hF : Sub 0x11f0000007e200000000000000000000880001000c04bb80ff F) (h : Keeps F s0 s) :
    Keeps F s0 (State.cmdInline s a1) := by
  unfold State.cmdInline
  split
  · exact h
  · split
    · exact State.hostDone_keeps (hF.of rfl) (State.writeTo_keeps (hF.of rfl) (State.snoop_keeps (hF.of rfl) h))
    · exact State.cmdBadAddr_keeps (hF.of rfl) h

theorem State.cmdCopy_keeps {F : Nat} {s0 s : State} {a1 a2} (hF : Sub 0x1190000007e200000000000000000000000001000404bb801f F) (h : Keeps F s0 s) :
    Keeps F s0 (State.cmdCopy s a1 a2) := by
  unfold State.cmdCopy
  split
  · exact h
  · refine Keeps.ite (fun _ => h) (fun _ => ?_)
    refine Keeps.ite (fun _ => State.hostDone_keeps (hF.of rfl) h) (fun _ => ?_)
    split
    · exact Keeps.ite (fun _ => State.hostDone_keeps (hF.of rfl) h) (fun _ => State.copyStart_keeps (hF.of rfl) h)
    · exact State.cmdBadAddr_keeps (hF.of rfl) h

theorem State.cmdCommit_keeps {F : Nat} {s0 s : State} {a1} (hF : Sub 0x1190000007e200000000000000000000000001000404bb801f F) (h : Keeps F s0 s) :
    Keeps F s0 (State.cmdCommit s a1) := by
  unfold State.cmdCommit
  split
  · exact h
  · extract_lets +onlyGivenNames x1
    clear_value x1
    refine Keeps.ite (fun _ => h) (fun _ => ?_)
    extract_lets +onlyGivenNames x2 x3 x4
    clear_value x2 x3 x4
    refine Keeps.ite (fun _ => State.hostDone_keeps (hF.of rfl) h) (fun _ => ?_)
    extract_lets +onlyGivenNames x5
    have h6 : Keeps F s0 x5 := State.senseRaw_keeps (hF.of rfl) h
    clear_value x5
    exact Keeps.ite (fun _ => State.hostDone_keeps (hF.of rfl) h6) (fun _ => State.updPart_keeps (hF.of rfl) h6)

theorem State.intakeServe_keeps {F : Nat} {s0 s : State} {a1} (hF : Sub 0x8000000000000004040000000000000000000000000000009 F) (h : Keeps F s0 s) :
    Keeps F s0 (State.intakeServe s a1) := by
  unfold State.intakeServe
  extract_lets +onlyGivenNames x1 x2 x3 x4
  clear_value x1 x2 x3 x4
  refine Keeps.ite (fun _ => h) (fun _ => ?_)
  exact Keeps.foldl (State.setSegState_keeps (hF.of rfl) h) (fun x5 e6 h7 => State.cmdDone_keeps (hF.of rfl) h7)

theorem State.intakeClose_keeps {F : Nat} {s0 s : State} {a1} (hF : Sub 0x1980000000000000404000000000000000000000000030000f F) (h : Keeps F s0 s) :
    Keeps F s0 (State.intakeClose s a1) := by
  unfold State.intakeClose
  split
  · exact h
  · extract_lets +onlyGivenNames x1
    have h2 : Keeps F s0 x1 := State.updPart_keeps (hF.of rfl) h
    clear_value x1
    extract_lets +onlyGivenNames x3
    have h4 : Keeps F s0 x3 := by
      exact State.wrF_keeps (hF.of rfl) (R.HST_INTAKE_STATUS_in (hF.of rfl)) (State.setSegState_keeps (hF.of rfl) h2)
    clear_value x3
    extract_lets +onlyGivenNames x5
    have h6 : Keeps F s0 x5 := by
      unfold x5
      split
      · exact State.hostDone_keeps (hF.of rfl) h4
      · exact h4
    clear_value x5
    exact State.intakeServe_keeps (hF.of rfl) h6

theorem State.cmdBias_keeps {F : Nat} {s0 s : State} {a1} (hF : Sub 0x1190000007e200000000000000000000000001000404bb801f F) (h : Keeps F s0 s) :
    Keeps F s0 (State.cmdBias s a1) := by
  unfold State.cmdBias
  split
  · exact h
  · extract_lets +onlyGivenNames x1 x2 x3
    clear_value x1 x2 x3
    refine Keeps.ite (fun _ => State.cmdBadAddr_keeps (hF.of rfl) h) (fun _ => ?_)
    refine Keeps.ite (fun _ => State.hostDone_keeps (hF.of rfl) h) (fun _ => ?_)
    extract_lets +onlyGivenNames x4 x5
    clear_value x4 x5
    extract_lets +onlyGivenNames x6
    have h7 : Keeps F s0 x6 := by
      unfold x6
      refine Keeps.foldl h (fun x8 e9 h10 => ?_)
      extract_lets +onlyGivenNames x11
      clear_value x11
      exact State.saveN_keeps (hF.of rfl) h10
    clear_value x6
    exact State.hostDone_keeps (hF.of rfl) h7

theorem State.cmdQueCreate_keeps {F : Nat} {s0 s : State} {a1} (hF : Sub 0x1190000007e200000000000000000000000001000404bb801f F) (h : Keeps F s0 s) :
    Keeps F s0 (State.cmdQueCreate s a1) := by
  unfold State.cmdQueCreate
  split
  · exact h
  · extract_lets +onlyGivenNames x1 x2
    clear_value x1 x2
    refine Keeps.ite (fun _ => State.hostDone_keeps (hF.of rfl) h) (fun _ => ?_)
    refine Keeps.ite (fun _ => State.hostDone_keeps (hF.of rfl) h) (fun _ => ?_)
    split
    · extract_lets +onlyGivenNames x3
      have h4 : Keeps F s0 x3 := State.sense_keeps (hF.of rfl) h
      clear_value x3
      refine Keeps.ite (fun _ => State.hostDone_keeps (hF.of rfl) h4) (fun _ => ?_)
      extract_lets +onlyGivenNames x5
      clear_value x5
      refine Keeps.ite (fun _ => State.hostDone_keeps (hF.of rfl) h4) (fun _ => ?_)
      refine Keeps.ite (fun _ => State.hostDone_keeps (hF.of rfl) h4) (fun _ => ?_)
      exact State.hostDone_keeps (hF.of rfl) (State.queEnable_keeps (hF.of rfl) (State.save_keeps (hF.of rfl) h4))
    · exact State.cmdBadAddr_keeps (hF.of rfl) h

theorem State.queStop_keeps {F : Nat} {s0 s : State} {a1 a2} (hF : Sub 0x11800000000000000000000000000000000000000000300007 F) (h : Keeps F s0 s) :
    Keeps F s0 (State.queStop s a1 a2) := by
  unfold State.queStop
  extract_lets +onlyGivenNames x1
  have h2 : Keeps F s0 x1 := State.host!_keeps (hF.of rfl) h
  clear_value x1
  exact State.settleStops_keeps (hF.of rfl) h2

theorem State.cmdQueDestroy_keeps {F : Nat} {s0 s : State} {a1} (hF : Sub 0x11800000000000000000000000000000000000000000300007 F) (h : Keeps F s0 s) :
    Keeps F s0 (State.cmdQueDestroy s a1) := by
  unfold State.cmdQueDestroy
  split
  · exact h
  · extract_lets +onlyGivenNames x1 x2
    clear_value x1 x2
    refine Keeps.ite (fun _ => h) (fun _ => ?_)
    refine Keeps.ite (fun _ => State.hostDone_keeps (hF.of rfl) h) (fun _ => ?_)
    refine Keeps.ite (fun _ => State.hostDone_keeps (hF.of rfl) h) (fun _ => ?_)
    exact Keeps.ite (fun _ => State.hostDone_keeps (hF.of rfl) h) (fun _ => State.queStop_keeps (hF.of rfl) h)

theorem State.cmdBackfill_keeps {F : Nat} {s0 s : State} {a1} (hF : Sub 0x11c00000000000000000000000000000800000000000300047 F) (h : Keeps F s0 s) :
    Keeps F s0 (State.cmdBackfill s a1) := by
  unfold State.cmdBackfill
  split
  · exact h
  · extract_lets +onlyGivenNames x1 x2
    clear_value x1 x2
    refine Keeps.ite (fun _ => State.hostDone_keeps (hF.of rfl) h) (fun _ => ?_)
    refine Keeps.ite (fun _ => ?_) (fun _ => ?_)
    · exact State.hostDone_keeps (hF.of rfl) (State.bfTaskWrite_keeps (hF.of rfl) h)
    · exact State.hostDone_keeps (hF.of rfl) (State.bfTaskWrite_keeps (hF.of rfl) h)

theorem State.bfLoadReport_keeps {F : Nat} {s0 s : State} {a1 a2 a3} (hF : Sub 0x11800000000000000000000000000000000000000000300047 F) (h : Keeps F s0 s) :
    Keeps F s0 (State.bfLoadReport s a1 a2 a3) := by
  unfold State.bfLoadReport
  split
  · exact h
  · extract_lets +onlyGivenNames x1
    have h2 : Keeps F s0 x1 := State.updHub_keeps (hF.of rfl) h
    clear_value x1
    split
    · exact State.hostDone_keeps (hF.of rfl) h2
    · exact h2

theorem State.cmdBfLoad_keeps {F : Nat} {s0 s : State} {a1} (hF : Sub 0x1190000007e200000000000000000000e00001000404bb805f F) (h : Keeps F s0 s) :
    Keeps F s0 (State.cmdBfLoad s a1) := by
  unfold State.cmdBfLoad
  split
  · exact h
  · extract_lets +onlyGivenNames x1 x2 x3
    clear_value x1 x2 x3
    refine Keeps.ite (fun _ => h) (fun _ => ?_)
    refine Keeps.ite (fun _ => State.hostDone_keeps (hF.of rfl) h) (fun _ => ?_)
    split
    · extract_lets +onlyGivenNames x4
      have h5 : Keeps F s0 x4 := by
        exact State.updHub_keeps (hF.of rfl) (State.wr_keeps (hF.of rfl) (R.CLU_BF_LOAD_SRC_in (hF.of rfl)) h)
      clear_value x4
      extract_lets +onlyGivenNames x6
      have h7 : Keeps F s0 x6 := State.bfLoadGo_keeps (hF.of rfl) h5
      clear_value x6
      exact Keeps.ite (fun _ => h7) (fun _ => State.bfLoadReport_keeps (hF.of rfl) h7)
    · exact State.cmdBadAddr_keeps (hF.of rfl) h

theorem State.bfLoadFinish_keeps {F : Nat} {s0 s : State} {a1 a2} (hF : Sub 0x1190000007e200000000000000000000800001000404bb807f F) (h : Keeps F s0 s) :
    Keeps F s0 (State.bfLoadFinish s a1 a2) := by
  unfold State.bfLoadFinish
  split
  · exact h
  · extract_lets +onlyGivenNames x1
    have h2 : Keeps F s0 x1 := State.bfLoadEnd_keeps (hF.of rfl) h
    clear_value x1
    exact State.bfLoadReport_keeps (hF.of rfl) h2

theorem State.postHeld_keeps {F : Nat} {s0 s : State} {a1} (hF : Sub 0x8000000000000000040000000000000000000000000000009 F) (h : Keeps F s0 s) :
    Keeps F s0 (State.postHeld s a1) := by
  unfold State.postHeld
  extract_lets +onlyGivenNames x1 x2 x3
  clear_value x1 x2 x3
  exact State.cmdDone_keeps (hF.of rfl) (State.updPart_keeps (hF.of rfl) h)

theorem State.hostCmd_keeps {F : Nat} {s0 s : State} {a1 a2 a3} (hF : Sub 0x1990000007e200004040000000000000000001000404bb801f F) (h : Keeps F s0 s) :
    Keeps F s0 (State.hostCmd s a1 a2 a3) := by
  unfold State.hostCmd
  split
  · exact h
  · extract_lets +onlyGivenNames x1
    clear_value x1
    refine Keeps.ite (fun _ => h) (fun _ => ?_)
    refine Keeps.ite (fun _ => State.raise_keeps (hF.of rfl) (State.engStart_keeps (hF.of rfl) h)) (fun _ => ?_)
    refine Keeps.ite (fun _ => h) (fun _ => ?_)
    extract_lets +onlyGivenNames x2
    have h3 : Keeps F s0 x2 := State.engStart_keeps (hF.of rfl) h
    clear_value x2
    refine Keeps.ite (fun _ => Keeps.ite (fun _ => h3) (fun _ => State.postHeld_keeps (hF.of rfl) h3)) (fun _ => ?_)
    refine Keeps.ite (fun _ => State.intakeServe_keeps (hF.of rfl) h3) (fun _ => ?_)
    extract_lets +onlyGivenNames x4
    clear_value x4
    split
    · rename_i z5 z6 z7
      have h8 : Keeps F s0 z6 := Keeps.ofFst z7 (State.fetchDesc_keeps (hF.of rfl) h3)
      exact h8
    · rename_i z9 z10 z11 z12
      have h13 : Keeps F s0 z10 := Keeps.ofFst z12 (State.fetchDesc_keeps (hF.of rfl) h3)
      refine Keeps.ite (fun _ => State.raise_keeps (hF.of rfl) h13) (fun _ => ?_)
      refine Keeps.ite (fun _ => State.raise_keeps (hF.of rfl) h13) (fun _ => ?_)
      extract_lets +onlyGivenNames x14 x15 x16 x17
      clear_value x14 x15 x16 x17
      split
      · exact State.unmappedErr_keeps (hF.of rfl) h13
      · exact State.refusedErr_keeps (hF.of rfl) h13
      · exact State.copyStart_keeps (hF.of rfl) h13

theorem State.postReserve_keeps {F : Nat} {s0 s : State} {a1 a2} (hF : Sub 0x8000000000000000040000000000000000000000000000009 F) (h : Keeps F s0 s) :
    Keeps F s0 (State.postReserve s a1 a2) := by
  unfold State.postReserve
  split
  · exact Keeps.ite (fun _ => h) (fun _ => State.postHeld_keeps (hF.of rfl) h)
  · exact h

theorem State.hostLoss_keeps {F : Nat} {s0 s : State} (hF : Sub 0x1190000007e200000800000000000000000001000404bb800f F) (h : Keeps F s0 s) :
    Keeps F s0 (State.hostLoss s) := by
  unfold State.hostLoss
  refine Keeps.ite (fun _ => h) (fun _ => ?_)
  extract_lets +onlyGivenNames x1
  have h2 : Keeps F s0 x1 := by
    unfold x1
    refine State.count_keeps (hF.of rfl) (R.CNT_HST_in (hF.of rfl)) ?_
    exact State.wrF_keeps (hF.of rfl) (R.GLB_STATE_in (hF.of rfl)) h
  clear_value x1
  extract_lets +onlyGivenNames x3
  have h4 : Keeps F s0 x3 := by
    unfold x3
    refine Keeps.foldl h2 (fun x5 e6 h7 => ?_)
    refine Keeps.ite (fun _ => State.updPart_keeps (hF.of rfl) h7) (fun _ => ?_)
    exact Keeps.ite (fun _ => State.setPState_keeps (hF.of rfl) h7) (fun _ => h7)
  clear_value x3
  extract_lets +onlyGivenNames x8
  have h9 : Keeps F s0 x8 := State.event_keeps (hF.of rfl) h4
  clear_value x8
  extract_lets +onlyGivenNames x10
  have h11 : Keeps F s0 x10 := State.wrF_keeps (hF.of rfl) (R.HST_ATTACH_in (hF.of rfl)) h9
  clear_value x10
  extract_lets +onlyGivenNames x12
  have h13 : Keeps F s0 x12 := by
    unfold x12
    refine Keeps.foldl h11 (fun x14 e15 h16 => ?_)
    exact Keeps.ite (fun _ => h16) (fun _ => State.queOff_keeps (hF.of rfl) h16)
  clear_value x12
  extract_lets +onlyGivenNames x17
  have h18 : Keeps F s0 x17 := by
    unfold x17
    refine Keeps.foldl h13 (fun x19 e20 h21 => ?_)
    exact State.retireTag_keeps (hF.of rfl) (State.count_keeps (hF.of rfl) (R.CNT_HST_in (hF.of rfl)) h21)
  clear_value x17
  extract_lets +onlyGivenNames x22
  have h23 : Keeps F s0 x22 := State.count_keeps (hF.of rfl) (R.CNT_HST_in (hF.of rfl)) h18
  clear_value x22
  extract_lets +onlyGivenNames x24
  have h25 : Keeps F s0 x24 := State.host!_keeps (hF.of rfl) h23
  clear_value x24
  exact State.syncChip_keeps (hF.of rfl) h25

theorem State.hostIfReset_keeps {F : Nat} {s0 s : State} (hF : Sub 0x200000 F) (h : Keeps F s0 s) :
    Keeps F s0 (State.hostIfReset s) := by
  unfold State.hostIfReset
  extract_lets +onlyGivenNames x1
  have h2 : Keeps F s0 x1 := State.host!_keeps (hF.of rfl) h
  clear_value x1
  exact h2

theorem State.linkOut_keeps {F : Nat} {s0 s : State} {a1} (hF : Sub 0x80000000000000000000000000200001 F) (h : Keeps F s0 s) :
    Keeps F s0 (State.linkOut s a1) := by
  unfold State.linkOut
  exact State.host!_keeps (hF.of rfl) (State.wrFs_keeps (hF.of rfl) (R.HST_LINK_STATUS_in (hF.of rfl)) h)

theorem State.attach_keeps {F : Nat} {s0 s : State} (hF : Sub 0x800000000000000000000000000000001 F) (h : Keeps F s0 s) :
    Keeps F s0 (State.attach s) := by
  unfold State.attach
  extract_lets +onlyGivenNames x1
  have h2 : ∀ y1 y2, Keeps F s0 y1 → Keeps F s0 (x1 y1 y2) := by
    intro y3 y4 y5
    unfold x1
    exact State.wrF_keeps (hF.of rfl) (R.HST_ATTACH_in (hF.of rfl)) y5
  clear_value x1
  refine Keeps.ite (fun _ => ?_) (fun _ => ?_)
  · apply h2
    exact h
  · refine Keeps.ite (fun _ => ?_) (fun _ => ?_)
    · apply h2
      exact h
    · refine Keeps.ite (fun _ => ?_) (fun _ => ?_)
      · apply h2
        exact h
      · refine State.wrF_keeps (hF.of rfl) (R.HST_ATTACH_in (hF.of rfl)) ?_
        apply h2
        exact h

theorem State.writeQueEnable_keeps {F : Nat} {s0 s : State} {a1} (hF : Sub 0x11900000000000000000000000000000000000000000300007 F) (h : Keeps F s0 s) :
    Keeps F s0 (State.writeQueEnable s a1) := by
  unfold State.writeQueEnable
  extract_lets +onlyGivenNames x1
  clear_value x1
  refine Keeps.ite (fun _ => ?_) (fun _ => ?_)
  · exact Keeps.ite (fun _ => State.queEnable_keeps (hF.of rfl) h) (fun _ => State.regErr_keeps (hF.of rfl) h)
  · exact Keeps.ite (fun _ => Keeps.ite (fun _ => State.queStop_keeps (hF.of rfl) h) (fun _ => h)) (fun _ => h)

theorem State.configWrite_keeps {F : Nat} {s0 s : State} {a1 a2 a3} (hF : Sub 0x200000 F) (h : Keeps F s0 s) :
    Keeps F s0 (State.configWrite s a1 a2 a3) := by
  unfold State.configWrite
  split
  · exact Keeps.ite (fun _ => State.host!_keeps (hF.of rfl) h) (fun _ => h)
  · extract_lets +onlyGivenNames x1
    clear_value x1
    exact Keeps.ite (fun _ => State.host!_keeps (hF.of rfl) h) (fun _ => h)
  · exact State.host!_keeps (hF.of rfl) h
  · exact State.host!_keeps (hF.of rfl) h
  · exact Keeps.ite (fun _ => State.host!_keeps (hF.of rfl) h) (fun _ => h)
  · exact Keeps.ite (fun _ => State.host!_keeps (hF.of rfl) h) (fun _ => h)
  · exact Keeps.ite (fun _ => State.host!_keeps (hF.of rfl) h) (fun _ => h)
  · extract_lets +onlyGivenNames x2
    clear_value x2
    exact Keeps.ite (fun _ => State.host!_keeps (hF.of rfl) h) (fun _ => h)
  · exact h

theorem execPerstDeassert_keeps {F : Nat} {s0 s : State} (hF : Sub 0x200000 F) (h : Keeps F s0 s) :
    KeepsX F s0 (execPerstDeassert s) := by
  unfold execPerstDeassert
  exact KeepsX.next (Keeps.ite (fun _ => State.host!_keeps (hF.of rfl) h) (fun _ => h))

theorem execHostLinkUp_keeps {F : Nat} {s0 s : State} {a1 a2 a3} (hF : Sub 0x80000000000000000000000000200001 F) (h : Keeps F s0 s) :
    KeepsX F s0 (execHostLinkUp a1 a2 a3 s) := by
  unfold execHostLinkUp
  refine KeepsX.next ?_
  refine Keeps.ite (fun _ => h) (fun _ => ?_)
  refine Keeps.ite (fun _ => State.wrF_keeps (hF.of rfl) (R.HST_LINK_STATUS_in (hF.of rfl)) h) (fun _ => ?_)
  refine Keeps.ite (fun _ => h) (fun _ => ?_)
  exact State.host!_keeps (hF.of rfl) (State.wrFs_keeps (hF.of rfl) (R.HST_LINK_STATUS_in (hF.of rfl)) h)

theorem execConfigSpaceWrite_keeps {F : Nat} {s0 s : State} {a1 a2 a3} (hF : Sub 0x200000 F) (h : Keeps F s0 s) :
    KeepsX F s0 (execConfigSpaceWrite a1 a2 a3 s) := by
  unfold execConfigSpaceWrite
  exact KeepsX.next (State.configWrite_keeps (hF.of rfl) h)

theorem execWindowWrite_keeps {F : Nat} {s0 s : State} {a1 a2 a3 a4} (hF : Sub 0x1190000007e200000000000000000000000001000404bb801f F) (h : Keeps F s0 s) :
    KeepsX F s0 (execWindowWrite a1 a2 a3 a4 s) := by
  unfold execWindowWrite
  refine KeepsX.next ?_
  refine Keeps.ite (fun _ => ?_) (fun _ => h)
  extract_lets +onlyGivenNames x1
  clear_value x1
  exact State.winWrite_keeps (hF.of rfl) h

theorem execWindowRead_keeps {F : Nat} {s0 s : State} {a1 a2 a3 a4} (hF : Sub 0x1190000007e200000000000000000000000001000404bb801d F) (h : Keeps F s0 s) :
    KeepsX F s0 (execWindowRead a1 a2 a3 a4 s) := by
  unfold execWindowRead
  refine KeepsX.next ?_
  refine Keeps.ite (fun _ => ?_) (fun _ => h)
  extract_lets +onlyGivenNames x1
  clear_value x1
  exact State.winRead_keeps (hF.of rfl) (State.plant_keeps (hF.of rfl) h)

theorem execHdmAccess_keeps {F : Nat} {s0 s : State} {a1 a2 a3 a4 a5 a6} (hF : Sub 0x1190000007e200000000000000000000000001000404bb801f F) (h : Keeps F s0 s) :
    KeepsX F s0 (execHdmAccess a1 a2 a3 a4 a5 a6 s) := by
  unfold execHdmAccess
  refine KeepsX.next ?_
  refine Keeps.ite (fun _ => ?_) (fun _ => h)
  refine Keeps.ite (fun _ => State.winWrite_keeps (hF.of rfl) h) (fun _ => ?_)
  exact State.winRead_keeps (hF.of rfl) (State.plant_keeps (hF.of rfl) h)

theorem execHostReadCompletion_keeps {F : Nat} {s0 s : State} {a1 a2 a3 a4} (hF : Sub 0x1190000007e000000000000000000000000000000c04bb800f F) (h : Keeps F s0 s) :
    KeepsX F s0 (execHostReadCompletion a1 a2 a3 a4 s) := by
  unfold execHostReadCompletion
  exact KeepsX.next (State.readCpl_keeps (hF.of rfl) h)

theorem execHostReadTimeout_keeps {F : Nat} {s0 s : State} {a1} (hF : Sub 0x1190000007e200000000000000000000000001000c04bb801f F) (h : Keeps F s0 s) :
    KeepsX F s0 (execHostReadTimeout a1 s) := by
  unfold execHostReadTimeout
  exact KeepsX.next (State.readTimeout_keeps (hF.of rfl) h)

theorem execTagQuarantineExpiry_keeps {F : Nat} {s0 s : State} {a1} (hF : Sub 0x10000000000000000000000000000000000000000400200001 F) (h : Keeps F s0 s) :
    KeepsX F s0 (execTagQuarantineExpiry a1 s) := by
  unfold execTagQuarantineExpiry
  refine KeepsX.next ?_
  refine Keeps.ite (fun _ => ?_) (fun _ => h)
  refine State.copyReadsAll_keeps (hF.of rfl) ?_
  exact State.count_keeps (hF.of rfl) (R.CNT_HST_in (hF.of rfl)) (State.host!_keeps (hF.of rfl) h)

theorem execAtsInvalidation_keeps {F : Nat} {s0 s : State} {a1 a2} (hF : Sub 0x400200000 F) (h : Keeps F s0 s) :
    KeepsX F s0 (execAtsInvalidation a1 a2 s) := by
  unfold execAtsInvalidation
  refine KeepsX.next ?_
  extract_lets +onlyGivenNames x1
  clear_value x1
  exact Keeps.ite (fun _ => h) (fun _ => State.emit_keeps (hF.of rfl) (State.host!_keeps (hF.of rfl) h))

theorem execCommandFetch_keeps {F : Nat} {s0 s : State} {a1 a2} (hF : Sub 0x1190000007e200000000000000000000000001000404bb801f F) (h : Keeps F s0 s) :
    KeepsX F s0 (execCommandFetch a1 a2 s) := by
  unfold execCommandFetch
  exact KeepsX.next (State.cmdFetch_keeps (hF.of rfl) (State.plant_keeps (hF.of rfl) h))

theorem execCmdNop_keeps {F : Nat} {s0 s : State} {a1} (hF : Sub 0x11800000000000000000000000000000000000000000300007 F) (h : Keeps F s0 s) :
    KeepsX F s0 (execCmdNop a1 s) := by
  unfold execCmdNop
  exact KeepsX.next (State.cmdNop_keeps (hF.of rfl) h)

theorem execInlineWrite_keeps {F : Nat} {s0 s : State} {a1} (hF : Sub 0x11f0000007e200000000000000000000880001000c04bb80ff F) (h : Keeps F s0 s) :
    KeepsX F s0 (execInlineWrite a1 s) := by
  unfold execInlineWrite
  exact KeepsX.next (State.cmdInline_keeps (hF.of rfl) h)

theorem execCopyIn_keeps {F : Nat} {s0 s : State} {a1} (hF : Sub 0x1190000007e200000000000000000000000001000404bb801f F) (h : Keeps F s0 s) :
    KeepsX F s0 (execCopyIn a1 s) := by
  unfold execCopyIn
  exact KeepsX.next (State.cmdCopy_keeps (hF.of rfl) h)

theorem execCopyOut_keeps {F : Nat} {s0 s : State} {a1 a2} (hF : Sub 0x1190000007e200000000000000000000000001000404bb801f F) (h : Keeps F s0 s) :
    KeepsX F s0 (execCopyOut a1 a2 s) := by
  unfold execCopyOut
  exact KeepsX.next (State.cmdCopy_keeps (hF.of rfl) (State.plant_keeps (hF.of rfl) h))

theorem execCopyDone_keeps {F : Nat} {s0 s : State} {a1} (hF : Sub 0x1990000007e200000040000000000000000001000404bb801f F) (h : Keeps F s0 s) :
    KeepsX F s0 (execCopyDone a1 s) := by
  unfold execCopyDone
  exact KeepsX.next (State.copyDone_keeps (hF.of rfl) (State.flushAgain_keeps (hF.of rfl) h))

theorem execIntakeCommit_keeps {F : Nat} {s0 s : State} {a1 a2} (hF : Sub 0x1190000007e200000000000000000000000001000404bb801f F) (h : Keeps F s0 s) :
    KeepsX F s0 (execIntakeCommit a1 a2 s) := by
  unfold execIntakeCommit
  exact KeepsX.next (State.cmdCommit_keeps (hF.of rfl) (State.plant_keeps (hF.of rfl) h))

theorem execIntakeDigestClose_keeps {F : Nat} {s0 s : State} {a1} (hF : Sub 0x1980000000000000404000000000000000000000000030000f F) (h : Keeps F s0 s) :
    KeepsX F s0 (execIntakeDigestClose a1 s) := by
  unfold execIntakeDigestClose
  exact KeepsX.next (State.intakeClose_keeps (hF.of rfl) h)

theorem execBiasSet_keeps {F : Nat} {s0 s : State} {a1} (hF : Sub 0x1190000007e200000000000000000000000001000404bb801f F) (h : Keeps F s0 s) :
    KeepsX F s0 (execBiasSet a1 s) := by
  unfold execBiasSet
  exact KeepsX.next (State.cmdBias_keeps (hF.of rfl) h)

theorem execQueueCreate_keeps {F : Nat} {s0 s : State} {a1 a2} (hF : Sub 0x1190000007e200000000000000000000000001000404bb801f F) (h : Keeps F s0 s) :
    KeepsX F s0 (execQueueCreate a1 a2 s) := by
  unfold execQueueCreate
  exact KeepsX.next (State.cmdQueCreate_keeps (hF.of rfl) (State.plant_keeps (hF.of rfl) h))

theorem execQueueDestroy_keeps {F : Nat} {s0 s : State} {a1} (hF : Sub 0x11800000000000000000000000000000000000000000300007 F) (h : Keeps F s0 s) :
    KeepsX F s0 (execQueueDestroy a1 s) := by
  unfold execQueueDestroy
  exact KeepsX.next (State.cmdQueDestroy_keeps (hF.of rfl) h)

theorem execBackfill_keeps {F : Nat} {s0 s : State} {a1} (hF : Sub 0x11c00000000000000000000000000000800000000000300047 F) (h : Keeps F s0 s) :
    KeepsX F s0 (execBackfill a1 s) := by
  unfold execBackfill
  exact KeepsX.next (State.cmdBackfill_keeps (hF.of rfl) h)

theorem execBackfillLoad_keeps {F : Nat} {s0 s : State} {a1} (hF : Sub 0x1190000007e200000000000000000000e00001000404bb805f F) (h : Keeps F s0 s) :
    KeepsX F s0 (execBackfillLoad a1 s) := by
  unfold execBackfillLoad
  exact KeepsX.next (State.cmdBfLoad_keeps (hF.of rfl) h)

theorem execBfLoadEnd_keeps {F : Nat} {s0 s : State} {a1 a2 a3} (hF : Sub 0x1190000007e200000000000000000000800001000404bb807f F) (h : Keeps F s0 s) :
    KeepsX F s0 (execBfLoadEnd a1 a2 a3 s) := by
  unfold execBfLoadEnd
  exact KeepsX.next (State.bfLoadFinish_keeps (hF.of rfl) (State.plant_keeps (hF.of rfl) h))

theorem execQueueEnable_keeps {F : Nat} {s0 s : State} {a1} (hF : Sub 0x11900000000000000000000000000000000000000000300007 F) (h : Keeps F s0 s) :
    KeepsX F s0 (execQueueEnable a1 s) := by
  unfold execQueueEnable
  exact KeepsX.next (State.writeQueEnable_keeps (hF.of rfl) h)

theorem execQueueDisable_keeps {F : Nat} {s0 s : State} {a1} (hF : Sub 0x11900000000000000000000000000000000000000000300007 F) (h : Keeps F s0 s) :
    KeepsX F s0 (execQueueDisable a1 s) := by
  unfold execQueueDisable
  exact KeepsX.next (State.writeQueEnable_keeps (hF.of rfl) h)

theorem execPost_keeps {F : Nat} {s0 s : State} {a1 a2} (hF : Sub 0x1990000007e200004040000000000000000001000404bb801f F) (h : Keeps F s0 s) :
    KeepsX F s0 (execPost a1 a2 s) := by
  unfold execPost
  exact KeepsX.next (State.hostCmd_keeps (hF.of rfl) h)

theorem execPostStoreReserved_keeps {F : Nat} {s0 s : State} {a1 a2} (hF : Sub 0x8000000000000000040000000000000000000000000000009 F) (h : Keeps F s0 s) :
    KeepsX F s0 (execPostStoreReserved a1 a2 s) := by
  unfold execPostStoreReserved
  exact KeepsX.next (State.postReserve_keeps (hF.of rfl) h)

theorem execHostCopyOut_keeps {F : Nat} {s0 s : State} {a1 a2 a3} (hF : Sub 0x1990000007e200004040000000000000000001000404bb801f F) (h : Keeps F s0 s) :
    KeepsX F s0 (execHostCopyOut a1 a2 a3 s) := by
  unfold execHostCopyOut
  exact KeepsX.next (State.hostCmd_keeps (hF.of rfl) (State.plant_keeps (hF.of rfl) h))

theorem execHostCopyIn_keeps {F : Nat} {s0 s : State} {a1 a2 a3} (hF : Sub 0x1990000007e200004040000000000000000001000404bb801f F) (h : Keeps F s0 s) :
    KeepsX F s0 (execHostCopyIn a1 a2 a3 s) := by
  unfold execHostCopyIn
  exact KeepsX.next (State.hostCmd_keeps (hF.of rfl) (State.plant_keeps (hF.of rfl) h))

theorem execIntake_keeps {F : Nat} {s0 s : State} {a1 a2} (hF : Sub 0x1990000007e200004040000000000000000001000404bb801f F) (h : Keeps F s0 s) :
    KeepsX F s0 (execIntake a1 a2 s) := by
  unfold execIntake
  exact KeepsX.next (State.hostCmd_keeps (hF.of rfl) h)

theorem execPerstAssert_keeps {F : Nat} {s0 s : State} (hF : Sub 0x1190000007e200000880000000000000000001000404bb800f F) (h : Keeps F s0 s) :
    KeepsX F s0 (execPerstAssert s) := by
  unfold execPerstAssert
  refine KeepsX.next ?_
  refine State.hostLoss_keeps (hF.of rfl) ?_
  exact State.linkOut_keeps (hF.of rfl) (State.hostIfReset_keeps (hF.of rfl) h)

theorem execHotReset_keeps {F : Nat} {s0 s : State} (hF : Sub 0x1190000007e200000880000000000000000001000404bb800f F) (h : Keeps F s0 s) :
    KeepsX F s0 (execHotReset s) := by
  unfold execHotReset
  refine KeepsX.next ?_
  refine State.hostLoss_keeps (hF.of rfl) ?_
  exact State.linkOut_keeps (hF.of rfl) (State.hostIfReset_keeps (hF.of rfl) h)

theorem execFlrPf0_keeps {F : Nat} {s0 s : State} (hF : Sub 0x1190000007e200000800000000000000000001000404bb800f F) (h : Keeps F s0 s) :
    KeepsX F s0 (execFlrPf0 s) := by
  unfold execFlrPf0
  exact KeepsX.next (State.hostLoss_keeps (hF.of rfl) (State.hostIfReset_keeps (hF.of rfl) h))

theorem execFlrVf_keeps {F : Nat} {s0 s : State} {a1} (hF : Sub 0x300000 F) (h : Keeps F s0 s) :
    KeepsX F s0 (execFlrVf a1 s) := by
  unfold execFlrVf
  refine KeepsX.next ?_
  exact Keeps.ite (fun _ => h) (fun _ => State.host!_keeps (hF.of rfl) (Keeps.setStore h (hF.of rfl)))

theorem execLinkLossTimeout_keeps {F : Nat} {s0 s : State} (hF : Sub 0x1190000007e200000880000000000000000001000404bb800f F) (h : Keeps F s0 s) :
    KeepsX F s0 (execLinkLossTimeout s) := by
  unfold execLinkLossTimeout
  exact KeepsX.next (State.hostLoss_keeps (hF.of rfl) (State.linkOut_keeps (hF.of rfl) h))

theorem execHeartbeatTimeout_keeps {F : Nat} {s0 s : State} (hF : Sub 0x1190000007e200000800000000000000000001000404bb800f F) (h : Keeps F s0 s) :
    KeepsX F s0 (execHeartbeatTimeout s) := by
  unfold execHeartbeatTimeout
  exact KeepsX.next (Keeps.ite (fun _ => h) (fun _ => State.hostLoss_keeps (hF.of rfl) h))

theorem State.beat_keeps {F : Nat} {s0 s : State} {a1} (hF : Sub 0x200000 F) (h : Keeps F s0 s) :
    Keeps F s0 (State.beat s a1) := by
  unfold State.beat
  exact Keeps.ite (fun _ => State.host!_keeps (hF.of rfl) h) (fun _ => h)

theorem execHeartbeatWrite_keeps {F : Nat} {s0 s : State} {a1} (hF : Sub 0x200000 F) (h : Keeps F s0 s) :
    KeepsX F s0 (execHeartbeatWrite a1 s) := by
  unfold execHeartbeatWrite
  exact KeepsX.next (State.beat_keeps (hF.of rfl) h)

theorem execAttach_keeps {F : Nat} {s0 s : State} (hF : Sub 0x800000000000000000000000000000001 F) (h : Keeps F s0 s) :
    KeepsX F s0 (execAttach s) := by
  unfold execAttach
  exact KeepsX.next (State.attach_keeps (hF.of rfl) h)

end Sys2Proof.Machine
end

