-- ==== Sys2Proof/Laws/KeepsSecurity.lean ====
section
/-! SUPPORT. What the operations of Machine/Security.lean keep (Laws/Keeps.lean): one lemma for each. -/

namespace Sys2Proof.Machine

open Sys2Proof

/-- Cores, hubs, requests, memory and marks at once. -/
theorem Keeps.wipe {F : Nat} {s0 s : State} {cores : Sp Core} {hubs : Sp Hub} {greqs} {mem : List Host.Cell} {gran : Sp Gran}
    (h : Keeps F s0 s) (hF : Sub 0xe6 F) (hm : Sp.wf 0 s.mem → Sp.wf 0 mem) (hg : Sp.wf {} s.gran → Sp.wf {} gran)
    (hc : Sp.wf {} s.cores → Sp.wf {} cores) (hh : Sp.wf {} s.hubs → Sp.wf {} hubs) :
    Keeps F s0 { s with cores := cores, hubs := hubs, greqs := greqs, mem := mem, gran := gran } :=
  h.trans (Keeps.weaken (B := 0xe6) ⟨rfl, List.prefix_refl _, fun i => { i with
      mem := hm i.mem, gran := hg i.gran, cores := hc i.cores, hubs := hh i.hubs },
    fun f hf => by cases f <;> first | rfl | exact absurd hf (by decide), fun _ _ _ => rfl⟩ (hF.of rfl))

theorem State.sec!_keeps {F : Nat} {s0 s : State} {a1} (hF : Sub 0x400000 F) (h : Keeps F s0 s) :
    Keeps F s0 (State.sec! s a1) := by
  unfold State.sec!
  exact Keeps.setSec h (hF.of rfl)

theorem State.pruneAdmitted_keeps {F : Nat} {s0 s : State} {a1} (hF : Sub 0x400000 F) (h : Keeps F s0 s) :
    Keeps F s0 (State.pruneAdmitted s a1) := by
  unfold State.pruneAdmitted
  exact State.sec!_keeps (hF.of rfl) h

theorem State.partEnable_keeps {F : Nat} {s0 s : State} {a1 a2} (hF : Sub 0x10000007e2000000000000000000000000000004049b8009 F) (h : Keeps F s0 s) :
    Keeps F s0 (State.partEnable s a1 a2) := by
  unfold State.partEnable
  refine Keeps.ite (fun _ => State.event_keeps (hF.of rfl) (State.regErr_keeps (hF.of rfl) h)) (fun _ => ?_)
  exact State.updPart_keeps (hF.of rfl) (State.wr_keeps (hF.of rfl) (R.GLB_PART_CONFIG_in (hF.of rfl)) h)

theorem State.wipeClusters_keeps {F : Nat} {s0 s : State} {a1} (hF : Sub 0xe6 F) (h : Keeps F s0 s) :
    Keeps F s0 (State.wipeClusters s a1) := by
  exact h.wipe (hF.of rfl) (fun i => Sp.wf_filter i _) (fun i => Sp.wf_filter i _) (fun i => Sp.wf_filter i _)
    (fun i => Sp.wf_filter i _)

theorem State.newKeys_keeps {F : Nat} {s0 s : State} {a1} (hF : Sub 0x18 F) (h : Keeps F s0 s) :
    Keeps F s0 (State.newKeys s a1) := by
  unfold State.newKeys
  extract_lets +onlyGivenNames x1
  clear_value x1
  extract_lets +onlyGivenNames x2
  have h3 : Keeps F s0 x2 := State.updPart_keeps (hF.of rfl) h
  clear_value x2
  exact Keeps.setChip h3 (hF.of rfl)

theorem State.zeroTriggers_keeps {F : Nat} {s0 s : State} {a1} (hF : Sub 0x40000000000000000000000000000001 F) (h : Keeps F s0 s) :
    Keeps F s0 (State.zeroTriggers s a1) := by
  unfold State.zeroTriggers
  extract_lets +onlyGivenNames x1
  clear_value x1
  exact Keeps.foldl h (fun x2 e3 h4 => State.wr_keeps (hF.of rfl) (R.RLY_TRIGGER_in (hF.of rfl)) h4)

theorem State.partEnabled_keeps {F : Nat} {s0 s : State} {a1} (hF : Sub 0x2000000400000000000000000010000000000ff F) (h : Keeps F s0 s) :
    Keeps F s0 (State.partEnabled s a1) := by
  unfold State.partEnabled
  refine Keeps.ite (fun _ => h) (fun _ => ?_)
  extract_lets +onlyGivenNames x1
  have h2 : Keeps F s0 x1 := State.wipeClusters_keeps (hF.of rfl) h
  clear_value x1
  extract_lets +onlyGivenNames x3
  have h4 : Keeps F s0 x3 := State.zeroTriggers_keeps (hF.of rfl) (State.setPart_keeps (hF.of rfl) h2)
  clear_value x3
  refine Keeps.ite (fun _ => State.newKeys_keeps (hF.of rfl) h4) (fun _ => ?_)
  exact State.setPState_keeps (hF.of rfl) (State.newKeys_keeps (hF.of rfl) h4)

theorem State.partDisable_keeps {F : Nat} {s0 s : State} {a1} (hF : Sub 0x100000000200000000000000000000000001000000400019 F) (h : Keeps F s0 s) :
    Keeps F s0 (State.partDisable s a1) := by
  unfold State.partDisable
  extract_lets +onlyGivenNames x1 x2
  clear_value x1 x2
  refine Keeps.ite (fun _ => State.regErr_keeps (hF.of rfl) h) (fun _ => ?_)
  extract_lets +onlyGivenNames x3
  have h4 : Keeps F s0 x3 := State.newKeys_keeps (hF.of rfl) h
  clear_value x3
  extract_lets +onlyGivenNames x5
  have h6 : Keeps F s0 x5 := State.wrFs_keeps (hF.of rfl) (R.GLB_PART_CONFIG_in (hF.of rfl)) h4
  clear_value x5
  exact State.syncChip_keeps (hF.of rfl) (State.pruneAdmitted_keeps (hF.of rfl) h6)

theorem State.writePartConfig_keeps {F : Nat} {s0 s : State} {a1 a2} (hF : Sub 0x10000007e200000000000000000000000001000404db8019 F) (h : Keeps F s0 s) :
    Keeps F s0 (State.writePartConfig s a1 a2) := by
  unfold State.writePartConfig
  refine Keeps.ite (fun _ => h) (fun _ => ?_)
  refine Keeps.ite (fun _ => State.partEnable_keeps (hF.of rfl) h) (fun _ => ?_)
  exact State.partDisable_keeps (hF.of rfl) h

theorem State.hostKeyMsg_keeps {F : Nat} {s0 s : State} {a1 a2 a3} (hF : Sub 0x8000000000000000000000000000400200001 F) (h : Keeps F s0 s) :
    Keeps F s0 (State.hostKeyMsg s a1 a2 a3) := by
  unfold State.hostKeyMsg
  split
  · exact h
  · extract_lets +onlyGivenNames x1
    clear_value x1
    extract_lets +onlyGivenNames x2
    have h3 : ∀ y1 y2, Keeps F s0 y1 → Keeps F s0 (x2 y1 y2) := by
      intro y4 y5 y6
      unfold x2
      exact State.emit_keeps (hF.of rfl) y6
    clear_value x2
    extract_lets +onlyGivenNames x7
    clear_value x7
    refine Keeps.ite (fun _ => ?_) (fun _ => ?_)
    · apply h3
      exact h
    · refine Keeps.ite (fun _ => ?_) (fun _ => ?_)
      · apply h3
        exact h
      · refine Keeps.ite (fun _ => ?_) (fun _ => ?_)
        · apply h3
          exact State.wr_keeps (hF.of rfl) (R.SEC_HOSTKEY_in (hF.of rfl)) (State.host!_keeps (hF.of rfl) h)
        · apply h3
          exact State.wr_keeps (hF.of rfl) (R.SEC_HOSTKEY_in (hF.of rfl)) (State.host!_keeps (hF.of rfl) h)

theorem State.setFwSlot_keeps {F : Nat} {s0 s : State} {a1 a2} (hF : Sub 0x400000 F) (h : Keeps F s0 s) :
    Keeps F s0 (State.setFwSlot s a1 a2) := by
  unfold State.setFwSlot
  exact State.sec!_keeps (hF.of rfl) h

theorem State.putRec_keeps {F : Nat} {s0 s : State} {a1} (hF : Sub 0x400000 F) (h : Keeps F s0 s) :
    Keeps F s0 (State.putRec s a1) := by
  unfold State.putRec
  extract_lets +onlyGivenNames x1 x2 x3
  clear_value x1 x2 x3
  exact State.sec!_keeps (hF.of rfl) h

theorem State.setFw_keeps {F : Nat} {s0 s : State} {a1 a2} (hF : Sub 0x40000000000000000000000000000000000001 F) (h : Keeps F s0 s) :
    Keeps F s0 (State.setFw s a1 a2) := by
  unfold State.setFw
  exact State.wrF_keeps (hF.of rfl) (R.SEC_FW_STATUS_in (hF.of rfl)) h

theorem State.syncFw_keeps {F : Nat} {s0 s : State} (hF : Sub 0x40000000000000000000000000000000000001 F) (h : Keeps F s0 s) :
    Keeps F s0 (State.syncFw s) := by
  unfold State.syncFw
  extract_lets +onlyGivenNames x1
  clear_value x1
  exact State.wrFs_keeps (hF.of rfl) (R.SEC_FW_STATUS_in (hF.of rfl)) h

theorem State.fwVerify_keeps {F : Nat} {s0 s : State} {a1} (hF : Sub 0x100000000000000000000000000000000000000000400001 F) (h : Keeps F s0 s) :
    Keeps F s0 (State.fwVerify s a1).1 := by
  unfold State.fwVerify
  extract_lets +onlyGivenNames x1
  clear_value x1
  refine Keeps.iteFst (fun _ => Keeps.mkFst (State.setFwSlot_keeps (hF.of rfl) h)) (fun _ => ?_)
  exact Keeps.mkFst (State.count_keeps (hF.of rfl) (R.CNT_GLB_in (hF.of rfl)) h)

theorem State.boot_keeps {F : Nat} {s0 s : State} (hF : Sub 0x10000007e040000000000000000000000000000404db8009 F) (h : Keeps F s0 s) :
    Keeps F s0 (State.boot s) := by
  unfold State.boot
  extract_lets +onlyGivenNames x1
  have h2 : Keeps F s0 x1 := State.wrFs_keeps (hF.of rfl) (R.SEC_FW_STATUS_in (hF.of rfl)) h
  clear_value x1
  extract_lets +onlyGivenNames x3
  have h4 : Keeps F s0 x3 := by
    unfold x3
    split
    · refine Keeps.ite (fun _ => State.putRec_keeps (hF.of rfl) h2) (fun _ => ?_)
      refine Keeps.ite (fun _ => ?_) (fun _ => h2)
      refine State.setFw_keeps (hF.of rfl) ?_
      exact State.count_keeps (hF.of rfl) (R.CNT_GLB_in (hF.of rfl)) (State.putRec_keeps (hF.of rfl) h2)
    · exact h2
  clear_value x3
  split
  · exact State.syncFw_keeps (hF.of rfl) (State.setFw_keeps (hF.of rfl) h4)
  · extract_lets +onlyGivenNames x5
    clear_value x5
    refine Keeps.ite (fun _ => ?_) (fun _ => ?_)
    · extract_lets +onlyGivenNames x6
      have h7 : Keeps F s0 x6 := State.syncFw_keeps (hF.of rfl) (State.setFw_keeps (hF.of rfl) h4)
      clear_value x6
      extract_lets +onlyGivenNames x8
      clear_value x8
      refine Keeps.ite (fun _ => ?_) (fun _ => h7)
      extract_lets +onlyGivenNames x9
      have h10 : Keeps F s0 x9.1 := State.fwVerify_keeps (hF.of rfl) h7
      clear_value x9
      exact State.syncFw_keeps (hF.of rfl) (State.event_keeps (hF.of rfl) h10)
    · extract_lets +onlyGivenNames x11
      have h12 : Keeps F s0 x11 := State.count_keeps (hF.of rfl) (R.CNT_GLB_in (hF.of rfl)) h4
      clear_value x11
      refine Keeps.ite (fun _ => ?_) (fun _ => ?_)
      · exact State.syncFw_keeps (hF.of rfl) (State.setFw_keeps (hF.of rfl) (State.setFw_keeps (hF.of rfl) h12))
      · refine State.syncFw_keeps (hF.of rfl) ?_
        exact State.setFw_keeps (hF.of rfl) (State.count_keeps (hF.of rfl) (R.CNT_GLB_in (hF.of rfl)) h12)

theorem State.fwDone_keeps {F : Nat} {s0 s : State} {a1} (hF : Sub 0x60000000000000000000000000000000000001 F) (h : Keeps F s0 s) :
    Keeps F s0 (State.fwDone s a1) := by
  unfold State.fwDone
  exact State.syncFw_keeps (hF.of rfl) (State.wrFs_keeps (hF.of rfl) (R.SEC_FWUP_CTRL_in (hF.of rfl)) h)

theorem State.fwRead_keeps {F : Nat} {s0 s : State} {a1} (hF : Sub 0x400200000 F) (h : Keeps F s0 s) :
    KeepsO F s0 (State.fwRead s a1) := by
  unfold State.fwRead
  exact State.hostRead_keeps (hF.of rfl) h

theorem State.fwReads_keeps {F : Nat} {s0 s : State} {a1 a2} (hF : Sub 0x400200000 F) (h : Keeps F s0 s) :
    Keeps F s0 (State.fwReads a1 s a2) := by
  induction a1 generalizing s a2
  case zero =>
    rw [State.fwReads]
    exact h
  case succ k ih =>
    rw [State.fwReads]
    refine Keeps.ite (fun _ => h) (fun _ => ?_)
    refine Keeps.ite (fun _ => ?_) (fun _ => ?_)
    · apply ih
      exact h
    · split
      · rename_i z1 z2 z3
        have h4 : Keeps F s0 z2 := KeepsO.of z3 (State.fwRead_keeps (hF.of rfl) h)
        apply ih
        exact h4
      · rename_i z5 z6
        exact h

theorem State.fwGo_keeps {F : Nat} {s0 s : State} {a1} (hF : Sub 0x100000000060000000000000000000000000000400600001 F) (h : Keeps F s0 s) :
    Keeps F s0 (State.fwGo s a1) := by
  unfold State.fwGo
  refine Keeps.ite (fun _ => State.regErr_keeps (hF.of rfl) h) (fun _ => ?_)
  extract_lets +onlyGivenNames x1 x2 x3
  clear_value x1 x2 x3
  extract_lets +onlyGivenNames x4
  have h5 : Keeps F s0 x4 := State.wrFs_keeps (hF.of rfl) (R.SEC_FWUP_CTRL_in (hF.of rfl)) h
  clear_value x4
  extract_lets +onlyGivenNames x6
  have h7 : Keeps F s0 x6 := State.sec!_keeps (hF.of rfl) h5
  clear_value x6
  refine Keeps.ite (fun _ => State.fwDone_keeps (hF.of rfl) h7) (fun _ => ?_)
  refine Keeps.ite (fun _ => State.fwDone_keeps (hF.of rfl) h7) (fun _ => ?_)
  refine Keeps.ite (fun _ => State.fwDone_keeps (hF.of rfl) h7) (fun _ => ?_)
  refine Keeps.ite (fun _ => ?_) (fun _ => h7)
  refine Keeps.ite (fun _ => State.fwDone_keeps (hF.of rfl) h7) (fun _ => ?_)
  refine Keeps.ite (fun _ => State.fwDone_keeps (hF.of rfl) h7) (fun _ => ?_)
  extract_lets +onlyGivenNames x8
  have h9 : Keeps F s0 x8 := State.setFwSlot_keeps (hF.of rfl) h7
  clear_value x8
  exact State.fwReads_keeps (hF.of rfl) (State.host!_keeps (hF.of rfl) h9)

theorem State.fwEnd_keeps {F : Nat} {s0 s : State} {a1} (hF : Sub 0x100000000060000000000000000000000000000400600001 F) (h : Keeps F s0 s) :
    Keeps F s0 (State.fwEnd s a1) := by
  unfold State.fwEnd
  refine Keeps.ite (fun _ => h) (fun _ => ?_)
  extract_lets +onlyGivenNames x1
  clear_value x1
  split
  · extract_lets +onlyGivenNames x2
    clear_value x2
    extract_lets +onlyGivenNames x3
    have h4 : ∀ y1, Keeps F s0 y1 → Keeps F s0 (x3 y1) := by
      intro y5 y6
      unfold x3
      exact State.host!_keeps (hF.of rfl) y6
    clear_value x3
    refine Keeps.ite (fun _ => ?_) (fun _ => ?_)
    · refine State.fwDone_keeps (hF.of rfl) ?_
      apply h4
      exact h
    · refine Keeps.ite (fun _ => ?_) (fun _ => ?_)
      · refine State.fwDone_keeps (hF.of rfl) ?_
        apply h4
        exact h
      · refine Keeps.ite (fun _ => State.fwReads_keeps (hF.of rfl) h) (fun _ => ?_)
        extract_lets +onlyGivenNames x7
        clear_value x7
        refine State.fwDone_keeps (hF.of rfl) ?_
        refine State.setFwSlot_keeps (hF.of rfl) ?_
        apply h4
        exact h
  · refine Keeps.ite (fun _ => ?_) (fun _ => ?_)
    · exact State.fwDone_keeps (hF.of rfl) (State.count_keeps (hF.of rfl) (R.CNT_GLB_in (hF.of rfl)) h)
    · refine Keeps.ite (fun _ => State.fwDone_keeps (hF.of rfl) h) (fun _ => ?_)
      extract_lets +onlyGivenNames x8
      have h9 : Keeps F s0 x8.1 := State.fwVerify_keeps (hF.of rfl) h
      clear_value x8
      exact State.fwDone_keeps (hF.of rfl) h9
  · extract_lets +onlyGivenNames x10
    clear_value x10
    refine Keeps.ite (fun _ => State.fwDone_keeps (hF.of rfl) h) (fun _ => ?_)
    refine Keeps.ite (fun _ => State.fwDone_keeps (hF.of rfl) h) (fun _ => ?_)
    extract_lets +onlyGivenNames x11
    clear_value x11
    exact State.fwDone_keeps (hF.of rfl) (State.putRec_keeps (hF.of rfl) h)
  · split
    · exact State.fwDone_keeps (hF.of rfl) h
    · refine Keeps.ite (fun _ => State.fwDone_keeps (hF.of rfl) h) (fun _ => ?_)
      extract_lets +onlyGivenNames x12
      clear_value x12
      exact State.fwDone_keeps (hF.of rfl) (State.sec!_keeps (hF.of rfl) (State.putRec_keeps (hF.of rfl) h))

theorem State.writeFwup_keeps {F : Nat} {s0 s : State} {a1} (hF : Sub 0x100000000060000000000000000000000000000400600001 F) (h : Keeps F s0 s) :
    Keeps F s0 (State.writeFwup s a1) := by
  unfold State.writeFwup
  exact Keeps.ite (fun _ => State.fwGo_keeps (hF.of rfl) h) (fun _ => h)

theorem State.spdmSay_keeps {F : Nat} {s0 s : State} {a1 a2 a3} (hF : Sub 0x400000000 F) (h : Keeps F s0 s) :
    Keeps F s0 (State.spdmSay s a1 a2 a3) := by
  unfold State.spdmSay
  exact State.emit_keeps (hF.of rfl) h

theorem State.spdmIf_keeps {F : Nat} {s0 s : State} {a1 a2 a3} (hF : Sub 0x400000000 F) (h : Keeps F s0 s) (hf3 : ∀ y1, Keeps F s0 y1 → Keeps F s0 (a3 y1)) :
    Keeps F s0 (State.spdmIf s a1 a2 a3) := by
  unfold State.spdmIf
  refine Keeps.ite (fun _ => h) (fun _ => ?_)
  refine Keeps.ite (fun _ => Keeps.ite (fun _ => State.spdmSay_keeps (hF.of rfl) h) (fun _ => h)) (fun _ => ?_)
  refine Keeps.ite (fun _ => State.spdmSay_keeps (hF.of rfl) h) (fun _ => ?_)
  apply hf3
  exact h

theorem State.updSess_keeps {F : Nat} {s0 s : State} {a1 a2} (hF : Sub 0x400000 F) (h : Keeps F s0 s) :
    Keeps F s0 (State.updSess s a1 a2) := by
  unfold State.updSess
  exact State.sec!_keeps (hF.of rfl) h

theorem State.inSess_keeps {F : Nat} {s0 s : State} {a1 a2 a3 a4} (hF : Sub 0x400000000 F) (h : Keeps F s0 s) (hf4 : ∀ y1, Keeps F s0 y1 → Keeps F s0 (a4 y1)) :
    Keeps F s0 (State.inSess s a1 a2 a3 a4) := by
  unfold State.inSess
  refine State.spdmIf_keeps (hF.of rfl) h ?_
  intro y1 y2
  refine Keeps.ite (fun _ => ?_) (fun _ => State.spdmSay_keeps (hF.of rfl) y2)
  apply hf4
  exact y2

theorem execPartitionEnable_keeps {F : Nat} {s0 s : State} {a1 a2} (hF : Sub 0x10000007e200000000000000000000000001000404db8019 F) (h : Keeps F s0 s) :
    KeepsX F s0 (execPartitionEnable a1 a2 s) := by
  unfold execPartitionEnable
  exact KeepsX.next (Keeps.ite (fun _ => State.writePartConfig_keeps (hF.of rfl) h) (fun _ => h))

theorem execPartitionEnableDone_keeps {F : Nat} {s0 s : State} {a1} (hF : Sub 0x2000000400000000000000000010000000000ff F) (h : Keeps F s0 s) :
    KeepsX F s0 (execPartitionEnableDone a1 s) := by
  unfold execPartitionEnableDone
  exact KeepsX.next (Keeps.ite (fun _ => State.partEnabled_keeps (hF.of rfl) h) (fun _ => h))

theorem execPartitionDisable_keeps {F : Nat} {s0 s : State} {a1} (hF : Sub 0x10000007e200000000000000000000000001000404db8019 F) (h : Keeps F s0 s) :
    KeepsX F s0 (execPartitionDisable a1 s) := by
  unfold execPartitionDisable
  exact KeepsX.next (Keeps.ite (fun _ => State.writePartConfig_keeps (hF.of rfl) h) (fun _ => h))

theorem execHostkeyInstall_keeps {F : Nat} {s0 s : State} {a1 a2} (hF : Sub 0x8000000000000000000000000000400200001 F) (h : Keeps F s0 s) :
    KeepsX F s0 (execHostkeyInstall a1 a2 s) := by
  unfold execHostkeyInstall
  exact KeepsX.next (State.hostKeyMsg_keeps (hF.of rfl) h)

theorem execHostkeyClear_keeps {F : Nat} {s0 s : State} {a1 a2} (hF : Sub 0x8000000000000000000000000000400200001 F) (h : Keeps F s0 s) :
    KeepsX F s0 (execHostkeyClear a1 a2 s) := by
  unfold execHostkeyClear
  exact KeepsX.next (State.hostKeyMsg_keeps (hF.of rfl) h)

theorem execIdeKmProgram_keeps {F : Nat} {s0 s : State} {a1 a2 a3} (hF : Sub 0x400400000 F) (h : Keeps F s0 s) :
    KeepsX F s0 (execIdeKmProgram a1 a2 a3 s) := by
  unfold execIdeKmProgram
  refine KeepsX.next ?_
  refine State.inSess_keeps (hF.of rfl) h ?_
  intro y1 y2
  refine Keeps.ite (fun _ => ?_) (fun _ => State.spdmSay_keeps (hF.of rfl) y2)
  exact State.spdmSay_keeps (hF.of rfl) (State.sec!_keeps (hF.of rfl) y2)

theorem execGetVersion_keeps {F : Nat} {s0 s : State} {a1} (hF : Sub 0x400400000 F) (h : Keeps F s0 s) :
    KeepsX F s0 (execGetVersion a1 s) := by
  unfold execGetVersion
  refine KeepsX.next ?_
  refine State.spdmIf_keeps (hF.of rfl) h ?_
  intro y1 y2
  exact State.spdmSay_keeps (hF.of rfl) (State.sec!_keeps (hF.of rfl) y2)

theorem execGetCapabilities_keeps {F : Nat} {s0 s : State} {a1} (hF : Sub 0x400400000 F) (h : Keeps F s0 s) :
    KeepsX F s0 (execGetCapabilities a1 s) := by
  unfold execGetCapabilities
  refine KeepsX.next ?_
  refine State.spdmIf_keeps (hF.of rfl) h ?_
  intro y1 y2
  exact State.spdmSay_keeps (hF.of rfl) (State.sec!_keeps (hF.of rfl) y2)

theorem execNegotiateAlgorithms_keeps {F : Nat} {s0 s : State} {a1} (hF : Sub 0x400400000 F) (h : Keeps F s0 s) :
    KeepsX F s0 (execNegotiateAlgorithms a1 s) := by
  unfold execNegotiateAlgorithms
  refine KeepsX.next ?_
  refine State.spdmIf_keeps (hF.of rfl) h ?_
  intro y1 y2
  exact State.spdmSay_keeps (hF.of rfl) (State.sec!_keeps (hF.of rfl) y2)

theorem execGetDigests_keeps {F : Nat} {s0 s : State} {a1} (hF : Sub 0x400000000 F) (h : Keeps F s0 s) :
    KeepsX F s0 (execGetDigests a1 s) := by
  unfold execGetDigests
  refine KeepsX.next ?_
  refine State.spdmIf_keeps (hF.of rfl) h ?_
  intro y1 y2
  exact State.spdmSay_keeps (hF.of rfl) y2

theorem execGetCertificate_keeps {F : Nat} {s0 s : State} {a1 a2 a3 a4} (hF : Sub 0x400000000 F) (h : Keeps F s0 s) :
    KeepsX F s0 (execGetCertificate a1 a2 a3 a4 s) := by
  unfold execGetCertificate
  refine KeepsX.next ?_
  refine State.spdmIf_keeps (hF.of rfl) h ?_
  intro y1 y2
  exact Keeps.ite (fun _ => State.spdmSay_keeps (hF.of rfl) y2) (fun _ => State.spdmSay_keeps (hF.of rfl) y2)

theorem execChallenge_keeps {F : Nat} {s0 s : State} {a1 a2 a3} (hF : Sub 0x400000000 F) (h : Keeps F s0 s) :
    KeepsX F s0 (execChallenge a1 a2 a3 s) := by
  unfold execChallenge
  refine KeepsX.next ?_
  refine State.spdmIf_keeps (hF.of rfl) h ?_
  intro y1 y2
  exact Keeps.ite (fun _ => State.spdmSay_keeps (hF.of rfl) y2) (fun _ => State.spdmSay_keeps (hF.of rfl) y2)

theorem execGetMeasurements_keeps {F : Nat} {s0 s : State} {a1 a2 a3} (hF : Sub 0x400000000 F) (h : Keeps F s0 s) :
    KeepsX F s0 (execGetMeasurements a1 a2 a3 s) := by
  unfold execGetMeasurements
  refine KeepsX.next ?_
  refine State.spdmIf_keeps (hF.of rfl) h ?_
  intro y1 y2
  extract_lets +onlyGivenNames x3 x4
  clear_value x3 x4
  exact Keeps.ite (fun _ => State.spdmSay_keeps (hF.of rfl) y2) (fun _ => State.spdmSay_keeps (hF.of rfl) y2)

theorem execKeyExchange_keeps {F : Nat} {s0 s : State} {a1 a2 a3} (hF : Sub 0x400400000 F) (h : Keeps F s0 s) :
    KeepsX F s0 (execKeyExchange a1 a2 a3 s) := by
  unfold execKeyExchange
  refine KeepsX.next ?_
  refine State.spdmIf_keeps (hF.of rfl) h ?_
  intro y1 y2
  refine Keeps.ite (fun _ => State.spdmSay_keeps (hF.of rfl) y2) (fun _ => ?_)
  extract_lets +onlyGivenNames x3
  clear_value x3
  exact State.spdmSay_keeps (hF.of rfl) (State.sec!_keeps (hF.of rfl) y2)

theorem execFinish_keeps {F : Nat} {s0 s : State} {a1 a2 a3} (hF : Sub 0x400400000 F) (h : Keeps F s0 s) :
    KeepsX F s0 (execFinish a1 a2 a3 s) := by
  unfold execFinish
  refine KeepsX.next ?_
  refine State.inSess_keeps (hF.of rfl) h ?_
  intro y1 y2
  exact State.spdmSay_keeps (hF.of rfl) (State.updSess_keeps (hF.of rfl) y2)

theorem execHeartbeat_keeps {F : Nat} {s0 s : State} {a1 a2} (hF : Sub 0x400000000 F) (h : Keeps F s0 s) :
    KeepsX F s0 (execHeartbeat a1 a2 s) := by
  unfold execHeartbeat
  refine KeepsX.next ?_
  refine State.inSess_keeps (hF.of rfl) h ?_
  intro y1 y2
  exact State.spdmSay_keeps (hF.of rfl) y2

theorem execKeyUpdate_keeps {F : Nat} {s0 s : State} {a1 a2} (hF : Sub 0x400400000 F) (h : Keeps F s0 s) :
    KeepsX F s0 (execKeyUpdate a1 a2 s) := by
  unfold execKeyUpdate
  refine KeepsX.next ?_
  refine State.inSess_keeps (hF.of rfl) h ?_
  intro y1 y2
  exact State.spdmSay_keeps (hF.of rfl) (State.updSess_keeps (hF.of rfl) y2)

theorem execEndSession_keeps {F : Nat} {s0 s : State} {a1 a2} (hF : Sub 0x400400000 F) (h : Keeps F s0 s) :
    KeepsX F s0 (execEndSession a1 a2 s) := by
  unfold execEndSession
  refine KeepsX.next ?_
  refine State.inSess_keeps (hF.of rfl) h ?_
  intro y1 y2
  exact State.spdmSay_keeps (hF.of rfl) (State.sec!_keeps (hF.of rfl) y2)

theorem execDownload_keeps {F : Nat} {s0 s : State} (hF : Sub 0x100000000060000000000000000000000000000400600001 F) (h : Keeps F s0 s) :
    KeepsX F s0 (execDownload s) := by
  unfold execDownload
  exact KeepsX.next (State.fwGo_keeps (hF.of rfl) h)

theorem execVerify_keeps {F : Nat} {s0 s : State} (hF : Sub 0x100000000060000000000000000000000000000400600001 F) (h : Keeps F s0 s) :
    KeepsX F s0 (execVerify s) := by
  unfold execVerify
  exact KeepsX.next (State.fwGo_keeps (hF.of rfl) h)

theorem execActivate_keeps {F : Nat} {s0 s : State} (hF : Sub 0x100000000060000000000000000000000000000400600001 F) (h : Keeps F s0 s) :
    KeepsX F s0 (execActivate s) := by
  unfold execActivate
  exact KeepsX.next (State.fwGo_keeps (hF.of rfl) h)

theorem execConfirm_keeps {F : Nat} {s0 s : State} (hF : Sub 0x100000000060000000000000000000000000000400600001 F) (h : Keeps F s0 s) :
    KeepsX F s0 (execConfirm s) := by
  unfold execConfirm
  exact KeepsX.next (State.fwGo_keeps (hF.of rfl) h)

theorem execFwupEnd_keeps {F : Nat} {s0 s : State} {a1} (hF : Sub 0x100000000060000000000000000000000000000400600001 F) (h : Keeps F s0 s) :
    KeepsX F s0 (execFwupEnd a1 s) := by
  unfold execFwupEnd
  exact KeepsX.next (State.fwEnd_keeps (hF.of rfl) h)

end Sys2Proof.Machine
end

