-- ==== Sys2Proof/Laws/KeepsBringup.lean ====
section
/-! SUPPORT. What the operations of Machine/Bringup.lean keep (Laws/Keeps.lean): one lemma for each. -/

namespace Sys2Proof.Machine

open Sys2Proof

theorem State.chip!_keeps {F : Nat} {s0 s : State} {a1} (hF : Sub 0x10 F) (h : Keeps F s0 s) :
    Keeps F s0 (State.chip! s a1) := by
  unfold State.chip!
  exact Keeps.setChip h (hF.of rfl)

theorem State.avsWrite_keeps {F : Nat} {s0 s : State} {a1 a2} (hF : Sub 0x2012000007e2000000000000000000000000010004049b8019 F) (h : Keeps F s0 s) :
    Keeps F s0 (State.avsWrite s a1 a2) := by
  unfold State.avsWrite
  extract_lets +onlyGivenNames x1 x2
  clear_value x1 x2
  extract_lets +onlyGivenNames x3
  have h4 : Keeps F s0 x3 := Keeps.foldl h (fun x5 e6 h7 => State.emit_keeps (hF.of rfl) h7)
  clear_value x3
  extract_lets +onlyGivenNames x8
  have h9 : Keeps F s0 x8 := State.count_keeps (hF.of rfl) (R.CNT_TEL_in (hF.of rfl)) h4
  clear_value x8
  refine Keeps.ite (fun _ => State.raise_keeps (hF.of rfl) h9) (fun _ => ?_)
  exact State.wrFs_keeps (hF.of rfl) (R.CRC_AVS_in (hF.of rfl)) h9

theorem State.writeCclk_keeps {F : Nat} {s0 s : State} {a1 a2} (hF : Sub 0x2012000007e2000000000000000000000000010204049b8019 F) (h : Keeps F s0 s) :
    Keeps F s0 (State.writeCclk s a1 a2) := by
  unfold State.writeCclk
  extract_lets +onlyGivenNames x1 x2 x3
  clear_value x1 x2 x3
  refine Keeps.ite (fun _ => State.event_keeps (hF.of rfl) (State.regErr_keeps (hF.of rfl) h)) (fun _ => ?_)
  extract_lets +onlyGivenNames x4
  have h5 : Keeps F s0 x4 := State.wrFs_keeps (hF.of rfl) (R.CRC_CCLK_SELECT_in (hF.of rfl)) h
  clear_value x4
  extract_lets +onlyGivenNames x6
  have h7 : Keeps F s0 x6 := State.chip!_keeps (hF.of rfl) h5
  clear_value x6
  exact Keeps.ite (fun _ => State.avsWrite_keeps (hF.of rfl) h7) (fun _ => h7)

theorem execCclkFreqWrite_keeps {F : Nat} {s0 s : State} {a1 a2 a3 a4} (hF : Sub 0x2012000007e2000000000000000000000000010204049b8019 F) (h : Keeps F s0 s) :
    KeepsX F s0 (execCclkFreqWrite a1 a2 a3 a4 s) := by
  unfold execCclkFreqWrite
  exact KeepsX.next (Keeps.ite (fun _ => State.writeCclk_keeps (hF.of rfl) h) (fun _ => h))

theorem execCclkRelockDone_keeps {F : Nat} {s0 s : State} {a1 a2 a3} (hF : Sub 0x2012000007e2000000000000000000000000010204049b8019 F) (h : Keeps F s0 s) :
    KeepsX F s0 (execCclkRelockDone a1 a2 a3 s) := by
  unfold execCclkRelockDone
  refine KeepsX.next ?_
  refine Keeps.ite (fun _ => h) (fun _ => ?_)
  extract_lets +onlyGivenNames x1
  have h2 : Keeps F s0 x1 := State.wrFs_keeps (hF.of rfl) (R.CRC_CCLK_SELECT_in (hF.of rfl)) h
  clear_value x1
  exact Keeps.ite (fun _ => State.avsWrite_keeps (hF.of rfl) (State.chip!_keeps (hF.of rfl) h2)) (fun _ => h2)

theorem execDroopTrip_keeps {F : Nat} {s0 s : State} {a1} (hF : Sub 0x10000007e0000000000000000000000000000004049b8019 F) (h : Keeps F s0 s) :
    KeepsX F s0 (execDroopTrip a1 s) := by
  unfold execDroopTrip
  refine KeepsX.next ?_
  refine Keeps.ite (fun _ => h) (fun _ => ?_)
  extract_lets +onlyGivenNames x1
  have h2 : Keeps F s0 x1 := State.count_keeps (hF.of rfl) (R.CNT_GLB_in (hF.of rfl)) (State.chip!_keeps (hF.of rfl) h)
  clear_value x1
  exact Keeps.ite (fun _ => h2) (fun _ => State.event_keeps (hF.of rfl) (State.updPart_keeps (hF.of rfl) h2))

theorem execDroopStretchEnd_keeps {F : Nat} {s0 s : State} {a1} (hF : Sub 0x100000000000000000000000000000000000000000000011 F) (h : Keeps F s0 s) :
    KeepsX F s0 (execDroopStretchEnd a1 s) := by
  unfold execDroopStretchEnd
  refine KeepsX.next ?_
  refine Keeps.ite (fun _ => ?_) (fun _ => h)
  exact State.count_keeps (hF.of rfl) (R.CNT_GLB_in (hF.of rfl)) (State.chip!_keeps (hF.of rfl) h)

theorem execFenceRequest_keeps {F : Nat} {s0 s : State} {a1} (hF : Sub 0x1000002fe20000000000000000000000000101c4049b8219 F) (h : Keeps F s0 s) :
    KeepsX F s0 (execFenceRequest a1 s) := by
  unfold execFenceRequest
  exact KeepsX.next (State.fenceRequest_keeps (hF.of rfl) h)

theorem execMeshLaneFail_keeps {F : Nat} {s0 s : State} {a1 a2 a3 a4 a5} (hF : Sub 0x10000027e2000000000000000000000000010004049b8219 F) (h : Keeps F s0 s) :
    KeepsX F s0 (execMeshLaneFail a1 a2 a3 a4 a5 s) := by
  unfold execMeshLaneFail
  exact KeepsX.next (State.meshLaneFail_keeps (hF.of rfl) h)

theorem execBridgeModuleFail_keeps {F : Nat} {s0 s : State} {a1 a2 a3} (hF : Sub 0x10000027e2000000000000000000000000010004049b8219 F) (h : Keeps F s0 s) :
    KeepsX F s0 (execBridgeModuleFail a1 a2 a3 s) := by
  unfold execBridgeModuleFail
  exact KeepsX.next (State.bridgeModuleFail_keeps (hF.of rfl) h)

theorem execTsvLaneFail_keeps {F : Nat} {s0 s : State} {a1 a2} (hF : Sub 0x10000007e2000000000000000000000000010004049b8019 F) (h : Keeps F s0 s) :
    KeepsX F s0 (execTsvLaneFail a1 a2 s) := by
  unfold execTsvLaneFail
  refine KeepsX.next ?_
  refine Keeps.ite (fun _ => h) (fun _ => ?_)
  extract_lets +onlyGivenNames x1
  clear_value x1
  exact Keeps.ite (fun _ => State.raise_keeps (hF.of rfl) h) (fun _ => State.event_keeps (hF.of rfl) h)

theorem State.putSaved_keeps {F : Nat} {s0 s : State} {a1} (hF : Sub 0x400000 F) (h : Keeps F s0 s) :
    Keeps F s0 (State.putSaved s a1) := by
  unfold State.putSaved
  extract_lets +onlyGivenNames x1 x2 x3
  clear_value x1 x2 x3
  exact State.sec!_keeps (hF.of rfl) h

theorem State.saveRepairs_keeps {F : Nat} {s0 s : State} (hF : Sub 0x400000 F) (h : Keeps F s0 s) :
    Keeps F s0 (State.saveRepairs s) := by
  unfold State.saveRepairs
  refine Keeps.ite (fun _ => h) (fun _ => ?_)
  extract_lets +onlyGivenNames x1 x2 x3 x4
  clear_value x1 x2 x3 x4
  exact State.putSaved_keeps (hF.of rfl) h

theorem State.setMemResult_keeps {F : Nat} {s0 s : State} {a1 a2} (hF : Sub 0x20000000000000000000000000000000000000000001 F) (h : Keeps F s0 s) :
    Keeps F s0 (State.setMemResult s a1 a2) := by
  unfold State.setMemResult
  exact State.wr_keeps (hF.of rfl) (R.GLB_MEMTEST_RESULT_in (hF.of rfl)) h

theorem State.routineDone_keeps {F : Nat} {s0 s : State} {a1 a2 a3} (hF : Sub 0x10000000000000000000000000000000000800000001 F) (h : Keeps F s0 s) :
    Keeps F s0 (State.routineDone s a1 a2 a3) := by
  unfold State.routineDone
  extract_lets +onlyGivenNames x1
  clear_value x1
  split
  rename_i z2 z3 z4 z5
  have h6 : Keeps F s0 z4 := Keeps.ofSnd z5 (State.takeFree_keeps (hF.of rfl) h)
  exact State.wrFs_keeps (hF.of rfl) (R.GLB_BRINGUP_STATUS_in (hF.of rfl)) h6

theorem State.writeBringup_keeps {F : Nat} {s0 s : State} {a1} (hF : Sub 0xc10001807e000000000003400000000000000000c0c9b8019 F) (h : Keeps F s0 s) :
    Keeps F s0 (State.writeBringup s a1) := by
  unfold State.writeBringup
  refine Keeps.ite (fun _ => State.wr_keeps (hF.of rfl) (R.GLB_BRINGUP_CMD_in (hF.of rfl)) h) (fun _ => ?_)
  refine Keeps.ite (fun _ => State.regErr_keeps (hF.of rfl) h) (fun _ => ?_)
  extract_lets +onlyGivenNames x1
  have h2 : Keeps F s0 x1 := State.wr_keeps (hF.of rfl) (R.GLB_BRINGUP_CMD_in (hF.of rfl)) h
  clear_value x1
  extract_lets +onlyGivenNames x3 x4
  clear_value x3 x4
  refine Keeps.ite (fun _ => State.routineDone_keeps (hF.of rfl) h2) (fun _ => ?_)
  extract_lets +onlyGivenNames x5
  clear_value x5
  extract_lets +onlyGivenNames x6
  have h7 : Keeps F s0 x6 := State.wrFs_keeps (hF.of rfl) (R.GLB_BRINGUP_STATUS_in (hF.of rfl)) h2
  clear_value x6
  extract_lets +onlyGivenNames x8
  have h9 : Keeps F s0 x8 := State.chip!_keeps (hF.of rfl) h7
  clear_value x8
  refine Keeps.ite (fun _ => ?_) (fun _ => h9)
  refine Keeps.foldl h9 (fun x10 e11 h12 => ?_)
  extract_lets +onlyGivenNames x13 x14
  clear_value x13 x14
  exact State.portEnable_keeps (hF.of rfl) (State.updPort_keeps (hF.of rfl) h12)

theorem State.loadFuses_keeps {F : Nat} {s0 s : State} {a1} (hF : Sub 0x20000000000000000400000000000001c000000201 F) (h : Keeps F s0 s) :
    Keeps F s0 (State.loadFuses s a1) := by
  unfold State.loadFuses
  extract_lets +onlyGivenNames x1 x2 x3
  clear_value x1 x2 x3
  extract_lets +onlyGivenNames x4
  have h5 : Keeps F s0 x4 := by
    unfold x4
    refine Keeps.foldl h (fun x6 e7 h8 => ?_)
    split
    · exact Keeps.ite (fun _ => Keeps.setPhys h8 (hF.of rfl)) (fun _ => h8)
    · exact Keeps.ite (fun _ => Keeps.setPhys h8 (hF.of rfl)) (fun _ => h8)
    · extract_lets +onlyGivenNames x9 x10
      clear_value x9 x10
      refine Keeps.ite (fun _ => ?_) (fun _ => h8)
      extract_lets +onlyGivenNames x11 x12 x13
      clear_value x11 x12 x13
      exact State.wrF_keeps (hF.of rfl) (R.GLB_SPARE_STATUS_in (hF.of rfl)) (Keeps.setPhys h8 (hF.of rfl))
    · extract_lets +onlyGivenNames x14 x15
      clear_value x14 x15
      refine Keeps.ite (fun _ => ?_) (fun _ => h8)
      extract_lets +onlyGivenNames x16 x17 x18
      clear_value x16 x17 x18
      exact State.wrF_keeps (hF.of rfl) (R.GLB_SPARE_STATUS_in (hF.of rfl)) (Keeps.setPhys h8 (hF.of rfl))
    · refine Keeps.ite (fun _ => ?_) (fun _ => h8)
      exact State.wrF_keeps (hF.of rfl) (R.GLB_SPARE_STATUS_in (hF.of rfl)) (Keeps.setPhys h8 (hF.of rfl))
    · exact Keeps.ite (fun _ => State.wrF_keeps (hF.of rfl) (R.AKC_ENGINES_in (hF.of rfl)) h8) (fun _ => h8)
    · exact Keeps.ite (fun _ => State.wrF_keeps (hF.of rfl) (R.AKC_ENGINES_in (hF.of rfl)) h8) (fun _ => h8)
    · exact h8
  clear_value x4
  extract_lets +onlyGivenNames x19
  have h20 : Keeps F s0 x19 := State.akcJoin_keeps (hF.of rfl) h5
  clear_value x19
  extract_lets +onlyGivenNames x21
  have h22 : Keeps F s0 x21 := State.wrF_keeps (hF.of rfl) (R.GLB_REMAP_STATUS_in (hF.of rfl)) h20
  clear_value x21
  extract_lets +onlyGivenNames x23
  have h24 : Keeps F s0 x23 := by
    unfold x23
    refine Keeps.foldl h22 (fun x25 e26 h27 => ?_)
    extract_lets +onlyGivenNames x28
    extract_lets +onlyGivenNames x29
    clear_value x29
    refine Keeps.ite (fun _ => ?_) (fun _ => ?_)
    · refine Keeps.ite (fun _ => ?_) (fun _ => State.wr_keeps (hF.of rfl) (R.CLU_CORE_REMAP_in (hF.of rfl)) h27)
      extract_lets +onlyGivenNames x30
      extract_lets +onlyGivenNames x31
      clear_value x31
      exact State.setDieGroup_keeps (hF.of rfl) (State.wr_keeps (hF.of rfl) (R.CLU_CORE_REMAP_in (hF.of rfl)) h27)
    · extract_lets +onlyGivenNames x32
      clear_value x32
      exact State.wr_keeps (hF.of rfl) (R.CLU_CORE_REMAP_in (hF.of rfl)) h27
  clear_value x23
  exact Keeps.foldl h24 (fun x33 e34 h35 => State.syncSpares_keeps (hF.of rfl) h35)

theorem State.clearUnit_keeps {F : Nat} {s0 s : State} {a1} (hF : Sub 0x6 F) (h : Keeps F s0 s) :
    Keeps F s0 (State.clearUnit s a1) := by
  exact Keeps.setGran (s := { s with mem := _ }) (h.setMem (hF.of rfl) (fun i => Sp.wf_clearRange i _ _)) (hF.of rfl)
    (fun i => Sp.wf_clearRange i _ _)

theorem State.setRepairQueued_keeps {F : Nat} {s0 s : State} {a1} (hF : Sub 0xc0000000000000000001 F) (h : Keeps F s0 s) :
    Keeps F s0 (State.setRepairQueued s a1) := by
  unfold State.setRepairQueued
  extract_lets +onlyGivenNames x1
  clear_value x1
  refine Keeps.ite (fun _ => ?_) (fun _ => State.wrF_keeps (hF.of rfl) (R.BLK_STATUS_in (hF.of rfl)) h)
  exact State.wrF_keeps (hF.of rfl) (R.HBM_STATUS_in (hF.of rfl)) h

theorem State.trainUnit_keeps {F : Nat} {s0 s : State} {a1 a2} (hF : Sub 0x100000000000000000000000c0000000000000001017 F) (h : Keeps F s0 s) :
    Keeps F s0 (State.trainUnit s a1 a2) := by
  unfold State.trainUnit
  extract_lets +onlyGivenNames x1
  clear_value x1
  extract_lets +onlyGivenNames x2
  have h3 : Keeps F s0 x2 := Keeps.ite (fun _ => Keeps.setRepair h (hF.of rfl)) (fun _ => Keeps.setRepair h (hF.of rfl))
  clear_value x2
  extract_lets +onlyGivenNames x4
  have h5 : Keeps F s0 x4 := State.setRepairQueued_keeps (hF.of rfl) h3
  clear_value x4
  extract_lets +onlyGivenNames x6
  have h7 : Keeps F s0 x6 := by
    unfold x6
    refine Keeps.ite (fun _ => ?_) (fun _ => h5)
    exact State.wrF_keeps (hF.of rfl) (R.GLB_BRINGUP_STATUS_in (hF.of rfl)) (State.clearUnit_keeps (hF.of rfl) h5)
  clear_value x6
  exact State.chip!_keeps (hF.of rfl) h7

theorem State.memTestUnit_keeps {F : Nat} {s0 s : State} {a1 a2 a3} (hF : Sub 0x200000000000000000000000c0000000000000001017 F) (h : Keeps F s0 s) :
    Keeps F s0 (State.memTestUnit s a1 a2 a3) := by
  unfold State.memTestUnit
  extract_lets +onlyGivenNames x1
  have h2 : Keeps F s0 x1 := State.clearUnit_keeps (hF.of rfl) h
  clear_value x1
  extract_lets +onlyGivenNames x3
  have h4 : Keeps F s0 x3 := Keeps.foldl h2 (fun x5 e6 h7 => State.queueRepair_keeps (hF.of rfl) h7)
  clear_value x3
  extract_lets +onlyGivenNames x8 x9
  clear_value x8 x9
  extract_lets +onlyGivenNames x10
  have h11 : Keeps F s0 x10 := State.setMemResult_keeps (hF.of rfl) h4
  clear_value x10
  refine Keeps.ite (fun _ => h11) (fun _ => ?_)
  extract_lets +onlyGivenNames x12
  have h13 : Keeps F s0 x12 := by
    unfold x12
    refine Keeps.ite (fun _ => ?_) (fun _ => State.wrF_keeps (hF.of rfl) (R.BLK_STATUS_in (hF.of rfl)) h11)
    exact State.wrF_keeps (hF.of rfl) (R.HBM_STATUS_in (hF.of rfl)) h11
  clear_value x12
  exact State.chip!_keeps (hF.of rfl) h13

theorem State.goReady_keeps {F : Nat} {s0 s : State} (hF : Sub 0x2000000000000000000c0000001000000000011 F) (h : Keeps F s0 s) :
    Keeps F s0 (State.goReady s) := by
  unfold State.goReady
  extract_lets +onlyGivenNames x1
  have h2 : Keeps F s0 x1 := by
    unfold x1
    refine Keeps.foldl h (fun x3 e4 h5 => ?_)
    exact Keeps.ite (fun _ => State.wrFs_keeps (hF.of rfl) (R.BLK_STATUS_in (hF.of rfl)) h5) (fun _ => h5)
  clear_value x1
  extract_lets +onlyGivenNames x6
  have h7 : Keeps F s0 x6 := State.wrF_keeps (hF.of rfl) (R.GLB_STATE_in (hF.of rfl)) h2
  clear_value x6
  extract_lets +onlyGivenNames x8
  have h9 : Keeps F s0 x8 := State.chip!_keeps (hF.of rfl) h7
  clear_value x8
  extract_lets +onlyGivenNames x10
  have h11 : Keeps F s0 x10 := by
    unfold x10
    refine Keeps.foldl h9 (fun x12 e13 h14 => ?_)
    exact Keeps.ite (fun _ => h14) (fun _ => State.wrF_keeps (hF.of rfl) (R.GLB_PART_CONFIG_in (hF.of rfl)) h14)
  clear_value x10
  refine Keeps.foldl (State.syncChip_keeps (hF.of rfl) h11) (fun x15 e16 h17 => ?_)
  exact Keeps.ite (fun _ => State.setScrubActive_keeps (hF.of rfl) h17) (fun _ => h17)

theorem State.routineWork_keeps {F : Nat} {s0 s : State} {a1 a2} (hF : Sub 0x2012003027e2000000000000040000c000000103c404db921f F) (h : Keeps F s0 s) :
    KeepsP F s0 (State.routineWork s a1 a2) := by
  unfold State.routineWork
  extract_lets +onlyGivenNames x1
  clear_value x1
  extract_lets +onlyGivenNames x2
  extract_lets +onlyGivenNames x3 x4
  clear_value x3 x4
  split
  · refine KeepsP.ite (fun _ => KeepsP.some (State.loadFuses_keeps (hF.of rfl) h)) (fun _ => ?_)
    exact KeepsP.some (State.wrF_keeps (hF.of rfl) (R.GLB_REMAP_STATUS_in (hF.of rfl)) h)
  · extract_lets +onlyGivenNames x5
    clear_value x5
    extract_lets +onlyGivenNames x6
    have h7 : Keeps F s0 x6 := Keeps.foldl h (fun x8 e9 h10 => State.avsWrite_keeps (hF.of rfl) h10)
    clear_value x6
    extract_lets +onlyGivenNames x11 x12
    clear_value x11 x12
    extract_lets +onlyGivenNames x13
    have h14 : Keeps F s0 x13 := Keeps.foldl h7 (fun x15 e16 h17 => State.event_keeps (hF.of rfl) h17)
    clear_value x13
    extract_lets +onlyGivenNames x18
    have h19 : Keeps F s0 x18 := State.avsWrite_keeps (hF.of rfl) h14
    clear_value x18
    extract_lets +onlyGivenNames x20
    clear_value x20
    extract_lets +onlyGivenNames x21
    have h22 : Keeps F s0 x21 := State.wrF_keeps (hF.of rfl) (R.CRC_CCLK_SELECT_in (hF.of rfl)) h19
    clear_value x21
    extract_lets +onlyGivenNames x23
    have h24 : Keeps F s0 x23 := by
      unfold x23
      refine Keeps.ite (fun _ => ?_) (fun _ => h22)
      exact State.chip!_keeps (hF.of rfl) (State.wrFs_keeps (hF.of rfl) (R.CRC_CCLK_SELECT_in (hF.of rfl)) h22)
    clear_value x23
    exact KeepsP.some h24
  · extract_lets +onlyGivenNames x25
    have h26 : Keeps F s0 x25 := by
      unfold x25
      refine Keeps.foldl h (fun x27 e28 h29 => ?_)
      refine Keeps.ite (fun _ => h29) (fun _ => ?_)
      extract_lets +onlyGivenNames x30
      have h31 : Keeps F s0 x30 := by
        exact State.wrF_keeps (hF.of rfl) (R.HBM_STATUS_in (hF.of rfl)) (State.trainUnit_keeps (hF.of rfl) h29)
      clear_value x30
      exact Keeps.ite (fun _ => State.wrF_keeps (hF.of rfl) (R.HBM_STATUS_in (hF.of rfl)) h31) (fun _ => h31)
    clear_value x25
    exact KeepsP.some h26
  · extract_lets +onlyGivenNames x32 x33
    clear_value x32 x33
    extract_lets +onlyGivenNames x34
    have h35 : Keeps F s0 x34 := by
      unfold x34
      refine Keeps.foldl h (fun x36 e37 h38 => ?_)
      extract_lets +onlyGivenNames x39
      clear_value x39
      split
      · exact State.wrFs_keeps (hF.of rfl) (R.BLK_STATUS_in (hF.of rfl)) h38
      · refine Keeps.ite (fun _ => State.wrFs_keeps (hF.of rfl) (R.BLK_STATUS_in (hF.of rfl)) h38) (fun _ => ?_)
        extract_lets +onlyGivenNames x40
        clear_value x40
        extract_lets +onlyGivenNames x41
        have h42 : Keeps F s0 x41 := State.chip!_keeps (hF.of rfl) h38
        clear_value x41
        extract_lets +onlyGivenNames x43
        have h44 : Keeps F s0 x43 := State.trainUnit_keeps (hF.of rfl) h42
        clear_value x43
        exact State.wrFs_keeps (hF.of rfl) (R.BLK_STATUS_in (hF.of rfl)) h44
    clear_value x34
    exact KeepsP.some h35
  · extract_lets +onlyGivenNames x45 x46
    clear_value x45 x46
    refine KeepsP.ite (fun _ => KeepsP.none) (fun _ => ?_)
    extract_lets +onlyGivenNames x47
    have h48 : Keeps F s0 x47 := State.chip!_keeps (hF.of rfl) h
    clear_value x47
    exact KeepsP.some h48
  · exact KeepsP.some (Keeps.foldl h (fun x49 e50 h51 => State.memTestUnit_keeps (hF.of rfl) h51))
  · exact KeepsP.ite (fun _ => KeepsP.some h) (fun _ => KeepsP.ite (fun _ => KeepsP.some h) (fun _ => KeepsP.none))
  · exact KeepsP.ite (fun _ => KeepsP.some h) (fun _ => KeepsP.some (State.putSaved_keeps (hF.of rfl) h))
  · exact KeepsP.ite (fun _ => KeepsP.some h) (fun _ => KeepsP.some (State.putSaved_keeps (hF.of rfl) h))
  · extract_lets +onlyGivenNames x52
    clear_value x52
    exact KeepsP.ite (fun _ => KeepsP.some (State.goReady_keeps (hF.of rfl) h)) (fun _ => KeepsP.some h)
  · exact KeepsP.none

theorem State.routineEnd_keeps {F : Nat} {s0 s : State} {a1} (hF : Sub 0x2012003027e2000000000000040000c000000103cc04db921f F) (h : Keeps F s0 s) :
    Keeps F s0 (State.routineEnd s a1) := by
  unfold State.routineEnd
  refine Keeps.ite (fun _ => h) (fun _ => ?_)
  split
  · rename_i z1 z2 z3 z4 z5
    have h6 : Keeps F s0 z2 := KeepsP.of' z5 (State.routineWork_keeps (hF.of rfl) h)
    exact State.routineDone_keeps (hF.of rfl) h6
  · rename_i z7 z8
    exact h

theorem State.goRoutine_keeps {F : Nat} {s0 s : State} {a1 a2 a3 a4 a5 a6} (hF : Sub 0xc10001807e000000000003400000000000000000c0c9b8019 F) (h : Keeps F s0 s) :
    Keeps F s0 (State.goRoutine s a1 a2 a3 a4 a5 a6) := by
  unfold State.goRoutine
  exact State.writeBringup_keeps (hF.of rfl) h

theorem execFuseLoad_keeps {F : Nat} {s0 s : State} (hF : Sub 0xc10001807e000000000003400000000000000000c0c9b8019 F) (h : Keeps F s0 s) :
    KeepsX F s0 (execFuseLoad s) := by
  unfold execFuseLoad
  exact KeepsX.next (State.goRoutine_keeps (hF.of rfl) h)

theorem execBridgeTrain_keeps {F : Nat} {s0 s : State} {a1} (hF : Sub 0xc10001807e000000000003400000000000000000c0c9b8019 F) (h : Keeps F s0 s) :
    KeepsX F s0 (execBridgeTrain a1 s) := by
  unfold execBridgeTrain
  exact KeepsX.next (State.goRoutine_keeps (hF.of rfl) h)

theorem execHbmTrain_keeps {F : Nat} {s0 s : State} {a1 a2} (hF : Sub 0xc10001807e000000000003400000000000000000c0c9b8019 F) (h : Keeps F s0 s) :
    KeepsX F s0 (execHbmTrain a1 a2 s) := by
  unfold execHbmTrain
  exact KeepsX.next (State.goRoutine_keeps (hF.of rfl) h)

theorem execBulkTrain_keeps {F : Nat} {s0 s : State} {a1 a2} (hF : Sub 0xc10001807e000000000003400000000000000000c0c9b8019 F) (h : Keeps F s0 s) :
    KeepsX F s0 (execBulkTrain a1 a2 s) := by
  unfold execBulkTrain
  exact KeepsX.next (State.goRoutine_keeps (hF.of rfl) h)

theorem execOpticsUp_keeps {F : Nat} {s0 s : State} {a1 a2} (hF : Sub 0xc10001807e000000000003400000000000000000c0c9b8019 F) (h : Keeps F s0 s) :
    KeepsX F s0 (execOpticsUp a1 a2 s) := by
  unfold execOpticsUp
  exact KeepsX.next (State.goRoutine_keeps (hF.of rfl) h)

theorem execMemTest_keeps {F : Nat} {s0 s : State} {a1 a2 a3} (hF : Sub 0xc10001807e000000000003400000000000000000c0c9b8019 F) (h : Keeps F s0 s) :
    KeepsX F s0 (execMemTest a1 a2 a3 s) := by
  unfold execMemTest
  exact KeepsX.next (State.goRoutine_keeps (hF.of rfl) h)

theorem execDiscover_keeps {F : Nat} {s0 s : State} {a1} (hF : Sub 0xc10001807e000000000003400000000000000000c0c9b8019 F) (h : Keeps F s0 s) :
    KeepsX F s0 (execDiscover a1 s) := by
  unfold execDiscover
  exact KeepsX.next (State.goRoutine_keeps (hF.of rfl) h)

theorem execSaveSettings_keeps {F : Nat} {s0 s : State} (hF : Sub 0xc10001807e000000000003400000000000000000c0c9b8019 F) (h : Keeps F s0 s) :
    KeepsX F s0 (execSaveSettings s) := by
  unfold execSaveSettings
  exact KeepsX.next (State.goRoutine_keeps (hF.of rfl) h)

theorem execClearSettings_keeps {F : Nat} {s0 s : State} (hF : Sub 0xc10001807e000000000003400000000000000000c0c9b8019 F) (h : Keeps F s0 s) :
    KeepsX F s0 (execClearSettings s) := by
  unfold execClearSettings
  exact KeepsX.next (State.goRoutine_keeps (hF.of rfl) h)

theorem execReady_keeps {F : Nat} {s0 s : State} (hF : Sub 0xc10001807e000000000003400000000000000000c0c9b8019 F) (h : Keeps F s0 s) :
    KeepsX F s0 (execReady s) := by
  unfold execReady
  exact KeepsX.next (State.goRoutine_keeps (hF.of rfl) h)

theorem execRoutineEnd_keeps {F : Nat} {s0 s : State} {a1} (hF : Sub 0x2012003027e2000000000000040000c000000103cc04db921f F) (h : Keeps F s0 s) :
    KeepsX F s0 (execRoutineEnd a1 s) := by
  unfold execRoutineEnd
  exact KeepsX.next (State.routineEnd_keeps (hF.of rfl) h)

theorem execDiscoverTimeout_keeps {F : Nat} {s0 s : State} (hF : Sub 0x10000000000000000000000000000000000800000001 F) (h : Keeps F s0 s) :
    KeepsX F s0 (execDiscoverTimeout s) := by
  unfold execDiscoverTimeout
  exact KeepsX.next (Keeps.ite (fun _ => State.routineDone_keeps (hF.of rfl) h) (fun _ => h))

end Sys2Proof.Machine
end

