-- ==== Sys2Proof/Laws/KeepsManage.lean ====
section
/-! SUPPORT. What the operations of Machine/Manage.lean keep (Laws/Keeps.lean): one lemma for each. -/

namespace Sys2Proof.Machine

open Sys2Proof

theorem State.mgt!_keeps {F : Nat} {s0 s : State} {a1} (hF : Sub 0x800000 F) (h : Keeps F s0 s) :
    Keeps F s0 (State.mgt! s a1) := by
  unfold State.mgt!
  exact Keeps.setMgt h (hF.of rfl)

theorem State.pkg!_keeps {F : Nat} {s0 s : State} {a1} (hF : Sub 0x2000000 F) (h : Keeps F s0 s) :
    Keeps F s0 (State.pkg! s a1) := by
  unfold State.pkg!
  exact Keeps.setPkg h (hF.of rfl)

theorem State.tel!_keeps {F : Nat} {s0 s : State} {a1} (hF : Sub 0x1000000 F) (h : Keeps F s0 s) :
    Keeps F s0 (State.tel! s a1) := by
  unfold State.tel!
  exact Keeps.setTel h (hF.of rfl)

theorem State.ack_keeps {F : Nat} {s0 s : State} {a1} (hF : Sub 0x400000000 F) (h : Keeps F s0 s) :
    Keeps F s0 (State.ack s a1) := by
  unfold State.ack
  exact State.emit_keeps (hF.of rfl) h

theorem State.nack_keeps {F : Nat} {s0 s : State} (hF : Sub 0x400000000 F) (h : Keeps F s0 s) :
    Keeps F s0 (State.nack s) := by
  unfold State.nack
  exact State.emit_keeps (hF.of rfl) h

theorem State.loseAddr_keeps {F : Nat} {s0 s : State} (hF : Sub 0x10010007e0000000000000000000000000000004049b8009 F) (h : Keeps F s0 s) :
    Keeps F s0 (State.loseAddr s) := by
  unfold State.loseAddr
  extract_lets +onlyGivenNames x1
  clear_value x1
  extract_lets +onlyGivenNames x2
  have h3 : Keeps F s0 x2 := State.wrFs_keeps (hF.of rfl) (R.MGT_I3C_STATUS_in (hF.of rfl)) h
  clear_value x2
  extract_lets +onlyGivenNames x4
  have h5 : Keeps F s0 x4 := State.mgt!_keeps (hF.of rfl) h3
  clear_value x4
  exact Keeps.ite (fun _ => State.event_keeps (hF.of rfl) h5) (fun _ => h5)

theorem execEntdaa_keeps {F : Nat} {s0 s : State} {a1} (hF : Sub 0x10010007e0000000000000000000000000000004049b8009 F) (h : Keeps F s0 s) :
    KeepsX F s0 (execEntdaa a1 s) := by
  unfold execEntdaa
  refine KeepsX.next ?_
  refine Keeps.ite (fun _ => h) (fun _ => ?_)
  extract_lets +onlyGivenNames x1
  have h2 : Keeps F s0 x1 := State.mgt!_keeps (hF.of rfl) (State.wrF_keeps (hF.of rfl) (R.MGT_I3C_STATUS_in (hF.of rfl)) h)
  clear_value x1
  exact State.event_keeps (hF.of rfl) (State.ack_keeps (hF.of rfl) h2)

theorem execRstdaa_keeps {F : Nat} {s0 s : State} (hF : Sub 0x10010007e0000000000000000000000000000004049b8009 F) (h : Keeps F s0 s) :
    KeepsX F s0 (execRstdaa s) := by
  unfold execRstdaa
  refine KeepsX.next ?_
  exact Keeps.ite (fun _ => State.loseAddr_keeps (hF.of rfl) (State.ack_keeps (hF.of rfl) h)) (fun _ => h)

theorem State.directed_keeps {F : Nat} {s0 s : State} {a1} (_hF : Sub 0x0 F) (h : Keeps F s0 s) (hf1 : ∀ y1, Keeps F s0 y1 → Keeps F s0 (a1 y1)) :
    Keeps F s0 (State.directed s a1) := by
  unfold State.directed
  refine Keeps.ite (fun _ => ?_) (fun _ => h)
  apply hf1
  exact h

theorem execSetnewda_keeps {F : Nat} {s0 s : State} {a1} (hF : Sub 0x10010007e0000000000000000000000000000004049b8009 F) (h : Keeps F s0 s) :
    KeepsX F s0 (execSetnewda a1 s) := by
  unfold execSetnewda
  refine KeepsX.next ?_
  refine State.directed_keeps (hF.of rfl) h ?_
  intro y1 y2
  refine Keeps.ite (fun _ => State.nack_keeps (hF.of rfl) y2) (fun _ => ?_)
  refine State.event_keeps (hF.of rfl) ?_
  exact State.ack_keeps (hF.of rfl) (State.wrF_keeps (hF.of rfl) (R.MGT_I3C_STATUS_in (hF.of rfl)) y2)

theorem execGetpid_keeps {F : Nat} {s0 s : State} (hF : Sub 0x400000000 F) (h : Keeps F s0 s) :
    KeepsX F s0 (execGetpid s) := by
  unfold execGetpid
  refine KeepsX.next ?_
  refine State.directed_keeps (hF.of rfl) h ?_
  intro y1 y2
  exact State.ack_keeps (hF.of rfl) y2

theorem execGetbcr_keeps {F : Nat} {s0 s : State} (hF : Sub 0x400000000 F) (h : Keeps F s0 s) :
    KeepsX F s0 (execGetbcr s) := by
  unfold execGetbcr
  refine KeepsX.next ?_
  refine State.directed_keeps (hF.of rfl) h ?_
  intro y1 y2
  exact State.ack_keeps (hF.of rfl) y2

theorem execGetdcr_keeps {F : Nat} {s0 s : State} (hF : Sub 0x400000000 F) (h : Keeps F s0 s) :
    KeepsX F s0 (execGetdcr s) := by
  unfold execGetdcr
  refine KeepsX.next ?_
  refine State.directed_keeps (hF.of rfl) h ?_
  intro y1 y2
  exact State.ack_keeps (hF.of rfl) y2

theorem execGetstatus_keeps {F : Nat} {s0 s : State} (hF : Sub 0x400000000 F) (h : Keeps F s0 s) :
    KeepsX F s0 (execGetstatus s) := by
  unfold execGetstatus
  refine KeepsX.next ?_
  refine State.directed_keeps (hF.of rfl) h ?_
  intro y1 y2
  exact State.ack_keeps (hF.of rfl) y2

theorem execGetmrl_keeps {F : Nat} {s0 s : State} (hF : Sub 0x400000000 F) (h : Keeps F s0 s) :
    KeepsX F s0 (execGetmrl s) := by
  unfold execGetmrl
  refine KeepsX.next ?_
  refine State.directed_keeps (hF.of rfl) h ?_
  intro y1 y2
  exact State.ack_keeps (hF.of rfl) y2

theorem execSetmrl_keeps {F : Nat} {s0 s : State} {a1} (hF : Sub 0x100000000000000000000000000000000000400000001 F) (h : Keeps F s0 s) :
    KeepsX F s0 (execSetmrl a1 s) := by
  unfold execSetmrl
  refine KeepsX.next ?_
  refine Keeps.ite (fun _ => h) (fun _ => ?_)
  refine Keeps.ite (fun _ => ?_) (fun _ => State.nack_keeps (hF.of rfl) h)
  exact State.ack_keeps (hF.of rfl) (State.wrF_keeps (hF.of rfl) (R.MGT_I3C_STATUS_in (hF.of rfl)) h)

theorem execGetmwl_keeps {F : Nat} {s0 s : State} (hF : Sub 0x400000000 F) (h : Keeps F s0 s) :
    KeepsX F s0 (execGetmwl s) := by
  unfold execGetmwl
  refine KeepsX.next ?_
  refine State.directed_keeps (hF.of rfl) h ?_
  intro y1 y2
  exact State.ack_keeps (hF.of rfl) y2

theorem execSetmwl_keeps {F : Nat} {s0 s : State} {a1} (hF : Sub 0x400800000 F) (h : Keeps F s0 s) :
    KeepsX F s0 (execSetmwl a1 s) := by
  unfold execSetmwl
  refine KeepsX.next ?_
  refine Keeps.ite (fun _ => h) (fun _ => ?_)
  refine Keeps.ite (fun _ => ?_) (fun _ => State.nack_keeps (hF.of rfl) h)
  exact State.ack_keeps (hF.of rfl) (State.mgt!_keeps (hF.of rfl) h)

theorem execEnec_keeps {F : Nat} {s0 s : State} {a1 a2} (hF : Sub 0x100000000000000000000000000000000000400800001 F) (h : Keeps F s0 s) :
    KeepsX F s0 (execEnec a1 a2 s) := by
  unfold execEnec
  refine KeepsX.next ?_
  refine Keeps.ite (fun _ => h) (fun _ => ?_)
  extract_lets +onlyGivenNames x1
  have h2 : Keeps F s0 x1 := by
    exact Keeps.ite (fun _ => State.wrF_keeps (hF.of rfl) (R.MGT_I3C_STATUS_in (hF.of rfl)) h) (fun _ => h)
  clear_value x1
  exact State.ack_keeps (hF.of rfl) (Keeps.ite (fun _ => State.mgt!_keeps (hF.of rfl) h2) (fun _ => h2))

theorem execDisec_keeps {F : Nat} {s0 s : State} {a1 a2} (hF : Sub 0x100000000000000000000000000000000000400800001 F) (h : Keeps F s0 s) :
    KeepsX F s0 (execDisec a1 a2 s) := by
  unfold execDisec
  refine KeepsX.next ?_
  refine Keeps.ite (fun _ => h) (fun _ => ?_)
  extract_lets +onlyGivenNames x1
  have h2 : Keeps F s0 x1 := by
    exact Keeps.ite (fun _ => State.wrF_keeps (hF.of rfl) (R.MGT_I3C_STATUS_in (hF.of rfl)) h) (fun _ => h)
  clear_value x1
  exact State.ack_keeps (hF.of rfl) (Keeps.ite (fun _ => State.mgt!_keeps (hF.of rfl) h2) (fun _ => h2))

theorem execRstact_keeps {F : Nat} {s0 s : State} {a1} (hF : Sub 0x400800000 F) (h : Keeps F s0 s) :
    KeepsX F s0 (execRstact a1 s) := by
  unfold execRstact
  refine KeepsX.next ?_
  exact Keeps.ite (fun _ => State.ack_keeps (hF.of rfl) (State.mgt!_keeps (hF.of rfl) h)) (fun _ => h)

theorem execUnsupportedCcc_keeps {F : Nat} {s0 s : State} (hF : Sub 0x400000000 F) (h : Keeps F s0 s) :
    KeepsX F s0 (execUnsupportedCcc s) := by
  unfold execUnsupportedCcc
  exact KeepsX.next (Keeps.ite (fun _ => State.nack_keeps (hF.of rfl) h) (fun _ => h))

theorem execHotJoin_keeps {F : Nat} {s0 s : State} (hF : Sub 0x400800000 F) (h : Keeps F s0 s) :
    KeepsX F s0 (execHotJoin s) := by
  unfold execHotJoin
  refine KeepsX.next ?_
  exact Keeps.ite (fun _ => State.emit_keeps (hF.of rfl) (State.mgt!_keeps (hF.of rfl) h)) (fun _ => h)

theorem execIbi_keeps {F : Nat} {s0 s : State} (hF : Sub 0x400800000 F) (h : Keeps F s0 s) :
    KeepsX F s0 (execIbi s) := by
  unfold execIbi
  refine KeepsX.next ?_
  exact Keeps.ite (fun _ => State.emit_keeps (hF.of rfl) (State.mgt!_keeps (hF.of rfl) h)) (fun _ => h)

theorem execMctpPacketRead_keeps {F : Nat} {s0 s : State} (hF : Sub 0x400800000 F) (h : Keeps F s0 s) :
    KeepsX F s0 (execMctpPacketRead s) := by
  unfold execMctpPacketRead
  refine KeepsX.next ?_
  split
  · exact Keeps.ite (fun _ => State.emit_keeps (hF.of rfl) (State.mgt!_keeps (hF.of rfl) h)) (fun _ => h)
  · exact h

theorem State.ctrlSay_keeps {F : Nat} {s0 s : State} {a1 a2 a3 a4} (hF : Sub 0x400800000 F) (h : Keeps F s0 s) :
    Keeps F s0 (State.ctrlSay s a1 a2 a3 a4) := by
  unfold State.ctrlSay
  exact State.mctpSend_keeps (hF.of rfl) h

theorem State.ctrlIf_keeps {F : Nat} {s0 s : State} {a1 a2} (_hF : Sub 0x0 F) (h : Keeps F s0 s) (hf2 : ∀ y1, Keeps F s0 y1 → Keeps F s0 (a2 y1)) :
    Keeps F s0 (State.ctrlIf s a1 a2) := by
  unfold State.ctrlIf
  refine Keeps.ite (fun _ => ?_) (fun _ => h)
  apply hf2
  exact h

theorem execSetEndpointId_keeps {F : Nat} {s0 s : State} {a1 a2 a3 a4} (hF : Sub 0x100000000000000000000000000000000000400800001 F) (h : Keeps F s0 s) :
    KeepsX F s0 (execSetEndpointId a1 a2 a3 a4 s) := by
  unfold execSetEndpointId
  refine KeepsX.next ?_
  refine State.ctrlIf_keeps (hF.of rfl) h ?_
  intro y1 y2
  refine Keeps.ite (fun _ => State.ctrlSay_keeps (hF.of rfl) y2) (fun _ => ?_)
  exact State.ctrlSay_keeps (hF.of rfl) (State.wrF_keeps (hF.of rfl) (R.MGT_I3C_STATUS_in (hF.of rfl)) y2)

theorem execGetEndpointId_keeps {F : Nat} {s0 s : State} {a1 a2} (hF : Sub 0x400800000 F) (h : Keeps F s0 s) :
    KeepsX F s0 (execGetEndpointId a1 a2 s) := by
  unfold execGetEndpointId
  refine KeepsX.next ?_
  refine State.ctrlIf_keeps (hF.of rfl) h ?_
  intro y1 y2
  exact State.ctrlSay_keeps (hF.of rfl) y2

theorem execGetEndpointUuid_keeps {F : Nat} {s0 s : State} {a1 a2} (hF : Sub 0x400800000 F) (h : Keeps F s0 s) :
    KeepsX F s0 (execGetEndpointUuid a1 a2 s) := by
  unfold execGetEndpointUuid
  refine KeepsX.next ?_
  refine State.ctrlIf_keeps (hF.of rfl) h ?_
  intro y1 y2
  exact State.ctrlSay_keeps (hF.of rfl) y2

theorem execGetMctpVersionSupport_keeps {F : Nat} {s0 s : State} {a1 a2 a3} (hF : Sub 0x400800000 F) (h : Keeps F s0 s) :
    KeepsX F s0 (execGetMctpVersionSupport a1 a2 a3 s) := by
  unfold execGetMctpVersionSupport
  refine KeepsX.next ?_
  refine State.ctrlIf_keeps (hF.of rfl) h ?_
  intro y1 y2
  exact Keeps.ite (fun _ => State.ctrlSay_keeps (hF.of rfl) y2) (fun _ => State.ctrlSay_keeps (hF.of rfl) y2)

theorem execGetMessageTypeSupport_keeps {F : Nat} {s0 s : State} {a1 a2} (hF : Sub 0x400800000 F) (h : Keeps F s0 s) :
    KeepsX F s0 (execGetMessageTypeSupport a1 a2 s) := by
  unfold execGetMessageTypeSupport
  refine KeepsX.next ?_
  refine State.ctrlIf_keeps (hF.of rfl) h ?_
  intro y1 y2
  extract_lets +onlyGivenNames x3
  clear_value x3
  exact State.ctrlSay_keeps (hF.of rfl) y2

theorem execGetVendorDefinedMessageSupport_keeps {F : Nat} {s0 s : State} {a1 a2 a3} (hF : Sub 0x400800000 F) (h : Keeps F s0 s) :
    KeepsX F s0 (execGetVendorDefinedMessageSupport a1 a2 a3 s) := by
  unfold execGetVendorDefinedMessageSupport
  refine KeepsX.next ?_
  refine State.ctrlIf_keeps (hF.of rfl) h ?_
  intro y1 y2
  exact Keeps.ite (fun _ => State.ctrlSay_keeps (hF.of rfl) y2) (fun _ => State.ctrlSay_keeps (hF.of rfl) y2)

theorem execMctpUnknownType_keeps {F : Nat} {s0 s : State} {a1 a2} (hF : Sub 0x20000000000000000000000000000000000000000000000001 F) (h : Keeps F s0 s) :
    KeepsX F s0 (execMctpUnknownType a1 a2 s) := by
  unfold execMctpUnknownType
  refine KeepsX.next ?_
  refine State.ctrlIf_keeps (hF.of rfl) h ?_
  intro y1 y2
  exact Keeps.ite (fun _ => y2) (fun _ => State.count_keeps (hF.of rfl) (R.CNT_TEL_in (hF.of rfl)) y2)

theorem State.pldmIf_keeps {F : Nat} {s0 s : State} {a1 a2 a3 a4 a5} (hF : Sub 0x400800000 F) (h : Keeps F s0 s) (hf5 : ∀ y1, Keeps F s0 y1 → Keeps F s0 (a5 y1).1) :
    Keeps F s0 (State.pldmIf s a1 a2 a3 a4 a5) := by
  unfold State.pldmIf
  refine Keeps.ite (fun _ => h) (fun _ => ?_)
  extract_lets +onlyGivenNames x1
  have h2 : Keeps F s0 x1.1 := by
    unfold x1
    refine Keeps.iteFst (fun _ => ?_) (fun _ => Keeps.mkFst h)
    apply hf5
    exact h
  clear_value x1
  exact State.mctpSend_keeps (hF.of rfl) h2

theorem execGetTid_keeps {F : Nat} {s0 s : State} {a1 a2} (hF : Sub 0x400800000 F) (h : Keeps F s0 s) :
    KeepsX F s0 (execGetTid a1 a2 s) := by
  unfold execGetTid
  refine KeepsX.next ?_
  refine State.pldmIf_keeps (hF.of rfl) h ?_
  intro y1 y2
  exact Keeps.mkFst y2

theorem execGetPldmVersion_keeps {F : Nat} {s0 s : State} {a1 a2 a3} (hF : Sub 0x400800000 F) (h : Keeps F s0 s) :
    KeepsX F s0 (execGetPldmVersion a1 a2 a3 s) := by
  unfold execGetPldmVersion
  refine KeepsX.next ?_
  refine State.pldmIf_keeps (hF.of rfl) h ?_
  intro y1 y2
  exact Keeps.iteFst (fun _ => Keeps.mkFst y2) (fun _ => Keeps.mkFst y2)

theorem execGetPldmTypes_keeps {F : Nat} {s0 s : State} {a1 a2} (hF : Sub 0x400800000 F) (h : Keeps F s0 s) :
    KeepsX F s0 (execGetPldmTypes a1 a2 s) := by
  unfold execGetPldmTypes
  refine KeepsX.next ?_
  refine State.pldmIf_keeps (hF.of rfl) h ?_
  intro y1 y2
  exact Keeps.mkFst y2

theorem execGetPldmCommands_keeps {F : Nat} {s0 s : State} {a1 a2 a3} (hF : Sub 0x400800000 F) (h : Keeps F s0 s) :
    KeepsX F s0 (execGetPldmCommands a1 a2 a3 s) := by
  unfold execGetPldmCommands
  refine KeepsX.next ?_
  refine State.pldmIf_keeps (hF.of rfl) h ?_
  intro y1 y2
  extract_lets +onlyGivenNames x3
  clear_value x3
  split
  · exact Keeps.mkFst y2
  · exact Keeps.mkFst y2

theorem execGetSensorReading_keeps {F : Nat} {s0 s : State} {a1 a2 a3} (hF : Sub 0x400800000 F) (h : Keeps F s0 s) :
    KeepsX F s0 (execGetSensorReading a1 a2 a3 s) := by
  unfold execGetSensorReading
  refine KeepsX.next ?_
  refine State.pldmIf_keeps (hF.of rfl) h ?_
  intro y1 y2
  refine Keeps.iteFst (fun _ => Keeps.mkFst y2) (fun _ => ?_)
  extract_lets +onlyGivenNames x3
  clear_value x3
  exact Keeps.mkFst y2

theorem execGetStateSensorReadings_keeps {F : Nat} {s0 s : State} {a1 a2 a3} (hF : Sub 0x400800000 F) (h : Keeps F s0 s) :
    KeepsX F s0 (execGetStateSensorReadings a1 a2 a3 s) := by
  unfold execGetStateSensorReadings
  refine KeepsX.next ?_
  refine State.pldmIf_keeps (hF.of rfl) h ?_
  intro y1 y2
  exact Keeps.mkFst y2

theorem execGetPdr_keeps {F : Nat} {s0 s : State} {a1 a2 a3} (hF : Sub 0x400800000 F) (h : Keeps F s0 s) :
    KeepsX F s0 (execGetPdr a1 a2 a3 s) := by
  unfold execGetPdr
  refine KeepsX.next ?_
  refine State.pldmIf_keeps (hF.of rfl) h ?_
  intro y1 y2
  extract_lets +onlyGivenNames x3
  clear_value x3
  split
  · exact Keeps.mkFst y2
  · exact Keeps.mkFst y2

theorem execGetPdrRepositoryInfo_keeps {F : Nat} {s0 s : State} {a1 a2} (hF : Sub 0x400800000 F) (h : Keeps F s0 s) :
    KeepsX F s0 (execGetPdrRepositoryInfo a1 a2 s) := by
  unfold execGetPdrRepositoryInfo
  refine KeepsX.next ?_
  refine State.pldmIf_keeps (hF.of rfl) h ?_
  intro y1 y2
  exact Keeps.mkFst y2

theorem execSetEventReceiver_keeps {F : Nat} {s0 s : State} {a1 a2 a3} (hF : Sub 0x400800000 F) (h : Keeps F s0 s) :
    KeepsX F s0 (execSetEventReceiver a1 a2 a3 s) := by
  unfold execSetEventReceiver
  refine KeepsX.next ?_
  refine State.pldmIf_keeps (hF.of rfl) h ?_
  intro y1 y2
  exact Keeps.mkFst (State.mgt!_keeps (hF.of rfl) y2)

theorem execAdmitTenant_keeps {F : Nat} {s0 s : State} {a1 a2 a3 a4 a5 a6} (hF : Sub 0x400c00000 F) (h : Keeps F s0 s) :
    KeepsX F s0 (execAdmitTenant a1 a2 a3 a4 a5 a6 s) := by
  unfold execAdmitTenant
  refine KeepsX.next ?_
  refine State.pldmIf_keeps (hF.of rfl) h ?_
  intro y1 y2
  refine Keeps.iteFst (fun _ => Keeps.mkFst y2) (fun _ => ?_)
  exact Keeps.iteFst (fun _ => Keeps.mkFst y2) (fun _ => Keeps.mkFst (State.sec!_keeps (hF.of rfl) y2))

theorem State.railStatus_keeps {F : Nat} {s0 s : State} {a1 a2 a3 a4} (hF : Sub 0x10000007e2000000000000000000000000010004059b8019 F) (h : Keeps F s0 s) :
    Keeps F s0 (State.railStatus s a1 a2 a3 a4) := by
  unfold State.railStatus
  refine Keeps.ite (fun _ => h) (fun _ => ?_)
  extract_lets +onlyGivenNames x1
  clear_value x1
  extract_lets +onlyGivenNames x2
  have h3 : Keeps F s0 x2 := State.tel!_keeps (hF.of rfl) h
  clear_value x2
  extract_lets +onlyGivenNames x4
  have h5 : Keeps F s0 x4 := Keeps.foldl h3 (fun x6 e7 h8 => State.event_keeps (hF.of rfl) h8)
  clear_value x4
  exact Keeps.ite (fun _ => State.raise_keeps (hF.of rfl) h5) (fun _ => h5)

theorem State.thresholdCheck_keeps {F : Nat} {s0 s : State} {a1 a2} (hF : Sub 0x10000007e0000000000000000000000000000004059b8009 F) (h : Keeps F s0 s) :
    Keeps F s0 (State.thresholdCheck s a1 a2) := by
  unfold State.thresholdCheck
  extract_lets +onlyGivenNames x1 x2
  clear_value x1 x2
  refine Keeps.ite (fun _ => State.tel!_keeps (hF.of rfl) h) (fun _ => ?_)
  refine Keeps.ite (fun _ => ?_) (fun _ => Keeps.ite (fun _ => State.tel!_keeps (hF.of rfl) h) (fun _ => h))
  extract_lets +onlyGivenNames x3
  have h4 : Keeps F s0 x3 := State.tel!_keeps (hF.of rfl) h
  clear_value x3
  exact State.platformEvent_keeps (hF.of rfl) (State.event_keeps (hF.of rfl) h4)

theorem State.throttleStep_keeps {F : Nat} {s0 s : State} {a1} (hF : Sub 0x10000007e0000000000000000000000000000004049b8019 F) (h : Keeps F s0 s) :
    Keeps F s0 (State.throttleStep s a1) := by
  unfold State.throttleStep
  split
  refine Keeps.ite (fun _ => ?_) (fun _ => ?_)
  · refine Keeps.ite (fun _ => h) (fun _ => ?_)
    extract_lets +onlyGivenNames x1
    have h2 : Keeps F s0 x1 := State.chip!_keeps (hF.of rfl) h
    clear_value x1
    refine Keeps.ite (fun _ => h2) (fun _ => ?_)
    extract_lets +onlyGivenNames x3
    clear_value x3
    exact State.event_keeps (hF.of rfl) (State.updPart_keeps (hF.of rfl) h2)
  · refine Keeps.ite (fun _ => State.chip!_keeps (hF.of rfl) h) (fun _ => ?_)
    exact Keeps.ite (fun _ => h) (fun _ => State.chip!_keeps (hF.of rfl) h)

theorem State.hotspot_keeps {F : Nat} {s0 s : State} {a1 a2} (hF : Sub 0x10000007e2000000000000000000000000010004079b8019 F) (h : Keeps F s0 s) :
    Keeps F s0 (State.hotspot s a1 a2) := by
  unfold State.hotspot
  extract_lets +onlyGivenNames x1 x2
  clear_value x1 x2
  extract_lets +onlyGivenNames x3
  have h4 : Keeps F s0 x3 := State.tel!_keeps (hF.of rfl) h
  clear_value x3
  extract_lets +onlyGivenNames x5
  have h6 : Keeps F s0 x5 := Keeps.ite (fun _ => State.event_keeps (hF.of rfl) h4) (fun _ => h4)
  clear_value x5
  refine Keeps.ite (fun _ => ?_) (fun _ => h6)
  exact State.emit_keeps (hF.of rfl) (State.pkg!_keeps (hF.of rfl) (State.raise_keeps (hF.of rfl) h6))

theorem State.lapFigures_keeps {F : Nat} {s0 s : State} {a1 a2} (hF : Sub 0x1000008 F) (h : Keeps F s0 s) :
    Keeps F s0 (State.lapFigures s a1 a2) := by
  unfold State.lapFigures
  refine Keeps.ite (fun _ => Keeps.foldl h (fun x1 e2 h3 => State.updPart_keeps (hF.of rfl) h3)) (fun _ => ?_)
  refine Keeps.ite (fun _ => ?_) (fun _ => h)
  extract_lets +onlyGivenNames x4
  have h5 : Keeps F s0 x4 := State.tel!_keeps (hF.of rfl) h
  clear_value x4
  exact Keeps.foldl h5 (fun x6 e7 h8 => State.updPart_keeps (hF.of rfl) h8)

theorem execSensorSample_keeps {F : Nat} {s0 s : State} {a1 a2 a3 a4 a5 a6 a7} (hF : Sub 0x2010020007e2000000000000000000400000010004079b8019 F) (h : Keeps F s0 s) :
    KeepsX F s0 (execSensorSample a1 a2 a3 a4 a5 a6 a7 s) := by
  unfold execSensorSample
  refine KeepsX.next ?_
  refine Keeps.ite (fun _ => h) (fun _ => ?_)
  extract_lets +onlyGivenNames x1
  extract_lets +onlyGivenNames x2
  have h3 : Keeps F s0 x2 := Keeps.ite (fun _ => h) (fun _ => State.count_keeps (hF.of rfl) (R.CNT_TEL_in (hF.of rfl)) h)
  clear_value x2
  refine Keeps.ite (fun _ => State.wrF_keeps (hF.of rfl) (R.TEL_SENSOR_in (hF.of rfl)) h3) (fun _ => ?_)
  refine Keeps.ite (fun _ => ?_) (fun _ => ?_)
  · extract_lets +onlyGivenNames x4
    have h5 : Keeps F s0 x4 := State.wrF_keeps (hF.of rfl) (R.TEL_SENSOR_in (hF.of rfl)) h3
    clear_value x4
    exact Keeps.ite (fun _ => State.count_keeps (hF.of rfl) (R.CNT_TEL_in (hF.of rfl)) h5) (fun _ => h5)
  · extract_lets +onlyGivenNames x6
    clear_value x6
    extract_lets +onlyGivenNames x7
    have h8 : Keeps F s0 x7 := State.wrFs_keeps (hF.of rfl) (R.TEL_SENSOR_in (hF.of rfl)) h3
    clear_value x7
    extract_lets +onlyGivenNames x9
    have h10 : Keeps F s0 x9 := State.tel!_keeps (hF.of rfl) h8
    clear_value x9
    extract_lets +onlyGivenNames x11
    clear_value x11
    extract_lets +onlyGivenNames x12
    have h13 : Keeps F s0 x12 := State.thresholdCheck_keeps (hF.of rfl) h10
    clear_value x12
    extract_lets +onlyGivenNames x14
    have h15 : Keeps F s0 x14 := Keeps.ite (fun _ => State.hotspot_keeps (hF.of rfl) h13) (fun _ => h13)
    clear_value x14
    extract_lets +onlyGivenNames x16
    have h17 : Keeps F s0 x16 := Keeps.ite (fun _ => State.hbmRefresh_keeps (hF.of rfl) h15) (fun _ => h15)
    clear_value x16
    extract_lets +onlyGivenNames x18
    have h19 : Keeps F s0 x18 := State.lapFigures_keeps (hF.of rfl) h17
    clear_value x18
    extract_lets +onlyGivenNames x20
    have h21 : Keeps F s0 x20 := Keeps.ite (fun _ => State.throttleStep_keeps (hF.of rfl) h19) (fun _ => h19)
    clear_value x20
    exact Keeps.ite (fun _ => State.railStatus_keeps (hF.of rfl) h21) (fun _ => h21)

theorem execPmbusAlert_keeps {F : Nat} {s0 s : State} {a1} (hF : Sub 0x10000007e2000000000000000000000000010004059b8019 F) (h : Keeps F s0 s) :
    KeepsX F s0 (execPmbusAlert a1 s) := by
  unfold execPmbusAlert
  refine KeepsX.next ?_
  exact Keeps.ite (fun _ => h) (fun _ => Keeps.foldl h (fun x1 e2 h3 => State.railStatus_keeps (hF.of rfl) h3))

theorem execSysrefLost_keeps {F : Nat} {s0 s : State} (hF : Sub 0x10000007e2000000000000000000000000010004049b8019 F) (h : Keeps F s0 s) :
    KeepsX F s0 (execSysrefLost s) := by
  unfold execSysrefLost
  exact KeepsX.next (State.raise_keeps (hF.of rfl) h)

theorem execOerefLost_keeps {F : Nat} {s0 s : State} (hF : Sub 0xc10000007e00000000000300000000000000000040c9b8009 F) (h : Keeps F s0 s) :
    KeepsX F s0 (execOerefLost s) := by
  unfold execOerefLost
  refine KeepsX.next ?_
  extract_lets +onlyGivenNames x1
  clear_value x1
  extract_lets +onlyGivenNames x2
  have h3 : Keeps F s0 x2 := Keeps.foldl h (fun x4 e5 h6 => State.updPort_keeps (hF.of rfl) h6)
  clear_value x2
  extract_lets +onlyGivenNames x7
  have h8 : Keeps F s0 x7 := Keeps.foldl h3 (fun x9 e10 h11 => State.portDown_keeps (hF.of rfl) h11)
  clear_value x7
  exact State.event_keeps (hF.of rfl) h8

theorem execOerefReturn_keeps {F : Nat} {s0 s : State} (hF : Sub 0x3000000000000000000008000001 F) (h : Keeps F s0 s) :
    KeepsX F s0 (execOerefReturn s) := by
  unfold execOerefReturn
  refine KeepsX.next ?_
  refine Keeps.foldl h (fun x1 e2 h3 => ?_)
  extract_lets +onlyGivenNames x4
  clear_value x4
  extract_lets +onlyGivenNames x5
  have h6 : Keeps F s0 x5 := State.updPort_keeps (hF.of rfl) h3
  clear_value x5
  exact Keeps.ite (fun _ => State.portLock_keeps (hF.of rfl) h6) (fun _ => h6)

theorem State.tapIf_keeps {F : Nat} {s0 s : State} {a1 a2} (hF : Sub 0x2000000 F) (h : Keeps F s0 s) (hf2 : ∀ y1, Keeps F s0 y1 → Keeps F s0 (a2 y1)) :
    Keeps F s0 (State.tapIf s a1 a2) := by
  unfold State.tapIf
  extract_lets +onlyGivenNames x1
  clear_value x1
  refine Keeps.ite (fun _ => ?_) (fun _ => ?_)
  · apply hf2
    exact State.pkg!_keeps (hF.of rfl) h
  · refine Keeps.ite (fun _ => ?_) (fun _ => h)
    apply hf2
    exact h

theorem State.selBypass_keeps {F : Nat} {s0 s : State} (hF : Sub 0x400000000 F) (h : Keeps F s0 s) :
    Keeps F s0 (State.selBypass s) := by
  unfold State.selBypass
  exact State.emit_keeps (hF.of rfl) h

theorem State.scanIf_keeps {F : Nat} {s0 s : State} {a1} (hF : Sub 0x402000000 F) (h : Keeps F s0 s) (hf1 : ∀ y1, Keeps F s0 y1 → Keeps F s0 (a1 y1)) :
    Keeps F s0 (State.scanIf s a1) := by
  unfold State.scanIf
  refine Keeps.ite (fun _ => ?_) (fun _ => State.selBypass_keeps (hF.of rfl) h)
  apply hf1
  exact State.pkg!_keeps (hF.of rfl) h

theorem execExtest_keeps {F : Nat} {s0 s : State} {a1 a2 a3} (hF : Sub 0x402000000 F) (h : Keeps F s0 s) :
    KeepsX F s0 (execExtest a1 a2 a3 s) := by
  unfold execExtest
  refine KeepsX.next ?_
  refine State.tapIf_keeps (hF.of rfl) h ?_
  intro y1 y2
  refine State.scanIf_keeps (hF.of rfl) y2 ?_
  intro y3 y4
  exact State.emit_keeps (hF.of rfl) (State.emit_keeps (hF.of rfl) y4)

theorem execSamplePreload_keeps {F : Nat} {s0 s : State} {a1 a2} (hF : Sub 0x402000000 F) (h : Keeps F s0 s) :
    KeepsX F s0 (execSamplePreload a1 a2 s) := by
  unfold execSamplePreload
  refine KeepsX.next ?_
  refine State.tapIf_keeps (hF.of rfl) h ?_
  intro y1 y2
  exact State.emit_keeps (hF.of rfl) y2

theorem execIdcode_keeps {F : Nat} {s0 s : State} {a1} (hF : Sub 0x402000000 F) (h : Keeps F s0 s) :
    KeepsX F s0 (execIdcode a1 s) := by
  unfold execIdcode
  refine KeepsX.next ?_
  refine State.tapIf_keeps (hF.of rfl) h ?_
  intro y1 y2
  exact State.emit_keeps (hF.of rfl) y2

theorem execClamp_keeps {F : Nat} {s0 s : State} {a1} (hF : Sub 0x402000000 F) (h : Keeps F s0 s) :
    KeepsX F s0 (execClamp a1 s) := by
  unfold execClamp
  refine KeepsX.next ?_
  refine State.tapIf_keeps (hF.of rfl) h ?_
  intro y1 y2
  refine State.scanIf_keeps (hF.of rfl) y2 ?_
  intro y3 y4
  exact State.selBypass_keeps (hF.of rfl) (State.emit_keeps (hF.of rfl) y4)

theorem execHighz_keeps {F : Nat} {s0 s : State} {a1} (hF : Sub 0x402000000 F) (h : Keeps F s0 s) :
    KeepsX F s0 (execHighz a1 s) := by
  unfold execHighz
  refine KeepsX.next ?_
  refine State.tapIf_keeps (hF.of rfl) h ?_
  intro y1 y2
  refine State.scanIf_keeps (hF.of rfl) y2 ?_
  intro y3 y4
  exact State.selBypass_keeps (hF.of rfl) (State.emit_keeps (hF.of rfl) y4)

theorem execBypass_keeps {F : Nat} {s0 s : State} {a1} (hF : Sub 0x402000000 F) (h : Keeps F s0 s) :
    KeepsX F s0 (execBypass a1 s) := by
  unfold execBypass
  refine KeepsX.next ?_
  refine State.tapIf_keeps (hF.of rfl) h ?_
  intro y1 y2
  exact State.selBypass_keeps (hF.of rfl) y2

theorem execTapReset_keeps {F : Nat} {s0 s : State} (hF : Sub 0x2000000 F) (h : Keeps F s0 s) :
    KeepsX F s0 (execTapReset s) := by
  unfold execTapReset
  exact KeepsX.next (State.pkg!_keeps (hF.of rfl) h)

theorem execStandbyResetEnd_keeps {F : Nat} {s0 s : State} (hF : Sub 0x800000 F) (h : Keeps F s0 s) :
    KeepsX F s0 (execStandbyResetEnd s) := by
  unfold execStandbyResetEnd
  exact KeepsX.next (Keeps.ite (fun _ => h) (fun _ => State.mgt!_keeps (hF.of rfl) h))

end Sys2Proof.Machine
end

