-- ==== Sys2Proof/Laws/KeepsWordIssue.lean ====
section
/-! SUPPORT. What the operations of Machine/WordIssue.lean keep (Laws/Keeps.lean): one lemma for each. -/

namespace Sys2Proof.Machine

open Sys2Proof

theorem State.afterPace_keeps {F : Nat} {s0 s : State} {a1 a2 a3} (hF : Sub 0x10000007e2000000000000000000000000018004049b8019 F) (h : Keeps F s0 s) :
    Keeps F s0 (State.afterPace s a1 a2 a3) := by
  unfold State.afterPace
  extract_lets +onlyGivenNames x1
  clear_value x1
  refine Keeps.ite (fun _ => State.setPos_keeps (hF.of rfl) (State.updPart_keeps (hF.of rfl) h)) (fun _ => ?_)
  refine Keeps.ite (fun _ => ?_) (fun _ => State.updPart_keeps (hF.of rfl) h)
  split
  · rename_i z2 z3 z4 z5
    have h6 : Keeps F s0 z3 := Keeps.ofFst z5 (State.loopStep_keeps (hF.of rfl) h)
    exact State.updPart_keeps (hF.of rfl) h6
  · rename_i z7 z8 z9
    have h10 : Keeps F s0 z8 := Keeps.ofFst z9 (State.loopStep_keeps (hF.of rfl) h)
    exact h10

theorem State.pacePoint_keeps {F : Nat} {s0 s : State} {a1 a2 a3} (hF : Sub 0x30000007e2000000000000000000000000018004049b8039 F) (h : Keeps F s0 s) :
    Keeps F s0 (State.pacePoint s a1 a2 a3) := by
  unfold State.pacePoint
  extract_lets +onlyGivenNames x1
  have h2 : Keeps F s0 x1 := State.applyTok_keeps (hF.of rfl) h
  clear_value x1
  extract_lets +onlyGivenNames x3
  clear_value x3
  split
  · exact h2
  · refine Keeps.ite (fun _ => h2) (fun _ => ?_)
    extract_lets +onlyGivenNames x4
    have h5 : Keeps F s0 x4 := State.seen_keeps (hF.of rfl) h2
    clear_value x4
    extract_lets +onlyGivenNames x6 x7
    clear_value x6 x7
    extract_lets +onlyGivenNames x8
    have h9 : Keeps F s0 x8 := by
      unfold x8
      refine Keeps.ite (fun _ => h5) (fun _ => ?_)
      refine State.addRec_keeps (hF.of rfl) ?_
      refine State.count_keeps (hF.of rfl) (R.CNT_SEQ_in (hF.of rfl)) ?_
      exact State.count_keeps (hF.of rfl) (R.CNT_SEQ_in (hF.of rfl)) h5
    clear_value x8
    extract_lets +onlyGivenNames x10
    have h11 : Keeps F s0 x10 := State.updPart_keeps (hF.of rfl) h9
    clear_value x10
    exact State.afterPace_keeps (hF.of rfl) (State.releaseHeld_keeps (hF.of rfl) h11)

theorem State.strideUe_keeps {F : Nat} {s0 s : State} {a1 a2} (hF : Sub 0x11b0000007e2000000000000000000000000010004049b801f F) (h : Keeps F s0 s) :
    Keeps F s0 (State.strideUe s a1 a2) := by
  unfold State.strideUe
  extract_lets +onlyGivenNames g a rq bad
  have hb : ∀ y, Keeps F s0 y → Keeps F s0 (bad y) := fun y hy => State.raise_keeps (hF.of rfl) hy
  clear_value bad
  split
  · exact hb _ (State.count_keeps (hF.of rfl) (R.CNT_GLB_in (hF.of rfl)) h)
  · exact hb _ h
  · extract_lets +onlyGivenNames x1
    have h1 : Keeps F s0 x1 := State.sense_keeps (hF.of rfl) h
    clear_value x1
    refine Keeps.ite (fun _ => hb _ h1) (fun _ => ?_)
    extract_lets +onlyGivenNames x2
    have h2 : Keeps F s0 x2 := h1.setMem (hF.of rfl) (fun i => storeRaw_wf i _ _)
    exact State.raise_keeps (hF.of rfl) (State.count_keeps (hF.of rfl) (R.CNT_SEQ_in (hF.of rfl)) h2)

theorem State.issueSlots_keeps {F : Nat} {s0 s : State} {a1 a2 a3 a4 a5} (hF : Sub 0x10000007e2000000000000000000000000010004049b8019 F) (h : Keeps F s0 s) :
    Keeps F s0 (State.issueSlots s a1 a2 a3 a4 a5) := by
  induction a4 generalizing s a1 a2 a3 a5
  case zero =>
    rw [State.issueSlots]
    exact h
  case succ k ih =>
    rw [State.issueSlots]
    split
    · apply ih
      exact h
    · split
      · rename_i z1 z2 z3
        have h4 : Keeps F s0 z2 := Keeps.ofFst z3 (State.issueEngine_keeps (hF.of rfl) h)
        apply ih
        exact h4
      · rename_i z5 z6 z7
        have h8 : Keeps F s0 z6 := Keeps.ofFst z7 (State.issueEngine_keeps (hF.of rfl) h)
        exact h8

theorem State.wordEnd_keeps {F : Nat} {s0 s : State} {a1 a2 a3 a4} (hF : Sub 0x50000007e200000000000000000000880001000c049b80f9 F) (h : Keeps F s0 s) :
    Keeps F s0 (State.wordEnd s a1 a2 a3 a4) := by
  unfold State.wordEnd
  extract_lets +onlyGivenNames x1 x2
  clear_value x1 x2
  extract_lets +onlyGivenNames x3
  have h4 : Keeps F s0 x3 := State.updPart_keeps (hF.of rfl) h
  clear_value x3
  extract_lets +onlyGivenNames x5
  have h6 : Keeps F s0 x5 := Keeps.ite (fun _ => State.endLegCheck_keeps (hF.of rfl) h4) (fun _ => h4)
  clear_value x5
  refine Keeps.ite (fun _ => ?_) (fun _ => ?_)
  · extract_lets +onlyGivenNames x7
    clear_value x7
    exact State.updPart_keeps (hF.of rfl) h6
  · refine Keeps.ite (fun _ => ?_) (fun _ => State.updPart_keeps (hF.of rfl) h6)
    split
    · rename_i z8 z9 z10 z11
      have h12 : Keeps F s0 z9 := Keeps.ofFst z11 (State.loopStep_keeps (hF.of rfl) h6)
      exact State.updPart_keeps (hF.of rfl) h12
    · rename_i z13 z14 z15
      have h16 : Keeps F s0 z14 := Keeps.ofFst z15 (State.loopStep_keeps (hF.of rfl) h6)
      exact h16

theorem State.wordIssue_keeps {F : Nat} {s0 s : State} {a1 a2} (hF : Sub 0x11f0000007e200000000000000000000880001000c049b80ff F) (h : Keeps F s0 s) :
    Keeps F s0 (State.wordIssue s a1 a2) := by
  unfold State.wordIssue
  refine Keeps.ite (fun _ => h) (fun _ => ?_)
  extract_lets +onlyGivenNames x1 x2
  clear_value x1 x2
  refine Keeps.ite (fun _ => State.raise_keeps (hF.of rfl) h) (fun _ => ?_)
  refine Keeps.ite (fun _ => State.raise_keeps (hF.of rfl) h) (fun _ => ?_)
  refine Keeps.ite (fun _ => State.strideUe_keeps (hF.of rfl) h) (fun _ => ?_)
  extract_lets +onlyGivenNames x3
  have h4 : Keeps F s0 x3 := Keeps.ite (fun _ => State.count_keeps (hF.of rfl) (R.CNT_SEQ_in (hF.of rfl)) h) (fun _ => h)
  clear_value x3
  extract_lets +onlyGivenNames x5
  clear_value x5
  refine Keeps.ite (fun _ => State.raise_keeps (hF.of rfl) h4) (fun _ => ?_)
  refine Keeps.ite (fun _ => State.raise_keeps (hF.of rfl) h4) (fun _ => ?_)
  extract_lets +onlyGivenNames x6
  clear_value x6
  extract_lets +onlyGivenNames x7
  have h8 : Keeps F s0 x7 := State.applyTok_keeps (hF.of rfl) (State.seen_keeps (hF.of rfl) h4)
  clear_value x7
  extract_lets +onlyGivenNames x9
  have h10 : Keeps F s0 x9 := Keeps.foldl h8 (fun x11 e12 h13 => State.hubSlot_keeps (hF.of rfl) h13)
  clear_value x9
  exact State.wordEnd_keeps (hF.of rfl) (State.issueSlots_keeps (hF.of rfl) h10)

theorem State.seqLockstep_keeps {F : Nat} {s0 s : State} {a1 a2 a3} (hF : Sub 0x10000007e2000000000000000000000000010004049b8019 F) (h : Keeps F s0 s) :
    Keeps F s0 (State.seqLockstep s a1 a2 a3) := by
  unfold State.seqLockstep
  exact Keeps.ite (fun _ => State.raise_keeps (hF.of rfl) h) (fun _ => h)

theorem execStrideWordIssue_keeps {F : Nat} {s0 s : State} {a1 a2} (hF : Sub 0x11f0000007e200000000000000000000880001000c049b80ff F) (h : Keeps F s0 s) :
    KeepsX F s0 (execStrideWordIssue a1 a2 s) := by
  unfold execStrideWordIssue
  exact KeepsX.next (State.wordIssue_keeps (hF.of rfl) h)

theorem execHold_keeps {F : Nat} {s0 s : State} {a1 a2} (_hF : Sub 0x0 F) (h : Keeps F s0 s) :
    KeepsX F s0 (execHold a1 a2 s) := by
  unfold execHold
  exact KeepsX.next h

theorem execDispatch_keeps {F : Nat} {s0 s : State} {a1 a2 a3 a4 a5 a6 a7} (hF : Sub 0x1d0000007e200000000000000000000880001000c049b80ff F) (h : Keeps F s0 s) :
    KeepsX F s0 (execDispatch a1 a2 a3 a4 a5 a6 a7 s) := by
  unfold execDispatch
  exact KeepsX.next (State.dispatch_keeps (hF.of rfl) h)

theorem execRest_keeps {F : Nat} {s0 s : State} {a1 a2 a3 a4 a5 a6} (hF : Sub 0x1d0000007e200000000000000000000880001000c049b80ff F) (h : Keeps F s0 s) :
    KeepsX F s0 (execRest a1 a2 a3 a4 a5 a6 s) := by
  unfold execRest
  exact KeepsX.next (State.restSlot_keeps (hF.of rfl) h)

theorem execSeqLockstep_keeps {F : Nat} {s0 s : State} {a1 a2 a3} (hF : Sub 0x10000007e2000000000000000000000000010004049b8019 F) (h : Keeps F s0 s) :
    KeepsX F s0 (execSeqLockstep a1 a2 a3 s) := by
  unfold execSeqLockstep
  exact KeepsX.next (State.seqLockstep_keeps (hF.of rfl) h)

theorem execPacePoint_keeps {F : Nat} {s0 s : State} {a1 a2 a3} (hF : Sub 0x30000007e2000000000000000000000000018004049b8039 F) (h : Keeps F s0 s) :
    KeepsX F s0 (execPacePoint a1 a2 a3 s) := by
  unfold execPacePoint
  exact KeepsX.next (State.pacePoint_keeps (hF.of rfl) h)

theorem execCourseLoadGo_keeps {F : Nat} {s0 s : State} {a1 a2} (hF : Sub 0x30000007e0000000000000000000000000e00004049b8009 F) (h : Keeps F s0 s) :
    KeepsX F s0 (execCourseLoadGo a1 a2 s) := by
  unfold execCourseLoadGo
  exact KeepsX.next (State.courseLoadGo_keeps (hF.of rfl) h)

theorem execCourseLoadDone_keeps {F : Nat} {s0 s : State} {a1 a2} (hF : Sub 0x1190000007e2000000000000000000000001c10004049b801f F) (h : Keeps F s0 s) :
    KeepsX F s0 (execCourseLoadDone a1 a2 s) := by
  unfold execCourseLoadDone
  exact KeepsX.next (State.courseLoadDone_keeps (hF.of rfl) (State.plant_keeps (hF.of rfl) h))

theorem execCourseArmWrite_keeps {F : Nat} {s0 s : State} {a1 a2} (hF : Sub 0x10000007e0000000000000000000000000000404049b8009 F) (h : Keeps F s0 s) :
    KeepsX F s0 (execCourseArmWrite a1 a2 s) := by
  unfold execCourseArmWrite
  exact KeepsX.next (State.courseArm_keeps (hF.of rfl) h)

theorem execCourseStoreWrite_keeps {F : Nat} {s0 s : State} {a1 a2} (hF : Sub 0x100000000000000000000000000000000088000000000001 F) (h : Keeps F s0 s) :
    KeepsX F s0 (execCourseStoreWrite a1 a2 s) := by
  unfold execCourseStoreWrite
  exact KeepsX.next (State.courseStoreWrite_keeps (hF.of rfl) h)

theorem execStrideLoadGo_keeps {F : Nat} {s0 s : State} {a1 a2} (hF : Sub 0x100000000000000000000000000000006000000000000009 F) (h : Keeps F s0 s) :
    KeepsX F s0 (execStrideLoadGo a1 a2 s) := by
  unfold execStrideLoadGo
  exact KeepsX.next (State.strideLoadGo_keeps (hF.of rfl) h)

theorem execStrideLoadEnd_keeps {F : Nat} {s0 s : State} {a1 a2} (hF : Sub 0x1190000007e2000000000000000000000040010004049b801f F) (h : Keeps F s0 s) :
    KeepsX F s0 (execStrideLoadEnd a1 a2 s) := by
  unfold execStrideLoadEnd
  exact KeepsX.next (State.strideLoadDone_keeps (hF.of rfl) (State.plant_keeps (hF.of rfl) h))

theorem execStrideDigestGo_keeps {F : Nat} {s0 s : State} {a1 a2} (hF : Sub 0x100000000000000000000000000000006000000000000009 F) (h : Keeps F s0 s) :
    KeepsX F s0 (execStrideDigestGo a1 a2 s) := by
  unfold execStrideDigestGo
  exact KeepsX.next (State.strideLoadGo_keeps (hF.of rfl) h)

theorem execStrideDigestEnd_keeps {F : Nat} {s0 s : State} {a1} (hF : Sub 0x14200000000000009 F) (h : Keeps F s0 s) :
    KeepsX F s0 (execStrideDigestEnd a1 s) := by
  unfold execStrideDigestEnd
  exact KeepsX.next (State.strideDigestDone_keeps (hF.of rfl) h)

theorem execStrideImageWrite_keeps {F : Nat} {s0 s : State} {a1 a2 a3} (hF : Sub 0x30000007e0000000000000000000000000000004049b800b F) (h : Keeps F s0 s) :
    KeepsX F s0 (execStrideImageWrite a1 a2 a3 s) := by
  unfold execStrideImageWrite
  exact KeepsX.next (Keeps.ite (fun _ => State.strideImageWrite_keeps (hF.of rfl) h) (fun _ => h))

end Sys2Proof.Machine
end

