-- ==== Sys2Proof/Laws/KeepsBoundary.lean ====
section
/-! SUPPORT. What the operations of Machine/Boundary.lean keep (Laws/Keeps.lean): one lemma for each. -/

namespace Sys2Proof.Machine

open Sys2Proof

/-- Clearing poison marks between two granules keeps the canonical form. -/
theorem Sp.wf_unpoison {m : Sp Gran} {lo hi : Nat} {c : Nat → Bool} (i : Sp.wf {} m) :
    Sp.wf {} ((m.map (fun e => if lo ≤ e.1 && e.1 < hi && !c e.1 then (e.1, { e.2 with poison := false }) else e)).filter
      (fun e => e.2 != {})) := by
  exact Sp.wf_mapFilter i _ (fun e => by dsimp only; split <;> rfl)

theorem State.clearCore_keeps {F : Nat} {s0 s : State} {a1 a2 a3} (hF : Sub 0x400000000000000000000000000000000000000000000025 F) (h : Keeps F s0 s) :
    Keeps F s0 (State.clearCore s a1 a2 a3) := by
  unfold State.clearCore
  extract_lets +onlyGivenNames x gone x1 x2 lo hi
  have h1 : Keeps F s0 x1 := by
    unfold x1
    exact Keeps.ite (fun _ => h) (fun _ => State.countCore_keeps (hF.of rfl) h)
  have h2 : Keeps F s0 x2 := State.updCore_keeps (hF.of rfl) h1
  clear_value x2 lo hi
  exact h2.setGran (hF.of rfl) (fun i => Sp.wf_unpoison i)

theorem State.loadCore_keeps {F : Nat} {s0 s : State} {a1 a2 a3} (hF : Sub 0x20 F) (h : Keeps F s0 s) :
    Keeps F s0 (State.loadCore s a1 a2 a3) := by
  unfold State.loadCore
  extract_lets +onlyGivenNames x1
  clear_value x1
  exact State.updCore_keeps (hF.of rfl) h

theorem State.loadCourse_keeps {F : Nat} {s0 s : State} {a1 a2} (hF : Sub 0x40000000000000000000000000000000000000000000002d F) (h : Keeps F s0 s) :
    Keeps F s0 (State.loadCourse s a1 a2) := by
  unfold State.loadCourse
  extract_lets +onlyGivenNames x1 x2 x3 x4 x5 x6
  clear_value x1 x2 x3 x4 x5 x6
  extract_lets +onlyGivenNames x7
  have h8 : Keeps F s0 x7 := by
    unfold x7
    refine Keeps.foldl h (fun x9 e10 h11 => ?_)
    exact State.loadCore_keeps (hF.of rfl) (State.clearCore_keeps (hF.of rfl) h11)
  clear_value x7
  exact State.updPart_keeps (hF.of rfl) h8

theorem State.preemptAll_keeps {F : Nat} {s0 s : State} {a1 a2} (hF : Sub 0x1d0000007e200000000000000000000880001000c049b80ff F) (h : Keeps F s0 s) :
    Keeps F s0 (State.preemptAll s a1 a2) := by
  unfold State.preemptAll
  extract_lets +onlyGivenNames x1
  have h2 : Keeps F s0 x1 := Keeps.foldl h (fun x3 e4 h5 => State.endRest_keeps (hF.of rfl) h5)
  clear_value x1
  exact Keeps.foldl h2 (fun x6 e7 h8 => Keeps.foldl h8 (fun x9 e10 h11 => State.preempt_keeps (hF.of rfl) h11))

theorem State.beginLeg_keeps {F : Nat} {s0 s : State} {a1 a2 a3} (hF : Sub 0x3bf0600007e200000040000002000000880001800c7c9b80ff F) (h : Keeps F s0 s) :
    Keeps F s0 (State.beginLeg s a1 a2 a3) := by
  unfold State.beginLeg
  extract_lets +onlyGivenNames x1
  have h2 : Keeps F s0 x1 := State.updPart_keeps (hF.of rfl) (State.setPos_keeps (hF.of rfl) h)
  clear_value x1
  refine Keeps.ite (fun _ => State.raise_keeps (hF.of rfl) h2) (fun _ => ?_)
  extract_lets +onlyGivenNames x3
  have h4 : Keeps F s0 x3 := State.trigZero_keeps (hF.of rfl) (State.loadCourse_keeps (hF.of rfl) h2)
  clear_value x3
  extract_lets +onlyGivenNames x5
  have h6 : Keeps F s0 x5 := State.updPart_keeps (hF.of rfl) h4
  clear_value x5
  extract_lets +onlyGivenNames x7
  have h8 : Keeps F s0 x7 := State.embLegBegin_keeps (hF.of rfl) (State.rlyLegBegin_keeps (hF.of rfl) h6)
  clear_value x7
  extract_lets +onlyGivenNames x9
  clear_value x9
  extract_lets +onlyGivenNames x10
  have h11 : Keeps F s0 x10 := Keeps.ite (fun _ => State.lapStateBlock_keeps (hF.of rfl) h8) (fun _ => h8)
  clear_value x10
  exact State.retryHeld_keeps (hF.of rfl) h11

theorem State.reexecRec_keeps {F : Nat} {s0 s : State} {a1 a2 a3 a4} (hF : Sub 0x8 F) (h : Keeps F s0 s) :
    Keeps F s0 (State.reexecRec s a1 a2 a3 a4) := by
  unfold State.reexecRec
  exact State.updPart_keeps (hF.of rfl) (State.addRec_keeps (hF.of rfl) h)

theorem State.holdFor_keeps {F : Nat} {s0 s : State} {a1 a2 a3} (hF : Sub 0x200000000000000000000000001800000000009 F) (h : Keeps F s0 s) :
    Keeps F s0 (State.holdFor s a1 a2 a3) := by
  unfold State.holdFor
  extract_lets +onlyGivenNames x1
  have h2 : Keeps F s0 x1 := State.updPart_keeps (hF.of rfl) h
  clear_value x1
  exact State.enterHold_keeps (hF.of rfl) h2

theorem State.nextLegBegin_keeps {F : Nat} {s0 s : State} {a1 a2} (hF : Sub 0x3bf0600027e20000004000000200000088000181cc7c9b82ff F) (h : Keeps F s0 s) :
    Keeps F s0 (State.nextLegBegin s a1 a2) := by
  unfold State.nextLegBegin
  extract_lets +onlyGivenNames x1
  clear_value x1
  refine Keeps.ite (fun _ => State.beginLeg_keeps (hF.of rfl) h) (fun _ => ?_)
  extract_lets +onlyGivenNames x2
  have h3 : Keeps F s0 x2 := State.applySubst_keeps (hF.of rfl) (State.updPart_keeps (hF.of rfl) h)
  clear_value x2
  refine Keeps.ite (fun _ => State.holdFor_keeps (hF.of rfl) h3) (fun _ => ?_)
  exact State.beginLeg_keeps (hF.of rfl) (State.reexecRec_keeps (hF.of rfl) h3)

theorem State.drainDiscard_keeps {F : Nat} {s0 s : State} {a1} (hF : Sub 0x11d0000007e200000040000020000000880001000c64bbe0ff F) (h : Keeps F s0 s) :
    Keeps F s0 (State.drainDiscard s a1) := by
  unfold State.drainDiscard
  extract_lets +onlyGivenNames x1
  clear_value x1
  extract_lets +onlyGivenNames x2
  have h3 : Keeps F s0 x2 := State.preemptAll_keeps (hF.of rfl) h
  clear_value x2
  extract_lets +onlyGivenNames x4
  clear_value x4
  extract_lets +onlyGivenNames x5
  have h6 : Keeps F s0 x5 := Keeps.foldl h3 (fun x7 e8 h9 => State.landTo_keeps (hF.of rfl) h9)
  clear_value x5
  extract_lets +onlyGivenNames x10
  have h11 : Keeps F s0 x10 := by
    unfold x10
    refine State.updPart_keeps (hF.of rfl) ?_
    exact State.ledgerDiscard_keeps (hF.of rfl) (State.akcDrain_keeps (hF.of rfl) h6)
  clear_value x10
  extract_lets +onlyGivenNames x12
  have h13 : Keeps F s0 x12 := Keeps.setGreqs h11 (hF.of rfl)
  clear_value x12
  extract_lets +onlyGivenNames x14
  have h15 : Keeps F s0 x14 := State.host!_keeps (hF.of rfl) h13
  clear_value x14
  refine State.trigZero_keeps (hF.of rfl) ?_
  refine State.rlyRepeat_keeps (hF.of rfl) ?_
  refine State.embRepeat_keeps (hF.of rfl) ?_
  exact Keeps.foldl h15 (fun x16 e17 h18 => State.updCore_keeps (hF.of rfl) h18)

theorem State.repeatBoundary_keeps {F : Nat} {s0 s : State} {a1 a2} (hF : Sub 0x3bf0600027e20000004000002200000088000181cc7cbbe2ff F) (h : Keeps F s0 s) :
    Keeps F s0 (State.repeatBoundary s a1 a2) := by
  unfold State.repeatBoundary
  extract_lets +onlyGivenNames x1 x2
  clear_value x1 x2
  refine Keeps.ite (fun _ => h) (fun _ => ?_)
  extract_lets +onlyGivenNames x3
  have h4 : Keeps F s0 x3 := State.setPos_keeps (hF.of rfl) (State.drainDiscard_keeps (hF.of rfl) h)
  clear_value x3
  extract_lets +onlyGivenNames x5
  have h6 : Keeps F s0 x5 := State.applySubst_keeps (hF.of rfl) (State.updPart_keeps (hF.of rfl) h4)
  clear_value x5
  refine Keeps.ite (fun _ => h6) (fun _ => ?_)
  extract_lets +onlyGivenNames x7
  have h8 : Keeps F s0 x7 := State.updPart_keeps (hF.of rfl) h6
  clear_value x7
  refine Keeps.ite (fun _ => State.holdFor_keeps (hF.of rfl) h8) (fun _ => ?_)
  refine Keeps.ite (fun _ => State.holdFor_keeps (hF.of rfl) (State.updPart_keeps (hF.of rfl) h8)) (fun _ => ?_)
  extract_lets +onlyGivenNames x9
  clear_value x9
  exact State.beginLeg_keeps (hF.of rfl) (State.reexecRec_keeps (hF.of rfl) h8)

theorem State.failingBoundary_keeps {F : Nat} {s0 s : State} {a1} (hF : Sub 0x3bf0600007e200000040000022000000880001800c7cbbe0ff F) (h : Keeps F s0 s) :
    Keeps F s0 (State.failingBoundary s a1) := by
  unfold State.failingBoundary
  refine Keeps.ite (fun _ => h) (fun _ => ?_)
  extract_lets +onlyGivenNames x1
  have h2 : Keeps F s0 x1 := State.drainDiscard_keeps (hF.of rfl) h
  clear_value x1
  extract_lets +onlyGivenNames x3
  have h4 : Keeps F s0 x3 := State.updPart_keeps (hF.of rfl) h2
  clear_value x3
  extract_lets +onlyGivenNames x5
  have h6 : Keeps F s0 x5 := State.updRly_keeps (hF.of rfl) h4
  clear_value x5
  extract_lets +onlyGivenNames x7
  have h8 : Keeps F s0 x7 := State.setPos_keeps (hF.of rfl) h6
  clear_value x7
  exact State.retryHeld_keeps (hF.of rfl) (State.setPState_keeps (hF.of rfl) h8)

theorem State.inputDigest_keeps {F : Nat} {s0 s : State} {a1} (hF : Sub 0x8000000000000000000000000000000001 F) (h : Keeps F s0 s) :
    Keeps F s0 (State.inputDigest s a1) := by
  unfold State.inputDigest
  refine Keeps.ite (fun _ => h) (fun _ => ?_)
  extract_lets +onlyGivenNames x1 x2
  clear_value x1 x2
  exact State.wrDigest_keeps (hF.of rfl) (R.HST_INPUT_DIGEST_in (hF.of rfl)) h

theorem State.toB40_keeps {F : Nat} {s0 s : State} {a1 a2} (hF : Sub 0x3d0000027e20000804000000400000888018105cc049b82ff F) (h : Keeps F s0 s) :
    Keeps F s0 (State.toB40 s a1 a2) := by
  unfold State.toB40
  extract_lets +onlyGivenNames x1
  have h2 : Keeps F s0 x1 := State.updPart_keeps (hF.of rfl) h
  clear_value x1
  extract_lets +onlyGivenNames x3
  have h4 : Keeps F s0 x3 := by
    unfold x3
    refine Keeps.foldl (State.preemptAll_keeps (hF.of rfl) h2) (fun x5 e6 h7 => ?_)
    exact State.calFoldCore_keeps (hF.of rfl) (State.landTo_keeps (hF.of rfl) h7)
  clear_value x3
  extract_lets +onlyGivenNames x8
  have h9 : Keeps F s0 x8 := by
    unfold x8
    refine State.inputDigest_keeps (hF.of rfl) ?_
    exact State.placeFold_keeps (hF.of rfl) (State.embLegEnd_keeps (hF.of rfl) h4)
  clear_value x8
  extract_lets +onlyGivenNames x10
  have h11 : Keeps F s0 x10 := by
    unfold x10
    refine State.swapArmed_keeps (hF.of rfl) ?_
    exact State.applyLeg_keeps (hF.of rfl) (State.applySubst_keeps (hF.of rfl) h9)
  clear_value x10
  extract_lets +onlyGivenNames x12
  clear_value x12
  extract_lets +onlyGivenNames x13
  have h14 : Keeps F s0 x13 := State.updPart_keeps (hF.of rfl) (Keeps.setStore h11 (hF.of rfl))
  clear_value x13
  exact State.updRly_keeps (hF.of rfl) (State.trigZero_keeps (hF.of rfl) (State.akcJoin_keeps (hF.of rfl) h14))

theorem State.completionBoundary_keeps {F : Nat} {s0 s : State} {a1} (hF : Sub 0x3bf0600027e20000804000000600000888018185cc7c9b82ff F) (h : Keeps F s0 s) :
    Keeps F s0 (State.completionBoundary s a1) := by
  unfold State.completionBoundary
  extract_lets +onlyGivenNames x1
  clear_value x1
  split
  · refine Keeps.ite (fun _ => h) (fun _ => ?_)
    extract_lets +onlyGivenNames x2
    have h3 : Keeps F s0 x2 := State.toB40_keeps (hF.of rfl) h
    clear_value x2
    refine Keeps.ite (fun _ => h3) (fun _ => ?_)
    refine Keeps.ite (fun _ => State.holdFor_keeps (hF.of rfl) h3) (fun _ => ?_)
    exact State.nextLegBegin_keeps (hF.of rfl) h3
  · exact h

theorem State.nonfinRecs_keeps {F : Nat} {s0 s : State} {a1} (hF : Sub 0x8 F) (h : Keeps F s0 s) :
    Keeps F s0 (State.nonfinRecs s a1) := by
  unfold State.nonfinRecs
  extract_lets +onlyGivenNames x1 x2
  clear_value x1 x2
  extract_lets +onlyGivenNames x3
  have h4 : Keeps F s0 x3 := Keeps.foldl h (fun x5 e6 h7 => State.addRec_keeps (hF.of rfl) h7)
  clear_value x3
  exact State.updPart_keeps (hF.of rfl) h4

theorem State.lapClose_keeps {F : Nat} {s0 s : State} {a1} (hF : Sub 0x1bb0000047e20680000000020000002000080100040c9b801f F) (h : Keeps F s0 s) :
    Keeps F s0 (State.lapClose s a1) := by
  unfold State.lapClose
  extract_lets +onlyGivenNames x1
  clear_value x1
  extract_lets +onlyGivenNames x2
  have h3 : Keeps F s0 x2 := by
    unfold x2
    refine State.embReplicaRead_keeps (hF.of rfl) ?_
    exact State.nonfinRecs_keeps (hF.of rfl) (State.calStep_keeps (hF.of rfl) h)
  clear_value x2
  extract_lets +onlyGivenNames x4
  have h5 : Keeps F s0 x4 := by
    unfold x4
    refine State.foldDelta_keeps (hF.of rfl) ?_
    refine State.ledgerLapFree_keeps (hF.of rfl) ?_
    exact State.wrDigest_keeps (hF.of rfl) (R.SEQ_LAP_COURSE_DIGEST_in (hF.of rfl)) h3
  clear_value x4
  extract_lets +onlyGivenNames x6
  have h7 : Keeps F s0 x6 := by
    unfold x6
    refine State.writeSeal_keeps (hF.of rfl) ?_
    refine State.closeReplay_keeps (hF.of rfl) ?_
    exact State.closeRecord_keeps (hF.of rfl) (State.embLapEnd_keeps (hF.of rfl) h5)
  clear_value x6
  extract_lets +onlyGivenNames x8 x9
  clear_value x8 x9
  extract_lets +onlyGivenNames x10
  have h11 : Keeps F s0 x10 := State.updPart_keeps (hF.of rfl) h7
  clear_value x10
  refine Keeps.ite (fun _ => State.updRly_keeps (hF.of rfl) h11) (fun _ => ?_)
  refine State.digestStart_keeps (hF.of rfl) ?_
  exact State.wrDigest_keeps (hF.of rfl) (R.RLY_SETTINGS_DIGEST_in (hF.of rfl)) h11

theorem State.digestResult_keeps {F : Nat} {s0 s : State} {a1 a2} (hF : Sub 0x10000007e0000000300000000000000000000004049b8009 F) (h : Keeps F s0 s) :
    Keeps F s0 (State.digestResult s a1 a2).1 := by
  unfold State.digestResult
  refine Keeps.iteFst (fun _ => Keeps.mkFst h) (fun _ => ?_)
  extract_lets +onlyGivenNames x1 x2 x3 x4
  clear_value x1 x2 x3 x4
  extract_lets +onlyGivenNames x5
  have h6 : Keeps F s0 x5 := State.wrDigest_keeps (hF.of rfl) (R.RLY_FABRIC_DIGEST_in (hF.of rfl)) h
  clear_value x5
  extract_lets +onlyGivenNames x7
  have h8 : Keeps F s0 x7 := State.wr_keeps (hF.of rfl) (R.RLY_SPLIT_STATUS_in (hF.of rfl)) h6
  clear_value x7
  extract_lets +onlyGivenNames x9
  clear_value x9
  exact Keeps.mkFst (Keeps.ite (fun _ => State.event_keeps (hF.of rfl) h8) (fun _ => h8))

theorem State.mapChecks_keeps {F : Nat} {s0 s : State} {a1} (hF : Sub 0x10000007e2000000000000000000000000010004049b8019 F) (h : Keeps F s0 s) :
    Keeps F s0 (State.mapChecks s a1) := by
  unfold State.mapChecks
  extract_lets +onlyGivenNames x1
  have h2 : Keeps F s0 x1 := Keeps.ite (fun _ => h) (fun _ => State.raise_keeps (hF.of rfl) h)
  clear_value x1
  exact Keeps.ite (fun _ => h2) (fun _ => State.raise_keeps (hF.of rfl) h2)

theorem State.lapApply_keeps {F : Nat} {s0 s : State} {a1} (hF : Sub 0x10000007e20160000f000011f8dc170605871c04049b8019 F) (h : Keeps F s0 s) :
    Keeps F s0 (State.lapApply s a1) := by
  unfold State.lapApply
  extract_lets +onlyGivenNames x1
  clear_value x1
  extract_lets +onlyGivenNames x2
  have h3 : Keeps F s0 x2 := State.applyLap_keeps (hF.of rfl) h
  clear_value x2
  extract_lets +onlyGivenNames x4
  have h5 : Keeps F s0 x4 := Keeps.ite (fun _ => State.applyLapChip_keeps (hF.of rfl) h3) (fun _ => h3)
  clear_value x4
  extract_lets +onlyGivenNames x6
  have h7 : Keeps F s0 x6 := State.applyGuard_keeps (hF.of rfl) (State.swapArmed_keeps (hF.of rfl) h5)
  clear_value x6
  exact Keeps.ite (fun _ => h7) (fun _ => State.mapChecks_keeps (hF.of rfl) h7)

theorem State.intakeLapEnd_keeps {F : Nat} {s0 s : State} {a1 a2} (hF : Sub 0x4000000000000000000000000000000009 F) (h : Keeps F s0 s) :
    Keeps F s0 (State.intakeLapEnd s a1 a2) := by
  unfold State.intakeLapEnd
  refine Keeps.ite (fun _ => h) (fun _ => ?_)
  extract_lets +onlyGivenNames x1 x2
  clear_value x1 x2
  refine Keeps.ite (fun _ => h) (fun _ => ?_)
  extract_lets +onlyGivenNames x3
  have h4 : Keeps F s0 x3 := State.updPart_keeps (hF.of rfl) (State.setSegState_keeps (hF.of rfl) h)
  clear_value x3
  exact Keeps.ite (fun _ => State.wrF_keeps (hF.of rfl) (R.HST_INTAKE_STATUS_in (hF.of rfl)) h4) (fun _ => h4)

theorem State.lapReport_keeps {F : Nat} {s0 s : State} {a1 a2 a3 a4} (hF : Sub 0x1800000000000000000000000000000000000000000000007 F) (h : Keeps F s0 s) :
    Keeps F s0 (State.lapReport s a1 a2 a3 a4) := by
  unfold State.lapReport
  extract_lets +onlyGivenNames x1 x2
  clear_value x1 x2
  refine Keeps.ite (fun _ => h) (fun _ => ?_)
  extract_lets +onlyGivenNames x3 x4
  clear_value x3 x4
  extract_lets +onlyGivenNames x5
  extract_lets +onlyGivenNames x6 x7 x8 x9
  clear_value x6 x7 x8 x9
  exact State.save_keeps (hF.of rfl) h

theorem State.lapStart_keeps {F : Nat} {s0 s : State} {a1} (hF : Sub 0x200008 F) (h : Keeps F s0 s) :
    Keeps F s0 (State.lapStart s a1) := by
  unfold State.lapStart
  extract_lets +onlyGivenNames x1
  have h2 : Keeps F s0 x1 := State.updPart_keeps (hF.of rfl) h
  clear_value x1
  exact Keeps.setHost h2 (hF.of rfl)

theorem State.lapBegin_keeps {F : Nat} {s0 s : State} {a1} (hF : Sub 0x3bf0600027e20000004000000200000088000181cc7c9b82ff F) (h : Keeps F s0 s) :
    Keeps F s0 (State.lapBegin s a1) := by
  unfold State.lapBegin
  extract_lets +onlyGivenNames x1
  have h2 : Keeps F s0 x1 := State.updPart_keeps (hF.of rfl) h
  clear_value x1
  split
  · exact State.dropUnbound_keeps (hF.of rfl) (State.nextLegBegin_keeps (hF.of rfl) h2)
  · exact State.updPart_keeps (hF.of rfl) (State.setPos_keeps (hF.of rfl) h2)

theorem State.lapRest_keeps {F : Nat} {s0 s : State} {a1 a2} (hF : Sub 0x3bf0600027e20160407f000013f8fc178e05879dcc7cbb82ff F) (h : Keeps F s0 s) :
    KeepsO F s0 (State.lapRest s a1 a2) := by
  unfold State.lapRest
  extract_lets +onlyGivenNames x1 x2
  clear_value x1 x2
  split
  rename_i z3 z4 z5 z6
  have h7 : Keeps F s0 z4 := Keeps.ofFst z6 (State.digestResult_keeps (hF.of rfl) h)
  extract_lets +onlyGivenNames x8
  clear_value x8
  extract_lets +onlyGivenNames x9
  have h10 : Keeps F s0 x9 := by
    unfold x9
    refine Keeps.ite (fun _ => State.lapApply_keeps (hF.of rfl) h7) (fun _ => ?_)
    exact State.updPart_keeps (hF.of rfl) (State.event_keeps (hF.of rfl) h7)
  clear_value x9
  extract_lets +onlyGivenNames x11
  clear_value x11
  refine KeepsO.ite (fun _ => KeepsO.none) (fun _ => ?_)
  extract_lets +onlyGivenNames x12
  have h13 : Keeps F s0 x12 := State.releaseAll_keeps (hF.of rfl) h10
  clear_value x12
  extract_lets +onlyGivenNames x14
  have h15 : Keeps F s0 x14 := Keeps.ite (fun _ => State.placeAll_keeps (hF.of rfl) h13) (fun _ => h13)
  clear_value x14
  extract_lets +onlyGivenNames x16
  have h17 : Keeps F s0 x16 := by
    unfold x16
    refine State.setLap_keeps (hF.of rfl) ?_
    exact State.intakeLapEnd_keeps (hF.of rfl) (State.rlyLapEnd_keeps (hF.of rfl) h15)
  clear_value x16
  extract_lets +onlyGivenNames x18
  have h19 : Keeps F s0 x18 := State.setPos_keeps (hF.of rfl) h17
  clear_value x18
  extract_lets +onlyGivenNames x20 x21
  clear_value x20 x21
  split
  rename_i z22 z23 z24 z25
  have h26 : Keeps F s0 z23 := Keeps.ofFst z25 (State.loadReplay_keeps (hF.of rfl) h19)
  extract_lets +onlyGivenNames x27
  clear_value x27
  extract_lets +onlyGivenNames x28
  have h29 : Keeps F s0 x28 := Keeps.ite (fun _ => h26) (fun _ => State.markHeld_keeps (hF.of rfl) h26)
  clear_value x28
  extract_lets +onlyGivenNames x30
  have h31 : Keeps F s0 x30 := State.lapStart_keeps (hF.of rfl) (State.lapReport_keeps (hF.of rfl) h29)
  clear_value x30
  refine KeepsO.ite (fun _ => KeepsO.some (State.updPart_keeps (hF.of rfl) h31)) (fun _ => ?_)
  refine KeepsO.ite (fun _ => ?_) (fun _ => KeepsO.some (State.holdFor_keeps (hF.of rfl) h31))
  exact KeepsO.some (State.lapBegin_keeps (hF.of rfl) h31)

theorem State.lapBoundary_keeps {F : Nat} {s0 s : State} {a1 a2} (hF : Sub 0x3bf0600067e207e0c07f000217f8fc3f8e0d879dcc7cbb82ff F) (h : Keeps F s0 s) :
    Keeps F s0 (State.lapBoundary s a1 a2) := by
  unfold State.lapBoundary
  extract_lets +onlyGivenNames x1
  clear_value x1
  split
  · refine Keeps.ite (fun _ => h) (fun _ => ?_)
    extract_lets +onlyGivenNames x2
    have h3 : Keeps F s0 x2 := by
      exact Keeps.ite (fun _ => h) (fun _ => State.updPart_keeps (hF.of rfl) (State.toB40_keeps (hF.of rfl) h))
    clear_value x2
    refine Keeps.ite (fun _ => h3) (fun _ => ?_)
    extract_lets +onlyGivenNames x4
    have h5 : Keeps F s0 x4 := Keeps.ite (fun _ => h3) (fun _ => State.lapClose_keeps (hF.of rfl) h3)
    clear_value x4
    split
    · refine Keeps.ite (fun _ => h5) (fun _ => ?_)
      exact KeepsO.getD (State.lapRest_keeps (hF.of rfl) (State.updPart_keeps (hF.of rfl) h5)) h5
    · exact h5
  · exact h

theorem State.clearRun_keeps {F : Nat} {s0 s : State} {a1} (hF : Sub 0x88 F) (h : Keeps F s0 s) :
    Keeps F s0 (State.clearRun s a1) := by
  unfold State.clearRun
  extract_lets +onlyGivenNames x1
  have h2 : Keeps F s0 x1 := State.updPart_keeps (hF.of rfl) h
  clear_value x1
  exact Keeps.setGreqs h2 (hF.of rfl)

theorem State.intakeOpen_keeps {F : Nat} {s0 s : State} {a1 a2} (hF : Sub 0x4000000000000000000000000000000009 F) (h : Keeps F s0 s) :
    Keeps F s0 (State.intakeOpen s a1 a2) := by
  unfold State.intakeOpen
  extract_lets +onlyGivenNames x1 x2
  clear_value x1 x2
  exact State.updPart_keeps (hF.of rfl) (State.wr_keeps (hF.of rfl) (R.HST_INTAKE_STATUS_in (hF.of rfl)) h)

theorem State.start_keeps {F : Nat} {s0 s : State} {a1} (hF : Sub 0x3bf0600027e20160404f000013f8dc1f8e05879dcc7cbb82ff F) (h : Keeps F s0 s) :
    Keeps F s0 (State.start s a1) := by
  unfold State.start
  refine Keeps.ite (fun _ => State.startRejected_keeps (hF.of rfl) h) (fun _ => ?_)
  extract_lets +onlyGivenNames x1
  have h2 : Keeps F s0 x1 := State.setPState_keeps (hF.of rfl) (State.clearRun_keeps (hF.of rfl) h)
  clear_value x1
  extract_lets +onlyGivenNames x3
  clear_value x3
  extract_lets +onlyGivenNames x4
  have h5 : Keeps F s0 x4 := State.applyLap_keeps (hF.of rfl) (State.applyLeg_keeps (hF.of rfl) h2)
  clear_value x4
  extract_lets +onlyGivenNames x6
  have h7 : Keeps F s0 x6 := Keeps.ite (fun _ => State.applyLapChip_keeps (hF.of rfl) h5) (fun _ => h5)
  clear_value x6
  extract_lets +onlyGivenNames x8
  have h9 : Keeps F s0 x8 := State.applyGuard_keeps (hF.of rfl) (State.swapArmed_keeps (hF.of rfl) h7)
  clear_value x8
  extract_lets +onlyGivenNames x10
  clear_value x10
  extract_lets +onlyGivenNames x11
  have h12 : Keeps F s0 x11 := by
    exact State.setPos_keeps (hF.of rfl) (State.intakeOpen_keeps (hF.of rfl) (State.setLap_keeps (hF.of rfl) h9))
  clear_value x11
  extract_lets +onlyGivenNames x13
  have h14 : Keeps F s0 x13 := by
    unfold x13
    refine State.applySubst_keeps (hF.of rfl) ?_
    exact State.lapStart_keeps (hF.of rfl) (State.mapChecks_keeps (hF.of rfl) h12)
  clear_value x13
  refine Keeps.ite (fun _ => h14) (fun _ => ?_)
  split
  rename_i z15 z16 z17 z18
  have h19 : Keeps F s0 z16 := Keeps.ofFst z18 (State.loadReplay_keeps (hF.of rfl) h14)
  exact Keeps.ite (fun _ => State.lapBegin_keeps (hF.of rfl) h19) (fun _ => State.holdFor_keeps (hF.of rfl) h19)

theorem State.resume_keeps {F : Nat} {s0 s : State} {a1} (hF : Sub 0x3bf0600027e20160004f000013f8dc178e05879dcc7c9b82ff F) (h : Keeps F s0 s) :
    Keeps F s0 (State.resume s a1) := by
  unfold State.resume
  extract_lets +onlyGivenNames x1 x2
  clear_value x1 x2
  refine Keeps.ite (fun _ => h) (fun _ => ?_)
  refine Keeps.ite (fun _ => State.resumeRejected_keeps (hF.of rfl) h) (fun _ => ?_)
  split
  rename_i z3 z4 z5 z6
  have h7 : Keeps F s0 z4 := Keeps.ofFst z6 (State.writeOwed_keeps (hF.of rfl) h)
  refine Keeps.ite (fun _ => State.resumeRejected_keeps (hF.of rfl) h7) (fun _ => ?_)
  extract_lets +onlyGivenNames x8
  have h9 : Keeps F s0 x8 := by
    unfold x8
    refine State.applySubst_keeps (hF.of rfl) ?_
    exact State.setPos_keeps (hF.of rfl) (State.setPState_keeps (hF.of rfl) h7)
  clear_value x8
  extract_lets +onlyGivenNames x10
  have h11 : Keeps F s0 x10 := by
    exact Keeps.ite (fun _ => State.updPart_keeps (hF.of rfl) (State.lapApply_keeps (hF.of rfl) h9)) (fun _ => h9)
  clear_value x10
  refine Keeps.ite (fun _ => h11) (fun _ => ?_)
  split
  · split
    · exact State.nextLegBegin_keeps (hF.of rfl) h11
    · exact h11
  · split
    rename_i z12 z13 z14 z15
    have h16 : Keeps F s0 z13 := Keeps.ofFst z15 (State.loadReplay_keeps (hF.of rfl) h11)
    exact Keeps.ite (fun _ => State.lapBegin_keeps (hF.of rfl) h16) (fun _ => State.holdFor_keeps (hF.of rfl) h16)
  · extract_lets +onlyGivenNames x17
    clear_value x17
    exact State.beginLeg_keeps (hF.of rfl) (State.reexecRec_keeps (hF.of rfl) h11)

theorem State.stop_keeps {F : Nat} {s0 s : State} {a1} (hF : Sub 0x180000000020000004000000000000000000180001000008f F) (h : Keeps F s0 s) :
    Keeps F s0 (State.stop s a1) := by
  unfold State.stop
  refine Keeps.ite (fun _ => h) (fun _ => ?_)
  extract_lets +onlyGivenNames x1
  have h2 : Keeps F s0 x1 := by
    unfold x1
    refine State.trigZero_keeps (hF.of rfl) ?_
    exact State.clearRun_keeps (hF.of rfl) (State.ledgerDiscard_keeps (hF.of rfl) h)
  clear_value x1
  extract_lets +onlyGivenNames x3
  clear_value x3
  extract_lets +onlyGivenNames x4
  have h5 : Keeps F s0 x4 := Keeps.setHeldPkts h2 (hF.of rfl)
  clear_value x4
  exact State.setPState_keeps (hF.of rfl) (State.setPos_keeps (hF.of rfl) h5)

theorem State.stagingDone_keeps {F : Nat} {s0 s : State} {a1} (hF : Sub 0x8 F) (h : Keeps F s0 s) :
    Keeps F s0 (State.stagingDone s a1) := by
  unfold State.stagingDone
  exact Keeps.ite (fun _ => State.updPart_keeps (hF.of rfl) h) (fun _ => h)

theorem State.foldLeg_keeps {F : Nat} {s0 s : State} {a1} (hF : Sub 0x190000007e2000000000000000000000000010004049b801f F) (h : Keeps F s0 s) :
    Keeps F s0 (State.foldLeg s a1) := by
  unfold State.foldLeg
  extract_lets +onlyGivenNames x1
  clear_value x1
  split
  · refine Keeps.ite (fun _ => h) (fun _ => ?_)
    exact Keeps.ite (fun _ => h) (fun _ => State.updPart_keeps (hF.of rfl) (State.ledgerFold_keeps (hF.of rfl) h))
  · exact h

theorem State.lapStateFinal_keeps {F : Nat} {s0 s : State} {a1} (hF : Sub 0x180000000000000000000000000000000000000000000000f F) (h : Keeps F s0 s) :
    Keeps F s0 (State.lapStateFinal s a1) := by
  unfold State.lapStateFinal
  split
  · exact h
  · refine Keeps.ite (fun _ => h) (fun _ => ?_)
    extract_lets +onlyGivenNames x1
    clear_value x1
    exact State.updPart_keeps (hF.of rfl) (State.saveN_keeps (hF.of rfl) (State.save_keeps (hF.of rfl) h))

theorem State.pacedDeadline_keeps {F : Nat} {s0 s : State} {a1} (hF : Sub 0x1bd0000007e200000000000002000000880001000c0c9b80ff F) (h : Keeps F s0 s) :
    Keeps F s0 (State.pacedDeadline s a1) := by
  unfold State.pacedDeadline
  refine Keeps.ite (fun _ => h) (fun _ => ?_)
  refine State.rlyDeadline_keeps (hF.of rfl) ?_
  exact State.embDeadline_keeps (hF.of rfl) (State.updPart_keeps (hF.of rfl) h)

theorem State.peerStall_keeps {F : Nat} {s0 s : State} {a1 a2 a3 a4} (hF : Sub 0x10000007e0000000000000000000000000000004049b8009 F) (h : Keeps F s0 s) :
    Keeps F s0 (State.peerStall s a1 a2 a3 a4) := by
  unfold State.peerStall
  extract_lets +onlyGivenNames x1 x2
  clear_value x1 x2
  exact Keeps.ite (fun _ => h) (fun _ => State.event_keeps (hF.of rfl) (State.updPart_keeps (hF.of rfl) h))

theorem execStart_keeps {F : Nat} {s0 s : State} {a1} (hF : Sub 0x3bf0600027e20160404f000013f8dc1f8e05879dcc7cbb82ff F) (h : Keeps F s0 s) :
    KeepsX F s0 (execStart a1 s) := by
  unfold execStart
  exact KeepsX.next (State.start_keeps (hF.of rfl) h)

theorem execResume_keeps {F : Nat} {s0 s : State} {a1} (hF : Sub 0x3bf0600027e20160004f000013f8dc178e05879dcc7c9b82ff F) (h : Keeps F s0 s) :
    KeepsX F s0 (execResume a1 s) := by
  unfold execResume
  exact KeepsX.next (State.resume_keeps (hF.of rfl) h)

theorem execStop_keeps {F : Nat} {s0 s : State} {a1} (hF : Sub 0x180000000020000004000000000000000000180001000008f F) (h : Keeps F s0 s) :
    KeepsX F s0 (execStop a1 s) := by
  unfold execStop
  exact KeepsX.next (State.stop_keeps (hF.of rfl) h)

theorem execHoldNext_keeps {F : Nat} {s0 s : State} {a1} (hF : Sub 0x8 F) (h : Keeps F s0 s) :
    KeepsX F s0 (execHoldNext a1 s) := by
  unfold execHoldNext
  exact KeepsX.next (State.holdNext_keeps (hF.of rfl) h)

theorem execCourseStagingDone_keeps {F : Nat} {s0 s : State} {a1} (hF : Sub 0x8 F) (h : Keeps F s0 s) :
    KeepsX F s0 (execCourseStagingDone a1 s) := by
  unfold execCourseStagingDone
  exact KeepsX.next (State.stagingDone_keeps (hF.of rfl) h)

theorem execLedgerFold_keeps {F : Nat} {s0 s : State} {a1 a2} (hF : Sub 0x190000007e2000000000000000000000000010004049b801f F) (h : Keeps F s0 s) :
    KeepsX F s0 (execLedgerFold a1 a2 s) := by
  unfold execLedgerFold
  exact KeepsX.next (State.foldLeg_keeps (hF.of rfl) (State.plant_keeps (hF.of rfl) h))

theorem execCompletionBoundary_keeps {F : Nat} {s0 s : State} {a1 a2} (hF : Sub 0x3bf0600027e20000804000000600000888018185cc7c9b82ff F) (h : Keeps F s0 s) :
    KeepsX F s0 (execCompletionBoundary a1 a2 s) := by
  unfold execCompletionBoundary
  exact KeepsX.next (State.completionBoundary_keeps (hF.of rfl) (State.plant_keeps (hF.of rfl) h))

theorem execLapBoundary_keeps {F : Nat} {s0 s : State} {a1 a2 a3} (hF : Sub 0x3bf0600067e207e0c07f000217f8fc3f8e0d879dcc7cbb82ff F) (h : Keeps F s0 s) :
    KeepsX F s0 (execLapBoundary a1 a2 a3 s) := by
  unfold execLapBoundary
  exact KeepsX.next (State.lapBoundary_keeps (hF.of rfl) (State.plant_keeps (hF.of rfl) h))

theorem execLapStateFinal_keeps {F : Nat} {s0 s : State} {a1} (hF : Sub 0x180000000000000000000000000000000000000000000000f F) (h : Keeps F s0 s) :
    KeepsX F s0 (execLapStateFinal a1 s) := by
  unfold execLapStateFinal
  exact KeepsX.next (State.lapStateFinal_keeps (hF.of rfl) h)

theorem execRepeatBoundary_keeps {F : Nat} {s0 s : State} {a1 a2} (hF : Sub 0x3bf0600027e20000004000002200000088000181cc7cbbe2ff F) (h : Keeps F s0 s) :
    KeepsX F s0 (execRepeatBoundary a1 a2 s) := by
  unfold execRepeatBoundary
  exact KeepsX.next (State.repeatBoundary_keeps (hF.of rfl) h)

theorem execFailingBoundary_keeps {F : Nat} {s0 s : State} {a1} (hF : Sub 0x3bf0600007e200000040000022000000880001800c7cbbe0ff F) (h : Keeps F s0 s) :
    KeepsX F s0 (execFailingBoundary a1 s) := by
  unfold execFailingBoundary
  exact KeepsX.next (State.failingBoundary_keeps (hF.of rfl) h)

theorem execPacedDeadline_keeps {F : Nat} {s0 s : State} {a1} (hF : Sub 0x1bd0000007e200000000000002000000880001000c0c9b80ff F) (h : Keeps F s0 s) :
    KeepsX F s0 (execPacedDeadline a1 s) := by
  unfold execPacedDeadline
  exact KeepsX.next (State.pacedDeadline_keeps (hF.of rfl) h)

theorem execPeerStallTimeout_keeps {F : Nat} {s0 s : State} {a1 a2 a3 a4} (hF : Sub 0x10000007e0000000000000000000000000000004049b8009 F) (h : Keeps F s0 s) :
    KeepsX F s0 (execPeerStallTimeout a1 a2 a3 a4 s) := by
  unfold execPeerStallTimeout
  exact KeepsX.next (State.peerStall_keeps (hF.of rfl) h)

end Sys2Proof.Machine
end

