-- ==== Sys2Proof/Laws/KeepsReset.lean ====
section
/-! SUPPORT. What the operations of Machine/Reset.lean keep (Laws/Keeps.lean): one lemma for each. -/

namespace Sys2Proof.Machine

open Sys2Proof

/-- The block of parts that a warm-chip reset sets anew. -/
theorem Keeps.warm {F : Nat} {s0 s : State} {parts phys greqs repair tel chip}
    (h : Keeps F s0 s) (hF : Sub 0x1001007ef9 F) (hp : Sp.wf {} s.parts → Sp.wf {} parts) : Keeps F s0 { s with
      regs := keepRegs s.regs, parts := parts, phys := phys, cores := [], hubs := [], greqs := greqs, pools := []
      sweeps := [], scrubPos := [], scrubRows := [], repair := repair, tel := tel, chip := chip } :=
  h.trans (Keeps.weaken (B := 0x1001007ef9) ⟨rfl, List.prefix_refl _, fun i => { i with
      regs := Sp.sorted_filter i.regs _, parts := hp i.parts, cores := Sp.wf_nil, hubs := Sp.wf_nil, pools := Sp.wf_nil
      sweeps := Sp.wf_nil, scrubPos := Sp.wf_nil, scrubRows := Sp.wf_nil },
    fun f hf => by cases f <;> first | rfl | exact absurd hf (by decide), fun _ _ h36 => absurd h36 (by decide)⟩ (hF.of rfl))

/-- Requests, memory and marks at once. -/
theorem Keeps.wipeReq {F : Nat} {s0 s : State} {greqs} {mem : List Host.Cell} {gran : Sp Gran}
    (h : Keeps F s0 s) (hF : Sub 0x86 F) (hm : Sp.wf 0 s.mem → Sp.wf 0 mem) (hg : Sp.wf {} s.gran → Sp.wf {} gran) :
    Keeps F s0 { s with greqs := greqs, mem := mem, gran := gran } :=
  Keeps.setGran (s := { s with greqs := greqs, mem := mem })
    (Keeps.setMem (s := { s with greqs := greqs }) (h.setGreqs (hF.of rfl)) (hF.of rfl) hm) (hF.of rfl) hg

/-- The package and what left the block at once. -/
theorem Keeps.setPkgOut {F : Nat} {s0 s : State} {pkg} {l : List Emit} (h : Keeps F s0 s) (hF : Sub 0x402000000 F)
    (ho : s.out <+: l) : Keeps F s0 { s with pkg := pkg, out := l } :=
  Keeps.setOut (s := { s with pkg := pkg }) (h.setPkg (hF.of rfl)) (hF.of rfl) ho

theorem State.absorbed_keeps {F : Nat} {s0 s : State} {a1} (hF : Sub 0x100000000000000000000000000000000000000000000001 F) (h : Keeps F s0 s) :
    Keeps F s0 (State.absorbed s a1) := by
  unfold State.absorbed
  exact Keeps.ite (fun _ => h) (fun _ => State.count_keeps (hF.of rfl) (R.CNT_GLB_in (hF.of rfl)) h)

theorem State.endTasks_keeps {F : Nat} {s0 s : State} {a1 a2} (hF : Sub 0x8000000000001000e1 F) (h : Keeps F s0 s) :
    Keeps F s0 (State.endTasks s a1 a2) := by
  unfold State.endTasks
  extract_lets +onlyGivenNames x1 x2
  clear_value x1 x2
  extract_lets +onlyGivenNames x3
  have h4 : Keeps F s0 x3 := by
    exact Keeps.foldl h (fun x5 e6 h7 => State.bfRemove_keeps (hF.of rfl) (State.bfComplete_keeps (hF.of rfl) h7))
  clear_value x3
  extract_lets +onlyGivenNames x8
  have h9 : Keeps F s0 x8 := Keeps.foldl h4 (fun x10 e11 h12 => State.bfComplete_keeps (hF.of rfl) h12)
  clear_value x8
  exact State.syncBf_keeps (hF.of rfl) (State.updHub_keeps (hF.of rfl) h9)

theorem State.clearWhole_keeps {F : Nat} {s0 s : State} {a1} (hF : Sub 0x1000000000000000000000000000000000000000000000a7 F) (h : Keeps F s0 s) :
    Keeps F s0 (State.clearWhole s a1) := by
  unfold State.clearWhole
  extract_lets +onlyGivenNames lo hi gone x1
  have h1 : Keeps F s0 x1 := State.setCore_keeps (hF.of rfl) (State.absorbed_keeps (hF.of rfl) h)
  have hx : Keeps 0x3fffffffffffffffffffffffffffffffffffffffffffffffffff9 s x1 := State.setCore_keeps (Sub.of (Sub.self _) rfl) (State.absorbed_keeps (Sub.of (Sub.self _) rfl) (Keeps.refl _ s))
  have hm : x1.mem = s.mem := hx.frame .mem rfl
  have hg : x1.gran = s.gran := hx.frame .gran rfl
  clear_value x1
  exact h1.wipeReq (hF.of rfl) (fun i => Sp.wf_clearRange (hm ▸ i) _ _) (fun i => Sp.wf_clearRange (hg ▸ i) _ _)

theorem State.coreReset_keeps {F : Nat} {s0 s : State} {a1} (hF : Sub 0x1000000000000000000000000000008000000000001000e7 F) (h : Keeps F s0 s) :
    Keeps F s0 (State.coreReset s a1) := by
  unfold State.coreReset
  exact State.clearWhole_keeps (hF.of rfl) (State.endTasks_keeps (hF.of rfl) h)

theorem State.clusterReset_keeps {F : Nat} {s0 s : State} {a1} (hF : Sub 0x1000000000000000000000000000008000000000001000ef F) (h : Keeps F s0 s) :
    Keeps F s0 (State.clusterReset s a1) := by
  unfold State.clusterReset
  extract_lets +onlyGivenNames x1
  have h2 : Keeps F s0 x1 := State.endTasks_keeps (hF.of rfl) h
  clear_value x1
  extract_lets +onlyGivenNames x3
  have h4 : Keeps F s0 x3 := Keeps.foldl h2 (fun x5 e6 h7 => State.clearWhole_keeps (hF.of rfl) h7)
  clear_value x3
  extract_lets +onlyGivenNames x8
  have h9 : Keeps F s0 x8 := State.syncBf_keeps (hF.of rfl) (State.setHub_keeps (hF.of rfl) h4)
  clear_value x8
  split
  · exact State.updPart_keeps (hF.of rfl) h9
  · exact h9

theorem State.endCmds_keeps {F : Nat} {s0 s : State} {a1} (hF : Sub 0x11800000000000000000000000000000000000000000300007 F) (h : Keeps F s0 s) :
    Keeps F s0 (State.endCmds s a1) := by
  unfold State.endCmds
  extract_lets +onlyGivenNames x1
  have h2 : Keeps F s0 x1 := Keeps.foldl h (fun x3 e4 h5 => State.hostDone_keeps (hF.of rfl) h5)
  clear_value x1
  extract_lets +onlyGivenNames x6
  clear_value x6
  extract_lets +onlyGivenNames x7
  have h8 : Keeps F s0 x7 := Keeps.foldl h2 (fun x9 e10 h11 => State.cmdEntry_keeps (hF.of rfl) h11)
  clear_value x7
  exact State.host!_keeps (hF.of rfl) h8

theorem State.retireOrphans_keeps {F : Nat} {s0 s : State} (hF : Sub 0x200000 F) (h : Keeps F s0 s) :
    Keeps F s0 (State.retireOrphans s) := by
  unfold State.retireOrphans
  extract_lets +onlyGivenNames x1
  clear_value x1
  exact Keeps.foldl h (fun x2 e3 h4 => State.retireTag_keeps (hF.of rfl) h4)

theorem State.forceFail_keeps {F : Nat} {s0 s : State} {a1} (hF : Sub 0x3bf0600007e200000040000022000000880001800c7cbbe0ff F) (h : Keeps F s0 s) :
    Keeps F s0 (State.forceFail s a1) := by
  unfold State.forceFail
  exact State.failingBoundary_keeps (hF.of rfl) (State.updPart_keeps (hF.of rfl) h)

theorem State.partitionReset_keeps {F : Nat} {s0 s : State} {a1} (hF : Sub 0x3bf0600007e200000040000022000000880001800c7cbbe0ff F) (h : Keeps F s0 s) :
    Keeps F s0 (State.partitionReset s a1) := by
  unfold State.partitionReset
  extract_lets +onlyGivenNames x1
  have h2 : Keeps F s0 x1 := State.absorbed_keeps (hF.of rfl) h
  clear_value x1
  extract_lets +onlyGivenNames x3
  have h4 : Keeps F s0 x3 := Keeps.ite (fun _ => State.forceFail_keeps (hF.of rfl) h2) (fun _ => h2)
  clear_value x3
  extract_lets +onlyGivenNames x5
  clear_value x5
  extract_lets +onlyGivenNames x6
  have h7 : Keeps F s0 x6 := State.retireOrphans_keeps (hF.of rfl) (State.endCmds_keeps (hF.of rfl) h4)
  clear_value x6
  extract_lets +onlyGivenNames x8
  clear_value x8
  extract_lets +onlyGivenNames x9
  have h10 : Keeps F s0 x9 := Keeps.foldl h7 (fun x11 e12 h13 => State.clusterReset_keeps (hF.of rfl) h13)
  clear_value x9
  extract_lets +onlyGivenNames x14
  have h15 : Keeps F s0 x14 := by
    unfold x14
    refine State.trigZero_keeps (hF.of rfl) ?_
    exact State.clearRun_keeps (hF.of rfl) (State.ledgerDiscard_keeps (hF.of rfl) h10)
  clear_value x14
  exact State.updPart_keeps (hF.of rfl) h15

theorem State.partitionResetEnd_keeps {F : Nat} {s0 s : State} {a1} (hF : Sub 0x100000000200000000000000000000000001800010000001 F) (h : Keeps F s0 s) :
    Keeps F s0 (State.partitionResetEnd s a1) := by
  unfold State.partitionResetEnd
  extract_lets +onlyGivenNames x1
  clear_value x1
  extract_lets +onlyGivenNames x2
  have h3 : Keeps F s0 x2 := State.absorbed_keeps (hF.of rfl) h
  clear_value x2
  extract_lets +onlyGivenNames x4
  have h5 : Keeps F s0 x4 := Keeps.setHeldPkts h3 (hF.of rfl)
  clear_value x4
  exact State.setPState_keeps (hF.of rfl) (State.setPos_keeps (hF.of rfl) h5)

theorem State.abortRoutine_keeps {F : Nat} {s0 s : State} {a1} (hF : Sub 0x10000000000000000000000000000000000000000001 F) (h : Keeps F s0 s) :
    Keeps F s0 (State.abortRoutine s a1) := by
  unfold State.abortRoutine
  exact Keeps.ite (fun _ => h) (fun _ => State.wrFs_keeps (hF.of rfl) (R.GLB_BRINGUP_STATUS_in (hF.of rfl)) h)

theorem State.portOffWarm_keeps {F : Nat} {s0 s : State} {a1} (hF : Sub 0x100000000000000000003400000000000000000008000001 F) (h : Keeps F s0 s) :
    Keeps F s0 (State.portOffWarm s a1) := by
  unfold State.portOffWarm
  extract_lets +onlyGivenNames x1 x2
  clear_value x1 x2
  extract_lets +onlyGivenNames x3
  have h4 : Keeps F s0 x3 := State.updPort_keeps (hF.of rfl) (State.absorbed_keeps (hF.of rfl) h)
  clear_value x3
  extract_lets +onlyGivenNames x5
  have h6 : Keeps F s0 x5 := by
    unfold x5
    refine State.wr_keeps (hF.of rfl) (R.FAB_LINK_STATUS_in (hF.of rfl)) ?_
    exact State.wrF_keeps (hF.of rfl) (R.FAB_LINK_CTRL_in (hF.of rfl)) h4
  clear_value x5
  refine State.setPort4_keeps (hF.of rfl) ?_
  exact State.setLinkF_keeps (hF.of rfl) (State.wr_keeps (hF.of rfl) (R.FAB_LANE_STATUS_in (hF.of rfl)) h6)

theorem State.warmReset_keeps {F : Nat} {s0 s : State} (hF : Sub 0x3bf0609007e220000040203422000000880001801c7dfbfeff F) (h : Keeps F s0 s) :
    Keeps F s0 (State.warmReset s) := by
  unfold State.warmReset
  extract_lets +onlyGivenNames x1
  clear_value x1
  extract_lets +onlyGivenNames x2
  have h3 : Keeps F s0 x2 := State.saveRepairs_keeps (hF.of rfl) h
  clear_value x2
  extract_lets +onlyGivenNames x4
  have h5 : Keeps F s0 x4 := by
    exact Keeps.foldl h3 (fun x6 e7 h8 => State.forceFail_keeps (hF.of rfl) (State.absorbed_keeps (hF.of rfl) h8))
  clear_value x4
  extract_lets +onlyGivenNames x9
  have h10 : Keeps F s0 x9 := Keeps.foldl h5 (fun x11 e12 h13 => State.endTasks_keeps (hF.of rfl) h13)
  clear_value x9
  extract_lets +onlyGivenNames x14
  have h15 : Keeps F s0 x14 := State.endCmds_keeps (hF.of rfl) h10
  clear_value x14
  extract_lets +onlyGivenNames x16
  have h17 : Keeps F s0 x16 := Keeps.foldl h15 (fun x18 e19 h20 => State.retireTag_keeps (hF.of rfl) h20)
  clear_value x16
  extract_lets +onlyGivenNames x21
  have h22 : Keeps F s0 x21 := State.host!_keeps (hF.of rfl) h17
  clear_value x21
  extract_lets +onlyGivenNames x23
  have h24 : Keeps F s0 x23 := Keeps.foldl h22 (fun x25 e26 h27 => State.queOff_keeps (hF.of rfl) h27)
  clear_value x23
  extract_lets +onlyGivenNames x28
  have h29 : Keeps F s0 x28 := Keeps.foldl h24 (fun x30 e31 h32 => State.tagRelease_keeps (hF.of rfl) h32)
  clear_value x28
  extract_lets +onlyGivenNames x33
  have h34 : Keeps F s0 x33 := State.absorbed_keeps (hF.of rfl) h29
  clear_value x33
  extract_lets +onlyGivenNames x35
  have h36 : Keeps F s0 x35 := Keeps.setHeldPkts h34 (hF.of rfl)
  clear_value x35
  extract_lets +onlyGivenNames x37
  have h38 : Keeps F s0 x37 := Keeps.foldl h36 (fun x39 e40 h41 => State.portOffWarm_keeps (hF.of rfl) h41)
  clear_value x37
  extract_lets +onlyGivenNames x42
  have h43 : Keeps F s0 x42 := State.wipeClusters_keeps (hF.of rfl) h38
  clear_value x42
  extract_lets +onlyGivenNames x44
  clear_value x44
  extract_lets +onlyGivenNames x45
  have h46 : Keeps F s0 x45 := Keeps.warm (s := x42) h43 (hF.of rfl) (fun i => Sp.wf_mapFilter i _ (fun e => rfl))
  clear_value x45
  extract_lets +onlyGivenNames x47
  have h48 : Keeps F s0 x47 := State.sec!_keeps (hF.of rfl) h46
  clear_value x47
  extract_lets +onlyGivenNames x49
  have h50 : Keeps F s0 x49 := by
    exact State.abortRoutine_keeps (hF.of rfl) (State.wrF_keeps (hF.of rfl) (R.SEC_FWUP_CTRL_in (hF.of rfl)) h48)
  clear_value x49
  extract_lets +onlyGivenNames x51
  have h52 : Keeps F s0 x51 := State.wrFs_keeps (hF.of rfl) (R.GLB_STATE_in (hF.of rfl)) h50
  clear_value x51
  extract_lets +onlyGivenNames x53
  have h54 : Keeps F s0 x53 := Keeps.ite (fun _ => State.setTimeF_keeps (hF.of rfl) h52) (fun _ => h52)
  clear_value x53
  extract_lets +onlyGivenNames x55
  have h56 : Keeps F s0 x55 := State.wrF_keeps (hF.of rfl) (R.CRC_RESET_STATUS_in (hF.of rfl)) h54
  clear_value x55
  exact Keeps.foldl h56 (fun x57 e58 h59 => State.wrF_keeps (hF.of rfl) (R.GLB_PART_CONFIG_in (hF.of rfl)) h59)

theorem State.coldBase_keeps {F : Nat} {s0 s : State} (hF : Sub 0x13fdffffff F) (h : Keeps F s0 s) :
    Keeps F s0 (State.coldBase s) := by
  unfold State.coldBase
  extract_lets +onlyGivenNames r
  refine h.trans (Keeps.weaken (B := 0x13fdffffff) ⟨rfl, List.prefix_refl _, fun i => ?_,
    fun f hf => by cases f <;> first | rfl | exact absurd hf (by decide),
    fun _ _ h36 => absurd h36 (by decide)⟩ (hF.of rfl))
  refine ⟨Sp.wf_filter i.mem _, Sp.wf_nil, ?_, Nat.zero_le _, Nat.pow_pos (by decide), Sp.wf_nil, Sp.wf_nil, Sp.wf_nil, Sp.wf_nil,
    Sp.wf_nil, Sp.wf_nil, Sp.wf_nil, Sp.wf_nil, Sp.wf_nil⟩
  show Sp.Sorted (if r = 0 then [] else _)
  split
  · exact List.Pairwise.nil
  · exact List.pairwise_singleton _ _

theorem State.wake_keeps {F : Nat} {s0 s : State} (hF : Sub 0x10010007e240000000000000000000000001000404db8009 F) (h : Keeps F s0 s) :
    Keeps F s0 (State.wake s) := by
  unfold State.wake
  extract_lets +onlyGivenNames x1
  have h2 : Keeps F s0 x1 := State.loseAddr_keeps (hF.of rfl) h
  clear_value x1
  extract_lets +onlyGivenNames x3
  have h4 : Keeps F s0 x3 := by
    exact Keeps.foldl h2 (fun x5 e6 h7 => State.wrF_keeps (hF.of rfl) (R.GLB_PART_CONFIG_in (hF.of rfl)) h7)
  clear_value x3
  refine State.mgt!_keeps (hF.of rfl) ?_
  exact State.wrF_keeps (hF.of rfl) (R.GLB_STATE_in (hF.of rfl)) (State.boot_keeps (hF.of rfl) h4)

theorem State.resetAct_keeps {F : Nat} {s0 s : State} {a1 a2} (hF : Sub 0x3bf0609007e220000040203422000000880001801ffdffffff F) (h : Keeps F s0 s) :
    Keeps F s0 (State.resetAct s a1 a2) := by
  unfold State.resetAct
  split
  · exact State.coreReset_keeps (hF.of rfl) h
  · exact State.clusterReset_keeps (hF.of rfl) h
  · exact State.partitionReset_keeps (hF.of rfl) h
  · exact State.warmReset_keeps (hF.of rfl) h
  · exact State.coldBase_keeps (hF.of rfl) (State.saveRepairs_keeps (hF.of rfl) h)

theorem State.resetRequest_keeps {F : Nat} {s0 s : State} {a1 a2 a3 a4} (hF : Sub 0x3bf0609007e220000040203422000000880001801ffdffffff F) (h : Keeps F s0 s) :
    Keeps F s0 (State.resetRequest s a1 a2 a3 a4) := by
  unfold State.resetRequest
  extract_lets +onlyGivenNames x1
  clear_value x1
  refine Keeps.ite (fun _ => Keeps.ite (fun _ => h) (fun _ => State.regErr_keeps (hF.of rfl) h)) (fun _ => ?_)
  extract_lets +onlyGivenNames x2
  clear_value x2
  refine Keeps.ite (fun _ => ?_) (fun _ => ?_)
  · exact State.regErr_keeps (hF.of rfl) (State.wrFs_keeps (hF.of rfl) (R.CRC_RESET_STATUS_in (hF.of rfl)) h)
  · extract_lets +onlyGivenNames x3
    have h4 : Keeps F s0 x3 := State.wrFs_keeps (hF.of rfl) (R.CRC_RESET_STATUS_in (hF.of rfl)) h
    clear_value x3
    extract_lets +onlyGivenNames x5
    have h6 : Keeps F s0 x5 := by
      exact Keeps.ite (fun _ => State.wrF_keeps (hF.of rfl) (R.CRC_RESET_STATUS_in (hF.of rfl)) h4) (fun _ => h4)
    clear_value x5
    exact State.chip!_keeps (hF.of rfl) (State.resetAct_keeps (hF.of rfl) h6)

theorem State.writeReset_keeps {F : Nat} {s0 s : State} {a1 a2} (hF : Sub 0x3bf060d007e220000040203422000000880001801ffdffffff F) (h : Keeps F s0 s) :
    Keeps F s0 (State.writeReset s a1 a2) := by
  unfold State.writeReset
  extract_lets +onlyGivenNames x1
  have h2 : Keeps F s0 x1 := by
    exact Keeps.ite (fun _ => h) (fun _ => State.wr_keeps (hF.of rfl) (R.CRC_RESET_CTRL_in (hF.of rfl)) h)
  clear_value x1
  exact Keeps.ite (fun _ => h2) (fun _ => State.resetRequest_keeps (hF.of rfl) h2)

theorem State.resetDone_keeps {F : Nat} {s0 s : State} (hF : Sub 0x10018007e240000000000000000000000001800414db8019 F) (h : Keeps F s0 s) :
    Keeps F s0 (State.resetDone s) := by
  unfold State.resetDone
  refine Keeps.ite (fun _ => h) (fun _ => ?_)
  extract_lets +onlyGivenNames x1
  have h2 : ∀ y1 y2, Keeps F s0 y1 → Keeps F s0 (x1 y1 y2) := by
    intro y3 y4 y5
    unfold x1
    exact State.wrFs_keeps (hF.of rfl) (R.CRC_RESET_STATUS_in (hF.of rfl)) y5
  clear_value x1
  split
  · refine Keeps.ite (fun _ => ?_) (fun _ => ?_)
    · apply h2
      exact h
    · apply h2
      exact State.partitionResetEnd_keeps (hF.of rfl) h
  · apply h2
    exact State.boot_keeps (hF.of rfl) (State.chip!_keeps (hF.of rfl) h)
  · apply h2
    exact Keeps.ite (fun _ => h) (fun _ => State.wake_keeps (hF.of rfl) h)
  · apply h2
    exact h

theorem State.powerOn_keeps {F : Nat} {s0 s : State} (hF : Sub 0x17ffffffff F) (h : Keeps F s0 s) :
    Keeps F s0 (State.powerOn s) := by
  unfold State.powerOn
  extract_lets +onlyGivenNames x1 x2
  have h1 : Keeps F s0 x1 := h.setRegs (hF.of rfl) (fun i => Sp.sorted_del i _)
  have h2 : Keeps F s0 x2 := State.coldBase_keeps (hF.of rfl) h1
  have ho : x2.out = x1.out := rfl
  refine h2.setPkgOut (hF.of rfl) ?_
  rw [ho]
  split
  · exact List.prefix_append _ _
  · exact List.prefix_refl _

theorem State.powerOnEnd_keeps {F : Nat} {s0 s : State} {a1} (hF : Sub 0x10010007e240000000000000000000000001000406db8009 F) (h : Keeps F s0 s) :
    Keeps F s0 (State.powerOnEnd s a1) := by
  unfold State.powerOnEnd
  refine Keeps.ite (fun _ => h) (fun _ => ?_)
  extract_lets +onlyGivenNames x1
  have h2 : Keeps F s0 x1 := State.pkg!_keeps (hF.of rfl) h
  clear_value x1
  exact Keeps.ite (fun _ => h2) (fun _ => State.wake_keeps (hF.of rfl) h2)

theorem execPowerOnReset_keeps {F : Nat} {s0 s : State} (hF : Sub 0x17ffffffff F) (h : Keeps F s0 s) :
    KeepsX F s0 (execPowerOnReset s) := by
  unfold execPowerOnReset
  exact KeepsX.next (State.powerOn_keeps (hF.of rfl) h)

theorem execPowerOnResetEnd_keeps {F : Nat} {s0 s : State} {a1} (hF : Sub 0x10010007e240000000000000000000000001000406db8009 F) (h : Keeps F s0 s) :
    KeepsX F s0 (execPowerOnResetEnd a1 s) := by
  unfold execPowerOnResetEnd
  exact KeepsX.next (State.powerOnEnd_keeps (hF.of rfl) h)

theorem execCoreReset_keeps {F : Nat} {s0 s : State} {a1} (hF : Sub 0x3bf0609007e220000040203422000000880001801ffdffffff F) (h : Keeps F s0 s) :
    KeepsX F s0 (execCoreReset a1 s) := by
  unfold execCoreReset
  exact KeepsX.next (State.resetRequest_keeps (hF.of rfl) h)

theorem execClusterReset_keeps {F : Nat} {s0 s : State} {a1} (hF : Sub 0x3bf0609007e220000040203422000000880001801ffdffffff F) (h : Keeps F s0 s) :
    KeepsX F s0 (execClusterReset a1 s) := by
  unfold execClusterReset
  exact KeepsX.next (State.resetRequest_keeps (hF.of rfl) h)

theorem execPartitionReset_keeps {F : Nat} {s0 s : State} {a1} (hF : Sub 0x3bf0609007e220000040203422000000880001801ffdffffff F) (h : Keeps F s0 s) :
    KeepsX F s0 (execPartitionReset a1 s) := by
  unfold execPartitionReset
  exact KeepsX.next (State.resetRequest_keeps (hF.of rfl) h)

theorem execWarmChipReset_keeps {F : Nat} {s0 s : State} {a1 a2} (hF : Sub 0x3bf0609007e220000040203422000000880001801ffdffffff F) (h : Keeps F s0 s) :
    KeepsX F s0 (execWarmChipReset a1 a2 s) := by
  unfold execWarmChipReset
  exact KeepsX.next (State.resetRequest_keeps (hF.of rfl) h)

theorem execColdChipReset_keeps {F : Nat} {s0 s : State} {a1 a2} (hF : Sub 0x3bf0609007e220000040203422000000880001801ffdffffff F) (h : Keeps F s0 s) :
    KeepsX F s0 (execColdChipReset a1 a2 s) := by
  unfold execColdChipReset
  exact KeepsX.next (State.resetRequest_keeps (hF.of rfl) h)

theorem execResetDone_keeps {F : Nat} {s0 s : State} (hF : Sub 0x10018007e240000000000000000000000001800414db8019 F) (h : Keeps F s0 s) :
    KeepsX F s0 (execResetDone s) := by
  unfold execResetDone
  exact KeepsX.next (State.resetDone_keeps (hF.of rfl) h)

end Sys2Proof.Machine
end

