-- ==== Sys2Proof/Laws/KeepsRegWrite.lean ====
section
/-! SUPPORT. What the operations of Machine/RegWrite.lean keep (Laws/Keeps.lean): one lemma for each. -/

namespace Sys2Proof.Machine

open Sys2Proof

theorem State.putReg_keeps {F : Nat} {s0 s : State} {a1 a2} (hF : Sub 0x1000000001 F) (h : Keeps F s0 s) :
    Keeps F s0 (State.putReg s a1 a2) := by
  unfold State.putReg
  exact State.wr_keeps (hF.of rfl) (CIn.any (hF.of rfl)) h

theorem State.writeRun_keeps {F : Nat} {s0 s : State} {a1 a2} (hF : Sub 0x3bf0600027e20160404f000013f8dc1f8e0587ddcc7cbb82ff F) (h : Keeps F s0 s) :
    Keeps F s0 (State.writeRun s a1 a2) := by
  unfold State.writeRun
  extract_lets +onlyGivenNames x1
  have h2 : Keeps F s0 x1 := State.wr_keeps (hF.of rfl) (R.SEQ_RUN_CONTROL_in (hF.of rfl)) h
  clear_value x1
  extract_lets +onlyGivenNames x3
  have h4 : Keeps F s0 x3 := Keeps.ite (fun _ => State.start_keeps (hF.of rfl) h2) (fun _ => h2)
  clear_value x3
  extract_lets +onlyGivenNames x5
  have h6 : Keeps F s0 x5 := Keeps.ite (fun _ => State.resume_keeps (hF.of rfl) h4) (fun _ => h4)
  clear_value x5
  extract_lets +onlyGivenNames x7
  have h8 : Keeps F s0 x7 := Keeps.ite (fun _ => State.holdNext_keeps (hF.of rfl) h6) (fun _ => h6)
  clear_value x7
  exact Keeps.ite (fun _ => State.stop_keeps (hF.of rfl) h8) (fun _ => h8)

theorem State.farDoorbell_keeps {F : Nat} {s0 s : State} {a1 a2} (hF : Sub 0x1bd0000007e200000000000000000000880001000c0c9b80ff F) (h : Keeps F s0 s) :
    Keeps F s0 (State.farDoorbell s a1 a2) := by
  unfold State.farDoorbell
  extract_lets +onlyGivenNames x1 x2
  clear_value x1 x2
  split
  · exact State.embResume_keeps (hF.of rfl) (State.stage_keeps (hF.of rfl) h)
  · exact State.release_keeps (hF.of rfl) h
  · exact h

theorem State.writeGlbState_keeps {F : Nat} {s0 s : State} {a1} (hF : Sub 0x1000000000001 F) (h : Keeps F s0 s) :
    Keeps F s0 (State.writeGlbState s a1) := by
  unfold State.writeGlbState
  refine Keeps.ite (fun _ => ?_) (fun _ => h)
  exact State.syncChip_keeps (hF.of rfl) (State.wrF_keeps (hF.of rfl) (R.GLB_STATE_in (hF.of rfl)) h)

theorem State.writeReg_keeps {F : Nat} {s0 s : State} {a1 a2 a3 a4} (hF : Sub 0x3ff270d82fe26160484f6c3cbff8dc1fce65efdfdffdffffff F) (h : Keeps F s0 s) :
    Keeps F s0 (State.writeReg s a1 a2 a3 a4) := by
  unfold State.writeReg
  extract_lets +onlyGivenNames x1 x2 x3
  clear_value x1 x2 x3
  refine Keeps.ite (fun _ => State.writeRun_keeps (hF.of rfl) h) (fun _ => ?_)
  refine Keeps.ite (fun _ => State.courseArm_keeps (hF.of rfl) h) (fun _ => ?_)
  refine Keeps.ite (fun _ => State.courseStoreWrite_keeps (hF.of rfl) h) (fun _ => ?_)
  refine Keeps.ite (fun _ => State.courseLoadGo_keeps (hF.of rfl) h) (fun _ => ?_)
  refine Keeps.ite (fun _ => State.strideLoadGo_keeps (hF.of rfl) h) (fun _ => ?_)
  refine Keeps.ite (fun _ => State.bfTaskWrite_keeps (hF.of rfl) h) (fun _ => ?_)
  refine Keeps.ite (fun _ => State.bfLoadGo_keeps (hF.of rfl) h) (fun _ => ?_)
  refine Keeps.ite (fun _ => State.farDoorbell_keeps (hF.of rfl) h) (fun _ => ?_)
  refine Keeps.ite (fun _ => State.hashGo_keeps (hF.of rfl) h) (fun _ => ?_)
  refine Keeps.ite (fun _ => State.writeEngineFence_keeps (hF.of rfl) h) (fun _ => ?_)
  refine Keeps.ite (fun _ => State.pageAttrWrite_keeps (hF.of rfl) h) (fun _ => ?_)
  refine Keeps.ite (fun _ => State.fenceRequest_keeps (hF.of rfl) h) (fun _ => ?_)
  refine Keeps.ite (fun _ => State.writeBringup_keeps (hF.of rfl) h) (fun _ => ?_)
  refine Keeps.ite (fun _ => State.writePartConfig_keeps (hF.of rfl) h) (fun _ => ?_)
  refine Keeps.ite (fun _ => State.writeGlbState_keeps (hF.of rfl) h) (fun _ => ?_)
  refine Keeps.ite (fun _ => State.writeCclk_keeps (hF.of rfl) h) (fun _ => ?_)
  refine Keeps.ite (fun _ => State.writeReset_keeps (hF.of rfl) h) (fun _ => ?_)
  refine Keeps.ite (fun _ => State.writeLinkCtrl_keeps (hF.of rfl) h) (fun _ => ?_)
  refine Keeps.ite (fun _ => State.writeRole_keeps (hF.of rfl) h) (fun _ => ?_)
  refine Keeps.ite (fun _ => State.writeDims_keeps (hF.of rfl) h) (fun _ => ?_)
  refine Keeps.ite (fun _ => State.writeChipId_keeps (hF.of rfl) h) (fun _ => ?_)
  refine Keeps.ite (fun _ => State.writeTimeCtrl_keeps (hF.of rfl) h) (fun _ => ?_)
  refine Keeps.ite (fun _ => State.timeSet_keeps (hF.of rfl) h) (fun _ => ?_)
  refine Keeps.ite (fun _ => State.beat_keeps (hF.of rfl) h) (fun _ => ?_)
  refine Keeps.ite (fun _ => Keeps.ite (fun _ => State.attach_keeps (hF.of rfl) h) (fun _ => h)) (fun _ => ?_)
  refine Keeps.ite (fun _ => State.writeQueEnable_keeps (hF.of rfl) h) (fun _ => ?_)
  refine Keeps.ite (fun _ => State.writeFwup_keeps (hF.of rfl) h) (fun _ => ?_)
  refine Keeps.ite (fun _ => State.writeGunCtrl_keeps (hF.of rfl) h) (fun _ => ?_)
  refine Keeps.ite (fun _ => State.regErr_keeps (hF.of rfl) h) (fun _ => ?_)
  extract_lets +onlyGivenNames x4
  have h5 : Keeps F s0 x4 := State.putReg_keeps (hF.of rfl) h
  clear_value x4
  exact Keeps.ite (fun _ => State.restage_keeps (hF.of rfl) h5) (fun _ => h5)

theorem State.relayGo_keeps {F : Nat} {s0 s : State} {a1 a2 a3} (hF : Sub 0x3ff270de2fe26160484f6c3cbff8dc1fce65efdfdffdffffff F) (h : Keeps F s0 s) :
    Keeps F s0 (State.relayGo s a1 a2 a3) := by
  unfold State.relayGo
  refine Keeps.ite (fun _ => State.regErr_keeps (hF.of rfl) h) (fun _ => ?_)
  extract_lets +onlyGivenNames x1
  have h2 : Keeps F s0 x1 := State.wrFs_keeps (hF.of rfl) (R.MGT_RELAY_CTRL_in (hF.of rfl)) h
  clear_value x1
  extract_lets +onlyGivenNames x3 x4
  clear_value x3 x4
  split
  · refine State.mgt!_keeps (hF.of rfl) ?_
    exact State.wr_keeps (hF.of rfl) (R.MGT_RELAY_DATA_in (hF.of rfl)) (State.badAccess_keeps (hF.of rfl) h2)
  · extract_lets +onlyGivenNames x5
    have h6 : Keeps F s0 x5 := State.mgt!_keeps (hF.of rfl) h2
    clear_value x5
    extract_lets +onlyGivenNames x7
    clear_value x7
    refine Keeps.ite (fun _ => State.wr_keeps (hF.of rfl) (R.MGT_RELAY_DATA_in (hF.of rfl)) h6) (fun _ => ?_)
    refine Keeps.ite (fun _ => h6) (fun _ => ?_)
    refine Keeps.ite (fun _ => ?_) (fun _ => State.writeReg_keeps (hF.of rfl) h6)
    exact Keeps.ite (fun _ => State.regErr_keeps (hF.of rfl) h6) (fun _ => State.putReg_keeps (hF.of rfl) h6)

theorem State.relayDone_keeps {F : Nat} {s0 s : State} (hF : Sub 0x4000000000000000000000000000000000000000001 F) (h : Keeps F s0 s) :
    Keeps F s0 (State.relayDone s) := by
  unfold State.relayDone
  exact Keeps.ite (fun _ => h) (fun _ => State.wrFs_keeps (hF.of rfl) (R.MGT_RELAY_CTRL_in (hF.of rfl)) h)

theorem State.regWrite_keeps {F : Nat} {s0 s : State} {a1 a2 a3 a4 a5} (hF : Sub 0x3ff270de2fe26160484f6c3cbff8dc1fce65efdfdffdffffff F) (h : Keeps F s0 s) :
    Keeps F s0 (State.regWrite s a1 a2 a3 a4 a5) := by
  unfold State.regWrite
  split
  · exact State.badAccess_keeps (hF.of rfl) h
  · exact h
  · extract_lets +onlyGivenNames x1
    clear_value x1
    refine Keeps.ite (fun _ => ?_) (fun _ => State.writeReg_keeps (hF.of rfl) h)
    exact Keeps.ite (fun _ => State.relayGo_keeps (hF.of rfl) h) (fun _ => State.putReg_keeps (hF.of rfl) h)

theorem execRegWrite_keeps {F : Nat} {s0 s : State} {a1 a2 a3 a4 a5 a6} (hF : Sub 0x3ff270de2fe26160484f6c3cbff8dc1fce65efdfdffdffffff F) (h : Keeps F s0 s) :
    KeepsX F s0 (execRegWrite a1 a2 a3 a4 a5 a6 s) := by
  unfold execRegWrite
  exact KeepsX.next (Keeps.ite (fun _ => State.regWrite_keeps (hF.of rfl) h) (fun _ => h))

theorem execRelayRead_keeps {F : Nat} {s0 s : State} {a1} (hF : Sub 0x3ff270de2fe26160484f6c3cbff8dc1fce65efdfdffdffffff F) (h : Keeps F s0 s) :
    KeepsX F s0 (execRelayRead a1 s) := by
  unfold execRelayRead
  exact KeepsX.next (State.relayGo_keeps (hF.of rfl) h)

theorem execRelayWrite_keeps {F : Nat} {s0 s : State} {a1 a2 a3 a4} (hF : Sub 0x3ff270de2fe26160484f6c3cbff8dc1fce65efdfdffdffffff F) (h : Keeps F s0 s) :
    KeepsX F s0 (execRelayWrite a1 a2 a3 a4 s) := by
  unfold execRelayWrite
  exact KeepsX.next (State.relayGo_keeps (hF.of rfl) h)

theorem execRelayAccessDone_keeps {F : Nat} {s0 s : State} (hF : Sub 0x4000000000000000000000000000000000000000001 F) (h : Keeps F s0 s) :
    KeepsX F s0 (execRelayAccessDone s) := by
  unfold execRelayAccessDone
  exact KeepsX.next (State.relayDone_keeps (hF.of rfl) h)

end Sys2Proof.Machine
end

