-- ==== Sys2Proof/Laws/KeepsBuzeik.lean ====
section
/-! SUPPORT. What the operations of Machine/Buzeik.lean keep (Laws/Keeps.lean): one lemma for each. -/

namespace Sys2Proof.Machine

open Sys2Proof

theorem State.bzSay_keeps {F : Nat} {s0 s : State} {a1 a2 a3 a4 a5} (hF : Sub 0x400800000 F) (h : Keeps F s0 s) :
    Keeps F s0 (State.bzSay s a1 a2 a3 a4 a5) := by
  unfold State.bzSay
  exact State.mctpSend_keeps (hF.of rfl) h

theorem State.bzIf_keeps {F : Nat} {s0 s : State} {a1 a2 a3 a4 a5} (hF : Sub 0x400800000 F) (h : Keeps F s0 s) (hf5 : ∀ y1, Keeps F s0 y1 → Keeps F s0 (a5 y1).1) :
    Keeps F s0 (State.bzIf s a1 a2 a3 a4 a5) := by
  unfold State.bzIf
  refine Keeps.ite (fun _ => h) (fun _ => ?_)
  refine Keeps.ite (fun _ => State.bzSay_keeps (hF.of rfl) h) (fun _ => ?_)
  refine Keeps.ite (fun _ => State.bzSay_keeps (hF.of rfl) h) (fun _ => ?_)
  extract_lets +onlyGivenNames x1
  have h2 : Keeps F s0 x1.1 := by
    unfold x1
    apply hf5
    exact h
  clear_value x1
  exact State.bzSay_keeps (hF.of rfl) h2

theorem State.bzWrite_keeps {F : Nat} {s0 s : State} {a1 a2 a3 a4} (hF : Sub 0x3ff270de2fe26160484f6c3cbff8dc1fce65efdfdffdffffff F) (h : Keeps F s0 s) :
    Keeps F s0 (State.bzWrite s a1 a2 a3 a4).1 := by
  unfold State.bzWrite
  refine Keeps.iteFst (fun _ => Keeps.mkFst (State.badAccess_keeps (hF.of rfl) h)) (fun _ => ?_)
  extract_lets +onlyGivenNames x1
  clear_value x1
  extract_lets +onlyGivenNames x2
  have h3 : Keeps F s0 x2 := State.regWrite_keeps (hF.of rfl) h
  clear_value x2
  refine Keeps.iteFst (fun _ => Keeps.mkFst h3) (fun _ => ?_)
  extract_lets +onlyGivenNames x4
  have h5 : Keeps F s0 x4.2 := State.takeFree_keeps (hF.of rfl) h3
  clear_value x4
  exact Keeps.mkFst h5

theorem execGetIdentity_keeps {F : Nat} {s0 s : State} {a1 a2} (hF : Sub 0x400800000 F) (h : Keeps F s0 s) :
    KeepsX F s0 (execGetIdentity a1 a2 s) := by
  unfold execGetIdentity
  refine KeepsX.next ?_
  refine State.bzIf_keeps (hF.of rfl) h ?_
  intro y1 y2
  exact Keeps.mkFst y2

theorem execGetState_keeps {F : Nat} {s0 s : State} {a1 a2} (hF : Sub 0x400800000 F) (h : Keeps F s0 s) :
    KeepsX F s0 (execGetState a1 a2 s) := by
  unfold execGetState
  refine KeepsX.next ?_
  refine State.bzIf_keeps (hF.of rfl) h ?_
  intro y1 y2
  exact Keeps.mkFst y2

theorem execReadReg_keeps {F : Nat} {s0 s : State} {a1 a2 a3 a4} (hF : Sub 0x10000007e0000000000000000000000000000004049b8009 F) (h : Keeps F s0 s) :
    KeepsX F s0 (execReadReg a1 a2 a3 a4 s) := by
  unfold execReadReg
  refine KeepsX.next ?_
  refine State.bzIf_keeps (hF.of rfl) h ?_
  intro y1 y2
  split
  · exact Keeps.mkFst y2
  · exact Keeps.mkFst (State.badAccess_keeps (hF.of rfl) y2)

theorem execWriteReg_keeps {F : Nat} {s0 s : State} {a1 a2 a3 a4 a5} (hF : Sub 0x3ff270de2fe26160484f6c3cbff8dc1fce65efdfdffdffffff F) (h : Keeps F s0 s) :
    KeepsX F s0 (execWriteReg a1 a2 a3 a4 a5 s) := by
  unfold execWriteReg
  refine KeepsX.next ?_
  refine State.bzIf_keeps (hF.of rfl) h ?_
  intro y1 y2
  exact Keeps.iteFst (fun _ => Keeps.mkFst y2) (fun _ => State.bzWrite_keeps (hF.of rfl) y2)

theorem execGetSensors_keeps {F : Nat} {s0 s : State} {a1 a2 a3 a4} (hF : Sub 0x400800000 F) (h : Keeps F s0 s) :
    KeepsX F s0 (execGetSensors a1 a2 a3 a4 s) := by
  unfold execGetSensors
  refine KeepsX.next ?_
  refine State.bzIf_keeps (hF.of rfl) h ?_
  intro y1 y2
  exact Keeps.iteFst (fun _ => Keeps.mkFst y2) (fun _ => Keeps.mkFst y2)

theorem execGetSnapshot_keeps {F : Nat} {s0 s : State} {a1 a2 a3 a4 a5} (hF : Sub 0x10000007e0000000000000000000000000000004049b8009 F) (h : Keeps F s0 s) :
    KeepsX F s0 (execGetSnapshot a1 a2 a3 a4 a5 s) := by
  unfold execGetSnapshot
  refine KeepsX.next ?_
  refine State.bzIf_keeps (hF.of rfl) h ?_
  intro y1 y2
  refine Keeps.iteFst (fun _ => Keeps.mkFst y2) (fun _ => ?_)
  extract_lets +onlyGivenNames x3
  clear_value x3
  split
  · exact Keeps.mkFst (State.badAccess_keeps (hF.of rfl) y2)
  · exact Keeps.mkFst y2

theorem execArmGun_keeps {F : Nat} {s0 s : State} {a1 a2 a3 a4} (hF : Sub 0x810700007e00000000000000000000000000000040c9b8019 F) (h : Keeps F s0 s) :
    KeepsX F s0 (execArmGun a1 a2 a3 a4 s) := by
  unfold execArmGun
  refine KeepsX.next ?_
  refine State.bzIf_keeps (hF.of rfl) h ?_
  intro y1 y2
  extract_lets +onlyGivenNames x3
  have h4 : Keeps F s0 x3 := by
    exact State.writeGunCtrl_keeps (hF.of rfl) (State.wr_keeps (hF.of rfl) (R.TEL_GUN_TARGET_in (hF.of rfl)) y2)
  clear_value x3
  exact Keeps.mkFst h4

theorem execReset_keeps {F : Nat} {s0 s : State} {a1 a2 a3 a4} (hF : Sub 0x3bf0609007e220000040203422000000880001801ffdffffff F) (h : Keeps F s0 s) :
    KeepsX F s0 (execReset a1 a2 a3 a4 s) := by
  unfold execReset
  refine KeepsX.next ?_
  extract_lets +onlyGivenNames x1
  clear_value x1
  extract_lets +onlyGivenNames x2
  have h3 : Keeps F s0 x2 := by
    unfold x2
    refine State.bzIf_keeps (hF.of rfl) h ?_
    intro y4 y5
    exact Keeps.mkFst y5
  clear_value x2
  exact Keeps.ite (fun _ => State.resetRequest_keeps (hF.of rfl) h3) (fun _ => h3)

theorem execReadEvents_keeps {F : Nat} {s0 s : State} {a1 a2 a3 a4} (hF : Sub 0x400800000 F) (h : Keeps F s0 s) :
    KeepsX F s0 (execReadEvents a1 a2 a3 a4 s) := by
  unfold execReadEvents
  refine KeepsX.next ?_
  refine State.bzIf_keeps (hF.of rfl) h ?_
  intro y1 y2
  exact Keeps.iteFst (fun _ => Keeps.mkFst y2) (fun _ => Keeps.mkFst y2)

theorem execSubscribe_keeps {F : Nat} {s0 s : State} {a1 a2 a3} (hF : Sub 0x400840000 F) (h : Keeps F s0 s) :
    KeepsX F s0 (execSubscribe a1 a2 a3 s) := by
  unfold execSubscribe
  refine KeepsX.next ?_
  refine State.bzIf_keeps (hF.of rfl) h ?_
  intro y1 y2
  refine Keeps.mkFst ?_
  extract_lets +onlyGivenNames x3
  have h4 : Keeps F s0 x3 := State.mgt!_keeps (hF.of rfl) y2
  clear_value x3
  exact Keeps.setSubMask h4 (hF.of rfl)

theorem execGetLapReport_keeps {F : Nat} {s0 s : State} {a1 a2 a3 a4} (hF : Sub 0x400800000 F) (h : Keeps F s0 s) :
    KeepsX F s0 (execGetLapReport a1 a2 a3 a4 s) := by
  unfold execGetLapReport
  refine KeepsX.next ?_
  refine State.bzIf_keeps (hF.of rfl) h ?_
  intro y1 y2
  split
  · exact Keeps.mkFst y2
  · exact Keeps.mkFst y2

theorem execSetPower_keeps {F : Nat} {s0 s : State} {a1 a2 a3} (hF : Sub 0x3ff270de2fe26160484f6c3cbff8dc1fce65efdfdffdffffff F) (h : Keeps F s0 s) :
    KeepsX F s0 (execSetPower a1 a2 a3 s) := by
  unfold execSetPower
  refine KeepsX.next ?_
  refine State.bzIf_keeps (hF.of rfl) h ?_
  intro y1 y2
  exact State.bzWrite_keeps (hF.of rfl) y2

theorem execEventNotify_keeps {F : Nat} {s0 s : State} (hF : Sub 0xc00880000 F) (h : Keeps F s0 s) :
    KeepsX F s0 (execEventNotify s) := by
  unfold execEventNotify
  refine KeepsX.next ?_
  split
  · refine Keeps.ite (fun _ => ?_) (fun _ => h)
    extract_lets +onlyGivenNames x1
    have h2 : Keeps F s0 x1.2 := State.takeFree_keeps (hF.of rfl) (Keeps.setNotify h (hF.of rfl))
    clear_value x1
    exact State.mctpSend_keeps (hF.of rfl) h2
  · exact h

theorem execNotifyTimeout_keeps {F : Nat} {s0 s : State} (hF : Sub 0x20000000000000000000000000000000000000000000080001 F) (h : Keeps F s0 s) :
    KeepsX F s0 (execNotifyTimeout s) := by
  unfold execNotifyTimeout
  refine KeepsX.next ?_
  split
  · exact State.count_keeps (hF.of rfl) (R.CNT_TEL_in (hF.of rfl)) (Keeps.setNotify h (hF.of rfl))
  · exact h

end Sys2Proof.Machine
end

section
/-! SUPPORT. What every command keeps, in one statement: the mask of its `…_keeps` lemma lies within its footprint. From it
come the frame of a command (O4) and the canonical forms along a step (O3). -/

namespace Sys2Proof.Machine

open Sys2Proof

/-- Two cards name the same entries. -/
def Card.sameShape (c d : Card) : Bool :=
  c.blk = d.blk && c.off = d.off && c.view = d.view && c.stride = d.stride && c.count = d.count

theorem Card.owns_of_sameShape {c d : Card} {a : Nat} (h : c.sameShape d = true) (ho : c.owns a) : d.owns a := by
  simp only [Card.sameShape, Bool.and_eq_true, decide_eq_true_eq] at h
  obtain ⟨⟨⟨⟨hb, hf⟩, hv⟩, hs⟩, hn⟩ := h
  simpa only [Card.owns, Card.has, Card.addr, hb, hf, hv, hs, hn] using ho

/-- The cards that mask `M` names stand in `l`. -/
def cardsOk (M : Nat) (l : List Card) : Bool :=
  !M.testBit 36 && decide (M < 2 ^ 200) &&
    (bitsOf M).all (fun i => l.any (fun d => (cardTable.getD i R.GLB_DEVICE_ID).sameShape d))

/-- The footprint names every part and every card that mask `M` names. -/
def Footprint.covers (fp : Footprint) (M : Nat) : Bool :=
  partsOk M fp.parts && match fp.regs with
    | .any => true
    | .of l => cardsOk M l

/-- A register outside the cards of `l` reads as before, when the mask's cards stand in `l`. -/
theorem Keeps.find_of_cardsOk {M : Nat} {s t : State} {l : List Card} (h : Keeps M s t) (hl : cardsOk M l = true)
    {a : Nat} (ha : ∀ d ∈ l, ¬ d.owns a) : Sp.find a t.regs = Sp.find a s.regs := by
  simp only [cardsOk, Bool.and_eq_true, Bool.not_eq_true', decide_eq_true_eq, List.all_eq_true, List.any_eq_true] at hl
  obtain ⟨⟨h36, hM⟩, hin⟩ := hl
  refine h.cards a (fun c hc ho => ?_) h36
  rcases hc with hc | ⟨i, hi, e⟩
  · rw [h36] at hc; cases hc
  · obtain ⟨d, hd, hs⟩ := hin i (mem_bitsOf hM hi)
    rw [List.getD_eq_getElem?_getD, e] at hs
    exact ha d hd (Card.owns_of_sameShape hs ho)

/-- What keeps all that a footprint does not name leaves the footprint's frame. -/
theorem Keeps.foot {M : Nat} {s t : State} {fp : Footprint} (h : Keeps M s t) (hc : fp.covers M = true) :
    t.pending = s.pending ∧ s.out <+: t.out ∧ (∀ f, f ∉ fp.parts → f.Same s t) ∧
    ∀ l, fp.regs = .of l → ∀ a, (∀ d ∈ l, ¬ d.owns a) → Sp.find a t.regs = Sp.find a s.regs := by
  simp only [Footprint.covers, Bool.and_eq_true] at hc
  obtain ⟨hp, hr⟩ := hc
  refine ⟨h.queue, h.out, fun f hf => h.frame f ?_, fun l hl a ha => ?_⟩
  · cases hb : M.testBit f.bit with
    | false => rfl
    | true => exact absurd (parts_mem hp f hb) hf
  · rw [hl] at hr
    exact h.find_of_cardsOk hr ha

/-- Every command keeps all that its footprint does not name, and the canonical forms. -/
theorem exec_keeps (c : Instr) (s : State) : ∃ M, (footprint c).covers M = true ∧ KeepsX M s (exec c s) := by
  cases c with
  | regWrite => exact ⟨_, rfl, execRegWrite_keeps (Sub.self _) (Keeps.refl _ s)⟩
  | powerOnReset => exact ⟨_, rfl, execPowerOnReset_keeps (Sub.self _) (Keeps.refl _ s)⟩
  | powerOnResetEnd => exact ⟨_, rfl, execPowerOnResetEnd_keeps (Sub.self _) (Keeps.refl _ s)⟩
  | perstDeassert => exact ⟨_, rfl, execPerstDeassert_keeps (Sub.self _) (Keeps.refl _ s)⟩
  | fuseLoad => exact ⟨_, rfl, execFuseLoad_keeps (Sub.self _) (Keeps.refl _ s)⟩
  | bridgeTrain => exact ⟨_, rfl, execBridgeTrain_keeps (Sub.self _) (Keeps.refl _ s)⟩
  | hbmTrain => exact ⟨_, rfl, execHbmTrain_keeps (Sub.self _) (Keeps.refl _ s)⟩
  | bulkTrain => exact ⟨_, rfl, execBulkTrain_keeps (Sub.self _) (Keeps.refl _ s)⟩
  | opticsUp => exact ⟨_, rfl, execOpticsUp_keeps (Sub.self _) (Keeps.refl _ s)⟩
  | memTest => exact ⟨_, rfl, execMemTest_keeps (Sub.self _) (Keeps.refl _ s)⟩
  | discover => exact ⟨_, rfl, execDiscover_keeps (Sub.self _) (Keeps.refl _ s)⟩
  | saveSettings => exact ⟨_, rfl, execSaveSettings_keeps (Sub.self _) (Keeps.refl _ s)⟩
  | clearSettings => exact ⟨_, rfl, execClearSettings_keeps (Sub.self _) (Keeps.refl _ s)⟩
  | ready => exact ⟨_, rfl, execReady_keeps (Sub.self _) (Keeps.refl _ s)⟩
  | routineEnd => exact ⟨_, rfl, execRoutineEnd_keeps (Sub.self _) (Keeps.refl _ s)⟩
  | discoverTimeout => exact ⟨_, rfl, execDiscoverTimeout_keeps (Sub.self _) (Keeps.refl _ s)⟩
  | relayRead => exact ⟨_, rfl, execRelayRead_keeps (Sub.self _) (Keeps.refl _ s)⟩
  | relayWrite => exact ⟨_, rfl, execRelayWrite_keeps (Sub.self _) (Keeps.refl _ s)⟩
  | relayAccessDone => exact ⟨_, rfl, execRelayAccessDone_keeps (Sub.self _) (Keeps.refl _ s)⟩
  | coreReset => exact ⟨_, rfl, execCoreReset_keeps (Sub.self _) (Keeps.refl _ s)⟩
  | clusterReset => exact ⟨_, rfl, execClusterReset_keeps (Sub.self _) (Keeps.refl _ s)⟩
  | partitionReset => exact ⟨_, rfl, execPartitionReset_keeps (Sub.self _) (Keeps.refl _ s)⟩
  | warmChipReset => exact ⟨_, rfl, execWarmChipReset_keeps (Sub.self _) (Keeps.refl _ s)⟩
  | coldChipReset => exact ⟨_, rfl, execColdChipReset_keeps (Sub.self _) (Keeps.refl _ s)⟩
  | resetDone => exact ⟨_, rfl, execResetDone_keeps (Sub.self _) (Keeps.refl _ s)⟩
  | cclkFreqWrite => exact ⟨_, rfl, execCclkFreqWrite_keeps (Sub.self _) (Keeps.refl _ s)⟩
  | cclkRelockDone => exact ⟨_, rfl, execCclkRelockDone_keeps (Sub.self _) (Keeps.refl _ s)⟩
  | droopTrip => exact ⟨_, rfl, execDroopTrip_keeps (Sub.self _) (Keeps.refl _ s)⟩
  | droopStretchEnd => exact ⟨_, rfl, execDroopStretchEnd_keeps (Sub.self _) (Keeps.refl _ s)⟩
  | start => exact ⟨_, rfl, execStart_keeps (Sub.self _) (Keeps.refl _ s)⟩
  | resume => exact ⟨_, rfl, execResume_keeps (Sub.self _) (Keeps.refl _ s)⟩
  | stop => exact ⟨_, rfl, execStop_keeps (Sub.self _) (Keeps.refl _ s)⟩
  | holdNext => exact ⟨_, rfl, execHoldNext_keeps (Sub.self _) (Keeps.refl _ s)⟩
  | courseArmWrite => exact ⟨_, rfl, execCourseArmWrite_keeps (Sub.self _) (Keeps.refl _ s)⟩
  | courseStoreWrite => exact ⟨_, rfl, execCourseStoreWrite_keeps (Sub.self _) (Keeps.refl _ s)⟩
  | courseLoadGo => exact ⟨_, rfl, execCourseLoadGo_keeps (Sub.self _) (Keeps.refl _ s)⟩
  | courseLoadDone => exact ⟨_, rfl, execCourseLoadDone_keeps (Sub.self _) (Keeps.refl _ s)⟩
  | courseStagingDone => exact ⟨_, rfl, execCourseStagingDone_keeps (Sub.self _) (Keeps.refl _ s)⟩
  | strideLoadGo => exact ⟨_, rfl, execStrideLoadGo_keeps (Sub.self _) (Keeps.refl _ s)⟩
  | strideLoadEnd => exact ⟨_, rfl, execStrideLoadEnd_keeps (Sub.self _) (Keeps.refl _ s)⟩
  | strideDigestGo => exact ⟨_, rfl, execStrideDigestGo_keeps (Sub.self _) (Keeps.refl _ s)⟩
  | strideDigestEnd => exact ⟨_, rfl, execStrideDigestEnd_keeps (Sub.self _) (Keeps.refl _ s)⟩
  | strideImageWrite => exact ⟨_, rfl, execStrideImageWrite_keeps (Sub.self _) (Keeps.refl _ s)⟩
  | strideWordIssue => exact ⟨_, rfl, execStrideWordIssue_keeps (Sub.self _) (Keeps.refl _ s)⟩
  | hold p k => exact ⟨_, rfl, execHold_keeps (a1 := p) (a2 := k) (Sub.self _) (Keeps.refl _ s)⟩
  | dispatch => exact ⟨_, rfl, execDispatch_keeps (Sub.self _) (Keeps.refl _ s)⟩
  | rest => exact ⟨_, rfl, execRest_keeps (Sub.self _) (Keeps.refl _ s)⟩
  | seqLockstep => exact ⟨_, rfl, execSeqLockstep_keeps (Sub.self _) (Keeps.refl _ s)⟩
  | pacePoint => exact ⟨_, rfl, execPacePoint_keeps (Sub.self _) (Keeps.refl _ s)⟩
  | ledgerFold => exact ⟨_, rfl, execLedgerFold_keeps (Sub.self _) (Keeps.refl _ s)⟩
  | completionBoundary => exact ⟨_, rfl, execCompletionBoundary_keeps (Sub.self _) (Keeps.refl _ s)⟩
  | lapStateFinal => exact ⟨_, rfl, execLapStateFinal_keeps (Sub.self _) (Keeps.refl _ s)⟩
  | lapBoundary => exact ⟨_, rfl, execLapBoundary_keeps (Sub.self _) (Keeps.refl _ s)⟩
  | repeatBoundary => exact ⟨_, rfl, execRepeatBoundary_keeps (Sub.self _) (Keeps.refl _ s)⟩
  | failingBoundary => exact ⟨_, rfl, execFailingBoundary_keeps (Sub.self _) (Keeps.refl _ s)⟩
  | pacedDeadline => exact ⟨_, rfl, execPacedDeadline_keeps (Sub.self _) (Keeps.refl _ s)⟩
  | peerStallTimeout => exact ⟨_, rfl, execPeerStallTimeout_keeps (Sub.self _) (Keeps.refl _ s)⟩
  | nop => exact ⟨_, rfl, execNop_keeps (Sub.self _) (Keeps.refl _ s)⟩
  | mma => exact ⟨_, rfl, execMma_keeps (Sub.self _) (Keeps.refl _ s)⟩
  | mmaS => exact ⟨_, rfl, execMmaS_keeps (Sub.self _) (Keeps.refl _ s)⟩
  | mmaRd => exact ⟨_, rfl, execMmaRd_keeps (Sub.self _) (Keeps.refl _ s)⟩
  | mmaLd => exact ⟨_, rfl, execMmaLd_keeps (Sub.self _) (Keeps.refl _ s)⟩
  | vld => exact ⟨_, rfl, execVld_keeps (Sub.self _) (Keeps.refl _ s)⟩
  | vst => exact ⟨_, rfl, execVst_keeps (Sub.self _) (Keeps.refl _ s)⟩
  | vadd => exact ⟨_, rfl, execVadd_keeps (Sub.self _) (Keeps.refl _ s)⟩
  | vsub => exact ⟨_, rfl, execVsub_keeps (Sub.self _) (Keeps.refl _ s)⟩
  | vmul => exact ⟨_, rfl, execVmul_keeps (Sub.self _) (Keeps.refl _ s)⟩
  | vfma => exact ⟨_, rfl, execVfma_keeps (Sub.self _) (Keeps.refl _ s)⟩
  | vmax => exact ⟨_, rfl, execVmax_keeps (Sub.self _) (Keeps.refl _ s)⟩
  | vmin => exact ⟨_, rfl, execVmin_keeps (Sub.self _) (Keeps.refl _ s)⟩
  | vabs => exact ⟨_, rfl, execVabs_keeps (Sub.self _) (Keeps.refl _ s)⟩
  | vneg => exact ⟨_, rfl, execVneg_keeps (Sub.self _) (Keeps.refl _ s)⟩
  | vrcp => exact ⟨_, rfl, execVrcp_keeps (Sub.self _) (Keeps.refl _ s)⟩
  | vrsqrt => exact ⟨_, rfl, execVrsqrt_keeps (Sub.self _) (Keeps.refl _ s)⟩
  | vsqrt => exact ⟨_, rfl, execVsqrt_keeps (Sub.self _) (Keeps.refl _ s)⟩
  | vexp2 => exact ⟨_, rfl, execVexp2_keeps (Sub.self _) (Keeps.refl _ s)⟩
  | vlog2 => exact ⟨_, rfl, execVlog2_keeps (Sub.self _) (Keeps.refl _ s)⟩
  | vtanh => exact ⟨_, rfl, execVtanh_keeps (Sub.self _) (Keeps.refl _ s)⟩
  | vdiv => exact ⟨_, rfl, execVdiv_keeps (Sub.self _) (Keeps.refl _ s)⟩
  | vcmp => exact ⟨_, rfl, execVcmp_keeps (Sub.self _) (Keeps.refl _ s)⟩
  | vsel => exact ⟨_, rfl, execVsel_keeps (Sub.self _) (Keeps.refl _ s)⟩
  | vint => exact ⟨_, rfl, execVint_keeps (Sub.self _) (Keeps.refl _ s)⟩
  | vcvti => exact ⟨_, rfl, execVcvti_keeps (Sub.self _) (Keeps.refl _ s)⟩
  | vrnd => exact ⟨_, rfl, execVrnd_keeps (Sub.self _) (Keeps.refl _ s)⟩
  | vreduce => exact ⟨_, rfl, execVreduce_keeps (Sub.self _) (Keeps.refl _ s)⟩
  | vperm => exact ⟨_, rfl, execVperm_keeps (Sub.self _) (Keeps.refl _ s)⟩
  | vcbl => exact ⟨_, rfl, execVcbl_keeps (Sub.self _) (Keeps.refl _ s)⟩
  | vqnt => exact ⟨_, rfl, execVqnt_keeps (Sub.self _) (Keeps.refl _ s)⟩
  | vdqnt => exact ⟨_, rfl, execVdqnt_keeps (Sub.self _) (Keeps.refl _ s)⟩
  | vxadd => exact ⟨_, rfl, execVxadd_keeps (Sub.self _) (Keeps.refl _ s)⟩
  | vxrd => exact ⟨_, rfl, execVxrd_keeps (Sub.self _) (Keeps.refl _ s)⟩
  | vrng => exact ⟨_, rfl, execVrng_keeps (Sub.self _) (Keeps.refl _ s)⟩
  | vaccDyn => exact ⟨_, rfl, execVaccDyn_keeps (Sub.self _) (Keeps.refl _ s)⟩
  | gatherR => exact ⟨_, rfl, execGatherR_keeps (Sub.self _) (Keeps.refl _ s)⟩
  | gatherA => exact ⟨_, rfl, execGatherA_keeps (Sub.self _) (Keeps.refl _ s)⟩
  | scatterG => exact ⟨_, rfl, execScatterG_keeps (Sub.self _) (Keeps.refl _ s)⟩
  | scatterA => exact ⟨_, rfl, execScatterA_keeps (Sub.self _) (Keeps.refl _ s)⟩
  | dsend => exact ⟨_, rfl, execDsend_keeps (Sub.self _) (Keeps.refl _ s)⟩
  | send => exact ⟨_, rfl, execSend_keeps (Sub.self _) (Keeps.refl _ s)⟩
  | recv => exact ⟨_, rfl, execRecv_keeps (Sub.self _) (Keeps.refl _ s)⟩
  | tstamp => exact ⟨_, rfl, execTstamp_keeps (Sub.self _) (Keeps.refl _ s)⟩
  | cntrd => exact ⟨_, rfl, execCntrd_keeps (Sub.self _) (Keeps.refl _ s)⟩
  | gRequestComplete => exact ⟨_, rfl, execGRequestComplete_keeps (Sub.self _) (Keeps.refl _ s)⟩
  | restRunEnd => exact ⟨_, rfl, execRestRunEnd_keeps (Sub.self _) (Keeps.refl _ s)⟩
  | backfillDispatch => exact ⟨_, rfl, execBackfillDispatch_keeps (Sub.self _) (Keeps.refl _ s)⟩
  | backfillTaskComplete => exact ⟨_, rfl, execBackfillTaskComplete_keeps (Sub.self _) (Keeps.refl _ s)⟩
  | bfTaskWrite => exact ⟨_, rfl, execBfTaskWrite_keeps (Sub.self _) (Keeps.refl _ s)⟩
  | bfLoadGo => exact ⟨_, rfl, execBfLoadGo_keeps (Sub.self _) (Keeps.refl _ s)⟩
  | bfLoadEnd => exact ⟨_, rfl, execBfLoadEnd_keeps (Sub.self _) (Keeps.refl _ s)⟩
  | memRead => exact ⟨_, rfl, execMemRead_keeps (Sub.self _) (Keeps.refl _ s)⟩
  | memWrite => exact ⟨_, rfl, execMemWrite_keeps (Sub.self _) (Keeps.refl _ s)⟩
  | memFillZero => exact ⟨_, rfl, execMemFillZero_keeps (Sub.self _) (Keeps.refl _ s)⟩
  | bulkRead => exact ⟨_, rfl, execBulkRead_keeps (Sub.self _) (Keeps.refl _ s)⟩
  | bulkWrite => exact ⟨_, rfl, execBulkWrite_keeps (Sub.self _) (Keeps.refl _ s)⟩
  | bulkFillZero => exact ⟨_, rfl, execBulkFillZero_keeps (Sub.self _) (Keeps.refl _ s)⟩
  | memCmdComplete => exact ⟨_, rfl, execMemCmdComplete_keeps (Sub.self _) (Keeps.refl _ s)⟩
  | hbmRefresh => exact ⟨_, rfl, execHbmRefresh_keeps (Sub.self _) (Keeps.refl _ s)⟩
  | bulkRefresh k => exact ⟨_, rfl, execBulkRefresh_keeps (a1 := k) (Sub.self _) (Keeps.refl _ s)⟩
  | patrolScrub => exact ⟨_, rfl, execPatrolScrub_keeps (Sub.self _) (Keeps.refl _ s)⟩
  | pageAttrApply => exact ⟨_, rfl, execPageAttrApply_keeps (Sub.self _) (Keeps.refl _ s)⟩
  | stage => exact ⟨_, rfl, execStage_keeps (Sub.self _) (Keeps.refl _ s)⟩
  | release => exact ⟨_, rfl, execRelease_keeps (Sub.self _) (Keeps.refl _ s)⟩
  | farRecordPost => exact ⟨_, rfl, execFarRecordPost_keeps (Sub.self _) (Keeps.refl _ s)⟩
  | close => exact ⟨_, rfl, execClose_keeps (Sub.self _) (Keeps.refl _ s)⟩
  | refresh => exact ⟨_, rfl, execRefresh_keeps (Sub.self _) (Keeps.refl _ s)⟩
  | closeComplete => exact ⟨_, rfl, execCloseComplete_keeps (Sub.self _) (Keeps.refl _ s)⟩
  | rowRequestResolve => exact ⟨_, rfl, execRowRequestResolve_keeps (Sub.self _) (Keeps.refl _ s)⟩
  | caravanSend => exact ⟨_, rfl, execCaravanSend_keeps (Sub.self _) (Keeps.refl _ s)⟩
  | requestSegment => exact ⟨_, rfl, execRequestSegment_keeps (Sub.self _) (Keeps.refl _ s)⟩
  | returnSegment => exact ⟨_, rfl, execReturnSegment_keeps (Sub.self _) (Keeps.refl _ s)⟩
  | reverseSegment => exact ⟨_, rfl, execReverseSegment_keeps (Sub.self _) (Keeps.refl _ s)⟩
  | closeSegment => exact ⟨_, rfl, execCloseSegment_keeps (Sub.self _) (Keeps.refl _ s)⟩
  | closeAckSegment => exact ⟨_, rfl, execCloseAckSegment_keeps (Sub.self _) (Keeps.refl _ s)⟩
  | refreshSegment => exact ⟨_, rfl, execRefreshSegment_keeps (Sub.self _) (Keeps.refl _ s)⟩
  | refreshRetSegment => exact ⟨_, rfl, execRefreshRetSegment_keeps (Sub.self _) (Keeps.refl _ s)⟩
  | unknownSegment => exact ⟨_, rfl, execUnknownSegment_keeps (Sub.self _) (Keeps.refl _ s)⟩
  | caravanTimeout => exact ⟨_, rfl, execCaravanTimeout_keeps (Sub.self _) (Keeps.refl _ s)⟩
  | update => exact ⟨_, rfl, execUpdate_keeps (Sub.self _) (Keeps.refl _ s)⟩
  | sweep => exact ⟨_, rfl, execSweep_keeps (Sub.self _) (Keeps.refl _ s)⟩
  | drain => exact ⟨_, rfl, execDrain_keeps (Sub.self _) (Keeps.refl _ s)⟩
  | akcChunkDone => exact ⟨_, rfl, execAkcChunkDone_keeps (Sub.self _) (Keeps.refl _ s)⟩
  | akcCmdComplete => exact ⟨_, rfl, execAkcCmdComplete_keeps (Sub.self _) (Keeps.refl _ s)⟩
  | sweepRowDone => exact ⟨_, rfl, execSweepRowDone_keeps (Sub.self _) (Keeps.refl _ s)⟩
  | akcEngineFenceWrite => exact ⟨_, rfl, execAkcEngineFenceWrite_keeps (Sub.self _) (Keeps.refl _ s)⟩
  | hashGo => exact ⟨_, rfl, execHashGo_keeps (Sub.self _) (Keeps.refl _ s)⟩
  | hashEnd => exact ⟨_, rfl, execHashEnd_keeps (Sub.self _) (Keeps.refl _ s)⟩
  | frameTransmit => exact ⟨_, rfl, execFrameTransmit_keeps (Sub.self _) (Keeps.refl _ s)⟩
  | frameReceive => exact ⟨_, rfl, execFrameReceive_keeps (Sub.self _) (Keeps.refl _ s)⟩
  | ackTimeout => exact ⟨_, rfl, execAckTimeout_keeps (Sub.self _) (Keeps.refl _ s)⟩
  | laneWindowEnd => exact ⟨_, rfl, execLaneWindowEnd_keeps (Sub.self _) (Keeps.refl _ s)⟩
  | spareVerifyTimeout => exact ⟨_, rfl, execSpareVerifyTimeout_keeps (Sub.self _) (Keeps.refl _ s)⟩
  | laserLoss => exact ⟨_, rfl, execLaserLoss_keeps (Sub.self _) (Keeps.refl _ s)⟩
  | laserRestore => exact ⟨_, rfl, execLaserRestore_keeps (Sub.self _) (Keeps.refl _ s)⟩
  | portEnable => exact ⟨_, rfl, execPortEnable_keeps (Sub.self _) (Keeps.refl _ s)⟩
  | retrain => exact ⟨_, rfl, execRetrain_keeps (Sub.self _) (Keeps.refl _ s)⟩
  | park => exact ⟨_, rfl, execPark_keeps (Sub.self _) (Keeps.refl _ s)⟩
  | wake => exact ⟨_, rfl, execWake_keeps (Sub.self _) (Keeps.refl _ s)⟩
  | portParked => exact ⟨_, rfl, execPortParked_keeps (Sub.self _) (Keeps.refl _ s)⟩
  | portLockDone => exact ⟨_, rfl, execPortLockDone_keeps (Sub.self _) (Keeps.refl _ s)⟩
  | portTrainDone => exact ⟨_, rfl, execPortTrainDone_keeps (Sub.self _) (Keeps.refl _ s)⟩
  | portStageTimeout => exact ⟨_, rfl, execPortStageTimeout_keeps (Sub.self _) (Keeps.refl _ s)⟩
  | portDownRetry => exact ⟨_, rfl, execPortDownRetry_keeps (Sub.self _) (Keeps.refl _ s)⟩
  | credit => exact ⟨_, rfl, execCredit_keeps (Sub.self _) (Keeps.refl _ s)⟩
  | linkInfo => exact ⟨_, rfl, execLinkInfo_keeps (Sub.self _) (Keeps.refl _ s)⟩
  | timeReq => exact ⟨_, rfl, execTimeReq_keeps (Sub.self _) (Keeps.refl _ s)⟩
  | timeResp => exact ⟨_, rfl, execTimeResp_keeps (Sub.self _) (Keeps.refl _ s)⟩
  | coord => exact ⟨_, rfl, execCoord_keeps (Sub.self _) (Keeps.refl _ s)⟩
  | timeExchangeStart => exact ⟨_, rfl, execTimeExchangeStart_keeps (Sub.self _) (Keeps.refl _ s)⟩
  | timeHoldoverExpiry => exact ⟨_, rfl, execTimeHoldoverExpiry_keeps (Sub.self _) (Keeps.refl _ s)⟩
  | timeWrap => exact ⟨_, rfl, execTimeWrap_keeps (Sub.self _) (Keeps.refl _ s)⟩
  | packetRoute => exact ⟨_, rfl, execPacketRoute_keeps (Sub.self _) (Keeps.refl _ s)⟩
  | chipIdWrite => exact ⟨_, rfl, execChipIdWrite_keeps (Sub.self _) (Keeps.refl _ s)⟩
  | timeSet => exact ⟨_, rfl, execTimeSet_keeps (Sub.self _) (Keeps.refl _ s)⟩
  | collectiveStart => exact ⟨_, rfl, execCollectiveStart_keeps (Sub.self _) (Keeps.refl _ s)⟩
  | collectiveBegin => exact ⟨_, rfl, execCollectiveBegin_keeps (Sub.self _) (Keeps.refl _ s)⟩
  | arm => exact ⟨_, rfl, execArm_keeps (Sub.self _) (Keeps.refl _ s)⟩
  | inc => exact ⟨_, rfl, execInc_keeps (Sub.self _) (Keeps.refl _ s)⟩
  | baton => exact ⟨_, rfl, execBaton_keeps (Sub.self _) (Keeps.refl _ s)⟩
  | waycredit => exact ⟨_, rfl, execWaycredit_keeps (Sub.self _) (Keeps.refl _ s)⟩
  | lead => exact ⟨_, rfl, execLead_keeps (Sub.self _) (Keeps.refl _ s)⟩
  | resync => exact ⟨_, rfl, execResync_keeps (Sub.self _) (Keeps.refl _ s)⟩
  | digest => exact ⟨_, rfl, execDigest_keeps (Sub.self _) (Keeps.refl _ s)⟩
  | packetKindReserved => exact ⟨_, rfl, execPacketKindReserved_keeps (Sub.self _) (Keeps.refl _ s)⟩
  | batonTimeout => exact ⟨_, rfl, execBatonTimeout_keeps (Sub.self _) (Keeps.refl _ s)⟩
  | collectiveComplete => exact ⟨_, rfl, execCollectiveComplete_keeps (Sub.self _) (Keeps.refl _ s)⟩
  | triggerStall => exact ⟨_, rfl, execTriggerStall_keeps (Sub.self _) (Keeps.refl _ s)⟩
  | windowWrite => exact ⟨_, rfl, execWindowWrite_keeps (Sub.self _) (Keeps.refl _ s)⟩
  | windowRead => exact ⟨_, rfl, execWindowRead_keeps (Sub.self _) (Keeps.refl _ s)⟩
  | hdmAccess => exact ⟨_, rfl, execHdmAccess_keeps (Sub.self _) (Keeps.refl _ s)⟩
  | sqDoorbell => exact ⟨_, rfl, execSqDoorbell_keeps (Sub.self _) (Keeps.refl _ s)⟩
  | cqDoorbell => exact ⟨_, rfl, execCqDoorbell_keeps (Sub.self _) (Keeps.refl _ s)⟩
  | commandFetch => exact ⟨_, rfl, execCommandFetch_keeps (Sub.self _) (Keeps.refl _ s)⟩
  | cmdNop => exact ⟨_, rfl, execCmdNop_keeps (Sub.self _) (Keeps.refl _ s)⟩
  | inlineWrite => exact ⟨_, rfl, execInlineWrite_keeps (Sub.self _) (Keeps.refl _ s)⟩
  | copyIn => exact ⟨_, rfl, execCopyIn_keeps (Sub.self _) (Keeps.refl _ s)⟩
  | copyOut => exact ⟨_, rfl, execCopyOut_keeps (Sub.self _) (Keeps.refl _ s)⟩
  | copyDone => exact ⟨_, rfl, execCopyDone_keeps (Sub.self _) (Keeps.refl _ s)⟩
  | intakeCommit => exact ⟨_, rfl, execIntakeCommit_keeps (Sub.self _) (Keeps.refl _ s)⟩
  | intakeDigestClose => exact ⟨_, rfl, execIntakeDigestClose_keeps (Sub.self _) (Keeps.refl _ s)⟩
  | biasSet => exact ⟨_, rfl, execBiasSet_keeps (Sub.self _) (Keeps.refl _ s)⟩
  | queueCreate => exact ⟨_, rfl, execQueueCreate_keeps (Sub.self _) (Keeps.refl _ s)⟩
  | queueDestroy => exact ⟨_, rfl, execQueueDestroy_keeps (Sub.self _) (Keeps.refl _ s)⟩
  | backfill => exact ⟨_, rfl, execBackfill_keeps (Sub.self _) (Keeps.refl _ s)⟩
  | backfillLoad => exact ⟨_, rfl, execBackfillLoad_keeps (Sub.self _) (Keeps.refl _ s)⟩
  | post => exact ⟨_, rfl, execPost_keeps (Sub.self _) (Keeps.refl _ s)⟩
  | postStoreReserved => exact ⟨_, rfl, execPostStoreReserved_keeps (Sub.self _) (Keeps.refl _ s)⟩
  | hostCopyOut => exact ⟨_, rfl, execHostCopyOut_keeps (Sub.self _) (Keeps.refl _ s)⟩
  | hostCopyIn => exact ⟨_, rfl, execHostCopyIn_keeps (Sub.self _) (Keeps.refl _ s)⟩
  | intake => exact ⟨_, rfl, execIntake_keeps (Sub.self _) (Keeps.refl _ s)⟩
  | cplEntryPost => exact ⟨_, rfl, execCplEntryPost_keeps (Sub.self _) (Keeps.refl _ s)⟩
  | interruptModTimeout => exact ⟨_, rfl, execInterruptModTimeout_keeps (Sub.self _) (Keeps.refl _ s)⟩
  | hostReadCompletion => exact ⟨_, rfl, execHostReadCompletion_keeps (Sub.self _) (Keeps.refl _ s)⟩
  | hostReadTimeout => exact ⟨_, rfl, execHostReadTimeout_keeps (Sub.self _) (Keeps.refl _ s)⟩
  | tagQuarantineExpiry => exact ⟨_, rfl, execTagQuarantineExpiry_keeps (Sub.self _) (Keeps.refl _ s)⟩
  | atsInvalidation => exact ⟨_, rfl, execAtsInvalidation_keeps (Sub.self _) (Keeps.refl _ s)⟩
  | perstAssert => exact ⟨_, rfl, execPerstAssert_keeps (Sub.self _) (Keeps.refl _ s)⟩
  | hotReset => exact ⟨_, rfl, execHotReset_keeps (Sub.self _) (Keeps.refl _ s)⟩
  | flrPf0 => exact ⟨_, rfl, execFlrPf0_keeps (Sub.self _) (Keeps.refl _ s)⟩
  | flrVf => exact ⟨_, rfl, execFlrVf_keeps (Sub.self _) (Keeps.refl _ s)⟩
  | linkLossTimeout => exact ⟨_, rfl, execLinkLossTimeout_keeps (Sub.self _) (Keeps.refl _ s)⟩
  | heartbeatTimeout => exact ⟨_, rfl, execHeartbeatTimeout_keeps (Sub.self _) (Keeps.refl _ s)⟩
  | heartbeatWrite => exact ⟨_, rfl, execHeartbeatWrite_keeps (Sub.self _) (Keeps.refl _ s)⟩
  | attach => exact ⟨_, rfl, execAttach_keeps (Sub.self _) (Keeps.refl _ s)⟩
  | queueEnable => exact ⟨_, rfl, execQueueEnable_keeps (Sub.self _) (Keeps.refl _ s)⟩
  | queueDisable => exact ⟨_, rfl, execQueueDisable_keeps (Sub.self _) (Keeps.refl _ s)⟩
  | partitionEnable => exact ⟨_, rfl, execPartitionEnable_keeps (Sub.self _) (Keeps.refl _ s)⟩
  | partitionEnableDone => exact ⟨_, rfl, execPartitionEnableDone_keeps (Sub.self _) (Keeps.refl _ s)⟩
  | partitionDisable => exact ⟨_, rfl, execPartitionDisable_keeps (Sub.self _) (Keeps.refl _ s)⟩
  | hostkeyInstall => exact ⟨_, rfl, execHostkeyInstall_keeps (Sub.self _) (Keeps.refl _ s)⟩
  | hostkeyClear => exact ⟨_, rfl, execHostkeyClear_keeps (Sub.self _) (Keeps.refl _ s)⟩
  | ideKmProgram => exact ⟨_, rfl, execIdeKmProgram_keeps (Sub.self _) (Keeps.refl _ s)⟩
  | getVersion => exact ⟨_, rfl, execGetVersion_keeps (Sub.self _) (Keeps.refl _ s)⟩
  | getCapabilities => exact ⟨_, rfl, execGetCapabilities_keeps (Sub.self _) (Keeps.refl _ s)⟩
  | negotiateAlgorithms => exact ⟨_, rfl, execNegotiateAlgorithms_keeps (Sub.self _) (Keeps.refl _ s)⟩
  | getDigests => exact ⟨_, rfl, execGetDigests_keeps (Sub.self _) (Keeps.refl _ s)⟩
  | getCertificate => exact ⟨_, rfl, execGetCertificate_keeps (Sub.self _) (Keeps.refl _ s)⟩
  | challenge => exact ⟨_, rfl, execChallenge_keeps (Sub.self _) (Keeps.refl _ s)⟩
  | getMeasurements => exact ⟨_, rfl, execGetMeasurements_keeps (Sub.self _) (Keeps.refl _ s)⟩
  | keyExchange => exact ⟨_, rfl, execKeyExchange_keeps (Sub.self _) (Keeps.refl _ s)⟩
  | finish => exact ⟨_, rfl, execFinish_keeps (Sub.self _) (Keeps.refl _ s)⟩
  | heartbeat => exact ⟨_, rfl, execHeartbeat_keeps (Sub.self _) (Keeps.refl _ s)⟩
  | keyUpdate => exact ⟨_, rfl, execKeyUpdate_keeps (Sub.self _) (Keeps.refl _ s)⟩
  | endSession => exact ⟨_, rfl, execEndSession_keeps (Sub.self _) (Keeps.refl _ s)⟩
  | download => exact ⟨_, rfl, execDownload_keeps (Sub.self _) (Keeps.refl _ s)⟩
  | verify => exact ⟨_, rfl, execVerify_keeps (Sub.self _) (Keeps.refl _ s)⟩
  | activate => exact ⟨_, rfl, execActivate_keeps (Sub.self _) (Keeps.refl _ s)⟩
  | confirm => exact ⟨_, rfl, execConfirm_keeps (Sub.self _) (Keeps.refl _ s)⟩
  | fwupEnd => exact ⟨_, rfl, execFwupEnd_keeps (Sub.self _) (Keeps.refl _ s)⟩
  | fenceRequest => exact ⟨_, rfl, execFenceRequest_keeps (Sub.self _) (Keeps.refl _ s)⟩
  | meshLaneFail => exact ⟨_, rfl, execMeshLaneFail_keeps (Sub.self _) (Keeps.refl _ s)⟩
  | bridgeModuleFail => exact ⟨_, rfl, execBridgeModuleFail_keeps (Sub.self _) (Keeps.refl _ s)⟩
  | tsvLaneFail => exact ⟨_, rfl, execTsvLaneFail_keeps (Sub.self _) (Keeps.refl _ s)⟩
  | entdaa => exact ⟨_, rfl, execEntdaa_keeps (Sub.self _) (Keeps.refl _ s)⟩
  | rstdaa => exact ⟨_, rfl, execRstdaa_keeps (Sub.self _) (Keeps.refl _ s)⟩
  | setnewda => exact ⟨_, rfl, execSetnewda_keeps (Sub.self _) (Keeps.refl _ s)⟩
  | getpid => exact ⟨_, rfl, execGetpid_keeps (Sub.self _) (Keeps.refl _ s)⟩
  | getbcr => exact ⟨_, rfl, execGetbcr_keeps (Sub.self _) (Keeps.refl _ s)⟩
  | getdcr => exact ⟨_, rfl, execGetdcr_keeps (Sub.self _) (Keeps.refl _ s)⟩
  | getstatus => exact ⟨_, rfl, execGetstatus_keeps (Sub.self _) (Keeps.refl _ s)⟩
  | getmrl => exact ⟨_, rfl, execGetmrl_keeps (Sub.self _) (Keeps.refl _ s)⟩
  | setmrl => exact ⟨_, rfl, execSetmrl_keeps (Sub.self _) (Keeps.refl _ s)⟩
  | getmwl => exact ⟨_, rfl, execGetmwl_keeps (Sub.self _) (Keeps.refl _ s)⟩
  | setmwl => exact ⟨_, rfl, execSetmwl_keeps (Sub.self _) (Keeps.refl _ s)⟩
  | enec => exact ⟨_, rfl, execEnec_keeps (Sub.self _) (Keeps.refl _ s)⟩
  | disec => exact ⟨_, rfl, execDisec_keeps (Sub.self _) (Keeps.refl _ s)⟩
  | rstact => exact ⟨_, rfl, execRstact_keeps (Sub.self _) (Keeps.refl _ s)⟩
  | unsupportedCcc => exact ⟨_, rfl, execUnsupportedCcc_keeps (Sub.self _) (Keeps.refl _ s)⟩
  | hotJoin => exact ⟨_, rfl, execHotJoin_keeps (Sub.self _) (Keeps.refl _ s)⟩
  | ibi => exact ⟨_, rfl, execIbi_keeps (Sub.self _) (Keeps.refl _ s)⟩
  | setEndpointId => exact ⟨_, rfl, execSetEndpointId_keeps (Sub.self _) (Keeps.refl _ s)⟩
  | getEndpointId => exact ⟨_, rfl, execGetEndpointId_keeps (Sub.self _) (Keeps.refl _ s)⟩
  | getEndpointUuid => exact ⟨_, rfl, execGetEndpointUuid_keeps (Sub.self _) (Keeps.refl _ s)⟩
  | getMctpVersionSupport => exact ⟨_, rfl, execGetMctpVersionSupport_keeps (Sub.self _) (Keeps.refl _ s)⟩
  | getMessageTypeSupport => exact ⟨_, rfl, execGetMessageTypeSupport_keeps (Sub.self _) (Keeps.refl _ s)⟩
  | getVendorDefinedMessageSupport => exact ⟨_, rfl, execGetVendorDefinedMessageSupport_keeps (Sub.self _) (Keeps.refl _ s)⟩
  | mctpUnknownType => exact ⟨_, rfl, execMctpUnknownType_keeps (Sub.self _) (Keeps.refl _ s)⟩
  | getTid => exact ⟨_, rfl, execGetTid_keeps (Sub.self _) (Keeps.refl _ s)⟩
  | getPldmVersion => exact ⟨_, rfl, execGetPldmVersion_keeps (Sub.self _) (Keeps.refl _ s)⟩
  | getPldmTypes => exact ⟨_, rfl, execGetPldmTypes_keeps (Sub.self _) (Keeps.refl _ s)⟩
  | getPldmCommands => exact ⟨_, rfl, execGetPldmCommands_keeps (Sub.self _) (Keeps.refl _ s)⟩
  | getSensorReading => exact ⟨_, rfl, execGetSensorReading_keeps (Sub.self _) (Keeps.refl _ s)⟩
  | getStateSensorReadings => exact ⟨_, rfl, execGetStateSensorReadings_keeps (Sub.self _) (Keeps.refl _ s)⟩
  | getPdr => exact ⟨_, rfl, execGetPdr_keeps (Sub.self _) (Keeps.refl _ s)⟩
  | getPdrRepositoryInfo => exact ⟨_, rfl, execGetPdrRepositoryInfo_keeps (Sub.self _) (Keeps.refl _ s)⟩
  | setEventReceiver => exact ⟨_, rfl, execSetEventReceiver_keeps (Sub.self _) (Keeps.refl _ s)⟩
  | admitTenant => exact ⟨_, rfl, execAdmitTenant_keeps (Sub.self _) (Keeps.refl _ s)⟩
  | getIdentity => exact ⟨_, rfl, execGetIdentity_keeps (Sub.self _) (Keeps.refl _ s)⟩
  | getState => exact ⟨_, rfl, execGetState_keeps (Sub.self _) (Keeps.refl _ s)⟩
  | readReg => exact ⟨_, rfl, execReadReg_keeps (Sub.self _) (Keeps.refl _ s)⟩
  | writeReg => exact ⟨_, rfl, execWriteReg_keeps (Sub.self _) (Keeps.refl _ s)⟩
  | getSensors => exact ⟨_, rfl, execGetSensors_keeps (Sub.self _) (Keeps.refl _ s)⟩
  | getSnapshot => exact ⟨_, rfl, execGetSnapshot_keeps (Sub.self _) (Keeps.refl _ s)⟩
  | armGun => exact ⟨_, rfl, execArmGun_keeps (Sub.self _) (Keeps.refl _ s)⟩
  | reset => exact ⟨_, rfl, execReset_keeps (Sub.self _) (Keeps.refl _ s)⟩
  | readEvents => exact ⟨_, rfl, execReadEvents_keeps (Sub.self _) (Keeps.refl _ s)⟩
  | subscribe => exact ⟨_, rfl, execSubscribe_keeps (Sub.self _) (Keeps.refl _ s)⟩
  | getLapReport => exact ⟨_, rfl, execGetLapReport_keeps (Sub.self _) (Keeps.refl _ s)⟩
  | setPower => exact ⟨_, rfl, execSetPower_keeps (Sub.self _) (Keeps.refl _ s)⟩
  | eventNotify => exact ⟨_, rfl, execEventNotify_keeps (Sub.self _) (Keeps.refl _ s)⟩
  | notifyTimeout => exact ⟨_, rfl, execNotifyTimeout_keeps (Sub.self _) (Keeps.refl _ s)⟩
  | sensorSample => exact ⟨_, rfl, execSensorSample_keeps (Sub.self _) (Keeps.refl _ s)⟩
  | pmbusAlert => exact ⟨_, rfl, execPmbusAlert_keeps (Sub.self _) (Keeps.refl _ s)⟩
  | gunArm => exact ⟨_, rfl, execGunArm_keeps (Sub.self _) (Keeps.refl _ s)⟩
  | gunFireNow => exact ⟨_, rfl, execGunFireNow_keeps (Sub.self _) (Keeps.refl _ s)⟩
  | snapIn => exact ⟨_, rfl, execSnapIn_keeps (Sub.self _) (Keeps.refl _ s)⟩
  | gunFire => exact ⟨_, rfl, execGunFire_keeps (Sub.self _) (Keeps.refl _ s)⟩
  | gun => exact ⟨_, rfl, execGun_keeps (Sub.self _) (Keeps.refl _ s)⟩
  | sysrefLost => exact ⟨_, rfl, execSysrefLost_keeps (Sub.self _) (Keeps.refl _ s)⟩
  | oerefLost => exact ⟨_, rfl, execOerefLost_keeps (Sub.self _) (Keeps.refl _ s)⟩
  | oerefReturn => exact ⟨_, rfl, execOerefReturn_keeps (Sub.self _) (Keeps.refl _ s)⟩
  | extest => exact ⟨_, rfl, execExtest_keeps (Sub.self _) (Keeps.refl _ s)⟩
  | samplePreload => exact ⟨_, rfl, execSamplePreload_keeps (Sub.self _) (Keeps.refl _ s)⟩
  | idcode => exact ⟨_, rfl, execIdcode_keeps (Sub.self _) (Keeps.refl _ s)⟩
  | clamp => exact ⟨_, rfl, execClamp_keeps (Sub.self _) (Keeps.refl _ s)⟩
  | highz => exact ⟨_, rfl, execHighz_keeps (Sub.self _) (Keeps.refl _ s)⟩
  | bypass => exact ⟨_, rfl, execBypass_keeps (Sub.self _) (Keeps.refl _ s)⟩
  | tapReset => exact ⟨_, rfl, execTapReset_keeps (Sub.self _) (Keeps.refl _ s)⟩
  | frameLockLost => exact ⟨_, rfl, execFrameLockLost_keeps (Sub.self _) (Keeps.refl _ s)⟩
  | symbolLockLoss => exact ⟨_, rfl, execSymbolLockLoss_keeps (Sub.self _) (Keeps.refl _ s)⟩
  | peerTrainingBegins => exact ⟨_, rfl, execPeerTrainingBegins_keeps (Sub.self _) (Keeps.refl _ s)⟩
  | freshnessExpiry => exact ⟨_, rfl, execFreshnessExpiry_keeps (Sub.self _) (Keeps.refl _ s)⟩
  | hostLinkUp => exact ⟨_, rfl, execHostLinkUp_keeps (Sub.self _) (Keeps.refl _ s)⟩
  | configSpaceWrite => exact ⟨_, rfl, execConfigSpaceWrite_keeps (Sub.self _) (Keeps.refl _ s)⟩
  | mctpPacketRead => exact ⟨_, rfl, execMctpPacketRead_keeps (Sub.self _) (Keeps.refl _ s)⟩
  | standbyResetEnd => exact ⟨_, rfl, execStandbyResetEnd_keeps (Sub.self _) (Keeps.refl _ s)⟩

/-- Settles O4, from what each command's `…_keeps` lemma says it keeps. -/
theorem commandFrame : Obligations.CommandFrame := by
  unfold Obligations.CommandFrame
  intro c s t h
  obtain ⟨M, hc, hk⟩ := exec_keeps c s
  exact (hk t h).foot hc

/-- Settles O3: a tick and every command keep the forms. -/
theorem stepKeepsForm : Obligations.StepKeepsForm := by
  unfold Obligations.StepKeepsForm
  intro s t hs h
  unfold step at h
  split at h
  case h_1 =>
    cases h
    exact (State.tick_keeps (Sub.self _) (Keeps.refl _ s)).form hs
  case h_2 c rest _ =>
    obtain ⟨M, -, hk⟩ := exec_keeps c { s with pending := rest }
    exact (hk t h).form { hs with }

end Sys2Proof.Machine
end

section
/-! SUPPORT. The issue of a micro-operation as the statements speak of it: what `Issues` says of `coreOp`, what a result that
is computed leaves, and the operations marked V. From it come the control issues (O29). -/

namespace Sys2Proof.Machine

open Sys2Proof

variable {s u : State} {n c op err : Nat} {q : Issue}

/-! ## The issue that runs -/

/-- An issue names its core, its cycle and an entry of its opcode (R128). -/
theorem State.issueAt_some (h : s.issueAt n c op = some q) : q.n = n ∧ q.cycle = c ∧ q.e.op = op := by
  unfold State.issueAt at h
  obtain ⟨cue, -, hcue⟩ := List.exists_of_findSome?_eq_some h
  split at hcue
  · cases hcue
  obtain ⟨st, -, hst⟩ := List.exists_of_findSome?_eq_some hcue
  dsimp only at hst
  split at hst
  · cases hst
  obtain ⟨e, -, he⟩ := List.exists_of_findSome?_eq_some hst
  split at he
  · rename_i hop
    cases he
    exact ⟨rfl, rfl, hop.1⟩
  · cases he

theorem Issues.fields (h : Issues s n c op err q u) : q.n = n ∧ q.cycle = c ∧ q.e.op = op := State.issueAt_some h.issue

/-- The command of an issue is the issue's meaning, run from `u`. -/
theorem Issues.coreOp (h : Issues s n c op err q u) (f : State → Issue → State) : s.coreOp n c op err f = f u q := by
  obtain ⟨hn, -, ho⟩ := h.fields
  have hb := h.begun
  rw [State.begun, hn, ho] at hb
  have hc := h.chain
  have hi := h.issue
  unfold State.landed at hc hi hb
  unfold State.coreOp
  simp only [hc, hi, h.entry]
  rw [hb]
  rfl

/-! ## A result that is computed -/

theorem State.core_countCore (i k m : Nat) :
    (s.countCore n i k).core m =
      if n = m then { s.core n with live := Sp.set 0 (s.core n).live i (Sp.get 0 (s.core n).live i + k) } else s.core m := by
  unfold State.countCore
  rw [State.core_updCore]
  rfl

/-- A state differs from another only in the live counters and calibration channels of core `n`, among the cores. -/
def SameCores (n : Nat) (u t : State) : Prop :=
  t.core n = { u.core n with live := (t.core n).live, chan := (t.core n).chan } ∧ ∀ m, m ≠ n → t.core m = u.core m

theorem SameCores.refl (n : Nat) (u : State) : SameCores n u u := ⟨rfl, fun _ _ => rfl⟩

theorem SameCores.trans {t v : State} (h : SameCores n u t) (k : SameCores n t v) : SameCores n u v := by
  refine ⟨?_, fun m hm => (k.2 m hm).trans (h.2 m hm)⟩
  rw [k.1, h.1]

theorem SameCores.countCore (i k : Nat) : SameCores n u (u.countCore n i k) := by
  constructor
  · rw [State.core_countCore, if_pos rfl]
  · intro m hm
    rw [State.core_countCore, if_neg hm.symm]

theorem SameCores.calibrate (a : CalAdd) : SameCores q.n u (u.calibrate q a) := by
  unfold State.calibrate
  split
  · exact SameCores.refl q.n u
  · constructor
    · rw [State.core_updCore, if_pos rfl]; rfl
    · intro m hm
      rw [State.core_updCore, if_neg hm.symm]; rfl

/-- Results that are committed wait for their latency; counters apart, nothing else changes (R131, R137). -/
theorem State.commit_cores (lat : Nat) (effs : List Eff) (b : Bool) (cal : Option CalAdd) :
    ∃ v, SameCores q.n u v ∧ ∀ m, (u.commit q lat effs b cal).core m = if q.n = m then { v.core q.n with
      pend := (v.core q.n).pend ++ effs.map (fun f =>
        ⟨q.cycle + lat, ((opInfo q.e.op).map (·.unit)).getD 5, q.cue.ctx, q.cue.start, q.idx, q.r, f.mark b⟩) }
      else v.core m := by
  unfold State.commit
  extract_lets v1 v2 i
  refine ⟨v2, ?_, fun m => State.core_updCore q.n m _⟩
  have h1 : SameCores q.n u v1 := by
    unfold v1
    split
    · exact SameCores.countCore 6 1
    · exact SameCores.refl q.n u
  clear_value v1
  unfold v2
  cases cal with
  | none => exact h1
  | some a => exact h1.trans (SameCores.calibrate a)

/-- Only cores and registers are named by the mask of a counted commit. -/
theorem Fd.not_named_by_commit {f : Fd} (hc : f ≠ .cores) (hr : f ≠ .regs) :
    (0xc0400000000000000000000000000000000000000000000021 : Nat).testBit f.bit = false := by
  cases f <;> first | exact absurd rfl hc | exact absurd rfl hr | decide

/-- A computed result that keeps to its region is left as R131 and R137 say. -/
theorem State.computeLat_leaves {lat : Nat} {cnt : Option Nat} {reads : List (Nat × Nat)} {effs : List Eff} (b : Bool)
    (cal : Option CalAdd) (h : u.inRegion q reads effs) :
    Leaves u (u.computeLat q lat cnt reads (.ok effs b cal)) q lat effs b := by
  have hreg : (q.cue.ctx != 0 && !(reads ++ effs.flatMap Eff.ranges).all
      (fun r => u.bfRegion q.p (q.cue.ctx - 1) r.1 r.2)) = false := by
    by_cases hx : q.cue.ctx = 0
    · rw [hx]; rfl
    · rw [List.all_eq_true.2 (h hx), Bool.not_true, Bool.and_false]
  obtain ⟨v, hv⟩ : ∃ v, v = cnt.elim u (fun i => u.countCore q.n i 1) := ⟨_, rfl⟩
  have hlat : u.computeLat q lat cnt reads (.ok effs b cal) = v.commit q lat effs b cal := by
    unfold State.computeLat
    simp only [hreg, hv]
    cases cnt <;> rfl
  rw [hlat]
  have hcnt : SameCores q.n u v ∧ Keeps 0x400000000000000000000000000000000000000000000021 u v := by
    subst hv
    cases cnt with
    | none => exact ⟨SameCores.refl q.n u, Keeps.refl _ u⟩
    | some i => exact ⟨SameCores.countCore i 1, State.countCore_keeps (Sub.self _) (Keeps.refl _ u)⟩
  have hk : Keeps 0xc0400000000000000000000000000000000000000000000021 u (v.commit q lat effs b cal) :=
    State.commit_keeps (Sub.self _) (hcnt.2.weaken ((Sub.self _).of rfl))
  obtain ⟨w, hw, hcore⟩ := State.commit_cores (u := v) (q := q) lat effs b cal
  have huw := hcnt.1.trans hw
  refine ⟨?_, fun m hm => ?_, fun f hc hr => hk.frame f (Fd.not_named_by_commit hc hr), fun a ha => hk.find_of_cardsOk rfl ha⟩
  · rw [hcore, if_pos rfl, huw.1]
  · rw [hcore, if_neg hm.symm, huw.2 m hm]

/-- The same for a meaning that only writes the destination register and reads no scratchpad. -/
theorem State.compute_toVreg_leaves {lat : Nat} (hl : (u.core q.n).latency q.e = lat) (cnt : Option Nat) (w : State)
    (f : Nat → Nat) (b : Bool) : Leaves u (u.compute q cnt [] (.ok [w.toVreg q f] b none)) q lat [w.toVreg q f] b := by
  unfold State.compute
  rw [hl]
  exact State.computeLat_leaves b none (fun _ r hr => nomatch hr)

/-- The latency of an entry whose opcode has a fixed one (R157). -/
theorem Core.latency_of_opInfo {x : Core} {e : Entry} {i : OpInfo} (h : opInfo e.op = some i) (hi : i.ii ≠ 0) :
    x.latency e = i.lat := by
  unfold Core.latency
  rw [h]
  exact if_neg hi

/-! ## Operations marked V (R9, R426, R427) -/

/-- `w` is what a V issue of core `n` executes from: a backfill issue from `u`, a primary one from `u` with the issue
counted. -/
def State.Executes (u : State) (n : Nat) (q : Issue) (w : State) : Prop :=
  q.cue.ctx ≠ 0 ∧ w = u ∨ q.cue.ctx = 0 ∧ u.vIssue q.p (u.posCluster q.p q.cue.word (n / 16)) = (w, true)

theorem State.variant_executes {w : State} (h : u.Executes n q w) (hn : q.n = n) (f : State → State) :
    u.variant q f = f w := by
  unfold State.variant
  rw [hn]
  rcases h with ⟨hx, rfl⟩ | ⟨hx, hv⟩
  · simp [hx]
  · simp [hx, hv]

/-- Refused in strict mode, the issue's cue ends. -/
theorem State.variant_refused {w : State} (hx : q.cue.ctx = 0) (hn : q.n = n)
    (hv : u.vIssue q.p (u.posCluster q.p q.cue.word (n / 16)) = (w, false)) (f : State → State) :
    u.variant q f = w.updCore n (fun y => { y with cues := y.cues.erase q.cue }) := by
  unfold State.variant
  rw [hn]
  simp [hx, hv]

/-- Counting a V issue changes no core. -/
theorem State.Executes.core {w : State} (h : u.Executes n q w) (m : Nat) : w.core m = u.core m := by
  rcases h with ⟨-, rfl⟩ | ⟨-, hv⟩
  · rfl
  · have hk : w.cores = u.cores :=
      (Keeps.ofFst hv (State.vIssue_keeps (Sub.self _) (Keeps.refl _ u))).frame .cores rfl
    exact congrArg (fun x => Sp.get {} x m) hk

/-! ## The control issues (O29) -/

theorem exec_nop (h : Issues s n c 0x00 err q u) : exec (.nop n c err) s = .next u :=
  congrArg _ (h.coreOp _)

theorem exec_tstamp (h : Issues s n c 0x60 err q u) : exec (.tstamp n c err) s =
    .next (u.variant q (fun w => w.compute q none [] (w.twoLanes q (w.ftime % 2 ^ 64)))) :=
  congrArg _ (h.coreOp _)

theorem exec_cntrd (h : Issues s n c 0x61 err q u) : exec (.cntrd n c err) s =
    .next (u.variant q (fun w => w.compute q none []
      (if 15 ≤ q.e.imm then .fault 1 else w.twoLanes q (Sp.get 0 (w.core q.n).live q.e.imm % 2 ^ 64)))) :=
  congrArg _ (h.coreOp _)

theorem exec_vaccDyn (h : Issues s n c 0x33 err q u) :
    exec (.vaccDyn n c err) s = .next (u.variant q (fun w => w.vaccDyn q)) :=
  congrArg _ (h.coreOp _)

theorem tstamp_leaves {w : State} (h : Issues s n c 0x60 err q u) (hw : u.Executes n q w) {v : Nat} (hv : v = w.ftime % 2 ^ 64) :
    Ends (.tstamp n c err) s (fun t => Leaves w t q 4
      [w.toVreg q (fun i => if i = 0 then v % 2 ^ 32 else if i = 1 then v / 2 ^ 32 else 0)] false) := by
  subst hv
  refine ⟨_, (exec_tstamp h).trans (congrArg _ (State.variant_executes hw h.fields.1 _)), ?_⟩
  exact State.compute_toVreg_leaves (Core.latency_of_opInfo (i := ⟨5, 1, 4, 7, 7, 3, 0, true⟩)
    (by rw [h.fields.2.2]; rfl) (by decide)) none w _ false

theorem cntrd_beyond {w : State} (h : Issues s n c 0x61 err q u) (hw : u.Executes n q w) (hi : 15 ≤ q.e.imm) :
    exec (.cntrd n c err) s = .next (w.cueFault n q.cue 1 q.idx q.r) := by
  rw [exec_cntrd h, State.variant_executes hw h.fields.1, if_pos hi, ← h.fields.1]
  rfl

theorem cntrd_leaves {w : State} (h : Issues s n c 0x61 err q u) (hw : u.Executes n q w) (hi : q.e.imm < 15) {v : Nat}
    (hv : v = Sp.get 0 (u.core n).live q.e.imm % 2 ^ 64) :
    Ends (.cntrd n c err) s (fun t => Leaves w t q 4
      [w.toVreg q (fun i => if i = 0 then v % 2 ^ 32 else if i = 1 then v / 2 ^ 32 else 0)] false) := by
  obtain ⟨hn, -, ho⟩ := h.fields
  rw [← hw.core, ← hn] at hv
  subst hv
  refine ⟨_, (exec_cntrd h).trans (congrArg _ (State.variant_executes hw h.fields.1 _)), ?_⟩
  dsimp only
  rw [if_neg (Nat.not_le.2 hi)]
  exact State.compute_toVreg_leaves (Core.latency_of_opInfo (i := ⟨5, 1, 4, 7, 7, 3, 0xFF, true⟩)
    (by rw [ho]; rfl) (by decide)) none w _ false

theorem vaccDyn_leaves {w : State} (h : Issues s n c 0x33 err q u) (hw : u.Executes n q w) {es : List VReg}
    (he : es = (u.core n).inbox.take 16) :
    Ends (.vaccDyn n c err) s (fun t => Leaves
      (w.updCore n (fun x => { x with inbox := x.inbox.drop 16 })) t q 20
      [w.toVreg q (fun i => es.foldl (fun a v => fadd a (v.lane i)) ((u.vd q).lane i))] ((u.vd q).poison || es.any VReg.poison)) := by
  obtain ⟨hn, -, ho⟩ := h.fields
  have hd : u.vd q = w.vd q := by unfold State.vd; rw [hw.core]
  rw [← hw.core, ← hn] at he
  subst he
  rw [hd]
  refine ⟨_, (exec_vaccDyn h).trans (congrArg _ (State.variant_executes hw h.fields.1 _)), ?_⟩
  rw [← hn]
  exact State.compute_toVreg_leaves (Core.latency_of_opInfo (i := ⟨1, 1, 20, 7, 7, 3, 0, true⟩)
    (by rw [ho]; rfl) (by decide)) (some 2) w _ _

/-- Settles O29: an issue is its meaning, and each meaning is a computed result on what a V issue executes from. -/
theorem controlIssues : Obligations.ControlIssues := by
  unfold Obligations.ControlIssues
  intro s n c err q u
  refine ⟨exec_nop, fun w hw => ⟨fun h v hv => ?_, fun h => ⟨fun hi => ?_, fun hi v hv => ?_⟩, fun h es he => ?_⟩,
    fun w hx hv x hx' h => ?_⟩
  · exact tstamp_leaves h hw hv
  · exact cntrd_beyond h hw hi
  · exact cntrd_leaves h hw hi hv
  · exact vaccDyn_leaves h hw he
  · have refused := State.variant_refused hx h.fields.1 hv
    simp only [List.mem_cons, List.not_mem_nil, or_false] at hx'
    rcases hx' with rfl | rfl | rfl
    · exact (exec_tstamp h).trans (congrArg _ (refused _))
    · exact (exec_cntrd h).trans (congrArg _ (refused _))
    · exact (exec_vaccDyn h).trans (congrArg _ (refused _))

end Sys2Proof.Machine
end

section
/-! SUPPORT. The register that an offset names: its card, its address, and its fields (R10, R13, R15). -/

namespace Sys2Proof.Machine

open Sys2Proof

/-! ## Looking a register up by its offset -/

theorem blockAt_some {o i : Nat} {b : Blk} (h : blockAt o = some (b, i)) :
    b.base ≤ o ∧ o < b.base + b.instances * 0x100000 ∧ i = (o - b.base) / 0x100000 := by
  unfold blockAt at h
  obtain ⟨d, hd, e⟩ := Option.map_eq_some_iff.1 h
  have hp := List.find?_some hd
  simp only [Bool.and_eq_true, decide_eq_true_eq] at hp
  cases e
  exact ⟨hp.1, hp.2, rfl⟩

/-- A view and its offset make up the block offset; a block with several copies has one view (Table 15-2). -/
theorem mem_viewsAt {b : Blk} {w p x : Nat} {v : View} (h : (v, p, x) ∈ viewsAt b w) :
    v.shift p + x = w ∧ (v = .one ∨ p < 64) ∧ (b.instances = 1 ∨ v = .one ∧ p = 0) := by
  have one (h : (v, p, x) ∈ [(View.one, 0, w)]) : v.shift p + x = w ∧ v = .one ∧ p = 0 := by
    cases List.mem_singleton.1 h
    exact ⟨Nat.zero_add _, rfl, rfl⟩
  have glb0 (h : (v, p, x) = (View.glbPart, 0, w)) : v.shift p + x = w ∧ p < 64 := by
    cases h
    exact ⟨Nat.zero_add _, by decide⟩
  cases b
  case seq | emb =>
    simp only [viewsAt] at h
    split at h
    · cases List.mem_singleton.1 h
      exact ⟨by simp only [View.shift]; omega, .inr (by omega), .inl rfl⟩
    · cases h
  case rly =>
    simp only [viewsAt] at h
    split at h
    · cases List.mem_singleton.1 h
      exact ⟨by simp only [View.shift]; omega, .inr (by omega), .inl rfl⟩
    · obtain ⟨hs, hv, -⟩ := one h
      exact ⟨hs, .inl hv, .inl rfl⟩
  case glb | hst =>
    simp only [viewsAt, List.mem_append] at h
    rcases h with h | h
    · rcases List.mem_cons.1 h with h | h
      · obtain ⟨hs, hv, -⟩ := one (h ▸ List.mem_singleton_self _)
        exact ⟨hs, .inl hv, .inl rfl⟩
      · obtain ⟨hs, hp⟩ := glb0 (List.mem_singleton.1 h)
        exact ⟨hs, .inr hp, .inl rfl⟩
    · split at h
      · cases List.mem_singleton.1 h
        refine ⟨?_, .inr (by omega), .inl rfl⟩
        rw [View.shift, if_neg (by omega)]
        omega
      · cases h
  all_goals
    obtain ⟨hs, hv, hp⟩ := one h
    exact ⟨hs, .inl hv, .inr ⟨hv, hp⟩⟩

theorem Card.entryAt_some {c : Card} {x k : Nat} (h : c.entryAt x = some k) : c.off + k * c.stride = x ∧ k < c.count := by
  unfold Card.entryAt at h
  split at h
  · rename_i hc
    obtain ⟨h1, h2, h3⟩ := hc
    cases h
    have := Nat.div_add_mod (x - c.off) c.stride
    rw [h2, Nat.mul_comm] at this
    exact ⟨by omega, h3⟩
  · cases h

theorem Blk.blk_of_mem_cards {b : Blk} {c : Card} (h : c ∈ b.cards) : c.blk = b := by
  have hall : b.cards.all (fun c => c.blk = b) = true := by cases b <;> rfl
  exact of_decide_eq_true (List.all_eq_true.1 hall c h)

/-- What `regAt` finds is an entry that its card has, at the offset. -/
theorem regAt_some {o : Nat} {r : RegAt} (h : regAt o = some r) :
    r.card ∈ r.card.blk.cards ∧ r.card.has r.unit r.idx = true ∧ r.card.addr r.unit r.idx = o := by
  unfold regAt at h
  split at h
  · cases h
  split at h
  · cases h
  rename_i b i hb
  obtain ⟨hlo, hhi, hi⟩ := blockAt_some hb
  obtain ⟨⟨v, p, x⟩, hv, hx⟩ := List.exists_of_findSome?_eq_some h
  obtain ⟨c, hc, hk⟩ := List.exists_of_findSome?_eq_some hx
  split at hk
  · rename_i hview
    obtain ⟨k, hentry, rfl⟩ := Option.map_eq_some_iff.1 hk
    obtain ⟨hoff, hcount⟩ := Card.entryAt_some hentry
    obtain ⟨hs, h64, hone⟩ := mem_viewsAt hv
    have hblk := Blk.blk_of_mem_cards hc
    simp only [Card.has, Card.addr, hblk, hview, Bool.and_eq_true, Bool.or_eq_true, decide_eq_true_eq]
    refine ⟨hc, ⟨⟨?_, ?_⟩, hcount⟩, ?_⟩
    · by_cases h1 : b.instances = 1
      · exact .inl h1
      · rw [if_neg h1, hi]
        exact .inr (Nat.div_lt_of_lt_mul (by omega))
    · rcases h64 with h64 | h64
      · exact .inl h64
      · rcases hone with h1 | ⟨h1, -⟩
        · rw [if_pos h1]
          exact .inr h64
        · exact .inl h1
    · by_cases h1 : b.instances = 1
      · rw [if_pos h1, if_pos h1]
        rw [h1] at hhi
        omega
      · obtain ⟨rfl, rfl⟩ := hone.resolve_left h1
        rw [if_neg h1, if_neg h1]
        simp only [View.shift] at hs ⊢
        omega
  · cases hk

/-- A well-formed access that means a register itself names the register at its offset. -/
theorem regAccess_live {o n : Nat} {r : RegAt} (h : regAccess o n = some (r, false)) : regAt o = some r := by
  unfold regAccess at h
  split at h
  · rename_i r' im hn
    split at h
    · cases h
      unfold regName at hn
      split at hn
      · obtain ⟨r', hr, e⟩ := Option.map_eq_some_iff.1 hn
        cases e
        exact hr
      · split at hn
        · split at hn <;> cases hn
        · cases hn
    · cases h
  · cases h

/-- One that means an image or snapshot lies in the upper half of a copy's range (R13, R531). -/
theorem regAccess_image {o n : Nat} {r : RegAt} (h : regAccess o n = some (r, true)) :
    imageOff ≤ o % 0x100000 ∧ r.card.addr r.unit r.idx + imageOff = o := by
  unfold regAccess at h
  split at h
  · rename_i r' im hn
    split at h
    · cases h
      unfold regName at hn
      split at hn
      · obtain ⟨r', hr, e⟩ := Option.map_eq_some_iff.1 hn
        cases e
      · rename_i hlo
        split at hn
        · rename_i r' hr
          split at hn
          · cases hn
            refine ⟨Nat.not_lt.1 hlo, ?_⟩
            rw [(regAt_some hr).2.2]
            have : imageOff ≤ o % 0x100000 := Nat.not_lt.1 hlo
            have := Nat.mod_le o 0x100000
            omega
          · cases hn
        · cases hn
    · cases h
  · cases h

/-! ## The fields of a card -/

/-- Two fields have no bit in common. -/
def CardField.apart (f g : CardField) : Bool := f.hi < g.lo || g.hi < f.lo

/-- Fields of a register: they lie in its width, and no two share a bit (Table 0-5). -/
def fieldsOk (w : Nat) : List CardField → Bool
  | [] => true
  | f :: l => f.lo ≤ f.hi && f.hi < w && l.all f.apart && fieldsOk w l

theorem Blk.fieldsOk_of_mem_cards {b : Blk} {c : Card} (h : c ∈ b.cards) : fieldsOk c.width c.fields = true := by
  have hall : b.cards.all (fun c => fieldsOk c.width c.fields) = true := by cases b <;> rfl
  exact List.all_eq_true.1 hall c h

theorem fieldsOk_cons {w : Nat} {f : CardField} {l : List CardField} (h : fieldsOk w (f :: l) = true) :
    f.lo ≤ f.hi ∧ f.hi < w ∧ (∀ g ∈ l, f.hi < g.lo ∨ g.hi < f.lo) ∧ fieldsOk w l = true := by
  simpa [fieldsOk, CardField.apart, and_assoc] using h

theorem fieldsOk_mem {w : Nat} {f : CardField} {l : List CardField} (h : fieldsOk w l = true) (hf : f ∈ l) :
    f.lo ≤ f.hi ∧ f.hi < w := by
  induction l with
  | nil => cases hf
  | cons g l ih =>
    obtain ⟨hlo, hhi, -, hl⟩ := fieldsOk_cons h
    rcases List.mem_cons.1 hf with rfl | hf
    · exact ⟨hlo, hhi⟩
    · exact ih hl hf

/-- What a write leaves in a field, by its access code (R10). -/
theorem CardField.write_lt {f : CardField} (old v : Nat) : f.write old v < 2 ^ (f.hi + 1 - f.lo) := by
  have ho := bits_lt old f.hi f.lo
  have hv := bits_lt v f.hi f.lo
  unfold CardField.write
  dsimp only
  split
  · exact ho
  · exact ho
  · exact hv
  · exact hv
  · exact hv
  · exact Nat.xor_lt_two_pow ho (Nat.and_lt_two_pow _ hv)
  · exact Nat.or_lt_two_pow ho hv

/-- Writing fields one after the other. -/
def writeFields (old v : Nat) (l : List CardField) (x : Nat) : Nat :=
  l.foldl (fun x f => setBits x f.hi f.lo (f.write old v)) x

/-- A bit outside the written fields stays. -/
theorem testBit_writeFields {w i : Nat} {l : List CardField} (h : fieldsOk w l = true) (old v x : Nat)
    (hi : ∀ f ∈ l, ¬ (f.lo ≤ i ∧ i ≤ f.hi)) : (writeFields old v l x).testBit i = x.testBit i := by
  induction l generalizing x with
  | nil => rfl
  | cons f l ih =>
    obtain ⟨hlo, -, -, hl⟩ := fieldsOk_cons h
    have hf := hi f (List.mem_cons_self ..)
    refine (ih hl _ (fun g hg => hi g (List.mem_cons_of_mem _ hg))).trans ?_
    rw [testBit_setBits hlo]
    split
    · rfl
    · rw [if_neg (by omega)]

/-- A field beside the written ones stays. -/
theorem bits_writeFields_apart {w hi lo : Nat} {l : List CardField} (h : fieldsOk w l = true) (old v x : Nat)
    (hd : ∀ g ∈ l, hi < g.lo ∨ g.hi < lo) : bits (writeFields old v l x) hi lo = bits x hi lo := by
  apply Nat.eq_of_testBit_eq
  intro i
  rw [testBit_bits, testBit_bits]
  by_cases hin : i < hi + 1 - lo
  · rw [testBit_writeFields h old v x (fun g hg => by have := hd g hg; omega)]
  · simp [hin]

/-- A written field reads as its access code says. -/
theorem bits_writeFields {w : Nat} {f : CardField} {l : List CardField} (h : fieldsOk w l = true) (hf : f ∈ l) (old v x : Nat) :
    bits (writeFields old v l x) f.hi f.lo = f.write old v := by
  induction l generalizing x with
  | nil => cases hf
  | cons g l ih =>
    obtain ⟨hlo, -, hd, hl⟩ := fieldsOk_cons h
    rcases List.mem_cons.1 hf with rfl | hf
    · refine (bits_writeFields_apart hl old v _ hd).trans ?_
      rw [bits_setBits hlo, Nat.mod_eq_of_lt (CardField.write_lt old v)]
    · exact ih hl hf _

variable {s : State} {r : RegAt}

/-- After a write, each field of a register reads as its access code says (R10). -/
theorem State.bits_putReg (hok : fieldsOk r.card.width r.card.fields = true) (hh : r.card.has r.unit r.idx = true) (v : Nat)
    {f : CardField} (hf : f ∈ r.card.fields) :
    bits ((s.putReg r v).rd r.card r.unit r.idx) f.hi f.lo = f.write (s.rd r.card r.unit r.idx) v := by
  unfold State.putReg
  rw [State.rd_wr_same s hh, bits_mod (fieldsOk_mem hok hf).2]
  exact bits_writeFields hok hf _ _ _

/-- A bit of no field stays. -/
theorem State.bit_putReg (hok : fieldsOk r.card.width r.card.fields = true) (hh : r.card.has r.unit r.idx = true) (v : Nat)
    {i : Nat} (hi : i < r.card.width) (hf : ∀ f ∈ r.card.fields, ¬ (f.lo ≤ i ∧ i ≤ f.hi)) :
    bit ((s.putReg r v).rd r.card r.unit r.idx) i = bit (s.rd r.card r.unit r.idx) i := by
  unfold State.putReg bit
  rw [State.rd_wr_same s hh, Nat.testBit_mod_two_pow]
  simp only [hi, decide_true, Bool.true_and]
  exact testBit_writeFields hok _ _ _ hf

/-- Only the register's own entry changes. -/
theorem State.find_wr_ne {c : Card} {u k v a : Nat} (h : a ≠ c.addr u k) :
    Sp.find a (s.wr c u k v).regs = Sp.find a s.regs := by
  unfold State.wr
  dsimp only
  split
  · rw [Sp.find_put, if_neg h.symm]
  · rfl

/-- The value in effect of a shadowed register stays when its stored value is written (R13). -/
theorem State.rdEff_putReg (hs : r.card.shadowed = true) (v : Nat) :
    (s.putReg r v).rdEff r.card r.unit r.idx = s.rdEff r.card r.unit r.idx := by
  unfold State.rdEff State.putReg
  rw [if_pos hs, if_pos hs, State.find_wr_ne (by unfold imageOff; omega)]

end Sys2Proof.Machine
end

section
/-! SUPPORT. Register writes and the relay (Machine/RegWrite.lean): what a write of each kind does, once, and from it the
register access statement (O7). -/

namespace Sys2Proof.Machine

open Sys2Proof

variable {s : State} {r : RegAt} {o n v w a b c : Nat}

/-! ## An access of the wrong form -/

theorem State.regs_logEvent (x : EventRec) : (s.logEvent x).regs = s.regs :=
  (State.logEvent_keeps (Sub.self _) (Keeps.refl _ s)).frame .regs rfl

/-- A delivery changes no register but the count of records its limit holds back (R473). -/
theorem State.find_deliver (x : EventRec) (f : Nat) {y : Nat} (hy : y ≠ R.CNT_GLB.addr 0 18) :
    Sp.find y (s.deliver x f).regs = Sp.find y s.regs := by
  unfold State.deliver
  extract_lets q sel key win m lim eq
  split
  · rfl
  · split
    · exact State.find_wr_ne hy
    · rfl

/-- An event of no class is recorded in no register and counted only where its delivery is limited (R466, R473). -/
theorem State.find_event_of_none {e : Ev} (he : e.cls = .none) (p d0 d1 : Nat) {y : Nat} (hy : y ≠ R.CNT_GLB.addr 0 18) :
    Sp.find y (s.event e p d0 d1).regs = Sp.find y s.regs := by
  have deliver_all (x : EventRec) (l : List Nat) (u : State) :
      Sp.find y (l.foldl (fun s f => s.deliver x f) u).regs = Sp.find y u.regs := by
    induction l generalizing u with
    | nil => rfl
    | cons f l ih => exact (ih _).trans (State.find_deliver x f hy)
  unfold State.event State.eventAs
  rw [he]
  refine (deliver_all _ _ _).trans ?_
  rw [State.regs_logEvent]
  rfl

theorem State.rd_event_of_none {e : Ev} (he : e.cls = .none) (p d0 d1 : Nat) {d : Card} {u k : Nat}
    (hd : d.addr u k ≠ R.CNT_GLB.addr 0 18) : (s.event e p d0 d1).rd d u k = s.rd d u k := by
  unfold State.rd
  rw [State.find_event_of_none he p d0 d1 hd]

/-! ## Writes of plain registers -/

theorem Card.same_eq {c d : Card} (h : c.same d = true) : c.same = d.same := by
  simp only [Card.same, Bool.and_eq_true, decide_eq_true_eq] at h
  obtain ⟨⟨hb, ho⟩, hv⟩ := h
  funext e
  simp only [Card.same, hb, ho, hv]

/-- The registers a write of which does something else (`State.writeReg`). -/
def ownCards : List Card :=
  [R.SEQ_RUN_CONTROL, R.SEQ_COURSE_ARM, R.SEQ_COURSE_STORE, R.CLU_BF_TASK, R.EMB_FAR_DOORBELL, R.AKC_ENGINE_FENCE,
    R.GLB_PAGE_ATTR, R.GLB_BRINGUP_CMD, R.GLB_PART_CONFIG, R.GLB_STATE, R.CRC_CCLK_SELECT, R.CRC_RESET_CTRL, R.FAB_LINK_CTRL,
    R.FAB_ROLE, R.RLY_FABRIC_DIMS, R.RLY_FABRIC_COORD, R.RLY_TIME_CTRL, R.RLY_TIME_SET, R.HST_HEARTBEAT, R.HST_ATTACH,
    R.QUE_ENABLE, R.SEC_FWUP_CTRL, R.TEL_GUN_CTRL]

/-- The registers with a GO bit, and the bit. -/
def goCards : List (Card × Nat) :=
  [(R.SEQ_COURSE_LOAD_CTRL, 0), (R.SEQ_STRIDE_LOAD_CTRL, 41), (R.CLU_BF_LOAD_CTRL, 0), (R.AKC_HASH_CTRL, 0),
    (R.GLB_FENCE_REQ, 63), (R.MGT_RELAY_CTRL, 0)]

/-- A write of `w` to a register only sets its fields: the register is none of `ownCards`, and no GO bit is set. -/
structure PlainWrite (r : RegAt) (w : Nat) : Prop where
  own : ∀ d ∈ ownCards, r.card.same d = false
  go : ∀ d ∈ goCards, r.card.same d.1 = true → bit w d.2 = false

/-- The fields of a register take a write by their access codes; one of the leg table or the lap configuration is met by
what is staged (R101). -/
def State.takeFields (s : State) (r : RegAt) (w : Nat) : State :=
  if r.card.same R.SEQ_LEG_TABLE || r.card.same R.SEQ_LAP_CONFIG then (s.putReg r w).restage r.unit else s.putReg r w

/-- What a plain write does: it is counted where the register's condition fails. -/
def State.plainWrite (s : State) (r : RegAt) (w : Nat) : State :=
  if s.regMay r w = true then s.takeFields r w else s.regErr

theorem PlainWrite.writeReg (h : PlainWrite r w) (m : Nat × Nat × Nat) (mgmt : Bool) :
    s.writeReg r w m mgmt = s.plainWrite r w := by
  have hgo : ∀ d ∈ goCards, (r.card.same d.1 && bit w d.2) = false := by
    intro d hd
    cases hs : r.card.same d.1 with
    | false => rfl
    | true => rw [h.go d hd hs]; rfl
  have hown := h.own
  simp only [ownCards, goCards, List.forall_mem_cons, List.not_mem_nil, false_imp_iff, implies_true, and_true] at hown hgo
  unfold State.writeReg State.plainWrite State.takeFields
  simp only [hown, hgo, Bool.false_eq_true, if_false]
  cases s.regMay r w <;> rfl

/-- The relay's control register has no condition of its own. -/
theorem State.regMay_relayCtrl (h : r.card.same R.MGT_RELAY_CTRL = true) : s.regMay r w = true := by
  unfold State.regMay
  simp only [Card.same_eq h]
  rfl

theorem PlainWrite.regWrite (h : PlainWrite r (v % 2 ^ r.card.width)) (hr : regAccess o n = some (r, false))
    (m : Nat × Nat × Nat) (mgmt : Bool) : s.regWrite o n v m mgmt = s.plainWrite r (v % 2 ^ r.card.width) := by
  unfold State.regWrite
  rw [hr]
  dsimp only
  split
  · rename_i hs
    have hgo : bit (v % 2 ^ r.card.width) 0 = false := h.go (R.MGT_RELAY_CTRL, 0) (by simp [goCards]) hs
    unfold State.plainWrite State.takeFields
    rw [hgo, State.regMay_relayCtrl hs, Card.same_eq hs]
    rfl
  · exact h.writeReg m mgmt

theorem State.takeFields_keeps : Keeps 0x8 (s.putReg r w) (s.takeFields r w) := by
  unfold State.takeFields
  exact Keeps.ite (fun _ => State.restage_keeps (Sub.self _) (Keeps.refl _ _)) (fun _ => Keeps.refl _ _)

theorem State.takeFields_regs : (s.takeFields r w).regs = (s.putReg r w).regs :=
  State.takeFields_keeps.frame .regs rfl

theorem State.takeFields_rd (d : Card) (u k : Nat) : (s.takeFields r w).rd d u k = (s.putReg r w).rd d u k := by
  unfold State.rd
  rw [State.takeFields_regs]

theorem State.takeFields_rdEff (d : Card) (u k : Nat) : (s.takeFields r w).rdEff d u k = (s.putReg r w).rdEff d u k := by
  unfold State.rdEff
  rw [State.takeFields_regs, State.takeFields_rd]

theorem State.takeFields_eq_putReg (hl : r.card.same R.SEQ_LEG_TABLE = false) (hc : r.card.same R.SEQ_LAP_CONFIG = false) :
    s.takeFields r w = s.putReg r w := by
  unfold State.takeFields
  rw [hl, hc]
  rfl

/-! ## Writes over BAR0 -/

/-- A write to an open block is the requester's write (R393, R394). -/
theorem exec_regWrite (ho : o < 2 ^ 29) (hb : s.barOpen o = true) :
    exec (.regWrite o n v a b c) s = .next (s.regWrite o n v (a, b, c) false) := by
  show execRegWrite o n v a b c s = _
  unfold execRegWrite
  rw [hb, decide_eq_true ho]
  rfl

theorem exec_regWrite_closed (hb : s.barOpen o = false) : exec (.regWrite o n v a b c) s = .next s := by
  show execRegWrite o n v a b c s = _
  unfold execRegWrite
  rw [hb, Bool.and_false]
  rfl

theorem exec_regWrite_malformed (ho : o < 2 ^ 29) (hb : s.barOpen o = true) (hr : regAccess o n = none) :
    exec (.regWrite o n v a b c) s = .next (s.regErr.event E.REG_ACCESS 0 o 0) := by
  rw [exec_regWrite ho hb, State.regWrite, hr]
  rfl

theorem exec_regWrite_image (ho : o < 2 ^ 29) (hb : s.barOpen o = true) (hr : regAccess o n = some (r, true)) :
    exec (.regWrite o n v a b c) s = .next s := by
  rw [exec_regWrite ho hb, State.regWrite, hr]

theorem exec_regWrite_plain (ho : o < 2 ^ 29) (hb : s.barOpen o = true) (hr : regAccess o n = some (r, false))
    (h : PlainWrite r (v % 2 ^ r.card.width)) :
    exec (.regWrite o n v a b c) s = .next (s.plainWrite r (v % 2 ^ r.card.width)) := by
  rw [exec_regWrite ho hb, h.regWrite hr]

/-- A write to a register other than the relay's control register. -/
theorem exec_regWrite_writeReg (ho : o < 2 ^ 29) (hb : s.barOpen o = true) (hr : regAccess o n = some (r, false))
    (hv : v < 2 ^ r.card.width) (hc : r.card.same R.MGT_RELAY_CTRL = false) :
    exec (.regWrite o n v a b c) s = .next (s.writeReg r v (a, b, c) false) := by
  rw [exec_regWrite ho hb, State.regWrite, hr]
  dsimp only
  rw [hc, Nat.mod_eq_of_lt hv]
  rfl

theorem exec_regWrite_relayGo (ho : o < 2 ^ 29) (hb : s.barOpen o = true) (hr : regAccess o n = some (r, false))
    (hv : v < 2 ^ r.card.width) (hc : r.card = R.MGT_RELAY_CTRL) (hg : bit v 0 = true) :
    exec (.regWrite o n v a b c) s = .next (s.relayGo (bit v 2) (bit v 1) (a, b, c)) := by
  rw [exec_regWrite ho hb, State.regWrite, hr]
  dsimp only
  rw [Nat.mod_eq_of_lt hv, hc, hg]
  rfl

end Sys2Proof.Machine
end

section
/-! SUPPORT. Writes of registers that have a command of their own, and the relay (R10, R496); the register access statement
(O7). -/

namespace Sys2Proof.Machine

open Sys2Proof

variable {s : State} {r : RegAt} {o n v w a b c : Nat}

/-! ## Registers with a command of their own -/

section
variable {m : Nat × Nat × Nat} {mgmt : Bool}

theorem State.writeReg_pageAttr (h : r.card = R.GLB_PAGE_ATTR) : s.writeReg r v m mgmt = s.pageAttrWrite v := by
  unfold State.writeReg
  rw [h]
  rfl

theorem State.writeReg_coord (h : r.card = R.RLY_FABRIC_COORD) : s.writeReg r v m mgmt = s.writeChipId v := by
  unfold State.writeReg
  rw [h]
  rfl

theorem State.writeReg_timeSet (h : r.card = R.RLY_TIME_SET) : s.writeReg r v m mgmt = s.timeSet v := by
  unfold State.writeReg
  rw [h]
  rfl

theorem State.writeReg_heartbeat (h : r.card = R.HST_HEARTBEAT) : s.writeReg r v m mgmt = s.beat v := by
  unfold State.writeReg
  rw [h]
  rfl

theorem State.writeReg_engineFence (h : r.card = R.AKC_ENGINE_FENCE) :
    s.writeReg r v m mgmt = s.writeEngineFence r.unit v := by
  unfold State.writeReg
  rw [h]
  rfl

theorem State.writeReg_cclk (h : r.card = R.CRC_CCLK_SELECT) : s.writeReg r v m mgmt = s.writeCclk (v % 4) m := by
  unfold State.writeReg
  rw [h]
  rfl

theorem State.writeReg_runControl (h : r.card = R.SEQ_RUN_CONTROL) : s.writeReg r v m mgmt = s.writeRun r.unit v := by
  unfold State.writeReg
  rw [h]
  rfl

theorem State.writeReg_hash (h : r.card = R.AKC_HASH_CTRL) (hg : bit v 0 = true) :
    s.writeReg r v m mgmt = s.hashGo r.unit v := by
  unfold State.writeReg
  rw [h, hg]
  rfl

theorem State.writeReg_fence (h : r.card = R.GLB_FENCE_REQ) (hg : bit v 63 = true) :
    s.writeReg r v m mgmt = s.fenceRequest v := by
  unfold State.writeReg
  rw [h, hg]
  rfl

theorem State.writeReg_attach (h : r.card = R.HST_ATTACH) (hg : bit v 0 = true) : s.writeReg r v m mgmt = s.attach := by
  unfold State.writeReg
  rw [h, hg]
  rfl

theorem State.writeReg_doorbell (h : r.card = R.EMB_FAR_DOORBELL) : s.writeReg r v m mgmt = s.farDoorbell r.unit v := by
  unfold State.writeReg
  rw [h]
  rfl

theorem State.writeReg_queEnable (h : r.card = R.QUE_ENABLE) : s.writeReg r v m mgmt = s.writeQueEnable v := by
  unfold State.writeReg
  rw [h]
  rfl

theorem State.writeReg_fwup (h : r.card = R.SEC_FWUP_CTRL) (hg : bit v 0 = true) :
    s.writeReg r v m mgmt = s.fwGo (bits v 4 3) := by
  unfold State.writeReg
  rw [h]
  show s.writeFwup v = _
  unfold State.writeFwup
  rw [if_pos (by simpa [bit] using hg)]

end

/-- The stored fields of SEQ_RUN_CONTROL take a write before its requests are met. -/
def State.setRun (s : State) (p v : Nat) : State :=
  s.wr R.SEQ_RUN_CONTROL p 0 (R.SEQ_RUN_CONTROL.write (s.rd R.SEQ_RUN_CONTROL p 0) v)

/-- A write that sets one request bit of SEQ_RUN_CONTROL makes that request alone. -/
theorem State.writeRun_start (p : Nat) : s.writeRun p 1 = (s.setRun p 1).start p := by
  simp +decide [State.writeRun, State.setRun]

theorem State.writeRun_resume (p : Nat) : s.writeRun p 2 = (s.setRun p 2).resume p := by
  simp +decide [State.writeRun, State.setRun]

theorem State.writeRun_holdNext (p : Nat) : s.writeRun p 4 = (s.setRun p 4).holdNext p := by
  simp +decide [State.writeRun, State.setRun]

theorem State.writeRun_stop (p : Nat) : s.writeRun p 16 = (s.setRun p 16).stop p := by
  simp +decide [State.writeRun, State.setRun]

/-- QUE_ENABLE uses its queue and operation fields alone. -/
theorem State.writeQueEnable_eq {k : Nat} (h : bits v 17 16 = k) (hk : k < 4) :
    s.writeQueEnable v = s.writeQueEnable (v % 65536 % 65536 + k * 65536) := by
  have hop : bits (v % 65536 % 65536 + k * 65536) 17 16 = k := by
    unfold bits
    rw [Nat.shiftRight_eq_div_pow]
    omega
  unfold State.writeQueEnable
  rw [h, hop, show (v % 65536 % 65536 + k * 65536) % 65536 = v % 65536 by omega]

/-! ## The relay -/

/-- MGT_RELAY_CTRL once an access has begun. -/
def State.relaySet (s : State) (wide write : Bool) : State :=
  s.wrFs R.MGT_RELAY_CTRL 0 0 [(F.MGT_RELAY_CTRL_WIDE, b2n wide), (F.MGT_RELAY_CTRL_WRITE, b2n write),
    (F.MGT_RELAY_CTRL_BUSY, 1), (F.MGT_RELAY_CTRL_DONE, 0)]

/-- An access of the right form has begun: no error yet. -/
def State.relayBegun (s : State) (wide write : Bool) : State := (s.relaySet wide write).mgt! (fun m => { m with relayErr := 0 })

/-- The offset the relay's access names. -/
abbrev State.relayOffset (s : State) : Nat := s.rdF R.MGT_RELAY_ADDR F.MGT_RELAY_ADDR_OFFSET 0 0

/-- The relay is busy. -/
abbrev State.relayBusy (s : State) : Nat := s.rdF R.MGT_RELAY_CTRL F.MGT_RELAY_CTRL_BUSY 0 0

theorem State.find_relaySet (wide write : Bool) {y : Nat} (hy : y ≠ R.MGT_RELAY_CTRL.addr 0 0) :
    Sp.find y (s.relaySet wide write).regs = Sp.find y s.regs := State.find_wr_ne hy

theorem State.rd_relaySet (wide write : Bool) {d : Card} {u k : Nat} (hd : d.addr u k ≠ R.MGT_RELAY_CTRL.addr 0 0) :
    (s.relaySet wide write).rd d u k = s.rd d u k := by
  unfold State.rd
  rw [State.find_relaySet wide write hd]

theorem State.relayBusy_relaySet (wide write : Bool) : (s.relaySet wide write).relayBusy = 1 :=
  State.rdF_wrFs s (g := F.MGT_RELAY_CTRL_BUSY) (x := 1) 2 rfl rfl (by decide) (by decide) rfl

theorem State.relayDone_relaySet (wide write : Bool) :
    (s.relaySet wide write).rdF R.MGT_RELAY_CTRL F.MGT_RELAY_CTRL_DONE 0 0 = 0 :=
  State.rdF_wrFs s (g := F.MGT_RELAY_CTRL_DONE) (x := 0) 3 rfl rfl (by decide) (by decide) rfl

section
variable {wide write im : Bool} {m : Nat × Nat × Nat}

theorem State.relayGo_busy (hb : s.relayBusy = 1) : s.relayGo wide write m = s.regErr := if_pos hb

/-- A read does not use the AVS step. -/
theorem State.relayGo_read_any (m' : Nat × Nat × Nat) : s.relayGo wide false m = s.relayGo wide false m' := by
  unfold State.relayGo
  simp only [Bool.not_false, if_true]

/-- An access of the wrong form ends with ERROR 1 and reads zero (R496). -/
theorem State.relayGo_malformed (hb : s.relayBusy = 0) (hr : regAccess s.relayOffset (if wide then 8 else 4) = none) :
    s.relayGo wide write m = (((s.relaySet wide write).badAccess s.relayOffset).wr R.MGT_RELAY_DATA 0 0
      (if write then (s.relaySet wide write).rd R.MGT_RELAY_DATA 0 0 else 0)).mgt! (fun m => { m with relayErr := 1 }) := by
  have ho : (s.relaySet wide write).relayOffset = s.relayOffset :=
    congrArg F.MGT_RELAY_ADDR_OFFSET.get (State.rd_relaySet wide write (by decide))
  rw [← ho] at hr ⊢
  unfold State.relayGo
  rw [if_neg (fun h => absurd (hb.symm.trans h) (by decide))]
  show (match regAccess (s.relaySet wide write).relayOffset (if wide then 8 else 4) with | none => _ | some (r, im) => _) = _
  rw [hr]
  rfl

/-- An access of the right form is made at once; a read fills MGT_RELAY_DATA, and a write of an image is dropped. -/
theorem State.relayGo_access (hb : s.relayBusy = 0)
    (hr : regAccess s.relayOffset (if wide then 8 else 4) = some (r, im)) (hc : r.card.same R.MGT_RELAY_CTRL = false) :
    s.relayGo wide write m =
      if write = false then (s.relayBegun wide write).wr R.MGT_RELAY_DATA 0 0 ((s.relayBegun wide write).regValue r im)
      else if im = true then s.relayBegun wide write
      else (s.relayBegun wide write).writeReg r ((s.relayBegun wide write).rd R.MGT_RELAY_DATA 0 0 % 2 ^ (8 * (if wide then 8 else 4)))
        m true := by
  have ho : (s.relaySet wide write).relayOffset = s.relayOffset :=
    congrArg F.MGT_RELAY_ADDR_OFFSET.get (State.rd_relaySet wide write (by decide))
  rw [← ho] at hr
  unfold State.relayGo
  rw [if_neg (fun h => absurd (hb.symm.trans h) (by decide))]
  show (match regAccess (s.relaySet wide write).relayOffset (if wide then 8 else 4) with | none => _ | some (r, im) => _) = _
  rw [hr]
  dsimp only
  rw [hc]
  cases write <;> rfl

end

end Sys2Proof.Machine
end

section
/-! SUPPORT. The register access statement (O7), clause by clause. -/

namespace Sys2Proof.Machine

open Sys2Proof

variable {s : State} {r : RegAt} {o n v w a b c : Nat}

/-! ## Plain registers -/

/-- A plain write that its register's condition admits: each field takes it by its access code, and every other bit, the
value in effect and every other register stay (R10, R13, R15). -/
theorem takeFields_sets (hr : regAccess o n = some (r, false)) (w : Nat) :
    (s.takeFields r w).mem = s.mem ∧ (s.takeFields r w).chip = s.chip ∧ (s.takeFields r w).log = s.log ∧
    (∀ f ∈ r.card.fields, bits ((s.takeFields r w).rd r.card r.unit r.idx) f.hi f.lo = f.write (s.rd r.card r.unit r.idx) w) ∧
    (∀ i, i < r.card.width → (∀ f ∈ r.card.fields, ¬ (f.lo ≤ i ∧ i ≤ f.hi)) →
      bit ((s.takeFields r w).rd r.card r.unit r.idx) i = bit (s.rd r.card r.unit r.idx) i) ∧
    (r.card.shadowed = true → (s.takeFields r w).rdEff r.card r.unit r.idx = s.rdEff r.card r.unit r.idx) ∧
    (r.card.same R.SEQ_LEG_TABLE = false → r.card.same R.SEQ_LAP_CONFIG = false → (s.takeFields r w).parts = s.parts ∧
      ∀ x, x ≠ r.card.addr r.unit r.idx → Sp.find x (s.takeFields r w).regs = Sp.find x s.regs) := by
  obtain ⟨hmem, hhas, -⟩ := regAt_some (regAccess_live hr)
  have hok := Blk.fieldsOk_of_mem_cards hmem
  have hk : Keeps 0x8 (s.putReg r w) (s.takeFields r w) := State.takeFields_keeps
  refine ⟨hk.frame .mem rfl, hk.frame .chip rfl, hk.frame .log rfl, fun f hf => ?_, fun i hi hf => ?_, fun hs => ?_,
    fun hl hc => ?_⟩
  · rw [State.takeFields_rd, State.bits_putReg hok hhas w hf]
  · rw [State.takeFields_rd, State.bit_putReg hok hhas w hi hf]
  · rw [State.takeFields_rdEff, State.rdEff_putReg hs]
  · rw [State.takeFields_eq_putReg hl hc]
    exact ⟨rfl, fun x hx => State.find_wr_ne hx⟩

/-! ## Registers with a command of their own -/

/-- PF0 writes `v` to register `r` over BAR0, which the block's state lets through (R15, R393, R394). -/
structure OpenWrite (s : State) (o n v : Nat) (r : RegAt) : Prop where
  range : o < 2 ^ 29
  opened : s.barOpen o = true
  named : regAccess o n = some (r, false)
  fits : v < 2 ^ r.card.width

namespace OpenWrite

variable (h : OpenWrite s o n v r)
include h

/-- Such a write to a register of card `d` is what `writeReg` makes of it. -/
theorem exec_eq {d : Card} {t : State} (hc : r.card = d) (hd : d.same R.MGT_RELAY_CTRL = false)
    (ht : s.writeReg r v (a, b, c) false = t) : exec (.regWrite o n v a b c) s = .next t :=
  ht ▸ exec_regWrite_writeReg h.range h.opened h.named h.fits (hc ▸ hd)

theorem pageAttr (hc : r.card = R.GLB_PAGE_ATTR) :
    exec (.regWrite o n v a b c) s = exec (.pageAttrApply v) s := h.exec_eq hc rfl (State.writeReg_pageAttr hc)

theorem coord (hc : r.card = R.RLY_FABRIC_COORD) :
    exec (.regWrite o n v a b c) s = exec (.chipIdWrite v) s := h.exec_eq hc rfl (State.writeReg_coord hc)

theorem timeSet (hc : r.card = R.RLY_TIME_SET) :
    exec (.regWrite o n v a b c) s = exec (.timeSet v) s := h.exec_eq hc rfl (State.writeReg_timeSet hc)

theorem heartbeat (hc : r.card = R.HST_HEARTBEAT) :
    exec (.regWrite o n v a b c) s = exec (.heartbeatWrite v) s := h.exec_eq hc rfl (State.writeReg_heartbeat hc)

theorem engineFence (hc : r.card = R.AKC_ENGINE_FENCE) :
    exec (.regWrite o n v a b c) s = exec (.akcEngineFenceWrite r.unit v) s := by
  have hhas := (regAt_some (regAccess_live h.named)).2.1
  rw [hc] at hhas
  have hu : r.unit < 12 := by
    simp only [Card.has, Bool.and_eq_true, Bool.or_eq_true, decide_eq_true_eq] at hhas
    exact hhas.1.1.resolve_left (by decide)
  exact (h.exec_eq hc rfl (State.writeReg_engineFence hc)).trans (congrArg Host.Outcome.next (if_pos hu).symm)

theorem cclk (hc : r.card = R.CRC_CCLK_SELECT) :
    exec (.regWrite o n v a b c) s = exec (.cclkFreqWrite (v % 4) a b c) s :=
  (h.exec_eq hc rfl (State.writeReg_cclk hc)).trans
    (congrArg Host.Outcome.next (if_pos (Nat.mod_lt v (by decide : 4 > 0))).symm)

theorem runControl {t : State} (hc : r.card = R.SEQ_RUN_CONTROL) (ht : s.writeRun r.unit v = t) :
    exec (.regWrite o n v a b c) s = .next t := h.exec_eq hc rfl ((State.writeReg_runControl hc).trans ht)

theorem hash (hc : r.card = R.AKC_HASH_CTRL) (hg : bit v 0 = true) :
    exec (.regWrite o n v a b c) s = exec (.hashGo r.unit v) s := h.exec_eq hc rfl (State.writeReg_hash hc hg)

theorem fence (hc : r.card = R.GLB_FENCE_REQ) (hg : bit v 63 = true) :
    exec (.regWrite o n v a b c) s = exec (.fenceRequest v) s := h.exec_eq hc rfl (State.writeReg_fence hc hg)

theorem attach (hc : r.card = R.HST_ATTACH) (hg : bit v 0 = true) :
    exec (.regWrite o n v a b c) s = exec .attach s := h.exec_eq hc rfl (State.writeReg_attach hc hg)

theorem doorbell_stage (hc : r.card = R.EMB_FAR_DOORBELL) (hop : F.EMB_FAR_DOORBELL_OP.get v = 1) :
    exec (.regWrite o n v a b c) s =
      exec (.stage r.unit (F.EMB_FAR_DOORBELL_DIE.get v) (F.EMB_FAR_DOORBELL_SLOT.get v)) s := by
  refine h.exec_eq hc rfl ((State.writeReg_doorbell hc).trans ?_)
  unfold State.farDoorbell
  rw [hop]
  rfl

theorem doorbell_release (hc : r.card = R.EMB_FAR_DOORBELL) (hop : F.EMB_FAR_DOORBELL_OP.get v = 2) :
    exec (.regWrite o n v a b c) s =
      exec (.release r.unit (F.EMB_FAR_DOORBELL_DIE.get v) (F.EMB_FAR_DOORBELL_SLOT.get v) (v % 2 ^ 32)) s := by
  refine h.exec_eq hc rfl ((State.writeReg_doorbell hc).trans ?_)
  unfold State.farDoorbell
  rw [hop]
  rfl

theorem queueEnable (hc : r.card = R.QUE_ENABLE) (hop : bits v 17 16 = 1) :
    exec (.regWrite o n v a b c) s = exec (.queueEnable (v % 65536)) s :=
  h.exec_eq hc rfl ((State.writeReg_queEnable hc).trans (State.writeQueEnable_eq hop (by decide)))

theorem queueDisable (hc : r.card = R.QUE_ENABLE) (hop : bits v 17 16 = 2) :
    exec (.regWrite o n v a b c) s = exec (.queueDisable (v % 65536)) s :=
  h.exec_eq hc rfl ((State.writeReg_queEnable hc).trans (State.writeQueEnable_eq hop (by decide)))

theorem firmware (hc : r.card = R.SEC_FWUP_CTRL) (hg : bit v 0 = true) {k : Nat} (hop : bits v 4 3 = k) :
    exec (.regWrite o n v a b c) s = .next (s.fwGo k) := h.exec_eq hc rfl (hop ▸ State.writeReg_fwup hc hg)

theorem relay (hc : r.card = R.MGT_RELAY_CTRL) (hg : bit v 0 = true) :
    exec (.regWrite o n v a b c) s = .next (s.relayGo (bit v 2) (bit v 1) (a, b, c)) :=
  exec_regWrite_relayGo h.range h.opened h.named h.fits hc hg

/-- A write of one request bit of SEQ_RUN_CONTROL is that request on a state in which only this register has changed. -/
theorem runControl_request (hc : r.card = R.SEQ_RUN_CONTROL) {i : Instr}
    (hw : exec i (s.setRun r.unit v) = .next (s.writeRun r.unit v)) :
    ∃ w, w.mem = s.mem ∧ w.parts = s.parts ∧
      (∀ y, y ≠ R.SEQ_RUN_CONTROL.addr r.unit 0 → Sp.find y w.regs = Sp.find y s.regs) ∧
      exec (.regWrite o n v a b c) s = exec i w :=
  ⟨s.setRun r.unit v, rfl, rfl, fun _ hy => State.find_wr_ne hy, (h.runControl hc rfl).trans hw.symm⟩

end OpenWrite

/-- The commands that a write of value `v` to their register in copy `u` is, whatever the value. -/
def valueCommands (u v a b c : Nat) : List (Card × Instr) :=
  [(R.GLB_PAGE_ATTR, .pageAttrApply v), (R.RLY_FABRIC_COORD, .chipIdWrite v), (R.RLY_TIME_SET, .timeSet v),
    (R.HST_HEARTBEAT, .heartbeatWrite v), (R.AKC_ENGINE_FENCE, .akcEngineFenceWrite u v),
    (R.CRC_CCLK_SELECT, .cclkFreqWrite (v % 4) a b c)]

theorem OpenWrite.valueCommand (h : OpenWrite s o n v r) :
    ∀ x ∈ valueCommands r.unit v a b c, r.card = x.1 → exec (.regWrite o n v a b c) s = exec x.2 s := by
  intro x hx hc
  simp only [valueCommands, List.mem_cons, List.not_mem_nil, or_false] at hx
  rcases hx with rfl | rfl | rfl | rfl | rfl | rfl
  · exact h.pageAttr hc
  · exact h.coord hc
  · exact h.timeSet hc
  · exact h.heartbeat hc
  · exact h.engineFence hc
  · exact h.cclk hc

/-- The requests of SEQ_RUN_CONTROL, each with the value that makes it alone (R60). -/
def runCommands (u : Nat) : List (Card × Nat × Instr) :=
  [(R.SEQ_RUN_CONTROL, 1, .start u), (R.SEQ_RUN_CONTROL, 2, .resume u), (R.SEQ_RUN_CONTROL, 4, .holdNext u),
    (R.SEQ_RUN_CONTROL, 16, .stop u)]

theorem OpenWrite.runCommand (h : OpenWrite s o n v r) :
    ∀ x ∈ runCommands r.unit, r.card = x.1 → v = x.2.1 →
      ∃ w, w.mem = s.mem ∧ w.parts = s.parts ∧
        (∀ y, y ≠ R.SEQ_RUN_CONTROL.addr r.unit 0 → Sp.find y w.regs = Sp.find y s.regs) ∧
        exec (.regWrite o n v a b c) s = exec x.2.2 w := by
  intro x hx hc hv
  simp only [runCommands, List.mem_cons, List.not_mem_nil, or_false] at hx
  rcases hx with rfl | rfl | rfl | rfl <;> subst hv
  · exact h.runControl_request hc (congrArg Host.Outcome.next (State.writeRun_start _).symm)
  · exact h.runControl_request hc (congrArg Host.Outcome.next (State.writeRun_resume _).symm)
  · exact h.runControl_request hc (congrArg Host.Outcome.next (State.writeRun_holdNext _).symm)
  · exact h.runControl_request hc (congrArg Host.Outcome.next (State.writeRun_stop _).symm)

/-- The commands that a write with their register's GO bit set is. -/
noncomputable def goCommands (u v : Nat) : List (Card × Nat × Instr) :=
  [(R.AKC_HASH_CTRL, 0, .hashGo u v), (R.GLB_FENCE_REQ, 63, .fenceRequest v), (R.HST_ATTACH, 0, .attach)]

theorem OpenWrite.goCommand (h : OpenWrite s o n v r) :
    ∀ x ∈ goCommands r.unit v, r.card = x.1 → bit v x.2.1 = true → exec (.regWrite o n v a b c) s = exec x.2.2 s := by
  intro x hx hc hg
  simp only [goCommands, List.mem_cons, List.not_mem_nil, or_false] at hx
  rcases hx with rfl | rfl | rfl
  · exact h.hash hc hg
  · exact h.fence hc hg
  · exact h.attach hc hg

/-- The firmware operations by their code in SEC_FWUP_CTRL. -/
noncomputable def firmwareCommands : List (Nat × Instr) := [(0, .download), (1, .verify), (2, .activate), (3, .confirm)]

theorem OpenWrite.firmwareCommand (h : OpenWrite s o n v r) (hc : r.card = R.SEC_FWUP_CTRL) (hg : bit v 0 = true) :
    ∀ x ∈ firmwareCommands, bits v 4 3 = x.1 → exec (.regWrite o n v a b c) s = exec x.2 s := by
  intro x hx hop
  simp only [firmwareCommands, List.mem_cons, List.not_mem_nil, or_false] at hx
  rcases hx with rfl | rfl | rfl | rfl <;> exact h.firmware hc hg hop

theorem OpenWrite.relayCommand (h : OpenWrite s o n v r) (hc : r.card = R.MGT_RELAY_CTRL) (hg : bit v 0 = true) :
    (bit v 1 = false → exec (.regWrite o n v a b c) s = exec (.relayRead (bit v 2)) s) ∧
    (bit v 1 = true → exec (.regWrite o n v a b c) s = exec (.relayWrite (bit v 2) a b c) s) := by
  refine ⟨fun h1 => ?_, fun h1 => ?_⟩
  · rw [h.relay hc hg, h1, State.relayGo_read_any (0, 0, 0)]
    rfl
  · rw [h.relay hc hg, h1]
    rfl

/-! ## The relay -/

section
variable {wide write im : Bool} {m : Nat × Nat × Nat}

theorem State.rd_badAccess {d : Card} {u k : Nat} (h4 : d.addr u k ≠ R.CNT_GLB.addr 0 4) (h18 : d.addr u k ≠ R.CNT_GLB.addr 0 18) :
    (s.badAccess o).rd d u k = s.rd d u k :=
  (State.rd_event_of_none rfl 0 o 0 h18).trans (State.rd_wr_ne s _ h4.symm)

/-- A malformed access is counted (R15). -/
theorem State.rd_badAccess_count : (s.badAccess o).rd R.CNT_GLB 0 4 = (s.rd R.CNT_GLB 0 4 + 1) % 2 ^ 64 :=
  (State.rd_event_of_none rfl 0 o 0 (by decide)).trans (State.count_rd_same s rfl 1)

/-- A relay access of the wrong form ends with ERROR 1, is counted, and a read gives zero (R496). -/
theorem State.relayGo_malformed_sets (hb : s.relayBusy = 0)
    (hr : regAccess s.relayOffset (if wide then 8 else 4) = none) :
    (s.relayGo wide write m).relayBusy = 1 ∧ (s.relayGo wide write m).mgt.relayErr = 1 ∧
    (s.relayGo wide write m).mem = s.mem ∧
    (s.relayGo wide write m).rd R.CNT_GLB 0 4 = (s.rd R.CNT_GLB 0 4 + 1) % 2 ^ 64 ∧
    (write = false → (s.relayGo wide write m).rd R.MGT_RELAY_DATA 0 0 = 0) := by
  rw [State.relayGo_malformed hb hr]
  have hbusy := State.relayBusy_relaySet (s := s) wide write
  generalize ht : s.relaySet wide write = t at hbusy ⊢
  have hmem : t.mem = s.mem := ht ▸ rfl
  have hcnt : t.rd R.CNT_GLB 0 4 = s.rd R.CNT_GLB 0 4 := ht ▸ State.rd_relaySet wide write (by decide)
  have hk : Keeps _ t (t.badAccess s.relayOffset) := State.badAccess_keeps (Sub.self _) (Keeps.refl _ t)
  have hctrl : (t.badAccess s.relayOffset).rd R.MGT_RELAY_CTRL 0 0 = t.rd R.MGT_RELAY_CTRL 0 0 :=
    State.rd_badAccess (by decide) (by decide)
  refine ⟨?_, rfl, Eq.trans (hk.frame .mem rfl) hmem, ?_, fun hw => ?_⟩
  · refine (congrArg F.MGT_RELAY_CTRL_BUSY.get ?_).trans hbusy
    exact (State.rd_wr_ne (c := R.MGT_RELAY_DATA) (u := 0) (k := 0) _ _ (by decide)).trans hctrl
  · rw [← hcnt, ← State.rd_badAccess_count (o := s.relayOffset)]
    exact State.rd_wr_ne (c := R.MGT_RELAY_DATA) (u := 0) (k := 0) _ _ (by decide)
  · subst hw
    exact State.rd_wr_same _ rfl 0

/-- The register that an access of the relay names lies elsewhere than its control register. -/
theorem relayTarget_ne (hr : regAccess o n = some (r, im)) (hc : r.card.same R.MGT_RELAY_CTRL = false) :
    if im then r.card.addr r.unit r.idx + imageOff ≠ R.MGT_RELAY_CTRL.addr 0 0
    else r.card.addr r.unit r.idx ≠ R.MGT_RELAY_CTRL.addr 0 0 := by
  cases im with
  | true =>
    obtain ⟨hup, haddr⟩ := regAccess_image hr
    intro he
    rw [← haddr, he] at hup
    exact absurd hup (by decide)
  | false =>
    have hat := regAccess_live hr
    intro he
    rw [← (regAt_some hat).2.2, he] at hat
    have : regAt (R.MGT_RELAY_CTRL.addr 0 0) = some ⟨R.MGT_RELAY_CTRL, 0, 0⟩ := rfl
    rw [this] at hat
    cases hat
    exact absurd hc (by decide)

/-- The beginning of an access changes no value that the access may read. -/
theorem State.regValue_relayBegun (hr : regAccess o n = some (r, im)) (hc : r.card.same R.MGT_RELAY_CTRL = false) :
    (s.relayBegun wide write).regValue r im = s.regValue r im := by
  have hne := relayTarget_ne hr hc
  unfold State.regValue
  cases im with
  | true =>
    have hf : Sp.find (r.card.addr r.unit r.idx + imageOff) (s.relayBegun wide write).regs =
        Sp.find (r.card.addr r.unit r.idx + imageOff) s.regs := State.find_relaySet wide write hne
    cases hs : r.card.shadowed <;> simp only [State.rdEff, hs, hf, if_true] <;> rfl
  | false =>
    have hrd : (s.relayBegun wide write).rd r.card r.unit r.idx = s.rd r.card r.unit r.idx :=
      State.rd_relaySet wide write hne
    unfold State.liveValue
    rw [hrd]
    rfl

/-- A read fills MGT_RELAY_DATA with the register's value; nothing else but the relay's control register changes. -/
theorem relayRead_ends (hb : s.relayBusy = 0) (hr : regAccess s.relayOffset (if wide then 8 else 4) = some (r, im))
    (hc : r.card.same R.MGT_RELAY_CTRL = false) :
    Ends (.relayRead wide) s (fun t => t.rd R.MGT_RELAY_DATA 0 0 = s.regValue r im % 2 ^ 64 ∧
      t.mgt = { s.mgt with relayErr := 0 } ∧ t.relayBusy = 1 ∧ t.rdF R.MGT_RELAY_CTRL F.MGT_RELAY_CTRL_DONE 0 0 = 0 ∧
      t.mem = s.mem ∧ ∀ y, y ≠ R.MGT_RELAY_CTRL.addr 0 0 → y ≠ R.MGT_RELAY_DATA.addr 0 0 → Sp.find y t.regs = Sp.find y s.regs) := by
  refine ⟨_, congrArg Host.Outcome.next ((State.relayGo_access hb hr hc).trans (if_pos rfl)), ?_⟩
  have hctrl (x : Nat) : ((s.relayBegun wide false).wr R.MGT_RELAY_DATA 0 0 x).rd R.MGT_RELAY_CTRL 0 0 =
      (s.relaySet wide false).rd R.MGT_RELAY_CTRL 0 0 := State.rd_wr_ne _ _ (by decide)
  refine ⟨?_, rfl, ?_, ?_, rfl, fun y hy hd => ?_⟩
  · rw [← State.regValue_relayBegun (s := s) (wide := wide) (write := false) hr hc]
    exact State.rd_wr_same _ rfl _
  · exact (congrArg F.MGT_RELAY_CTRL_BUSY.get (hctrl _)).trans (State.relayBusy_relaySet wide false)
  · exact (congrArg F.MGT_RELAY_CTRL_DONE.get (hctrl _)).trans (State.relayDone_relaySet wide false)
  · exact (State.find_wr_ne hd).trans (State.find_relaySet wide false hy)

/-- A write of an effective image or a snapshot is dropped (R13, R531). -/
theorem relayWrite_image_ends (hb : s.relayBusy = 0)
    (hr : regAccess s.relayOffset (if wide then 8 else 4) = some (r, true)) (hc : r.card.same R.MGT_RELAY_CTRL = false) :
    Ends (.relayWrite wide a b c) s (fun t => t.mem = s.mem ∧ t.mgt = { s.mgt with relayErr := 0 } ∧
      ∀ y, y ≠ R.MGT_RELAY_CTRL.addr 0 0 → Sp.find y t.regs = Sp.find y s.regs) :=
  ⟨_, congrArg Host.Outcome.next ((State.relayGo_access hb hr hc).trans rfl), rfl, rfl,
    fun _ hy => State.find_relaySet wide true hy⟩

/-- A write of a register is that register's write with MGT_RELAY_DATA. -/
theorem relayWrite_register (hb : s.relayBusy = 0)
    (hr : regAccess s.relayOffset (if wide then 8 else 4) = some (r, false)) (hc : r.card.same R.MGT_RELAY_CTRL = false) :
    exec (.relayWrite wide a b c) s = .next ((s.relayBegun wide true).writeReg r
      (s.rd R.MGT_RELAY_DATA 0 0 % 2 ^ (if wide then 64 else 32)) (a, b, c) true) := by
  have hd : (s.relayBegun wide true).rd R.MGT_RELAY_DATA 0 0 = s.rd R.MGT_RELAY_DATA 0 0 :=
    State.rd_relaySet wide true (by decide)
  have hw : 8 * (if wide then 8 else 4) = if wide then 64 else 32 := by cases wide <;> rfl
  rw [← hd, ← hw]
  exact congrArg Host.Outcome.next ((State.relayGo_access hb hr hc).trans rfl)

/-- RELAY_ACCESS_DONE sets DONE and ERROR, and ends BUSY (R496). -/
theorem relayAccessDone_ends (hb : s.relayBusy = 1) : Ends .relayAccessDone s (fun t => t.relayBusy = 0 ∧
    t.rdF R.MGT_RELAY_CTRL F.MGT_RELAY_CTRL_DONE 0 0 = 1 ∧
    (s.mgt.relayErr < 2 → t.rdF R.MGT_RELAY_CTRL F.MGT_RELAY_CTRL_ERROR 0 0 = s.mgt.relayErr) ∧
    ∀ g : Fd, g ≠ .regs → g.Same s t) := by
  refine ⟨_, congrArg Host.Outcome.next (if_neg (fun h => absurd (hb.symm.trans h) (by decide))), ?_, ?_, fun he => ?_, ?_⟩
  · exact State.rdF_wrFs s (g := F.MGT_RELAY_CTRL_BUSY) (x := 0) 0 rfl rfl (by decide) (by decide) rfl
  · exact State.rdF_wrFs s (g := F.MGT_RELAY_CTRL_DONE) (x := 1) 1 rfl rfl (by decide) (by decide) rfl
  · rw [State.rdF_wrFs s (g := F.MGT_RELAY_CTRL_ERROR) (x := s.mgt.relayErr) 2 rfl rfl (by decide) (by decide) rfl]
    exact Nat.mod_eq_of_lt (Nat.lt_trans he (by decide))
  · intro g hg
    cases g
    case regs => exact absurd rfl hg
    all_goals rfl

/-- An access met by BUSY is counted, and one of the wrong form ends with ERROR 1 (R496). -/
theorem relay_refused : ∀ x ∈ ([.relayRead wide, .relayWrite wide a b c] : List Instr),
    (s.relayBusy = 1 → exec x s = .next s.regErr) ∧
    (s.relayBusy = 0 → regAccess s.relayOffset (if wide then 8 else 4) = none → Ends x s (fun t =>
      t.relayBusy = 1 ∧ t.mgt.relayErr = 1 ∧ t.mem = s.mem ∧ t.rd R.CNT_GLB 0 4 = (s.rd R.CNT_GLB 0 4 + 1) % 2 ^ 64 ∧
      (x = .relayRead wide → t.rd R.MGT_RELAY_DATA 0 0 = 0))) := by
  intro x hx
  simp only [List.mem_cons, List.not_mem_nil, or_false] at hx
  rcases hx with rfl | rfl
  · refine ⟨fun hb => congrArg Host.Outcome.next (State.relayGo_busy hb), fun hb hr => ?_⟩
    obtain ⟨hbusy, herr, hmem, hcnt, hdata⟩ := State.relayGo_malformed_sets (write := false) (m := (0, 0, 0)) hb hr
    exact ⟨_, rfl, hbusy, herr, hmem, hcnt, fun _ => hdata rfl⟩
  · refine ⟨fun hb => congrArg Host.Outcome.next (State.relayGo_busy hb), fun hb hr => ?_⟩
    obtain ⟨hbusy, herr, hmem, hcnt, -⟩ := State.relayGo_malformed_sets (write := true) (m := (a, b, c)) hb hr
    exact ⟨_, rfl, hbusy, herr, hmem, hcnt, fun he => Instr.noConfusion he⟩

end

/-- A field after a write, as the access codes give it (R10). -/
theorem CardField.write_eq (f : CardField) (old v : Nat) : f.write old v = match f.acc with
    | .rw | .rws | .rwl => bits v f.hi f.lo
    | .ro | .wo => bits old f.hi f.lo
    | .w1c => bits old f.hi f.lo ^^^ (bits old f.hi f.lo &&& bits v f.hi f.lo)
    | .w1s => bits old f.hi f.lo ||| bits v f.hi f.lo := by
  obtain ⟨hi, lo, acc⟩ := f
  cases acc <;> rfl

/-- Settles O7: a plain write takes the fields, a register's own command runs on its write, and the relay makes its access. -/
theorem registerAccess : Obligations.RegisterAccess := by
  unfold Obligations.RegisterAccess
  refine ⟨fun s o n v a b c ho => ⟨exec_regWrite_closed, exec_regWrite_malformed ho, fun hb r hr => exec_regWrite_image ho hb hr,
    fun hb r w hr hw hown hgo => ?_⟩, fun s o n v a b c u r ho hb hr hv hu => ?_,
    fun s wide a b c => ⟨relay_refused, fun hb r im hr hc => ?_, fun hb => congrArg Host.Outcome.next (if_pos hb),
      relayAccessDone_ends⟩⟩
  · subst hw
    have hplain := exec_regWrite_plain (a := a) (b := b) (c := c) ho hb hr ⟨hown, hgo⟩
    unfold State.plainWrite at hplain
    refine ⟨fun hm => ?_, fun hm => ?_⟩
    · rw [hplain, hm]
      rfl
    · rw [hm, if_pos rfl] at hplain
      obtain ⟨hmem, hchip, hlog, hfield, hbit, heff, hrest⟩ := takeFields_sets (s := s) hr (v % 2 ^ r.card.width)
      refine ⟨_, hplain, hmem, hchip, hlog, fun f hf old new ho hn => ?_, hbit, heff, hrest⟩
      subst ho hn
      exact (hfield f hf).trans (CardField.write_eq f _ _)
  · subst hu
    have h : OpenWrite s o n v r := ⟨ho, hb, hr, hv⟩
    refine ⟨h.valueCommand, h.runCommand, h.goCommand, fun hc d sl hd hsl => ?_,
      fun hc => ⟨h.queueEnable hc, h.queueDisable hc⟩, h.firmwareCommand, h.relayCommand⟩
    subst hd hsl
    exact ⟨h.doorbell_stage hc, h.doorbell_release hc⟩
  · refine ⟨relayRead_ends hb hr hc, fun him => ?_, fun him => ?_⟩
    · subst him
      exact relayWrite_image_ends hb hr hc
    · subst him
      exact ⟨s.relayBegun wide true, rfl, rfl, rfl, rfl, fun y hy => State.find_relaySet wide true hy,
        State.relayBusy_relaySet wide true, relayWrite_register hb hr hc⟩

end Sys2Proof.Machine
end

section
/-! SUPPORT. Writes to memory, as other parts of the state see them: what is stored reaches no partition's data, no clock and
no register but the memory blocks' counters (R245). -/

namespace Sys2Proof.Machine

open Sys2Proof

variable (s : State) (a : Nat) (bs : List Byte) (poison : Bool)

theorem State.save_frame : Keeps 0x1800000000000000000000000000000000000000000000007 s (s.save a bs poison) :=
  State.save_keeps (Sub.self _) (Keeps.refl _ s)

@[simp] theorem State.save_parts : (s.save a bs poison).parts = s.parts := (s.save_frame a bs poison).frame .parts rfl

@[simp] theorem State.save_part (p : Nat) : (s.save a bs poison).part p = s.part p := by
  unfold State.part
  rw [State.save_parts]

@[simp] theorem State.save_ftime : (s.save a bs poison).ftime = s.ftime := (s.save_frame a bs poison).frame .ftime rfl

theorem State.rd_save {d : Card} {u k : Nat} (hn : ∀ c ∈ [R.CNT_HBM, R.CNT_BLK], ¬ c.owns (d.addr u k)) :
    (s.save a bs poison).rd d u k = s.rd d u k :=
  (s.save_frame a bs poison).rd [154, 155] (by decide) rfl (by decide) hn

/-- Partitions' copies of a card of the first 4 KiB of its block lie at other offsets than the memory blocks' counters. -/
theorem Card.memCounters_not_own {d : Card} {u k : Nat} (hi : d.blk.instances = 1) (hb : d.blk.base % 0x2000 = 0)
    (hv : d.view = .part2000) (ho : d.off + k * d.stride < 0x1000) :
    ∀ c ∈ [R.CNT_HBM, R.CNT_BLK], ¬ c.owns (d.addr u k) := by
  have haddr : d.addr u k % 0x2000 < 0x1000 := by
    unfold Card.addr
    rw [if_pos hi, hv]
    show (_ + 0 + u * 0x2000 + _ + _) % 0x2000 < _
    omega
  intro c hc howns
  obtain ⟨v, j, e, -, hj, -, -, he⟩ := Card.owns_cases howns
  rw [he] at haddr
  simp only [List.mem_cons, List.not_mem_nil, or_false] at hc
  rcases hc with rfl | rfl
  · have hj : j < 16 := hj
    change (0x08000000 + v * 0x100000 + 0 + 0x1000 + j * 8 + e * 0x80000) % 0x2000 < 0x1000 at haddr
    omega
  · have hj : j < 6 := hj
    change (0x0A000000 + v * 0x100000 + 0 + 0x1000 + j * 8 + e * 0x80000) % 0x2000 < 0x1000 at haddr
    omega

@[simp] theorem State.save_lap (p : Nat) : (s.save a bs poison).lap p = s.lap p :=
  congrArg F.SEQ_POSITION_LAP.get (s.rd_save a bs poison (Card.memCounters_not_own rfl rfl rfl (by decide)))

@[simp] theorem State.save_farRingPtr (f : Fld) (p : Nat) :
    (s.save a bs poison).rdF R.EMB_FAR_RING_PTR f p 0 = s.rdF R.EMB_FAR_RING_PTR f p 0 :=
  congrArg f.get (s.rd_save a bs poison (Card.memCounters_not_own rfl rfl rfl (by decide)))

end Sys2Proof.Machine
end

section
/-! SUPPORT. The far tier (Machine/Far.lean): its records, its doorbells and its ring, and the statement about them (O37). -/

namespace Sys2Proof.Machine

open Sys2Proof

variable {s : State} {p die k : Nat}

/-! ## Records -/

/-- A record of the far ring (Table 7-7), as partition `p` makes it now. -/
def State.farBytes (s : State) (p kind reason die item slot : Nat) : List Byte :=
  leBytes 1 kind ++ leBytes 1 reason ++ leBytes 1 die ++ leBytes 1 0 ++ leBytes 4 (s.lap p) ++ leBytes 8 item ++
    leBytes 4 slot ++ leBytes 4 0 ++ leBytes 8 (s.ftime % 2 ^ 64)

theorem State.farWait_farRecord (kind reason item slot : Nat) : ((s.farRecord p kind reason die item slot).part p).farWait =
    (s.part p).farWait ++ [s.farBytes p kind reason die item slot] := congrArg Part.farWait (State.part_updPart _ _)

theorem State.farIdx_farRecord (kind reason item slot : Nat) :
    ((s.farRecord p kind reason die item slot).part p).farIdx = (s.part p).farIdx := by
  unfold State.farRecord
  rw [State.part_updPart]

theorem State.mem_farRecord (kind reason item slot : Nat) : (s.farRecord p kind reason die item slot).mem = s.mem := rfl

theorem State.farBytes_updPart (q : Nat) (g : Part → Part) : (s.updPart q g).farBytes p = s.farBytes p := rfl

theorem State.farBytes_saveN (a n v : Nat) : (s.saveN a n v).farBytes p = s.farBytes p := by
  unfold State.farBytes State.saveN
  rw [State.save_lap, State.save_ftime]

/-- A count of EMB is not the position that a record's lap comes from. -/
theorem State.farBytes_countEmb {i : Nat} (hi : i < 17) (n : Nat) : (s.count R.CNT_EMB p i n).farBytes p = s.farBytes p := by
  have hne : R.CNT_EMB.addr p i ≠ R.SEQ_POSITION.addr p 0 := by
    show 0x0B000000 + 0 + p * 0x2000 + 0x1800 + i * 8 ≠ 0x02000000 + 0 + p * 0x2000 + 0x30 + 0 * 8
    omega
  have hlap : (s.count R.CNT_EMB p i n).lap p = s.lap p := congrArg F.SEQ_POSITION_LAP.get (State.rd_wr_ne s _ hne)
  unfold State.farBytes
  rw [hlap, State.count_ftime]

theorem has_cntEmb {i : Nat} (hp : p < 64) (hi : i < 17) : R.CNT_EMB.has p i = true := by
  simp [Card.has, R.CNT_EMB, Blk.instances, hp, hi]

theorem has_farRingPtr (hp : p < 64) : R.EMB_FAR_RING_PTR.has p 0 = true := by
  simp [Card.has, R.EMB_FAR_RING_PTR, Blk.instances, hp]

/-! ## The doorbells -/

/-- An accepted STAGE marks the slot, binds its row and makes an acceptance record (R241). -/
theorem State.stage_accepted (h : s.stageReason p die k = 0) : s.stage p die k =
    ((s.saveN (s.farSlot p die k + 0x0C) 1 1).updPart p (fun x =>
      { x with farIdx := x.farIdx ++ [(die, s.loadN (s.farSlot p die k) 8, k)] })).farRecord p 0x10 0 die
        (s.loadN (s.farSlot p die k) 8) k := by
  unfold State.stage
  rw [h]
  rfl

/-- A refused STAGE is counted and makes a record of the reason (R241). -/
theorem State.stage_refused (h : s.stageReason p die k ≠ 0) : s.stage p die k =
    (s.count R.CNT_EMB p 3 1).farRecord p 0x11 (s.stageReason p die k) die
      (if s.stageReason p die k = 7 then 0 else s.loadN (s.farSlot p die k) 8) k := if_neg h

theorem stage_accepted_ends (h : s.stageReason p die k = 0) : Ends (.stage p die k) s (fun t => ∃ y : State,
    t = y.embResume p ∧ y.mem = (s.saveN (s.farSlot p die k + 0x0C) 1 1).mem ∧
    (y.part p).farIdx = (s.part p).farIdx ++ [(die, s.loadN (s.farSlot p die k) 8, k)] ∧
    (y.part p).farWait = (s.part p).farWait ++ [s.farBytes p 0x10 0 die (s.loadN (s.farSlot p die k) 8) k]) := by
  refine ⟨_, rfl, s.stage p die k, rfl, ?_⟩
  have hpart : (s.saveN (s.farSlot p die k + 0x0C) 1 1).part p = s.part p := State.save_part ..
  rw [State.stage_accepted h, State.mem_farRecord, State.farIdx_farRecord, State.farWait_farRecord, State.part_updPart,
    State.farBytes_updPart, State.farBytes_saveN, hpart]
  exact ⟨rfl, rfl, rfl⟩

theorem stage_refused_ends (h : s.stageReason p die k ≠ 0) : Ends (.stage p die k) s (fun t => ∃ y : State,
    t = y.embResume p ∧ y.mem = s.mem ∧ (y.part p).farIdx = (s.part p).farIdx ∧
    (y.part p).farWait = (s.part p).farWait ++ [s.farBytes p 0x11 (s.stageReason p die k) die
      (if s.stageReason p die k = 7 then 0 else s.loadN (s.farSlot p die k) 8) k] ∧
    (p < 64 → y.rd R.CNT_EMB p 3 = (s.rd R.CNT_EMB p 3 + 1) % 2 ^ 64)) := by
  refine ⟨_, rfl, s.stage p die k, rfl, ?_⟩
  rw [State.stage_refused h, State.farIdx_farRecord, State.farWait_farRecord, State.farBytes_countEmb (by decide)]
  exact ⟨rfl, rfl, rfl, fun hp => State.count_rd_same s (has_cntEmb hp (by decide)) 1⟩

theorem State.release_waits (h : (s.part p).farQ.length < 256) (lap : Nat) :
    s.release p die k lap = s.updPart p (fun x => { x with farQ := x.farQ ++ [(die, k, lap)] }) :=
  if_neg (Nat.not_le.2 h)

theorem State.release_discarded (h : 256 ≤ (s.part p).farQ.length) (lap : Nat) :
    s.release p die k lap = s.count R.CNT_EMB p 4 1 := if_pos h

/-- A RELEASE waits for the next lap boundary (R243, log 95). -/
theorem release_waits_ends (h : (s.part p).farQ.length < 256) (lap : Nat) : Ends (.release p die k lap) s (fun t =>
    t.part p = { s.part p with farQ := (s.part p).farQ ++ [(die, k, lap)] } ∧ t.regs = s.regs ∧ t.mem = s.mem) :=
  ⟨_, congrArg Host.Outcome.next (State.release_waits h lap), State.part_updPart _ _, rfl, rfl⟩

/-- A RELEASE met by 256 that wait is counted and discarded (R243). -/
theorem release_discarded_ends (h : 256 ≤ (s.part p).farQ.length) (hp : p < 64) (lap : Nat) :
    Ends (.release p die k lap) s (fun t => t.parts = s.parts ∧ t.mem = s.mem ∧
      t.rd R.CNT_EMB p 4 = (s.rd R.CNT_EMB p 4 + 1) % 2 ^ 64) :=
  ⟨_, congrArg Host.Outcome.next (State.release_discarded h lap), rfl, rfl,
    State.count_rd_same s (has_cntEmb hp (by decide)) 1⟩

/-! ## The ring -/

abbrev State.farRingBase (s : State) (p : Nat) : Nat := F.EMB_FAR_RING_BASE.get (s.rd R.EMB_FAR_RING p 0) * 32
abbrev State.farRingSize (s : State) (p : Nat) : Nat := 2 ^ F.EMB_FAR_RING_LOG2_ENTRIES.get (s.rd R.EMB_FAR_RING p 0)
abbrev State.farProducer (s : State) (p : Nat) : Nat := s.rdF R.EMB_FAR_RING_PTR F.EMB_FAR_RING_PTR_PRODUCER p 0
abbrev State.farConsumer (s : State) (p : Nat) : Nat := s.rdF R.EMB_FAR_RING_PTR F.EMB_FAR_RING_PTR_CONSUMER p 0

/-- The records in the ring that the host has not consumed. -/
abbrev State.farHeld (s : State) (p : Nat) : Nat := (s.farProducer p + 2 ^ 32 - s.farConsumer p) % 2 ^ 32

/-- The ring lies in host memory and no host is attached (R419). -/
abbrev State.farRingLost (s : State) (p : Nat) : Prop :=
  s.rdF R.HST_ATTACH F.HST_ATTACH_ATTACHED 0 0 = 0 ∧ hostBase ≤ s.farRingBase p

/-- Record `b` is in the ring, `rest` still wait, and PRODUCER has advanced. -/
def State.farPosted (s : State) (p : Nat) (b : List Byte) (rest : List (List Byte)) : State :=
  ((s.save (s.farRingBase p + 32 * (s.farProducer p % s.farRingSize p)) b).updPart p (fun x =>
    { x with farWait := rest, farFull := false })).wrF R.EMB_FAR_RING_PTR F.EMB_FAR_RING_PTR_PRODUCER p 0 (s.farProducer p + 1)

theorem State.farPost_none (h : (s.part p).farWait = []) : s.farPost p = s := by
  unfold State.farPost
  rw [h]

variable {b : List Byte} {rest : List (List Byte)}

/-- What the oldest waiting record meets: a lost host, a full ring (reported once, R242), or room. -/
theorem State.farPost_cons (h : (s.part p).farWait = b :: rest) : s.farPost p =
    if s.farRingLost p then s
    else if s.farRingSize p ≤ s.farHeld p then
      if (s.part p).farFull then s else (s.updPart p (fun x => { x with farFull := true })).event E.FAR_RING_FULL p 0 0
    else if s.farProducer p = s.farConsumer p then (s.farPosted p b rest).event E.FAR_RECORD p 0 0 else s.farPosted p b rest := by
  unfold State.farPost
  rw [h]
  simp only [Bool.and_eq_true, decide_eq_true_eq]
  rfl

theorem State.part_farPosted :
    (s.farPosted p b rest).part p = { s.part p with farWait := rest, farFull := false } := by
  unfold State.farPosted
  rw [State.wrF_part, State.part_updPart, State.save_part]

theorem State.farProducer_farPosted (hp : p < 64) : (s.farPosted p b rest).farProducer p = (s.farProducer p + 1) % 2 ^ 32 :=
  State.rdF_wrF _ (by decide) (by decide) (has_farRingPtr hp) _

theorem State.farConsumer_farPosted (hp : p < 64) : (s.farPosted p b rest).farConsumer p = s.farConsumer p :=
  (State.rdF_wrF_ne _ (by decide) (by decide) (by decide) (has_farRingPtr hp) _).trans (State.save_farRingPtr ..)

/-- Settles O37: a doorbell makes its record or waits, and the oldest record meets a lost host, a full ring or room. A STAGE acts
at once where a RELEASE waits (log 95); EV_FAR_RECORD carries zero data (log 72). -/
theorem farTier : Obligations.FarTier := by
  unfold Obligations.FarTier
  intro s p
  refine ⟨fun die k rec hrec => ?_, fun die k lap => ⟨fun h => release_waits_ends h lap,
    fun h hp => release_discarded_ends h hp lap⟩, fun h => congrArg Host.Outcome.next (State.farPost_none h),
    fun b rest ring n prod cons h hp hring hn hprod hcons => ?_⟩
  · subst hrec
    exact ⟨stage_accepted_ends, stage_refused_ends⟩
  · subst hring hn hprod hcons
    have hpost := State.farPost_cons h
    refine ⟨fun ha hb => congrArg Host.Outcome.next (hpost.trans (if_pos ⟨ha, hb⟩)), fun hhost => ?_⟩
    have hreached : ¬ s.farRingLost p := fun ⟨ha, hb⟩ => hhost.elim (· ha) (Nat.not_lt.2 hb)
    rw [if_neg hreached] at hpost
    refine ⟨fun hfull hsaid => ?_, fun hfull hsaid => ?_, fun hroom => ?_⟩
    · rw [if_pos hfull, if_pos hsaid] at hpost
      exact congrArg Host.Outcome.next hpost
    · rw [if_pos hfull, hsaid] at hpost
      exact ⟨_, congrArg Host.Outcome.next hpost, _, rfl, State.part_updPart _ _, rfl⟩
    · rw [if_neg (Nat.not_le.2 hroom)] at hpost
      exact ⟨_, congrArg Host.Outcome.next hpost, s.farPosted p b rest, rfl, State.farProducer_farPosted hp,
        State.farConsumer_farPosted hp, congrArg Part.farWait State.part_farPosted,
        congrArg Part.farFull State.part_farPosted, rfl⟩

end Sys2Proof.Machine
end

section
/-! SUPPORT. Caravans sent and timed out, and the segments received (Machine/Emb.lean), and the statement about them (O39). -/

namespace Sys2Proof.Machine

open Sys2Proof

variable {s : State} {p : Nat}

@[simp] theorem State.emb_updEmb (f : EmbSt → EmbSt) : (s.updEmb p f).emb p = f (s.emb p) :=
  congrArg Part.emb (State.part_updPart _ _)

/-- What is mapped to a new value is in the mapped list. -/
theorem mem_map_ite_eq {α : Type} [DecidableEq α] {x : α} {l : List α} (h : x ∈ l) (y : α) :
    y ∈ l.map (fun z => if z = x then y else z) :=
  List.mem_map.2 ⟨x, h, if_pos rfl⟩

/-! ## A caravan leaves (R257, R258) -/

theorem mem_replace_of_mem {α : Type} [DecidableEq α] {x : α} (y : α) {l : List α} (h : x ∈ l) : y ∈ l.replace x y := by
  induction l with
  | nil => exact absurd h List.not_mem_nil
  | cons z l ih =>
    by_cases hz : x = z
    · rw [hz, List.replace_cons_self]
      exact List.mem_cons_self
    · rw [List.replace_cons, beq_false_of_ne hz]
      exact List.mem_cons_of_mem _ (ih (List.mem_of_ne_of_mem hz h))

/-- The walk of State.caravanSend over the caravans puts `y` where `x` first stands; the flag says that it has been put. -/
theorem foldl_replace_append {α : Type} [DecidableEq α] (x y : α) (l acc : List α) (put : Bool) :
    (l.foldl (fun (a : List α × Bool) z => if !a.2 && z = x then (a.1 ++ [y], true) else (a.1 ++ [z], a.2)) (acc, put)).1 =
      acc ++ bif put then l else l.replace x y := by
  induction l generalizing acc put with
  | nil => cases put <;> simp
  | cons z l ih =>
    rw [List.foldl_cons]
    cases put with
    | true =>
      rw [if_neg (by simp), ih]
      simp
    | false =>
      by_cases hz : z = x
      · rw [if_pos (by simp [hz]), ih]
        simp [hz]
      · rw [if_neg (by simp [hz]), ih]
        simp [List.replace_cons, beq_false_of_ne (Ne.symm hz)]

theorem foldl_replace {α : Type} [DecidableEq α] (x y : α) (l : List α) :
    (l.foldl (fun (a : List α × Bool) z => if !a.2 && z = x then (a.1 ++ [y], true) else (a.1 ++ [z], a.2)) ([], false)).1 =
      l.replace x y := foldl_replace_append x y l [] false

/-- The oldest closed caravan of a slice to an owner in a direction. -/
abbrev State.nextCar (s : State) (p slice owner dir : Nat) : Option Caravan :=
  (s.emb p).cars.find? (fun c => (c.slice = slice && c.owner = owner && c.dir = dir) && c.stage = 1)

/-- How many caravans of a slice to an owner in a direction are sent and not answered. -/
abbrev State.carsOut (s : State) (p slice owner dir : Nat) : Nat :=
  ((s.emb p).cars.filter (fun c => (c.slice = slice && c.owner = owner && c.dir = dir) && c.stage = 2)).length

/-- What holds a request caravan back (R258): the window is full, or the tag is in use. -/
abbrev State.carHeld (s : State) (p slice owner dir tag : Nat) : Prop :=
  dir = 0 ∧ (s.effF R.EMB_CTRL F.EMB_CTRL_WINDOW p 0 ≤ s.carsOut p slice owner dir ∨ s.tagFree tag = false)

/-- The caravans that the current convoy to `owner` has sent: the INDEX of its next one (R257). -/
def State.nextIndex (s : State) (p owner dir : Nat) : Nat :=
  (((s.emb p).outs.find? (isOut owner dir (s.convoy p))).map (·.cars)).getD 0

/-- Caravan `c` as it is sent: its INDEX, and for a request its tag and generation (R257, R258). -/
def State.carAsSent (s : State) (p owner dir tag : Nat) (c : Caravan) : Caravan :=
  { c with index := s.nextIndex p owner dir, stage := 2, tag := if dir = 0 then tag else 0
           gen := if dir = 0 then s.tagGenOf tag else 0 }

/-- Caravan `c` counts in its convoy, holds its tag, and stands as sent among the caravans; its segments have still to go. -/
def State.carLeft (s : State) (p owner dir tag : Nat) (c : Caravan) : State :=
  (if dir = 0 then (s.outEnsure p owner dir).tagTake tag else s.outEnsure p owner dir).updEmb p (fun e => { e with
    cars := e.cars.replace c (s.carAsSent p owner dir tag c)
    outs := e.outs.map (fun x => if isOut owner dir c.convoy x then { x with cars := x.cars + 1 } else x) })

theorem State.cars_outEnsure (owner dir : Nat) : ((s.outEnsure p owner dir).emb p).cars = (s.emb p).cars := by
  unfold State.outEnsure
  extract_lets
  split
  · rfl
  · rw [State.emb_updEmb]

theorem State.outEnsure_frame (owner dir : Nat) : Keeps 0x8 s (s.outEnsure p owner dir) :=
  State.outEnsure_keeps (Sub.self _) (Keeps.refl _ s)

/-- A convoy that has just begun has sent no caravan. -/
theorem State.nextIndex_outEnsure (owner dir : Nat) : (s.outEnsure p owner dir).nextIndex p owner dir = s.nextIndex p owner dir := by
  unfold State.outEnsure
  extract_lets conv
  split
  · rfl
  · next hnone =>
    have hfind : (s.emb p).outs.find? (isOut owner dir (s.convoy p)) = none :=
      List.find?_eq_none.2 (List.any_eq_false.1 (eq_false_of_ne_true hnone))
    unfold State.nextIndex
    rw [State.emb_updEmb, hfind]
    change (((_ ++ [_]).find? (isOut owner dir (s.convoy p))).map _).getD 0 = 0
    rw [List.find?_append, hfind]
    simp [isOut, conv]

theorem State.carAsSent_outEnsure (owner dir tag : Nat) (c : Caravan) :
    (s.outEnsure p owner dir).carAsSent p owner dir tag c = s.carAsSent p owner dir tag c := by
  have hgen : (s.outEnsure p owner dir).tagGenOf tag = s.tagGenOf tag :=
    congrArg (Sp.get 0 · tag) ((State.outEnsure_frame owner dir).frame .tagGen rfl)
  unfold State.carAsSent
  rw [State.nextIndex_outEnsure, hgen]

theorem State.caravanSend_none {slice owner dir : Nat} (h : s.nextCar p slice owner dir = none) (tag : Nat) :
    s.caravanSend p slice owner dir tag = s := by
  simp only [State.caravanSend, h]

theorem State.caravanSend_held {slice owner dir tag : Nat} {c : Caravan} (h : s.nextCar p slice owner dir = some c)
    (hheld : s.carHeld p slice owner dir tag) : s.caravanSend p slice owner dir tag = s := by
  simp only [State.caravanSend, h]
  exact if_pos (by simpa using hheld)

theorem State.caravanSend_leaves {slice owner dir tag : Nat} {c : Caravan} (h : s.nextCar p slice owner dir = some c)
    (hheld : ¬ s.carHeld p slice owner dir tag) : s.caravanSend p slice owner dir tag =
      (((s.carLeft p owner dir tag c).sendCaravan p (s.carAsSent p owner dir tag c)).count R.CNT_EMB p 9 1).closeDue p owner dir := by
  unfold State.carLeft
  rw [← State.carAsSent_outEnsure]
  simp only [State.caravanSend, h, foldl_replace]
  exact if_neg (by simpa using hheld)

theorem State.cars_carLeft (owner dir tag : Nat) (c : Caravan) :
    ((s.carLeft p owner dir tag c).emb p).cars = (s.emb p).cars.replace c (s.carAsSent p owner dir tag c) := by
  unfold State.carLeft
  rw [State.emb_updEmb, ← State.cars_outEnsure (s := s) owner dir]
  split <;> rfl

theorem State.tagUse_carLeft (owner dir tag : Nat) (c : Caravan) :
    (s.carLeft p owner dir tag c).tagUse = if dir = 0 then s.tagUse ++ [tag] else s.tagUse := by
  rw [← (State.outEnsure_frame (s := s) (p := p) owner dir).frame .tagUse rfl]
  unfold State.carLeft
  split <;> rfl

theorem State.out_carLeft (owner dir tag : Nat) (c : Caravan) : (s.carLeft p owner dir tag c).out = s.out := by
  rw [← (State.outEnsure_frame (s := s) (p := p) owner dir).frame .out rfl]
  unfold State.carLeft
  split <;> rfl

/-- A caravan that nothing holds back goes out under the next INDEX of its convoy, a request under its tag. -/
theorem caravanSend_ends {slice owner dir tag : Nat} {c : Caravan} (h : s.nextCar p slice owner dir = some c)
    (hheld : ¬ s.carHeld p slice owner dir tag) : Ends (.caravanSend p slice owner dir tag) s (fun t =>
      s.carAsSent p owner dir tag c ∈ ((s.carLeft p owner dir tag c).emb p).cars ∧
      ((s.carLeft p owner dir tag c).emb p).cars.length = (s.emb p).cars.length ∧
      t = (((s.carLeft p owner dir tag c).sendCaravan p (s.carAsSent p owner dir tag c)).count R.CNT_EMB p 9 1).closeDue p
        owner dir) := by
  refine ⟨_, congrArg Host.Outcome.next (State.caravanSend_leaves h hheld), ?_, ?_, rfl⟩
  · rw [State.cars_carLeft]
    exact mem_replace_of_mem _ (List.mem_of_find?_eq_some h)
  · rw [State.cars_carLeft, List.length_replace]

/-! ## Timeouts (R267) -/

/-- The request caravan that is out under a tag. -/
abbrev State.carUnder (s : State) (p tag : Nat) : Option Caravan :=
  (s.emb p).cars.find? (fun c => c.stage = 2 && c.dir = 0 && c.tag = tag)

/-- Caravan `c` as it goes out again, under tag `fresh`. -/
def State.carAgain (s : State) (fresh : Nat) (c : Caravan) : Caravan :=
  { c with tag := fresh, gen := s.tagGenOf fresh, tries := c.tries + 1 }

/-- Caravan `c` has given up tag `tag` and stands under tag `fresh`; its segments have still to go again. -/
def State.carRetagged (s : State) (p tag fresh : Nat) (c : Caravan) : State :=
  ((s.tagRelease tag).tagTake fresh).updEmb p (fun e =>
    { e with cars := e.cars.map (fun x => if x = c then (s.tagRelease tag).carAgain fresh c else x) })

theorem State.carTimeout_none {tag : Nat} (h : s.carUnder p tag = none) (fresh : Nat) : s.carTimeout p tag fresh = s := by
  simp only [State.carTimeout, h]

theorem State.carTimeout_spent {tag : Nat} {c : Caravan} (h : s.carUnder p tag = some c) (htries : s.embRetries p ≤ c.tries)
    (fresh : Nat) : s.carTimeout p tag fresh =
      (s.tagRelease tag).raise E.CARAVAN_TIMEOUT p (formP c.owner (s.embQp p) c.convoy) 0 := by
  simp only [State.carTimeout, h]
  exact if_pos htries

theorem State.carTimeout_again {tag fresh : Nat} {c : Caravan} (h : s.carUnder p tag = some c) (htries : c.tries < s.embRetries p)
    (hfree : (s.tagRelease tag).tagFree fresh = true) : s.carTimeout p tag fresh =
      ((s.carRetagged p tag fresh c).sendCaravan p ((s.tagRelease tag).carAgain fresh c)).count R.CNT_EMB p 11 1 := by
  simp only [State.carTimeout, h]
  exact (if_neg (Nat.not_le.2 htries)).trans (if_neg (by rw [hfree]; decide))

theorem State.cars_carRetagged (tag fresh : Nat) (c : Caravan) : ((s.carRetagged p tag fresh c).emb p).cars =
    (s.emb p).cars.map (fun x => if x = c then (s.tagRelease tag).carAgain fresh c else x) :=
  congrArg EmbSt.cars (State.emb_updEmb _)

theorem carTimeout_again_ends {tag fresh : Nat} {c : Caravan} (h : s.carUnder p tag = some c) (htries : c.tries < s.embRetries p)
    (hfree : (s.tagRelease tag).tagFree fresh = true) : Ends (.caravanTimeout p 0 tag fresh) s (fun t =>
      (s.tagRelease tag).carAgain fresh c ∈ ((s.carRetagged p tag fresh c).emb p).cars ∧
      t = ((s.carRetagged p tag fresh c).sendCaravan p ((s.tagRelease tag).carAgain fresh c)).count R.CNT_EMB p 11 1) := by
  refine ⟨_, congrArg Host.Outcome.next (State.carTimeout_again h htries hfree), ?_, rfl⟩
  rw [State.cars_carRetagged]
  exact mem_map_ite_eq (List.mem_of_find?_eq_some h) _

/-- The convoy of this leg to `owner` in a direction, closed and not acknowledged. -/
abbrev State.unacked (s : State) (p owner dir : Nat) : Option OutConvoy :=
  (s.emb p).outs.find? (fun o => isOut owner dir (s.convoy p) o && o.closed && !o.acked)

/-- Convoy `o` to `owner` counts one more try. -/
def State.convoyRetried (s : State) (p owner dir : Nat) (o : OutConvoy) : State :=
  s.updEmb p (fun e => { e with
    outs := e.outs.map (fun x => if isOut owner dir o.convoy x then { x with tries := x.tries + 1 } else x) })

/-- In the gradient direction the sent caravans go again before the closing message. -/
def State.resendCars (s : State) (p owner dir : Nat) : State :=
  if dir = 1 then ((s.emb p).cars.filter (fun c => c.owner = owner && c.dir = 1 && c.stage = 2)).foldl
    (fun v c => (v.sendCaravan p c).count R.CNT_EMB p 11 1) s else s

theorem State.convoyTimeout_spent {owner dir : Nat} {o : OutConvoy} (h : s.unacked p owner dir = some o)
    (htries : s.embRetries p ≤ o.tries) :
    s.convoyTimeout p owner dir = s.raise E.CARAVAN_TIMEOUT p (formP owner (s.embQp p) o.convoy) 0 := by
  simp only [State.convoyTimeout, h]
  exact if_pos htries

theorem State.convoyTimeout_again {owner dir : Nat} {o : OutConvoy} (h : s.unacked p owner dir = some o)
    (htries : o.tries < s.embRetries p) :
    s.convoyTimeout p owner dir = ((s.convoyRetried p owner dir o).resendCars p owner dir).sendClosing p o := by
  simp only [State.convoyTimeout, h]
  exact if_neg (Nat.not_le.2 htries)

theorem exec_caravanTimeout_convoy {dir : Nat} (hdir : dir < 2) (owner fresh : Nat) :
    exec (.caravanTimeout p (dir + 1) owner fresh) s = .next (s.convoyTimeout p owner dir) :=
  congrArg Host.Outcome.next (if_pos hdir)

/-! ## Segments received (R261, R467) -/

section
variable {qp : Nat} {b : List Byte}

/-- The journal has the segment, and its caravan is counted when it is the last of it (R77). -/
def State.segIn (s : State) (p : Nat) (b : List Byte) : State :=
  if (segOf b).last then (s.journalAdd p b.length).count R.CNT_EMB p 10 1 else s.journalAdd p b.length

/-- Segments that reach the partition are discarded (R467). -/
abbrev State.segsLost (s : State) (p : Nat) : Prop := s.pState p = stFailed ∨ s.chip.fatal = true

theorem State.segsLost_eq_false (h : ¬ s.segsLost p) : (decide (s.pState p = stFailed) || s.chip.fatal) = false := by
  simpa using h

theorem State.embSegment_lost (h : s.segsLost p) (qp : Nat) (b : List Byte) : s.embSegment p qp b = s.count R.CNT_GLB 0 19 1 :=
  if_pos (by simpa using h)

theorem State.embSegment_reserved (hlive : ¬ s.segsLost p) (hkind : (segOf b).kind = 0 ∨ 7 < (segOf b).kind) :
    s.embSegment p qp b = s.count R.CNT_RLY 0 16 1 :=
  (if_neg (by simpa using hlive)).trans (if_pos (by simpa using hkind))

theorem State.embSegment_request (hlive : ¬ s.segsLost p) (hkind : (segOf b).kind = 1 ∨ (segOf b).kind = 6) :
    s.embSegment p qp b = ((s.segIn p b).serveSeg p qp b).inSeg p qp 0 b := by
  rcases hkind with hkind | hkind <;> simp [State.embSegment, State.segIn, State.segsLost_eq_false hlive, hkind]

theorem State.embSegment_return (hlive : ¬ s.segsLost p) (hkind : (segOf b).kind = 2 ∨ (segOf b).kind = 7) :
    s.embSegment p qp b = (s.journalAdd p b.length).retSeg p b := by
  rcases hkind with hkind | hkind <;> simp [State.embSegment, State.segsLost_eq_false hlive, hkind]

theorem State.embSegment_reverse (hlive : ¬ s.segsLost p) (hkind : (segOf b).kind = 3) :
    s.embSegment p qp b = (s.segIn p b).inSeg p qp 1 b := by
  simp [State.embSegment, State.segIn, State.segsLost_eq_false hlive, hkind]

theorem State.embSegment_close (hlive : ¬ s.segsLost p) (hkind : (segOf b).kind = 4) :
    s.embSegment p qp b = (s.journalAdd p b.length).inSeg p qp (b2n (segOf b).grad) b := by
  simp [State.embSegment, State.segsLost_eq_false hlive, hkind]

theorem State.embSegment_closeAck (hlive : ¬ s.segsLost p) (hkind : (segOf b).kind = 5) :
    s.embSegment p qp b = (s.journalAdd p b.length).ackSeg p b := by
  simp [State.embSegment, State.segsLost_eq_false hlive, hkind]

end

/-- The segment commands: the kind that each acts on, and the state it takes the segment in (a request's reads may plant errors). -/
def segCommands (s : State) (p qp : Nat) (b : List Byte) (errs : List (Nat × Nat)) : List (Nat × Instr × State) :=
  [(1, .requestSegment p qp b errs, s.plant errs), (2, .returnSegment p qp b, s), (3, .reverseSegment p qp b, s),
    (4, .closeSegment p qp b, s), (5, .closeAckSegment p qp b, s), (6, .refreshSegment p qp b errs, s.plant errs),
    (7, .refreshRetSegment p qp b, s)]

theorem exec_segCommands (s : State) (p qp : Nat) (b : List Byte) (errs : List (Nat × Nat)) :
    ∀ x ∈ segCommands s p qp b errs,
      exec x.2.1 s = .next (if (segOf b).kind = x.1 then x.2.2.embSegment p qp b else s) := by
  unfold segCommands
  simp only [List.forall_mem_cons]
  exact ⟨rfl, rfl, rfl, rfl, rfl, rfl, rfl, fun _ h => absurd h List.not_mem_nil⟩

theorem exec_unknownSegment_known {qp : Nat} {b : List Byte} (h0 : (segOf b).kind ≠ 0) (h7 : (segOf b).kind ≤ 7) :
    exec (.unknownSegment p qp b) s = .next s :=
  congrArg Host.Outcome.next (if_neg (by simpa using ⟨h0, h7⟩))

theorem exec_unknownSegment_reserved {qp : Nat} {b : List Byte} (h : (segOf b).kind = 0 ∨ 7 < (segOf b).kind) :
    exec (.unknownSegment p qp b) s = .next (if s.segsLost p then s.count R.CNT_GLB 0 19 1 else s.count R.CNT_RLY 0 16 1) := by
  refine congrArg Host.Outcome.next ((if_pos (by simpa using h)).trans ?_)
  split
  · next hlost => exact State.embSegment_lost hlost qp b
  · next hlive => exact State.embSegment_reserved hlive h

/-! ## Gradients entered, returns and acknowledgements (R260, R263, R265) -/

theorem State.takeConvoy_open {c : InConvoy} (h : c.closing = none) : s.takeConvoy p c = s := by
  have hready : c.ready = false := by
    unfold InConvoy.ready
    rw [h]
  exact if_pos (by rw [hready]; rfl)

theorem State.ins_setIn_new {c : InConvoy} (h : (s.emb p).ins.any (isIn c.src c.dir c.convoy) = false) :
    ((s.setIn p c).emb p).ins = (s.emb p).ins ++ [c] := by
  unfold State.setIn
  rw [State.emb_updEmb]
  exact if_neg (by rw [h]; decide)

/-- The convoy that a segment opens, with the segment's caravan. -/
def Seg.opens (g : Seg) (dir qp : Nat) (b : List Byte) : InConvoy :=
  { src := g.src, dir := dir, convoy := g.convoy, attempt := g.attempt, qp := qp
    cars := [{ index := g.index, segs := [b], last := g.last }] }

/-- The first segment of a convoy of this leg or a later one opens it. -/
theorem State.inSeg_opens {dir : Nat} {b : List Byte} (hnew : (s.emb p).ins.any (isIn (segOf b).src dir (segOf b).convoy) = false)
    (hpast : serialNewer 24 (s.convoy p) (segOf b).convoy = false) (hkind : (segOf b).kind ≠ 4) (qp : Nat) :
    s.inSeg p qp dir b = s.setIn p ((segOf b).opens dir qp b) := by
  have hfind : (s.emb p).ins.find? (isIn (segOf b).src dir (segOf b).convoy) = none :=
    List.find?_eq_none.2 (List.any_eq_false.1 hnew)
  refine Eq.trans ?_ (State.takeConvoy_open (p := p) (c := (segOf b).opens dir qp b) rfl)
  simp [State.inSeg, hnew, hpast, hkind, hfind, InConvoy.addSeg, Seg.opens]

/-- A return that no request caravan waits for is late (R267, R387). -/
theorem State.retSeg_late {b : List Byte} (h : ∀ c ∈ (s.emb p).cars, ¬ (c.stage = 2 ∧ c.dir = 0 ∧ c.tag = (segOf b).tag ∧
    c.gen = (segOf b).gen ∧ (segOf b).tag ∈ s.tagUse)) : s.retSeg p b = s.count R.CNT_RLY 0 8 1 := by
  have hfind : (s.emb p).cars.find? (fun c => c.stage = 2 && c.dir = 0 && c.tag = (segOf b).tag && c.gen = (segOf b).gen &&
      s.tagUse.contains (segOf b).tag) = none :=
    List.find?_eq_none.2 (fun c hc => by simpa [and_assoc] using h c hc)
  simp only [State.retSeg, hfind]

theorem State.outs_ackSeg {b : List Byte} {o : OutConvoy} (ho : o ∈ (s.emb p).outs)
    (hout : isOut (segOf b).src (b2n (segOf b).grad) (segOf b).convoy o = true) (hatt : o.attempt = (segOf b).attempt)
    (hclosed : o.closed = true) : ((s.ackSeg p b).emb p).outs = (s.emb p).outs.map (fun o =>
      if isOut (segOf b).src (b2n (segOf b).grad) (segOf b).convoy o && o.attempt = (segOf b).attempt
        then { o with acked := true, result := (segOf b).result } else o) := by
  unfold State.ackSeg
  rw [State.emb_updEmb, if_pos (List.any_eq_true.2 ⟨o, ho, by simp [hout, hatt, hclosed]⟩)]

/-! ## The statement -/

/-- Settles O39: a caravan leaves under the next INDEX of its convoy (`State.carAsSent`), and a timeout sends it again or raises;
each segment command takes its own kind alone, and what a kind does is its case of `State.embSegment`. The journal counts the
segment's bytes (log 57), and EV_CARAVAN_TIMEOUT carries zero DATA1 (log 72). -/
theorem caravans : Obligations.Caravans := by
  unfold Obligations.Caravans
  refine ⟨fun s p owner dir tag => ⟨fun slice => ⟨fun h => ?_, fun c h => ⟨fun hdir hheld => ?_, fun hopen => ?_⟩⟩,
    fun fresh => ⟨fun h => ?_, fun c h => ⟨fun htries => ?_, fun htries hfree => ?_⟩⟩,
    fun fresh o hdir h => ⟨fun htries => ?_, fun htries => ?_⟩⟩,
    fun s p qp b errs => ⟨fun x hx u hu => ?_, exec_unknownSegment_known, exec_unknownSegment_reserved, ?_, ?_⟩⟩
  · exact congrArg Host.Outcome.next (State.caravanSend_none h tag)
  · exact congrArg Host.Outcome.next (State.caravanSend_held h ⟨hdir, hheld⟩)
  · have hheld : ¬ s.carHeld p slice owner dir tag := by
      rintro ⟨hdir, hfull | htag⟩
      · exact hopen.elim (· hdir) (fun ⟨hroom, _⟩ => absurd hfull (Nat.not_le.2 hroom))
      · exact hopen.elim (· hdir) (fun ⟨_, hfree⟩ => absurd (htag.symm.trans hfree) (by decide))
    obtain ⟨t, ht, hmem, hlen, heq⟩ := caravanSend_ends h hheld
    exact ⟨t, ht, s.carLeft p owner dir tag c, s.nextIndex p owner dir, _, rfl, hmem, hlen, State.tagUse_carLeft ..,
      State.out_carLeft .., heq⟩
  · exact congrArg Host.Outcome.next (State.carTimeout_none h fresh)
  · exact congrArg Host.Outcome.next (State.carTimeout_spent h htries fresh)
  · obtain ⟨t, ht, hmem, heq⟩ := carTimeout_again_ends h htries hfree
    exact ⟨t, ht, s.carRetagged p tag fresh c, _, rfl, hmem, rfl, heq⟩
  · exact (exec_caravanTimeout_convoy hdir owner fresh).trans (congrArg _ (State.convoyTimeout_spent h htries))
  · exact ⟨_, (exec_caravanTimeout_convoy hdir owner fresh).trans (congrArg _ (State.convoyTimeout_again h htries)),
      s.convoyRetried p owner dir o, congrArg EmbSt.outs (State.emb_updEmb _), rfl, rfl⟩
  · subst hu
    have hexec := exec_segCommands s p qp b errs x hx
    refine ⟨fun hk => hexec.trans (congrArg _ (if_neg hk)),
      fun hk hlost => hexec.trans (congrArg _ ((if_pos hk).trans (State.embSegment_lost hlost qp b))), ?_⟩
    rintro hk hst hfatal y z rfl rfl
    have hlive : ¬ x.2.2.segsLost p := by
      rintro (h | h)
      · exact hst h
      · exact absurd (hfatal.symm.trans h) (by decide)
    rw [← hk]
    exact ⟨_, hexec.trans (congrArg _ (if_pos hk)), State.embSegment_request hlive, State.embSegment_reverse hlive,
      State.embSegment_close hlive, State.embSegment_closeAck hlive, State.embSegment_return hlive⟩
  · rintro v g rfl hnew hpast hkind hlast
    rw [State.inSeg_opens hnew hpast (by rw [hkind]; decide), State.ins_setIn_new hnew, Seg.opens, hlast]
  · rintro v g rfl
    exact ⟨State.retSeg_late, fun o ho hout hatt hclosed => State.outs_ackSeg ho hout hatt hclosed⟩

end Sys2Proof.Machine
end

section
/-! SUPPORT. The UPDATE at the head of a pool (Machine/Akcel.lean, R286, R293), and the refutation of the statement about Akcel
commands (O35). -/

namespace Sys2Proof.Machine

open Sys2Proof

variable {v z : State} {k pool : Nat} {j : AkcJob} {rest : List AkcJob}

@[simp] theorem State.pool_setPool (l : List AkcJob) : (v.setPool k pool l).pool k pool = l :=
  (Sp.get_set ..).trans (if_pos rfl)

theorem State.poolTake_update (h : v.pool k pool = j :: rest) (hidle : j.taken = false) (hactive : v.akcActive k pool ≠ 0)
    (hop : j.cmd.opcode = 1) : v.poolTake k pool = v.takeUpdate k pool j := by
  simp [State.poolTake, h, hidle, hactive, hop]

/-- The record of progress names this lap (R293). -/
abbrev State.recordNow (v : State) (j : AkcJob) : Prop := v.loadN (j.desc + 0x30) 4 = v.lap j.cmd.part

/-- The state of the record of progress: 1 begun, 2 done (R293). -/
abbrev State.recordState (v : State) (j : AkcJob) : Nat := v.loadN (j.desc + 0x34) 1 % 4

/-- The record of progress as an UPDATE begins: kept where it resumes in this lap, else written afresh (R293). -/
abbrev State.updateBegun (v : State) (j : AkcJob) : State :=
  if v.recordNow j ∧ v.recordState j = 1 then v
  else ((v.saveN (j.desc + 0x30) 4 (v.lap j.cmd.part)).saveN (j.desc + 0x34) 1 1).saveN (j.desc + 0x38) 4 0

/-- An UPDATE that begins stays at the head with the skip mark it entered with. -/
theorem State.takeUpdate_keeps_skip (h : v.pool k pool = j :: rest) (hopen : ¬ (v.recordNow j ∧ v.recordState j = 2))
    {l : List Byte} {f : Nat}
    (hpar : (v.updateBegun j).readParams j.cmd.part k (unitOf (v.load j.desc 64)) = (z, some (l, f))) :
    ∃ j' : AkcJob, (v.takeUpdate k pool j).pool k pool = j' :: rest ∧ j'.skip = j.skip := by
  simp [State.takeUpdate, h, hopen, hpar]

/-! ## The counterexample -/

/-- An UPDATE that waits in its pool with the skip mark already set. -/
def markedUpdate : AkcJob := { cmd := { opcode := 1 }, desc := 0x1000, skip := true }

/-- The state after reset, with that UPDATE alone in the standard pool of stack 0. -/
def markedState : State := { State.reset with pools := [(0, [markedUpdate])] }

theorem akcActive_markedState : markedState.akcActive 0 0 ≠ 0 := by decide

theorem record_markedState : ¬ (markedState.recordNow markedUpdate ∧ markedState.recordState markedUpdate = 2) := by decide

/-- Zeroed memory is a dense unit with its parameters at address 0, and they pass the checks on a parameter block (R286). -/
theorem readParams_markedState : ((markedState.updateBegun markedUpdate).readParams 0 0
    (unitOf (markedState.load markedUpdate.desc 64))).2.isSome = true := by decide

/-- Refutes O35 in the clause that an UPDATE is begun with `skip = false`: `State.takeUpdate` leaves the mark as it finds it, and
the statement is about every state, also one (`markedState`) whose pool holds a job that is marked and not taken. The model's
commands put no such job in a pool: the clause lacks the hypothesis `j.skip = false`. -/
theorem not_akcelCommands : ¬ Obligations.AkcelCommands := by
  unfold Obligations.AkcelCommands
  intro h
  obtain ⟨-, hhead⟩ := h State.reset 0 0 [] _ rfl
  obtain ⟨-, hupdate, -⟩ := hhead markedState 0 0 markedUpdate [] rfl rfl
  obtain ⟨-, hbegins, -⟩ := hupdate akcActive_markedState rfl _ _ rfl rfl
  obtain ⟨⟨l, f⟩, hread⟩ := Option.isSome_iff_exists.1 readParams_markedState
  have hpar : (markedState.updateBegun markedUpdate).readParams 0 0 (unitOf (markedState.load markedUpdate.desc 64)) =
      (_, some (l, f)) := Prod.ext rfl hread
  obtain ⟨-, j', hpool, -, hunmarked, -⟩ := hbegins _ rfl record_markedState _ _ _ hpar
  rw [State.poolTake_update rfl rfl akcActive_markedState rfl] at hpool
  obtain ⟨i, hkept, hmarked⟩ := State.takeUpdate_keeps_skip (pool := 0) rfl record_markedState hpar
  obtain ⟨rfl, -⟩ := List.cons.inj (hpool.symm.trans hkept)
  exact absurd (hunmarked.symm.trans hmarked) (by decide)

end Sys2Proof.Machine
end

section
/-! SUPPORT. The relay engine's commands (Machine/Relay.lean, R373, R377 to R380): what `State.rlyCmd` makes of a command, case by
case, and the statement about them (O44). -/

namespace Sys2Proof.Machine

open Sys2Proof

variable {s z : State} {p b op : Nat} {c : EngCmd} {l : List Byte}

@[simp] theorem State.rly_updRly (f : RlySt → RlySt) : (s.updRly p f).rly p = f (s.rly p) :=
  congrArg Part.rly (State.part_updPart _ _)

/-- The address of a command's descriptor (R377). -/
abbrev State.descAt (s : State) (c : EngCmd) : Nat := (s.bindingOf c).base + 64 * c.desc

/-! ## Commands that are not taken, or are refused for their opcode -/

theorem State.rlyCmd_none (h : s.engNext p b = none) (op : Nat) : s.rlyCmd p b op = s := by
  simp only [State.rlyCmd, h]

theorem State.rlyCmd_otherTarget (h : s.engNext p b = some c) (ht : c.target ≠ 4) (op : Nat) : s.rlyCmd p b op = s := by
  simp [State.rlyCmd, h, ht]

theorem State.rlyCmd_badOpcode (h : s.engNext p b = some c) (ht : c.target = 4) (hc : c.opcode = 0 ∨ 3 < c.opcode) (op : Nat) :
    s.rlyCmd p b op = (s.engStart c).raise E.RLY_DESC c.part c.pos (s.descAt c) := by
  simp [State.rlyCmd, h, ht, hc, State.rlyDesc]

theorem State.rlyCmd_otherOpcode (h : s.engNext p b = some c) (ht : c.target = 4) (h0 : c.opcode ≠ 0) (h3 : c.opcode ≤ 3)
    (hop : c.opcode ≠ op) : s.rlyCmd p b op = s := by
  simp [State.rlyCmd, h, ht, h0, Nat.not_lt.2 h3, hop]

/-! ## INC (R378) -/

theorem State.rlyCmd_inc (h : s.engNext p b = some c) (ht : c.target = 4) (hop : c.opcode = 3) : s.rlyCmd p b 3 =
    if c.desc ≠ 0 ∨ c.count = 0 ∨ 65535 < c.count ∨ 4096 ≤ c.offset then (s.engStart c).raise E.RLY_DESC c.part c.pos 0
    else if (s.engStart c).trigOk p c.offset = false then (s.engStart c).trigRefuse p c.offset
    else ((s.engStart c).trigInc p c.offset c.count).cmdDone c := by
  simp [State.rlyCmd, h, ht, hop, State.rlyDesc, or_assoc]

/-- A trigger counter after the write that an INC makes to it. -/
theorem State.rd_trigger {k : Nat} (hk : k < 4096) (n : Nat) :
    (s.wr R.RLY_TRIGGER 0 k (n % 2 ^ 32)).rd R.RLY_TRIGGER 0 k = n % 2 ^ 32 := by
  have hhas : R.RLY_TRIGGER.has 0 k = true := by simp [Card.has, R.RLY_TRIGGER, Blk.instances, hk]
  exact (State.rd_wr_same s hhas _).trans (Nat.mod_eq_of_lt (Nat.lt_of_lt_of_le (Nat.mod_lt n (by decide)) (by decide)))

/-! ## Commands with a descriptor (R377) -/

section
variable (h : s.engNext p b = some c) (ht : c.target = 4) (hop : c.opcode = op) (h1 : 1 ≤ op) (h3 : op < 3)
include h ht hop h1 h3

theorem State.rlyCmd_malformed (hf : c.count ≠ 0 ∨ c.offset ≠ 0) :
    s.rlyCmd p b op = (s.engStart c).raise E.RLY_DESC c.part c.pos (s.descAt c) := by
  subst hop
  simp [State.rlyCmd, h, ht, hf, State.rlyDesc, Nat.ne_of_gt h1, Nat.ne_of_lt h3, Nat.not_lt.2 (Nat.le_of_lt h3)]

variable (hcount : c.count = 0) (hoffset : c.offset = 0)
include hcount hoffset

theorem State.rlyCmd_unread (hfetch : (s.engStart c).fetchDesc c (s.bindingOf c) .rly = (z, none)) : s.rlyCmd p b op = z := by
  subst hop
  simp [State.rlyCmd, h, ht, hcount, hoffset, hfetch, Nat.ne_of_gt h1, Nat.ne_of_lt h3, Nat.not_lt.2 (Nat.le_of_lt h3)]

theorem State.rlyCmd_poisoned (hfetch : (s.engStart c).fetchDesc c (s.bindingOf c) .rly = (z, some l))
    (hpoison : z.poisoned (s.descAt c) 64 = true) : s.rlyCmd p b op = z.raise E.RLY_DESC c.part c.pos (s.descAt c) := by
  subst hop
  simp [State.rlyCmd, h, ht, hcount, hoffset, hfetch, hpoison, State.rlyDesc, Nat.ne_of_gt h1, Nat.ne_of_lt h3,
    Nat.not_lt.2 (Nat.le_of_lt h3)]

end

/-! ## START (R373) -/

/-- A START whose descriptor `l` is read from `z`: it is checked (R366, R368), then its collective starts. -/
theorem State.rlyCmd_start (h : s.engNext p b = some c) (ht : c.target = 4) (hop : c.opcode = 1) (hcount : c.count = 0)
    (hoffset : c.offset = 0) (hfetch : (s.engStart c).fetchDesc c (s.bindingOf c) .rly = (z, some l))
    (hpoison : z.poisoned (s.descAt c) 64 = false) : s.rlyCmd p b 1 =
      if z.collOk p c.binding l = false then z.raise E.RLY_DESC c.part c.pos (s.descAt c)
      else if (collOf l).doneCtr ≠ 0xFFFF ∧ z.trigOk p (collOf l).doneCtr = false then z.trigRefuse p (collOf l).doneCtr
      else z.collStart c (s.bindingOf c) l := by
  simp [State.rlyCmd, h, ht, hop, hcount, hoffset, hfetch, hpoison, State.rlyDesc]

/-- The collectives of communicator `comm` that partition `p` has started in this lap (R373). -/
abbrev State.startedOf (s : State) (p comm : Nat) : Nat := Sp.get 0 (s.rly p).started comm

/-- SEQ of the `n`-th collective of a communicator in this lap (R373). -/
abbrev State.collSeq (s : State) (p n : Nat) : Nat := s.lap p % 256 * 65536 + n % 65536

/-- The collective that a START with descriptor `l` on binding `bd` queues. -/
def State.queuedColl (s : State) (c : EngCmd) (bd : Binding) (l : List Byte) : Coll :=
  let d := collOf l
  let n := s.startedOf c.part d.comm
  { comm := d.comm, id := d.id, seq := s.collSeq c.part n, qp := bd.queue + n % d.qpCount, set := n % d.qpCount, bind := c.binding
    desc := c.desc, d := l, cmd := some c.id, resync := (s.rly c.part).begun.contains (d.comm, s.collSeq c.part n) }

/-- A START of a collective that is not yet held here appends it to the queued ones and counts it. -/
theorem State.collStart_queues {bd : Binding}
    (hnew : ∀ o ∈ (s.rly c.part).colls, ¬ (o.comm = (collOf l).comm ∧ o.seq = s.collSeq c.part (s.startedOf c.part (collOf l).comm))) :
    s.collStart c bd l = (s.updRly c.part (fun r => { r with
      started := Sp.set 0 r.started (collOf l).comm (s.startedOf c.part (collOf l).comm + 1) })).updRly c.part (fun r =>
        { r with colls := r.colls ++ [s.queuedColl c bd l] }) := by
  have hfind : (s.rly c.part).colls.find? (fun o => o.comm = (collOf l).comm &&
      o.seq = s.collSeq c.part (s.startedOf c.part (collOf l).comm)) = none :=
    List.find?_eq_none.2 (fun o ho => by simpa using hnew o ho)
  unfold State.collStart
  simp only [State.rly_updRly, hfind]
  rfl

/-! ## ARM (R379) -/

/-- Trigger `g`, armed by command `c`, is registered: the command leaves the queue and `g` waits, with its place in the queue of
the binding that it fires on. -/
def State.armed (z : State) (p : Nat) (c : EngCmd) (g : Trig) : State :=
  z.updPart p (fun x => { x with
    outstanding := x.outstanding.filter (fun e => e.id != c.id), trigs := x.trigs ++ [g]
    queueHeld := Sp.upd 0 x.queueHeld (32 * g.cmd.binding + g.cmd.token) (· + 1) })

section
variable (h : s.engNext p b = some c) (ht : c.target = 4) (hop : c.opcode = 2) (hcount : c.count = 0)
  (hoffset : c.offset = 0) (hfetch : (s.engStart c).fetchDesc c (s.bindingOf c) .rly = (z, some l))
  (hpoison : z.poisoned (s.descAt c) 64 = false)
include h ht hop hcount hoffset hfetch hpoison

theorem State.rlyCmd_arm_refused (hnone : trigOf c (l.take 32) = none) :
    s.rlyCmd p b 2 = z.raise E.RLY_DESC c.part c.pos (s.descAt c) := by
  simp [State.rlyCmd, h, ht, hop, hcount, hoffset, hfetch, hpoison, hnone, State.rlyDesc]

theorem State.rlyCmd_arm {g : Trig} (hsome : trigOf c (l.take 32) = some g) (hbind : (z.bindingOf g.cmd).target = g.cmd.target)
    (hctr : z.trigOk p g.ctr = true) (hroom : (z.part p).queueCount g.cmd.binding < 64)
    (hnext : g.next ≠ 0xFFFF → z.trigOk p g.next = true) : s.rlyCmd p b 2 = (z.armed p c g).fireTrigs p := by
  have hnext' : ¬ (g.next ≠ 0xFFFF ∧ z.trigOk p g.next = false) := fun ⟨hne, hbad⟩ => by simp [hnext hne] at hbad
  simp [State.rlyCmd, h, ht, hop, hcount, hoffset, hfetch, hpoison, hsome, hbind, hctr, Nat.not_le.2 hroom, hnext', State.armed]

end

/-! ## The statement -/

/-- The relay commands: the opcode of each, and the state it runs in (a command that reads a descriptor may plant errors). -/
def relayEngineCommands (s : State) (p b : Nat) (errs : List (Nat × Nat)) : List (Nat × Instr × State) :=
  [(1, .collectiveStart p b errs, s.plant errs), (2, .arm p b errs, s.plant errs), (3, .inc p b, s)]

theorem exec_relayEngineCommands (s : State) (p b : Nat) (errs : List (Nat × Nat)) : ∀ x ∈ relayEngineCommands s p b errs,
    exec x.2.1 s = .next (x.2.2.rlyCmd p b x.1) ∧ 1 ≤ x.1 ∧ x.1 ≤ 3 := by
  unfold relayEngineCommands
  simp only [List.forall_mem_cons]
  exact ⟨⟨rfl, by decide⟩, ⟨rfl, by decide⟩, ⟨rfl, by decide⟩, fun _ h => absurd h List.not_mem_nil⟩

/-- The 64 counters of each unit of a partition's share are its own (Table 15-3). -/
theorem State.trigOk_eq (s : State) (p ctr : Nat) : s.trigOk p ctr = decide (ctr < 4096 ∧
    64 * s.rdF R.GLB_PART_SHARE F.GLB_PART_SHARE_TRIG_FIRST 0 p ≤ ctr ∧
    ctr < 64 * (s.rdF R.GLB_PART_SHARE F.GLB_PART_SHARE_TRIG_LAST 0 p + 1)) := by
  unfold State.trigOk
  rw [← Bool.decide_and, ← Bool.decide_and, decide_eq_decide]
  omega

/-- A command that comes to the start of a new collective ends with that collective queued. -/
theorem collStart_ends {i : Instr} {u : State} {n seq : Nat} (hexec : exec i s = .next (z.collStart c (u.bindingOf c) l))
    (hp : c.part = p) (hn : n = z.startedOf p (collOf l).comm) (hseq : seq = z.collSeq p n)
    (hnew : ∀ o ∈ (z.rly p).colls, ¬ (o.comm = (collOf l).comm ∧ o.seq = seq)) : Ends i s (fun t => ∃ o : Coll,
      (t.rly p).colls = (z.rly p).colls ++ [o] ∧ o.stage = 0 ∧ o.comm = (collOf l).comm ∧ o.id = (collOf l).id ∧
      o.seq = seq ∧ o.qp = (u.bindingOf c).queue + n % (collOf l).qpCount ∧ o.cmd = some c.id ∧ o.d = l ∧
      Sp.get 0 (t.rly p).started (collOf l).comm = n + 1 ∧ t.mem = z.mem) := by
  subst hp hseq hn
  rw [State.collStart_queues hnew] at hexec
  refine ⟨_, hexec, z.queuedColl c (u.bindingOf c) l, ?_, rfl, rfl, rfl, rfl, rfl, rfl, rfl, ?_, rfl⟩
  · rw [State.rly_updRly, State.rly_updRly]
  · rw [State.rly_updRly, State.rly_updRly, Sp.get_set, if_pos rfl]

/-- Settles O44: the engine takes a command of its own opcode alone, and each case of `State.rlyCmd` is one of the lemmas above.
The range of a partition's counters is `State.trigOk_eq` (Table 15-3). -/
theorem relayCommands : Obligations.RelayCommands := by
  unfold Obligations.RelayCommands
  intro s p b errs
  refine ⟨fun x hx u hu => ?_, s.trigOk_eq p⟩
  subst hu
  obtain ⟨hexec, h1, h3⟩ := exec_relayEngineCommands s p b errs x hx
  obtain ⟨op, i, u⟩ := x
  dsimp only at hexec h1 h3 ⊢
  refine ⟨fun hnone => ?_, fun c h bd a hbd ha => ?_⟩
  · rw [hexec, State.rlyCmd_none hnone]
  subst ha hbd
  refine ⟨fun ht => ?_, fun ht hc => ?_, fun ht h0 hle hne => ?_, fun ht hop y hy => ?_⟩
  · rw [hexec, State.rlyCmd_otherTarget h ht]
  · rw [hexec, State.rlyCmd_badOpcode h ht hc]
  · rw [hexec, State.rlyCmd_otherOpcode h ht h0 hle hne]
  subst hy
  refine ⟨?_, ?_, fun hinc hf => ?_, fun hinc hcount hoffset => ⟨fun z hz => ?_, fun z l hz => ⟨fun hpoison => ?_, ?_, ?_⟩⟩⟩
  · rintro rfl hf
    rw [hexec, State.rlyCmd_inc h ht hop, if_pos hf]
  · rintro rfl hd hc0 hc1 ho
    rw [State.rlyCmd_inc h ht hop, if_neg (by omega)] at hexec
    refine ⟨fun hbad => ?_, fun hok => ?_⟩
    · rw [hexec, if_pos hbad]
    · rw [if_neg (by rw [hok]; decide)] at hexec
      exact ⟨_, hexec, _, rfl, rfl, State.rd_trigger ho _⟩
  · rw [hexec, State.rlyCmd_malformed h ht hop h1 (by omega) hf]
  · rw [hexec, State.rlyCmd_unread h ht hop h1 (by omega) hcount hoffset hz]
  · rw [hexec, State.rlyCmd_poisoned h ht hop h1 (by omega) hcount hoffset hz hpoison]
  · rintro hpoison rfl
    rw [State.rlyCmd_start h ht hop hcount hoffset hz hpoison] at hexec
    refine ⟨fun hbad => ?_, fun hok hctr hbad => ?_, fun hok hctr hp n seq hn hseq hnew => ?_⟩
    · rw [hexec, if_pos hbad]
    · rw [hexec, if_neg (by rw [hok]; decide), if_pos ⟨hctr, hbad⟩]
    · have hin : ¬ ((collOf l).doneCtr ≠ 0xFFFF ∧ z.trigOk p (collOf l).doneCtr = false) :=
        fun ⟨hne, hbad⟩ => absurd ((hctr hne).symm.trans hbad) (by decide)
      rw [if_neg (by rw [hok]; decide), if_neg hin] at hexec
      exact collStart_ends hexec hp hn hseq hnew
  · rintro hpoison rfl
    refine ⟨fun hnone => ?_, fun g hg hbind hctr hroom hnext => ?_⟩
    · rw [hexec, State.rlyCmd_arm_refused h ht hop hcount hoffset hz hpoison hnone]
    · rw [State.rlyCmd_arm h ht hop hcount hoffset hz hpoison hg hbind hctr hroom hnext] at hexec
      refine ⟨_, hexec, z.armed p c g, rfl, rfl, ?_⟩
      rw [State.armed, State.part_updPart]
      exact ⟨rfl, rfl, rfl⟩

end Sys2Proof.Machine
end

section
/-! SUPPORT. Relay packets received (Machine/Relay.lean, R374, R376, R381, R382, R385, R388, R467), and the statement about them
(O45). -/

namespace Sys2Proof.Machine

open Sys2Proof

variable {s : State} {p : Nat} {b : List Byte} {c d : Coll} {f : Phase} {ph g : Nat} {r : PhaseRun}

/-! ## Delivery to the partition (R77, R467) -/

/-- Relay packets that reach the partition are discarded (R467). -/
abbrev State.packetsLost (s : State) (p : Nat) : Prop := s.pState p = stFailed ∨ s.chip.fatal = true

/-- A baton or a lead stands in the journal, to be delivered again to a re-execution (R381). -/
def State.journalPacket (s : State) (p : Nat) (b : List Byte) : State :=
  if pkKind b = 2 ∨ pkKind b = 4 then s.updPart p (fun x => { x with journal := x.journal ++ [b] }) else s

theorem State.part_journalPacket : (s.journalPacket p b).part p =
    { s.part p with journal := (s.part p).journal ++ if pkKind b = 2 ∨ pkKind b = 4 then [b] else [] } := by
  unfold State.journalPacket
  split
  · rw [State.part_updPart]
  · rw [List.append_nil]

theorem State.rlyPacket_lost (h : s.packetsLost p) : s.rlyPacket p b = s.count R.CNT_GLB 0 19 1 :=
  if_pos (by simpa using h)

/-- A DIGEST waits with the others, and those that can proceed do (R388). -/
theorem State.rlyPacket_digest (h : ¬ s.packetsLost p) (hk : pkKind b = 6) : s.rlyPacket p b =
    ((s.journalAdd p (pkLen b)).updRly p (fun r => { r with earlyDigest := r.earlyDigest ++ [b] })).digestRetry p 8 :=
  (if_neg (by simpa using h)).trans (if_pos hk)

/-- A packet of another kind waits with the others, and those that can proceed do (R376). -/
theorem State.rlyPacket_other (h : ¬ s.packetsLost p) (hk : pkKind b ≠ 6) : s.rlyPacket p b =
    (((s.journalAdd p (pkLen b)).journalPacket p b).updRly p (fun r => { r with early := r.early ++ [b] })).rlyGo p := by
  refine (if_neg (by simpa using h)).trans ((if_neg hk).trans ?_)
  simp only [State.journalPacket, Bool.or_eq_true, decide_eq_true_eq]

/-- The packet commands: the kind that each acts on, and the state it takes the packet in (one that reads memory may plant
errors). -/
def packetCommands (s : State) (p : Nat) (b : List Byte) (errs : List (Nat × Nat)) : List (Nat × Instr × State) :=
  [(2, .baton p b errs, s.plant errs), (3, .waycredit p b errs, s.plant errs), (4, .lead p b errs, s.plant errs),
    (5, .resync p b, s), (6, .digest p b, s)]

theorem exec_packetCommands (s : State) (p : Nat) (b : List Byte) (errs : List (Nat × Nat)) : ∀ x ∈ packetCommands s p b errs,
    exec x.2.1 s = .next (if pkKind b = x.1 then x.2.2.rlyPacket p b else s) := by
  unfold packetCommands
  simp only [List.forall_mem_cons]
  exact ⟨rfl, rfl, rfl, rfl, rfl, fun _ h => absurd h List.not_mem_nil⟩

/-- A packet that is not discarded: which packets wait, and what the journal holds, before those that can proceed do. -/
theorem rlyPacket_ends {i : Instr} {u : State} (hexec : exec i s = .next (u.rlyPacket p b)) (h : ¬ u.packetsLost p) :
    Ends i s (fun t => ∃ y z : State, y = u.journalAdd p (pkLen b) ∧
      (pkKind b = 6 → (z.rly p).earlyDigest = (y.rly p).earlyDigest ++ [b] ∧ t = z.digestRetry p 8) ∧
      (pkKind b ≠ 6 → (z.rly p).early = (y.rly p).early ++ [b] ∧ t = z.rlyGo p ∧
        (z.part p).journal = (y.part p).journal ++ (if pkKind b = 2 ∨ pkKind b = 4 then [b] else []))) := by
  by_cases hk : pkKind b = 6
  · exact ⟨_, hexec, _, _, rfl, fun _ => ⟨congrArg RlySt.earlyDigest (State.rly_updRly _), State.rlyPacket_digest h hk⟩,
      fun hne => absurd hk hne⟩
  · refine ⟨_, hexec, _, _, rfl, fun heq => absurd heq hk, fun _ => ⟨?_, State.rlyPacket_other h hk, ?_⟩⟩
    · rw [State.rly_updRly, State.rly, State.part_journalPacket]
      rfl
    · rw [State.updRly, State.part_updPart, State.part_journalPacket]

/-! ## Batons (R374) -/

/-- What a baton is to a phase that this chip has entered, by its BSEQ `n` within the phase: a copy, one that is ahead of its turn,
one that comes before the membership is settled (R382), or the next. -/
theorem State.onBaton_run {n : Nat} (hr : c.run? ph = some r) (hn : n = pkOpaque b - s.inBase p (collOf c.d) f ph) :
    s.onBaton p c f ph b g =
      if n ≤ r.bIn then ((s.count R.CNT_EMB p 12 1).wayCredit p c f ph 0 r.bIn 0, true)
      else if n ≠ r.bIn + 1 then (s, true)
      else if r.lead < 2 then (s, false) else (s.acceptBaton p c f r b g, true) := by
  simp [State.onBaton, hr, hn]

theorem State.onBaton_early (hr : c.run? ph = none) : s.onBaton p c f ph b g = (s, false) := by
  simp only [State.onBaton, hr]

/-! ## A collective and its phases -/

@[simp] theorem Coll.comm_setRun (c : Coll) (r : PhaseRun) : (c.setRun r).comm = c.comm := by
  unfold Coll.setRun
  split <;> rfl

@[simp] theorem Coll.seq_setRun (c : Coll) (r : PhaseRun) : (c.setRun r).seq = c.seq := by
  unfold Coll.setRun
  split <;> rfl

theorem Coll.phase_of_run? (h : c.run? ph = some r) : r.phase = ph := by
  simpa using List.find?_some h

theorem Coll.run?_setRun (c : Coll) (r : PhaseRun) : (c.setRun r).run? r.phase = some r := by
  unfold Coll.setRun Coll.run?
  split
  · next hany =>
    have hsel : (fun x : PhaseRun => decide ((if x.phase = r.phase then r else x).phase = r.phase)) =
        fun x => decide (x.phase = r.phase) := by
      funext x
      split <;> simp [*]
    obtain ⟨x, hx⟩ := Option.isSome_iff_exists.1 ((List.find?_isSome (p := fun x : PhaseRun => decide (x.phase = r.phase))).2
      (List.any_eq_true.1 hany))
    rw [List.find?_map]
    unfold Function.comp
    rw [hsel, hx]
    exact congrArg some (if_pos (by simpa using List.find?_some hx))
  · next hnone =>
    rw [List.find?_append, List.find?_eq_none.2 (List.any_eq_false.1 (eq_false_of_ne_true hnone))]
    simp

theorem sameColl_self (c : Coll) : sameColl c c = true := by simp [sameColl]

theorem sameColl_comm (c d : Coll) : sameColl c d = sameColl d c := by
  simp only [sameColl, eq_comm]

/-- The name of a collective is its communicator and its number. -/
theorem sameColl_congr (h : sameColl d c = true) : sameColl c = sameColl d := by
  simp only [sameColl, Bool.and_eq_true, decide_eq_true_eq] at h
  obtain ⟨hcomm, hseq⟩ := h
  funext x
  rw [sameColl, sameColl, hcomm, hseq]

/-- Where one of its name is held, the collective that stands in the state is the one put there. -/
theorem State.collNow_setColl {e : Coll} (he : e ∈ (s.rly p).colls) (hde : sameColl d e = true) (hdc : sameColl d c = true) :
    (s.setColl p d).collNow p c = d := by
  have hsel : sameColl d ∘ (fun x => if sameColl d x then d else x) = sameColl d := by
    funext x
    show sameColl d (if sameColl d x then d else x) = sameColl d x
    split
    · next hx => rw [hx, sameColl_self]
    · rfl
  obtain ⟨x, hx⟩ := Option.isSome_iff_exists.1 (List.find?_isSome.2 ⟨e, he, hde⟩)
  rw [State.collNow, State.setColl, State.rly_updRly, sameColl_congr hdc, List.find?_map, hsel, hx]
  exact if_pos (List.find?_some hx)

theorem State.mem_setColl (hc : c ∈ (s.rly p).colls) (hsame : sameColl d c = true) : d ∈ ((s.setColl p d).rly p).colls := by
  rw [State.setColl, State.rly_updRly]
  exact List.mem_map.2 ⟨c, hc, if_pos hsame⟩

/-! ## Credits (R374) -/

theorem State.pump_empty (hr : (s.collNow p c).run? ph = some r) (hq : r.outq = []) (fuel : Nat) : s.pump p c f ph fuel = s := by
  cases fuel <;> simp [State.pump, hr, hq]

/-- The batons of `r` that a credit with INDEX `index` leaves unacknowledged. -/
abbrev State.stillUnacked (s : State) (p : Nat) (c : Coll) (f : Phase) (ph index : Nat) (r : PhaseRun) : List Baton :=
  r.unacked.filter (fun x => decide (index < s.outBase p (collOf c.d) f ph + x.bseq))

/-- The collective, whose retries begin anew where a baton is acknowledged. -/
def State.ackedColl (s : State) (p : Nat) (c : Coll) (f : Phase) (ph : Nat) (h : RlyHead) (r : PhaseRun) : Coll :=
  if (s.stillUnacked p c f ph h.index r).length < r.unacked.length then { c with tries := 0 } else c

/-- The phase with the credits of `h`; where the leg is a re-execution, they also say what was accepted before (R381, log 109). -/
def State.creditedRun (s : State) (p : Nat) (c : Coll) (f : Phase) (ph : Nat) (h : RlyHead) (r : PhaseRun) : PhaseRun :=
  { r with
    credits := r.credits + h.bytes, unacked := s.stillUnacked p c f ph h.index r
    resyncAck := max r.resyncAck (if (s.ackedColl p c f ph h r).resync then
      h.index - s.outBase p (collOf (s.ackedColl p c f ph h r).d) f ph else 0) }

/-- The collective with the credits of `h`. -/
def State.creditedColl (s : State) (p : Nat) (c : Coll) (f : Phase) (ph : Nat) (h : RlyHead) (r : PhaseRun) : Coll :=
  (s.ackedColl p c f ph h r).setRun (s.creditedRun p c f ph h r)

theorem State.sameColl_creditedColl (s : State) (p : Nat) (c : Coll) (f : Phase) (ph : Nat) (h : RlyHead) (r : PhaseRun) :
    sameColl (s.creditedColl p c f ph h r) c = true := by
  unfold State.creditedColl State.ackedColl
  split <;> simp [sameColl]

theorem State.sameColl_creditedColl_acked (s : State) (p : Nat) (c : Coll) (f : Phase) (ph : Nat) (h : RlyHead) (r : PhaseRun) :
    sameColl (s.creditedColl p c f ph h r) (s.ackedColl p c f ph h r) = true := by
  simp [sameColl, State.creditedColl]

theorem State.run?_creditedColl (s : State) (p : Nat) (c : Coll) (f : Phase) (h : RlyHead) (r : PhaseRun) :
    (s.creditedColl p c f r.phase h r).run? r.phase = some (s.creditedRun p c f r.phase h r) :=
  Coll.run?_setRun _ (s.creditedRun p c f r.phase h r)

/-- A credit that neither restarts the phase nor ends it, while no baton waits to be sent: it releases what it acknowledges. -/
theorem State.onCredit_plain (hr : c.run? ph = some r) (h2 : bit (rlyHeadOf (pkBody b)).flags 2 = false)
    (h1 : bit (rlyHeadOf (pkBody b)).flags 1 = false) (hq : r.outq = []) (hc : c ∈ (s.rly p).colls) :
    s.onCredit p c f ph b = (s.setColl p (s.creditedColl p c f ph (rlyHeadOf (pkBody b)) r), true) := by
  obtain rfl := Coll.phase_of_run? hr
  have hnow := State.collNow_setColl hc (s.sameColl_creditedColl p c f r.phase (rlyHeadOf (pkBody b)) r)
    (s.sameColl_creditedColl_acked p c f r.phase (rlyHeadOf (pkBody b)) r)
  have hrun := s.run?_creditedColl p c f (rlyHeadOf (pkBody b)) r
  rw [← hnow] at hrun
  unfold State.onCredit
  simp only [hr, h2, h1]
  exact Prod.ext (State.pump_empty hrun hq _) rfl

/-! ## Packets in order and out of order (R376) -/

/-- The collective that a packet names, begun here. -/
abbrev State.begunColl (s : State) (p : Nat) (b : List Byte) : Option Coll :=
  (s.rly p).colls.find? (fun c => (c.qp = pkQp b && decide (1 ≤ c.stage)) && c.seq = pkSeq b)

/-- The neighbour that a packet of the ring must come from: a credit comes from the successor, the others from the predecessor. -/
abbrev State.sender (s : State) (f : Phase) (kind : Nat) : Nat := if kind = 3 then s.succ f.ring else s.pred f.ring

theorem State.find_begun (h : s.begunColl p b = some c) : ((s.rly p).colls.filter (fun c =>
    c.qp = pkQp b && decide (1 ≤ c.stage))).find? (fun c => c.seq = pkSeq b) = some c := by
  rw [List.find?_filter, ← h]
  congr 1
  funext c
  simp

/-- A packet that names another collective, or a phase that its collective does not have. -/
theorem State.rlyTry_unknown (h : s.begunColl p b = some c) (hbad : c.id ≠ (rlyHeadOf (pkBody b)).id ∨
    s.phase p (collOf c.d) (rlyHeadOf (pkBody b)).phase = none) : s.rlyTry p b g = (s.collOrder p b, true) := by
  unfold State.rlyTry
  simp only [State.find_begun h]
  by_cases hid : c.id = (rlyHeadOf (pkBody b)).id
  · simp [hid, hbad.resolve_left (not_not_intro hid)]
  · simp [hid]

section
variable (h : s.begunColl p b = some c) (hid : c.id = (rlyHeadOf (pkBody b)).id)
  (hphase : s.phase p (collOf c.d) (rlyHeadOf (pkBody b)).phase = some f)
include h hid hphase

theorem State.rlyTry_stranger (hsrc : pkSrc b ≠ s.sender f (pkKind b)) : s.rlyTry p b g = (s.collOrder p b, true) := by
  unfold State.rlyTry
  simp only [State.find_begun h]
  simp [hid, hphase, hsrc]

theorem State.rlyTry_baton (hsrc : pkSrc b = s.pred f.ring) (hk : pkKind b = 2) :
    s.rlyTry p b g = s.onBaton p c f (rlyHeadOf (pkBody b)).phase b g := by
  unfold State.rlyTry
  simp only [State.find_begun h]
  simp [hid, hphase, hsrc, hk]

end

/-! ## The statement -/

/-- Settles O45: each packet command takes its own kind alone (`exec_packetCommands`), a packet taken waits with the others until
those that can proceed do, and what a baton, a credit or a packet out of order does is its case above. The journal counts the
payload's bytes (log 57), BSEQ counts the batons of one collective through its phases (log 59), and credits belong to a phase
(log 109). -/
theorem relayPackets : Obligations.RelayPackets := by
  unfold Obligations.RelayPackets
  intro s p b errs
  refine ⟨fun x hx u hu => ?_, fun k => ⟨fun h => ?_, fun h0 h7 => ?_⟩, ?_, fun c f ph hr g => State.onBaton_early hr, ?_, rfl⟩
  · subst hu
    have hexec := exec_packetCommands s p b errs x hx
    refine ⟨fun hk => hexec.trans (congrArg _ (if_neg hk)), fun hk hlost => ?_, fun hk hst hfatal => ?_⟩
    · rw [hexec, if_pos hk, State.rlyPacket_lost hlost]
    · rw [if_pos hk] at hexec
      rw [← hk]
      exact rlyPacket_ends hexec (by simp [State.packetsLost, hst, hfatal])
  · exact congrArg Host.Outcome.next (if_pos (by simpa using h))
  · exact congrArg Host.Outcome.next (if_neg (by simpa using ⟨h0, h7⟩))
  · rintro c f ph h g rfl r hr n hn
    have hbaton := State.onBaton_run (g := g) hr hn
    refine ⟨fun hcopy => ?_, fun hahead => ?_, fun hturn hlead => ?_, fun h2 h1 un hun hq hc _ t ok ht => ?_⟩
    · rw [hbaton, if_pos hcopy]
    · rw [hbaton, if_neg (by omega), if_pos (by omega)]
    · rw [hbaton, if_neg (by omega), if_neg (by omega), if_pos hlead]
    · subst hun
      rw [State.onCredit_plain hr h2 h1 hq hc] at ht
      cases ht
      obtain rfl := Coll.phase_of_run? hr
      have hsame := s.sameColl_creditedColl p c f r.phase (rlyHeadOf (pkBody b)) r
      exact ⟨rfl, _, _, State.mem_setColl hc hsame, (sameColl_comm _ _).trans hsame, s.run?_creditedColl p c f _ r, rfl, rfl⟩
  · rintro c h hd g rfl
    exact ⟨State.rlyTry_unknown h, fun f hid hphase => ⟨State.rlyTry_stranger h hid hphase, State.rlyTry_baton h hid hphase⟩⟩

end Sys2Proof.Machine
end
